-- ==== Sys2Proof/Word.lean ====
section
/-!
DEFINITION. Sys2Proof/Word.lean: the word types of the PZ3-288 (R4, R5) and their plainest arithmetic.
-/

namespace Sys2Proof

/-- One byte. -/
abbrev Byte := BitVec 8

/-- A 64-bit word. -/
abbrev Word := BitVec 64

/-- A register's contents: as wide as the widest register of chapter 18 (256 bits, R485). -/
abbrev RegVal := BitVec 256

end Sys2Proof
end

