-- ==== Sys2Proof/Syntax.lean ====
section
/-!
DEFINITION. Sys2Proof/Syntax.lean: the commands of the PZ3-288 (one constructor per row of spec/opcode_table.json) and the
payloads that the outside supplies with them. The operands are what the rule of the row names as coming from outside the block
(a payload, a measured value, a fetched line) and the place the row acts at (quarter, core, port, slot).
-/

namespace Sys2Proof.Machine

/-- The clock sources that may feed the PLLs (Table 03-1). -/
inductive ClkSrc where
  | xtal | crec
deriving DecidableEq, Repr

/-- A fault message of Table 15-5 (64 bytes; its fields). -/
structure FaultMsg where
  ctype : Nat
  hold : Nat := 0
  cause : Nat := 0
  job : Nat := 0
  chip : Nat := 0
  inc : Nat := 0
  attempt : Nat := 0
  step : Nat := 0
  origin : Nat := 0
  serial : Nat := 0
  host : Nat := 0
  index : Nat := 0
deriving DecidableEq, Repr

/-- A Carillon packet: the header of Table 11-8 and its data bytes, with the channel it travels on (Table 11-6, R315). -/
structure Packet where
  ptype : Nat
  isLocal : Bool := false
  block : Bool := false
  final : Bool := false
  dst : Nat := 0
  src : Nat := 0
  tag : Nat := 0
  addr : Nat := 0
  hops : Nat := 0
  code : Nat := 0
  aop : Nat := 0
  len : Nat := 0
  /-- a reserved PTYPE, FLAGS or field was nonzero (Table 11-15 code 0x03) -/
  reserved : Bool := false
  vc : Nat := 0
  sub : Nat := 0
  data : List Byte := []
deriving DecidableEq, Repr

/-- Link-control flit payloads (Table 11-7). -/
inductive LinkMsg where
  | credit (freed : List Nat)
  | param (serial chip port lanes : Nat)
  | keyx (msg idx cnt : Nat) (bytes : List Byte)
  | reserved (ltype : Nat)
deriving DecidableEq, Repr

/-- One flit of a frame (Table 11-5): idle, link control, the first flit of a packet, a body flit, or a reserved header value. -/
inductive Flit where
  | idle
  | link (m : LinkMsg)
  | head (p : Packet) (last : Bool)
  | body (vc sub : Nat) (data : List Byte) (last : Bool)
  | bad (vc : Nat)
deriving DecidableEq, Repr

/-- The trailer control of a frame (Table 11-4). -/
structure Trailer where
  ack : Nat
  plain : Bool := false
  keyPhase : Bool := false
  nak : Bool := false
  null : Bool := false
  seq : Nat := 0
deriving DecidableEq, Repr

/-- A received frame: the receive lanes that are locked (R287), what FEC found on each lane, the CRC and tag outcomes (R292), the trailer and the flits. -/
structure RxFrame where
  lanes : Nat := 255
  laneCe : List Nat := []
  fecUe : Nat := 0
  crcOk : Bool := true
  tagOk : Bool := true
  trailer : Trailer
  flits : List Flit := []
deriving DecidableEq, Repr

/-- The link-local payloads of Table 03-3. -/
inductive BeatMsg where
  | sync (hops : Nat) (holdover : Bool) (interval beat frac : Nat)
  | probe (id : Nat)
  | echo (id turn : Nat)
deriving DecidableEq, Repr

/-- A LATE payload (Table 03-3): REASON, SLOT, NEW_END in units of 1/65,536 beat, and SENDER. -/
structure LateMsg where
  reason : Nat := 0
  slot : Nat := 0
  newEnd : Nat := 0
  sender : Nat := 0
deriving DecidableEq, Repr


/-- The integer operations of Table 06-9: their instructions are named there by class. -/
inductive IntOp where
  | add | sub | mul | and | or | xor | shl | shr | sar
deriving DecidableEq, Repr

/-- Comparisons of set on compare and of the conditional branches. -/
inductive Cond where
  | eq | ne | lt | ge | ltu | geu
deriving DecidableEq, Repr

/-- An integer instruction: an operation, or set on compare. -/
inductive IntInsn where
  | op (o : IntOp)
  | set (c : Cond)
deriving DecidableEq, Repr

/-- The second operand of an integer instruction: a register or the immediate. -/
inductive CtcSrc where
  | reg (rb : Nat)
  | imm (v : Int)
deriving DecidableEq, Repr

/-- The command that a stack's parity error is about (R256): the last one of a request, or the last refresh of a bank. -/
inductive ParityOf where
  | request (id : Nat)
  | refresh (bank : Nat)
deriving DecidableEq, Repr

/-- What the lanes of an HBM burst do to its codeword (Table 10-3): the lanes that carry a wrong symbol, with the bits of it that are wrong. -/
structure Codeword where
  errs : List (Nat × Nat) := []
deriving DecidableEq, Repr

/-- A symbol that the checker of a traffic generator receives other than it was written (R281): pass over the range, unit, burst in the unit, lane, symbol. -/
structure TgSymbol where
  pass : Nat
  unit : Nat
  burst : Nat
  lane : Nat
  symbol : Nat
deriving DecidableEq, Repr

/-- The header of a companion transaction (Table 16-2) and the half it arrived on. -/
structure HlHdr where
  half : Nat := 0
  tag : Nat := 0
  /-- byte 1: LINES - 1 of a run, or the size of a CSR access -/
  size : Nat := 0
  addr : Nat := 0
  /-- a reserved field was nonzero, or the data flits did not match the OP (Table 16-8 code 0x01) -/
  bad : Bool := false
deriving DecidableEq, Repr

/-- A HauneLink flit as received (R428): its 68 bytes, and for link control whether it is a NAK and the last flit accepted. -/
structure HlFlit where
  bytes : List Byte := []
  nak : Bool := false
  acked : Nat := 0
deriving DecidableEq, Repr

/-- What a start finds (R458, R460, R463, R467, R469): results of tests inside the device and contents supplied from outside it. -/
structure StartEnv where
  /-- the Q0 and Q1 belfries pass their ROM self-test and SRAM march test -/
  rom0 : Bool := true
  rom1 : Bool := true
  /-- quarter q's cores that pass step 8, as 68-bit masks -/
  cores : List Nat := []
  /-- quarters (bit q) whose mesh, slices, FRE, LCX and LEX pass step 8 -/
  quarters : Nat := 15
  /-- bridges (bit b: 0 Q0-Q1, 1 Q1-Q3, 2 Q3-Q2, 3 Q2-Q0) that fail interface training at step 8; R13 -/
  bridges : Nat := 0
  /-- ways of slice 32q + s found bad and retired at step 8 -/
  retired : List (Nat × Nat) := []
  /-- the helper data reconstruct a seed that matches their digest, and the key pair matches IDKEY_HASH -/
  identity : Bool := true
  /-- static address straps of I3C -/
  straps : Nat := 0
  /-- slices of the active belfry's quarter that pass the march test of damped mode -/
  slices : Nat := 0xFFFFFFFF
deriving DecidableEq, Repr

/-- Package flash (R460 to R462): start-counter records in force and the failure log, and the contents of the firmware regions. -/
structure Flash where
  /-- start counter of the record in force, with its sequence; none: no valid record; R462 -/
  counter : Option (Nat × Nat) := none
  /-- bytes appended to the active counter sector, and which sector it is -/
  sector : Nat := 0
  used : Nat := 0
  /-- failure records, oldest first, at most 2,048; R464 -/
  fails : List (List Byte) := []
  failSeq : Nat := 0
  /-- operator map-out list; 64 bytes; R472 -/
  mapList : List Byte := []
  stage1A : List Byte := []
  stage1B : List Byte := []
  partA : List Byte := []
  partB : List Byte := []
  helperA : List Byte := []
  helperB : List Byte := []
  /-- the flash answers reads; R463 step 2 -/
  readable : Bool := true
deriving DecidableEq, Repr

end Sys2Proof.Machine

namespace Sys2Proof

open Machine

/-- The commands of the block: one constructor per row of spec/opcode_table.json. -/
inductive Instr where
  /-- R6: CSR address, 4 or 8 bytes, and the value written -/
  | registerWrite (addr width value : Nat)
  /-- R5, R6: CSR address, 4 or 8 bytes -/
  | rcRead (addr width : Nat)
  /-- R51: a 64-bit access, or one of the lower half -/
  | beatNowRead (wide : Bool)
  /-- R28 -/
  | imageLoadFull
  /-- R33 -/
  | imageLoadPartial
  /-- R37 -/
  | imageCancel
  /-- R29: the bytes fetched, or a HauneLink error -/
  | imageFetchComplete (bytes : List Byte) (err : Bool)
  /-- R31 -/
  | imageApplyDone
  /-- R34 -/
  | imageSwitchBeat
  /-- R34 -/
  | imageSwitchComplete
  /-- R44: candidate, its edge count, and whether the comparison clock stopped in the window -/
  | qualWindowEnd (cand : ClkSrc) (count : Nat) (stopped : Bool)
  /-- R46: the source whose detector saw no rising edge for 32 ns -/
  | missingEdge (src : ClkSrc)
  /-- R48, R465: the results that the resumed start-up finds -/
  | clockResume (env : StartEnv)
  /-- R50 -/
  | beatTick
  /-- R50: the tick at which the fraction overflows -/
  | beatBoundary
  /-- R52: the count written -/
  | beatSet (count : Nat)
  /-- R52 -/
  | beatInEdge
  /-- R54: port, ID, and TURN from arrival to launch of the answer -/
  | probe (port id : Nat)
  /-- R54 -/
  | echo (port id turn : Nat)
  /-- R54 -/
  | echoTimeout (port id : Nat)
  /-- R57: port and payload of Table 03-3 -/
  | sync (port hops : Nat) (holdover : Bool) (interval beat frac : Nat)
  /-- R57 -/
  | beatStopEnd
  /-- R56: the port whose SYNC has not arrived within 4 intervals -/
  | upstreamTimeout (port : Nat)
  /-- R68: the port it arrived by, or 16 from this device, and the packet with the payload of Table 03-3 -/
  | late (n : Nat) (p : Packet)
  /-- R60 -/
  | patternArm (quarter : Nat)
  /-- R62 -/
  | patternDisarm (quarter : Nat)
  /-- R61 -/
  | patternEntryIssue (quarter : Nat)
  /-- R67 -/
  | deadlineEnd (quarter slot : Nat)
  /-- R13: 0 Q0-Q1, 1 Q1-Q3, 2 Q3-Q2, 3 Q2-Q0 -/
  | bridgeFail (bridge : Nat)
  /-- R96 -/
  | mm (core : Nat)
  /-- R98 -/
  | mark (core : Nat)
  /-- R75: what the checks of the stores find as the row and, with a pass's first row, the weights are read (R100: 1 corrected, 2 uncorrectable), and cycles in which the feed was not ready -/
  | mxeRowEntry (core aErr wErr feed : Nat)
  /-- R89 -/
  | mxeDrainStart (core : Nat)
  /-- R88 -/
  | mxeDrainComplete (core : Nat)
  /-- R101 -/
  | mxeAbort (core : Nat)
  /-- R99 -/
  | mxeErrClear (core : Nat)
  /-- R120: the value written -/
  | numLsSet (value : Nat)
  /-- R120: the value written -/
  | numLsClean (value : Nat)
  /-- R136: bits [55:0] of the word that a thread issues, and what the checks find as it executes (R131: 2 an error; 3 a parity error of VLD or VEXPD) -/
  | vadd (core thread fields err : Nat)
  /-- R136: bits [55:0] of the word that a thread issues, and what the checks find as it executes (R131: 2 an error; 3 a parity error of VLD or VEXPD) -/
  | vsub (core thread fields err : Nat)
  /-- R136: bits [55:0] of the word that a thread issues, and what the checks find as it executes (R131: 2 an error; 3 a parity error of VLD or VEXPD) -/
  | vmul (core thread fields err : Nat)
  /-- R136: bits [55:0] of the word that a thread issues, and what the checks find as it executes (R131: 2 an error; 3 a parity error of VLD or VEXPD) -/
  | vfma (core thread fields err : Nat)
  /-- R136: bits [55:0] of the word that a thread issues, and what the checks find as it executes (R131: 2 an error; 3 a parity error of VLD or VEXPD) -/
  | vmin (core thread fields err : Nat)
  /-- R136: bits [55:0] of the word that a thread issues, and what the checks find as it executes (R131: 2 an error; 3 a parity error of VLD or VEXPD) -/
  | vmax (core thread fields err : Nat)
  /-- R136: bits [55:0] of the word that a thread issues, and what the checks find as it executes (R131: 2 an error; 3 a parity error of VLD or VEXPD) -/
  | vdiv (core thread fields err : Nat)
  /-- R136: bits [55:0] of the word that a thread issues, and what the checks find as it executes (R131: 2 an error; 3 a parity error of VLD or VEXPD) -/
  | vsqrt (core thread fields err : Nat)
  /-- R108: bits [55:0] of the word that a thread issues, and what the checks find as it executes (R131: 2 an error; 3 a parity error of VLD or VEXPD) -/
  | vexp2 (core thread fields err : Nat)
  /-- R108: bits [55:0] of the word that a thread issues, and what the checks find as it executes (R131: 2 an error; 3 a parity error of VLD or VEXPD) -/
  | vlog2 (core thread fields err : Nat)
  /-- R108: bits [55:0] of the word that a thread issues, and what the checks find as it executes (R131: 2 an error; 3 a parity error of VLD or VEXPD) -/
  | vrsqrt (core thread fields err : Nat)
  /-- R136: bits [55:0] of the word that a thread issues, and what the checks find as it executes (R131: 2 an error; 3 a parity error of VLD or VEXPD) -/
  | vcmp (core thread fields err : Nat)
  /-- R136: bits [55:0] of the word that a thread issues, and what the checks find as it executes (R131: 2 an error; 3 a parity error of VLD or VEXPD) -/
  | vsel (core thread fields err : Nat)
  /-- R136: bits [55:0] of the word that a thread issues, and what the checks find as it executes (R131: 2 an error; 3 a parity error of VLD or VEXPD) -/
  | vaddh (core thread fields err : Nat)
  /-- R136: bits [55:0] of the word that a thread issues, and what the checks find as it executes (R131: 2 an error; 3 a parity error of VLD or VEXPD) -/
  | vmulh (core thread fields err : Nat)
  /-- R136: bits [55:0] of the word that a thread issues, and what the checks find as it executes (R131: 2 an error; 3 a parity error of VLD or VEXPD) -/
  | vfmah (core thread fields err : Nat)
  /-- R136: bits [55:0] of the word that a thread issues, and what the checks find as it executes (R131: 2 an error; 3 a parity error of VLD or VEXPD) -/
  | vcvt (core thread fields err : Nat)
  /-- R137: bits [55:0] of the word that a thread issues, and what the checks find as it executes (R131: 2 an error; 3 a parity error of VLD or VEXPD) -/
  | vpack (core thread fields err : Nat)
  /-- R137: bits [55:0] of the word that a thread issues, and what the checks find as it executes (R131: 2 an error; 3 a parity error of VLD or VEXPD) -/
  | vunpk (core thread fields err : Nat)
  /-- R136: bits [55:0] of the word that a thread issues, and what the checks find as it executes (R131: 2 an error; 3 a parity error of VLD or VEXPD) -/
  | vperm (core thread fields err : Nat)
  /-- R136: bits [55:0] of the word that a thread issues, and what the checks find as it executes (R131: 2 an error; 3 a parity error of VLD or VEXPD) -/
  | vshuf (core thread fields err : Nat)
  /-- R134: bits [55:0] of the word that a thread issues, and what the checks find as it executes (R131: 2 an error; 3 a parity error of VLD or VEXPD) -/
  | vld (core thread fields err : Nat)
  /-- R134: bits [55:0] of the word that a thread issues, and what the checks find as it executes (R131: 2 an error; R229: 1 a corrected word, 4 an uncorrectable one that a narrow write merges into) -/
  | vst (core thread fields err : Nat)
  /-- R141: bits [55:0] of the word that a thread issues, and what the checks find as it executes (R131: 2 an error; R229: 1 a corrected word, 4 an uncorrectable one that a narrow write merges into) -/
  | vcomp (core thread fields err : Nat)
  /-- R141: bits [55:0] of the word that a thread issues, and what the checks find as it executes (R131: 2 an error; 3 a parity error of VLD or VEXPD) -/
  | vexpd (core thread fields err : Nat)
  /-- R141: bits [55:0] of the word that a thread issues, and what the checks find as it executes (R131: 2 an error; 3 a parity error of VLD or VEXPD) -/
  | vsetc (core thread fields err : Nat)
  /-- R129: bits [55:0] of the word that a thread issues, and what the checks find as it executes (R131: 2 an error; 3 a parity error of VLD or VEXPD) -/
  | vsbr (core thread fields err : Nat)
  /-- R129: bits [55:0] of the word that a thread issues, and what the checks find as it executes (R131: 2 an error; 3 a parity error of VLD or VEXPD) -/
  | vsbw (core thread fields err : Nat)
  /-- R129: bits [55:0] of the word that a thread issues, and what the checks find as it executes (R131: 2 an error; 3 a parity error of VLD or VEXPD) -/
  | vsbc (core thread fields err : Nat)
  /-- R139: bits [55:0] of the word that a thread issues, and what the checks find as it executes (R131: 2 an error; 3 a parity error of VLD or VEXPD) -/
  | vxr (core thread fields err : Nat)
  /-- R142: bits [55:0] of the word that a thread issues, and what the checks find as it executes (R131: 2 an error; 3 a parity error of VLD or VEXPD) -/
  | vmstat (core thread fields err : Nat)
  /-- R143: bits [55:0] of the word that a thread issues, and what the checks find as it executes (R131: 2 an error; 3 a parity error of VLD or VEXPD) -/
  | vmaxpy (core thread fields err : Nat)
  /-- R144: bits [55:0] of the word that a thread issues, and what the checks find as it executes (R131: 2 an error; 3 a parity error of VLD or VEXPD) -/
  | vfin (core thread fields err : Nat)
  /-- R133: bits [55:0] of the word that a thread issues, and what the checks find as it executes (R131: 2 an error; 3 a parity error of VLD or VEXPD) -/
  | ttrans (core thread fields err : Nat)
  /-- R139: bits [55:0] of the word that a thread issues, and what the checks find as it executes (R131: 2 an error; 3 a parity error of VLD or VEXPD) -/
  | xsum (core thread fields err : Nat)
  /-- R139: bits [55:0] of the word that a thread issues, and what the checks find as it executes (R131: 2 an error; 3 a parity error of VLD or VEXPD) -/
  | xmax (core thread fields err : Nat)
  /-- R139: bits [55:0] of the word that a thread issues, and what the checks find as it executes (R131: 2 an error; 3 a parity error of VLD or VEXPD) -/
  | xmin (core thread fields err : Nat)
  /-- R139: bits [55:0] of the word that a thread issues, and what the checks find as it executes (R131: 2 an error; 3 a parity error of VLD or VEXPD) -/
  | xcnt (core thread fields err : Nat)
  /-- R139: bits [55:0] of the word that a thread issues, and what the checks find as it executes (R131: 2 an error; 3 a parity error of VLD or VEXPD) -/
  | xflag (core thread fields err : Nat)
  /-- R139: bits [55:0] of the word that a thread issues, and what the checks find as it executes (R131: 2 an error; 3 a parity error of VLD or VEXPD) -/
  | xargmax (core thread fields err : Nat)
  /-- R139: bits [55:0] of the word that a thread issues, and what the checks find as it executes (R131: 2 an error; 3 a parity error of VLD or VEXPD) -/
  | xcolacc (core thread fields err : Nat)
  /-- R139: bits [55:0] of the word that a thread issues, and what the checks find as it executes (R131: 2 an error; 3 a parity error of VLD or VEXPD) -/
  | xclr (core thread fields err : Nat)
  /-- R133: the unit, and cycles in which the head of its queue waited under R134 -/
  | vectorInsnComplete (core : Nat) (xlr : Bool) (stall : Nat)
  /-- R155 -/
  | vxeErrClear (core : Nat)
  /-- R155 -/
  | xlrErrClear (core : Nat)
  /-- R156 -/
  | vxeAbort (core : Nat)
  /-- R147, and whether a register that it reads meets a parity error (R424) -/
  | ctcIntegerOp (core thread : Nat) (op : IntInsn) (rd ra : Nat) (src : CtcSrc) (par : Bool)
  /-- R147, and whether a register that it reads meets a parity error (R424) -/
  | ctcBranch (core thread : Nat) (cond : Cond) (ra rb : Nat) (imm : Int) (par : Bool)
  /-- R147 -/
  | jumpAndLink (core thread rd : Nat) (imm : Int)
  /-- R147, and whether a register that it reads meets a parity error (R424) -/
  | jumpRegister (core thread ra : Nat) (par : Bool)
  /-- R146: what the check of a local store finds, cycles that a later instruction waits for its data, and whether a register that it reads meets a parity error (R424) -/
  | ctcLoad (core thread size rd ra : Nat) (imm : Int) (err stall : Nat) (par : Bool)
  /-- R146: what the check finds of the NS word that a narrow store merges into (R229), and whether a register that it reads meets a parity error (R424) -/
  | ctcStore (core thread size rs ra : Nat) (imm : Int) (err : Nat) (par : Bool)
  /-- R146: the miss slot, and cycles of a bank stall that end with it (R211) -/
  | globalLoadReturn (core slot stall : Nat)
  /-- R146: the miss slot, and cycles of a bank stall that end with it (R211) -/
  | storeAck (core slot stall : Nat)
  /-- R237, and whether a register that it reads meets a parity error (R424) -/
  | aaddI (core thread rd ra rb : Nat) (imm : Int) (par : Bool)
  /-- R237, and whether a register that it reads meets a parity error (R424) -/
  | aaddF (core thread rd ra rb : Nat) (imm : Int) (par : Bool)
  /-- R237, and whether a register that it reads meets a parity error (R424) -/
  | aminI (core thread rd ra rb : Nat) (imm : Int) (par : Bool)
  /-- R237, and whether a register that it reads meets a parity error (R424) -/
  | amaxI (core thread rd ra rb : Nat) (imm : Int) (par : Bool)
  /-- R237, and whether a register that it reads meets a parity error (R424) -/
  | aminF (core thread rd ra rb : Nat) (imm : Int) (par : Bool)
  /-- R237, and whether a register that it reads meets a parity error (R424) -/
  | amaxF (core thread rd ra rb : Nat) (imm : Int) (par : Bool)
  /-- R237, and whether a register that it reads meets a parity error (R424) -/
  | aswap (core thread rd ra rb : Nat) (imm : Int) (par : Bool)
  /-- R237, and whether a register that it reads meets a parity error (R424) -/
  | acas (core thread rd ra rb : Nat) (imm : Int) (par : Bool)
  /-- R150 -/
  | tadd (core thread tap : Nat) (imm : Int)
  /-- R151 -/
  | tset (core thread tap : Nat) (imm : Int)
  /-- R151 -/
  | twait (core thread tap : Nat) (imm : Int)
  /-- R150 -/
  | tpost (core thread lci tap : Nat)
  /-- R150: physical core and counter -/
  | tpostDeliver (core tap : Nat)
  /-- R153 -/
  | toll (core thread rd ch : Nat)
  /-- R153 -/
  | tolla (core thread ch tap : Nat)
  /-- R152 -/
  | tollRelease (ch : Nat)
  /-- R154 -/
  | tollTimeout (ch : Nat)
  /-- R154: RESET as written -/
  | tollReset (mask : Nat)
  /-- R140 -/
  | sget (core thread rd summ : Nat)
  /-- R95, and whether a register that it reads meets a parity error (R424) -/
  | cmx (core thread ra : Nat) (par : Bool)
  /-- R190, and whether a register that it reads meets a parity error (R424) -/
  | csx (core thread ra : Nat) (par : Bool)
  /-- R215, and whether a register that it reads meets a parity error (R424) -/
  | cdb (core thread ra : Nat) (par : Bool)
  /-- R147 -/
  | vfence (core thread : Nat)
  /-- R147 -/
  | mfence (core thread : Nat)
  /-- R147 -/
  | fence (core thread : Nat)
  /-- R147 -/
  | halt (core thread : Nat)
  /-- R147 -/
  | yield (core thread : Nat)
  /-- R440: CSR address RA + IMM, 4 or 8 bytes, and whether a register that it reads meets a parity error (R424) -/
  | csrr (core thread rd ra : Nat) (imm : Int) (wide par : Bool)
  /-- R440: CSR address RA + IMM, 4 or 8 bytes, and whether a register that it reads meets a parity error (R424) -/
  | csrw (core thread rb ra : Nat) (imm : Int) (wide par : Bool)
  /-- R147 -/
  | threadWake (core thread : Nat)
  /-- R149 -/
  | ctcRunStart (core thread : Nat)
  /-- R149 -/
  | ctcRunStop (core thread : Nat)
  /-- R151: VALUE as written -/
  | tapCmdSet (core tap value : Nat)
  /-- R151: VALUE as written -/
  | tapCmdAdd (core tap value : Nat)
  /-- R170 -/
  | kvrArm (quarter slot : Nat)
  /-- R170 -/
  | kvrRelease (quarter slot : Nat)
  /-- R169: a packet received by a port -/
  | kvHeaderWrite (port : Nat) (p : Packet)
  /-- R170: a packet received by a port -/
  | kvPayloadWrite (port : Nat) (p : Packet)
  /-- R171 -/
  | kvBusyResend (core : Nat)
  /-- R193 -/
  | streamGatePass (core ctx : Nat)
  /-- R195: what the check of the local store finds as a WRITE line is read (R227): 1 corrected, 2 uncorrectable -/
  | streamLineLand (core tag err : Nat)
  /-- R200 -/
  | prefetchIssue (core ctx : Nat)
  /-- R201 -/
  | prefetchFill (core tag : Nat)
  /-- R204 -/
  | prefetchTune (core : Nat)
  /-- R204 -/
  | pfAutoClear (core : Nat)
  /-- R208 -/
  | relayHop (core chain : Nat)
  /-- R199 -/
  | sxuAbort (core : Nat)
  /-- R187: whether the table read had an uncorrectable error -/
  | translationWalkDone (acc : Nat) (err : Bool)
  /-- R189 -/
  | xltInval (all : Bool) (granule : Nat)
  /-- R189 -/
  | invalComplete
  /-- R215: the value written -/
  | dmaDoorbell (core mask : Nat)
  /-- R216 -/
  | dmaChannelSelect (core : Nat)
  /-- R214: what the check of a local store finds (R227) -/
  | dmaDescRead (core err : Nat)
  /-- R217: one line; what the check of the store finds that it reads (R227), and that of the one it lands in (R229) -/
  | copy (core err werr : Nat)
  /-- R219 -/
  | drain (core : Nat)
  /-- R218 -/
  | dmaCopyComplete (core : Nat)
  /-- R219 -/
  | dmaDrainComplete (core : Nat)
  /-- R212: DMA_RING_CTL or DMA_RING_BASE, and the value written -/
  | dmaRingWrite (core ch : Nat) (ctl : Bool) (value : Nat)
  /-- R223 -/
  | dmaDisable (core : Nat)
  /-- R230: a line of NS, and 0 clean, 1 corrected, 2 uncorrectable -/
  | nsScrub (core line outcome : Nat)
  /-- R231: an access, what the checks find (0 nothing, 1 corrected, 2 uncorrectable, 3 + w a tag parity error of way w), and core cycles since a marked line arrived (R203) -/
  | shcRequest (acc err slack : Nat)
  /-- R236 -/
  | atomicRequest (acc err : Nat)
  /-- R241 -/
  | tierRequestTimeout (acc : Nat)
  /-- R248 -/
  | alloc (dp client : Nat)
  /-- R248 -/
  | free (dp : Nat)
  /-- R248 -/
  | promote (dp : Nat)
  /-- R248 -/
  | evict (dp : Nat)
  /-- R243 -/
  | poolEnable
  /-- R253 -/
  | poolDisable
  /-- R245: MIN_PAGES and MAX_PAGES written -/
  | poolClientWrite (client min max : Nat)
  /-- R247 -/
  | poolEvictSelect (tier : Nat)
  /-- R250: the bytes of a source frame in T4 or T5; those of a T3 frame are the device's own -/
  | poolMoveComplete (dp : Nat) (data : List Byte)
  /-- R251 -/
  | poolMoveFailed (dp : Nat)
  /-- R263: banks (bit b) whose head can issue under the stack's timing -/
  | mchCommandIssue (ch pc can : Nat)
  /-- R263 -/
  | requestUrgent (ch pc id : Nat)
  /-- R265: an interval of the bank has passed; MCH issues a refresh -/
  | hbmRefresh (ch pc bank : Nat) (due issue : Bool)
  /-- R268: the next burst of a read request -/
  | hbmReadDecode (ch pc id : Nat) (cw : Codeword)
  | hbmScrub (ch pc : Nat)
  /-- R272: failing lanes of the two pseudo-channels, a command or address lane beyond repair, no response -/
  | channelTrainDone (ch : Nat) (bad0 bad1 : List Nat) (ca silent : Bool)
  /-- R274 -/
  | retrain (ch : Nat)
  /-- R273 -/
  | testEnter (ch : Nat)
  /-- R273 -/
  | testExit (ch : Nat)
  /-- R277 -/
  | stop
  /-- R277 -/
  | apply
  /-- R277 -/
  | mchApplyDone
  /-- R278: degrees C; none: the read failed -/
  | hbmTempRead (stack : Nat) (reading : Option Nat)
  /-- R281: MCH_TG_CTL as written -/
  | tgStart (ch value : Nat)
  /-- R281: MCH_TG_CTL as written -/
  | tgStop (ch value : Nat)
  /-- R281: symbols that came back other than the generator wrote them -/
  | tgDone (ch : Nat) (rx : List TgSymbol)
  /-- R286: ENABLE written 1 -/
  | portEnable (port : Nat)
  /-- R286: ENABLE written 0 -/
  | portDisable (port : Nat)
  /-- R287 -/
  | portTrainingDone (port : Nat)
  /-- R286: REASON 1, 2 or 3 of the failed attempt -/
  | portTrainingFail (port reason : Nat)
  /-- R286 -/
  | portTrainingRetry (port : Nat)
  /-- R318: a KEYX link-control flit (Table 11-7) -/
  | keyx (port msg idx cnt : Nat) (bytes : List Byte)
  /-- R318 -/
  | keyxResend (port : Nat)
  /-- R286 -/
  | keyingTimeout (port : Nat)
  /-- R288: a cause of retraining; whether it is the loss of receiver lock -/
  | portRetrain (port : Nat) (lockLost : Bool)
  /-- R288: RETRAIN written 1 -/
  | portRetrainCmd (port : Nat)
  /-- R298 -/
  | frameSend (port : Nat)
  /-- R292 -/
  | frameReceive (port : Nat) (f : RxFrame)
  /-- R319 -/
  | rekeyStart (port : Nat)
  /-- R319 -/
  | keyExhausted (port : Nat)
  /-- R300: a packet received by a port; what the check of the store finds, if it reads a core window (R228) -/
  | fabRead (port : Nat) (p : Packet) (err : Nat)
  /-- R300: a packet received by a port; what the check of the store finds, if it writes a core window (R229) -/
  | fabWrite (port : Nat) (p : Packet) (err : Nat)
  /-- R300: a packet received by a port -/
  | fabAtomic (port : Nat) (p : Packet)
  /-- R300: an answer received by a port, or raised inside the device (port 16) -/
  | fabReadResp (port : Nat) (p : Packet)
  /-- R300: an answer received by a port, or raised inside the device (port 16) -/
  | fabWriteAck (port : Nat) (p : Packet)
  /-- R300: an answer received by a port, or raised inside the device (port 16) -/
  | fabAtomicResp (port : Nat) (p : Packet)
  /-- R300: an answer received by a port, or raised inside the device (port 16) -/
  | fabNack (port : Nat) (p : Packet)
  /-- R321 -/
  | quarantineEnd (port : Nat)
  /-- R304: TAG of the block's request -/
  | blockResend (tag : Nat)
  /-- R307 -/
  | lexLoadCmd (quarter epoch bases : Nat)
  /-- R307 -/
  | lexLoadStart (quarter : Nat)
  /-- R307: whether a read failed -/
  | lexLoadDone (quarter : Nat) (err : Bool)
  /-- R309 -/
  | lcxEpochNext (quarter next : Nat)
  /-- R309: cycles waited since the last such command -/
  | lcxEpochAdvance (quarter stalled : Nat)
  /-- R326 -/
  | post (slot : Nat)
  /-- R327 -/
  | release (slot : Nat)
  /-- R356 -/
  | reset (slot : Nat)
  /-- R328 -/
  | colBufferGrant (quarter : Nat)
  /-- R340: a packet received by a port, and the line and level at which the second adder differs, if it does -/
  | collectivePiece (port : Nat) (p : Packet) (mism : Option (Nat × Nat))
  /-- R333 -/
  | freTileFinish (slot tile : Nat)
  /-- R335: a packet received by a port -/
  | sealChild (port : Nat) (p : Packet)
  /-- R352: a packet received by a port -/
  | restart (port : Nat) (p : Packet)
  /-- R352: a packet received by a port -/
  | replay (port : Nat) (p : Packet)
  /-- R344: a packet received by a port -/
  | voteUp (port : Nat) (p : Packet)
  /-- R344: a packet received by a port -/
  | voteDown (port : Nat) (p : Packet)
  /-- R341: an answer received by a port, or raised inside the device (port 16) -/
  | collectiveAnswer (port : Nat) (p : Packet)
  /-- R341: TAG of the packet's request -/
  | collectiveResend (tag : Nat)
  /-- R368: the fields written, and the core in whose registers they were written -/
  | shdGather (core pass group : Nat)
  /-- R366: BANK and VERSION written -/
  | openBank (bank version : Nat)
  /-- R366 -/
  | ready (bank : Nat)
  /-- R366 -/
  | drop (bank : Nat)
  /-- R369 -/
  | clearLedger
  /-- R375 -/
  | retired
  /-- R377 -/
  | undoClose
  /-- R379: power of the beat in mW, that of VDD_C and that of the other rails -/
  | powerSample (core other : Nat)
  /-- R382 -/
  | powerBinBoundary
  /-- R384 -/
  | vcPgoodRise
  /-- R384 -/
  | voltageWaitTimeout
  /-- R386 -/
  | trimRaise
  /-- R386 -/
  | monitorSlackLow (core : Nat)
  /-- R387: how far the supply fell, in mV -/
  | droopDetect (core mv : Nat)
  /-- R387 -/
  | droopRecover (core : Nat)
  /-- R394: the hottest reading in degrees C and its quarter -/
  | dieTempRead (quarter reading : Nat)
  /-- R381: PWR_WINDOW or PWR_CAP, and the value written -/
  | pwrCapWrite (window : Bool) (value : Nat)
  /-- R398: MANUAL as written -/
  | pwrManual (on : Bool)
  /-- R405, R407: the port of a received order and its packet, or 16 for REWIND written to FLT_CMD -/
  | rewind (n : Nat) (p : Packet)
  /-- R407 -/
  | rewindComplete
  /-- R416: written to FLT_CMD, or raised for an uncorrectable error in the image settings held on chip (Table 15-6, CONFIG_LOST) -/
  | knell (configLost : Bool)
  /-- R417: port and packet -/
  | knellReceive (n : Nat) (p : Packet)
  /-- R412 -/
  | repaired
  /-- R422 -/
  | remirrored
  /-- R422 -/
  | readyMap
  /-- R422: whether the copy ended well, the two mirror headers and the bytes copied -/
  | restoreDone (ok : Bool) (hdrA hdrB data : List Byte)
  /-- R409: the value written -/
  | fltProgressWrite (step attempt : Nat)
  /-- R411: core -/
  | oscLockLoss (c : Nat)
  /-- R413 -/
  | heartbeat (n : Nat) (p : Packet)
  /-- R414: port -/
  | livenessTimeout (n : Nat)
  /-- R414 -/
  | ping (n : Nat) (p : Packet)
  /-- R414 -/
  | pong (n : Nat) (p : Packet)
  /-- R414: the port whose partner was asked -/
  | pongTimeout (n : Nat)
  /-- R420: the message, and the directory entry that it names at its HOST -/
  | assign (n : Nat) (p : Packet) (entry : List Byte)
  /-- R419 -/
  | accept (n : Nat) (p : Packet)
  /-- R419 -/
  | decline (n : Nat) (p : Packet)
  /-- R419: lost chip -/
  | assignTimeout (lost : Nat)
  /-- R419: lost chip -/
  | takeoverTimeout (lost : Nat)
  /-- R421 -/
  | claimed (n : Nat) (p : Packet)
  /-- R409 -/
  | takeoverDone (n : Nat) (p : Packet)
  /-- R409 -/
  | repairDone (n : Nat) (p : Packet)
  /-- R419 -/
  | takeoverFailed (n : Nat) (p : Packet)
  /-- R430: half -/
  | hlHalfEnable (h : Nat)
  /-- R430: half -/
  | hlHalfDisable (h : Nat)
  /-- R427, R430: half, and the mask of its lanes that trained -/
  | hlTrainingDone (h lanes : Nat)
  /-- R430: half -/
  | hlTrainingFail (h : Nat)
  /-- R430: half whose active lane lost lock -/
  | hlRetrain (h : Nat)
  /-- R429: half and flit -/
  | hlFlitReceive (h : Nat) (f : HlFlit)
  /-- R429: half -/
  | hlAckSend (h : Nat)
  /-- R433 -/
  | rdShared (r : HlHdr)
  /-- R433 -/
  | rdOwn (r : HlHdr)
  /-- R433 -/
  | rdOnce (r : HlHdr)
  /-- R433 -/
  | wrLine (r : HlHdr) (data : List Byte)
  /-- R433 -/
  | wrMasked (r : HlHdr) (mask : Nat) (data : List Byte)
  /-- R435 -/
  | wbDirty (r : HlHdr) (data : List Byte)
  /-- R435 -/
  | wbClean (r : HlHdr)
  /-- R439 -/
  | csrRd (r : HlHdr)
  /-- R439 -/
  | csrWr (r : HlHdr) (value : Nat)
  /-- R433 -/
  | rspData (half tag : Nat) (data : List Byte)
  /-- R433 -/
  | rspAck (half tag : Nat)
  /-- R436 -/
  | rspSnp (half tag : Nat) (dirty : Bool) (data : List Byte)
  /-- R433 -/
  | nack (half tag reason : Nat)
  /-- R438 -/
  | snoopTimeout (tag : Nat)
  /-- R456 -/
  | hlQuarantineEnd
  /-- R442 -/
  | hlCmdDoorbell
  /-- R441: HL_CMD_CTL or HL_CMD_BASE, and the value -/
  | hlCmdRingWrite (ctl : Bool) (value : Nat)
  /-- R443 -/
  | hlCmdPause (on : Bool)
  /-- R442 -/
  | nop
  /-- R442 -/
  | read32
  /-- R442 -/
  | read64
  /-- R442 -/
  | write32
  /-- R442 -/
  | write64
  /-- R442 -/
  | rmw64
  /-- R442 -/
  | waitBeat
  /-- R442 -/
  | waitBeatEnd
  /-- R442 -/
  | poll64
  /-- R442 -/
  | poll64Sample
  /-- R445: HL_EVT_CTL or HL_EVT_BASE, and the value -/
  | hlEvtRingWrite (ctl : Bool) (value : Nat)
  /-- R445: records freed -/
  | hlEvtDoorbell (n : Nat)
  /-- R446 -/
  | eventNotify
  /-- R449 -/
  | i3cCsrRead (addr : Nat)
  /-- R449 -/
  | i3cCsrWrite (addr value : Nat)
  /-- R450 -/
  | i3cTelemetry
  /-- R449 -/
  | i3cPrivateRead
  /-- R448: event byte -/
  | enec (events : Nat)
  /-- R448: event byte -/
  | disec (events : Nat)
  /-- R448 -/
  | rstdaa
  /-- R448: static address named and dynamic address given -/
  | setdasa (static dyn : Nat)
  /-- R448: dynamic address given -/
  | entdaa (dyn : Nat)
  /-- R448: new dynamic address -/
  | setnewda (dyn : Nat)
  /-- R448 -/
  | getpid
  /-- R448 -/
  | getbcr
  /-- R448 -/
  | getdcr
  /-- R448 -/
  | getstatus
  /-- R448 -/
  | getmwl
  /-- R448 -/
  | getmrl
  /-- R451 -/
  | ibiRaise
  /-- R452 -/
  | idcode
  /-- R452 -/
  | samplePreload
  /-- R453 -/
  | extest
  /-- R453 -/
  | clamp
  /-- R453 -/
  | highz
  /-- R454 -/
  | csrAccess
  /-- R454 -/
  | hbm1500
  /-- R452 -/
  | bypass
  /-- R454: the register shifted in -/
  | jtagCsrGo (write : Bool) (addr value : Nat)
  /-- R458, R463: what the start finds -/
  | resetRelease (env : StartEnv)
  /-- R458 -/
  | checkpoint
  /-- R458 -/
  | latchSample
  /-- R463: the step over its limit -/
  | startStepTimeout (step : Nat)
  /-- R464 -/
  | startFailReset
  /-- R468 -/
  | loadStage2
  /-- R468: the bytes fetched, or a HauneLink error -/
  | stage2FetchDone (bytes : List Byte) (err : Bool)
  /-- R466 -/
  | serviceReady
  /-- R479 -/
  | bootReset
  /-- R479 -/
  | enterDamped
  /-- R478: REGION -/
  | flashWrite (region : Nat)
  /-- R478 -/
  | readout
  /-- R478 -/
  | diag
  /-- R478 -/
  | clearReset
  /-- R474: the value written -/
  | secLogIndexWrite (index : Nat)
  /-- R475 -/
  | quoteGo
  /-- R475 -/
  | quoteDone
  /-- R460, R495: what the board programmed while RESET_N was asserted -/
  | resetNAssert (board : Option Flash)
  /-- R495 -/
  | railFault
  /-- R42, R43: HauneLink half or Carillon port, whether lock was gained, and whether the clock of the stream is in window against XTAL or HREC -/
  | receiverLockChange (haune : Bool) (n : Nat) (gained inWindow : Bool)
  /-- R256: the request whose command met the error -/
  | commandAddressParity (ch pc : Nat) (what : ParityOf)
  /-- R430: half -/
  | hlTrainingRetry (h : Nat)
  /-- R420, R422 -/
  | remirroredMessage (n : Nat) (p : Packet)
  /-- R478: a flash error, and the result bytes of a DIAG -/
  | dampedCommandDone (err : Bool) (results : List Byte)
deriving DecidableEq, Repr

end Sys2Proof
end

