-- ==== Sys2Proof/Decode.lean ====
section
/-!
DEFINITION. Sys2Proof/Decode.lean: the command that a word spells. The command table of the PZ3-288 gives no row any bits: its commands are
accesses, packets, instructions named by their fields, times and pins, and no word spells one.
-/

namespace Sys2Proof

/-- The command a word of the opcode table's bits spells: no row of the table gives bits, so no word spells a command. -/
def decodeTableWord (_nbits _w : Nat) : Option Instr := none

end Sys2Proof
end

