-- ==== Sys2Proof/Config.lean ====
section
/-!
DEFINITION. Sys2Proof/Config.lean: what the manual leaves open or names without giving, as constants with no body: nothing can be proved
of their values.
-/

namespace Sys2Proof

/-- The n-th free value: what the manual leaves undefined. -/
opaque Config.freeNat : Nat → Nat

/-- What byte a of a memory holds before anything writes it, and after its contents are lost: memory and loss are named by a number. -/
opaque Config.initByte : Nat → Nat → Byte

/-- The set of its slice in which the shared cache keeps a line; the manual gives the number of sets and not the map (R231). -/
opaque Config.shcSet : Nat → Nat

/-- The set of the snoop filter that holds a line (R435). -/
opaque Config.sfSet : Nat → Nat

/-- exp2 of a lane that is no special case, as an FP32 bit pattern (R108). -/
opaque Config.exp2 : BitVec 32 → BitVec 32

/-- log2 of a lane that is no special case, as an FP32 bit pattern (R108). -/
opaque Config.log2 : BitVec 32 → BitVec 32

/-- Reciprocal square root of a lane that is no special case, as an FP32 bit pattern (R108). -/
opaque Config.rsqrt : BitVec 32 → BitVec 32

/-- SLH-DSA signing with the device identity key: message to signature. -/
opaque Config.slhSign : List Byte → List Byte

/-- ML-KEM-768 (FIPS 203): the encapsulation key that this side makes from fresh randomness. -/
opaque Config.kemKey : Nat → List Byte

/-- ML-KEM-768 encapsulation to a key with fresh randomness: ciphertext and shared secret. -/
opaque Config.kemEncap : List Byte → Nat → List Byte × List Byte

/-- ML-KEM-768 decapsulation with the key this side made: ciphertext to shared secret. -/
opaque Config.kemDecap : List Byte → List Byte → List Byte

/-- This device's certificate (R470). -/
opaque Config.ownCert : List Byte

/-- The vendor root key, whose hash the ROM holds (R461, R470). -/
opaque Config.vendorRoot : List Byte

/-- The version of the boot ROM, which the log names and the manual does not give (R473). -/
opaque Config.romVersion : Nat

end Sys2Proof
end

