-- ==== Sys2Proof/Machine/RegTable.lean ====
section
/-!
DEFINITION. Sys2Proof/Machine/RegTable.lean: the register index of chapter 18 (R481 to R485, Tables 18-3 to 18-7)
and the field maps of the chapters that own the registers: for each register its offset, scope, stride, count,
width, and its fields with their access codes and reset values.
-/

namespace Sys2Proof.Machine

/-- Access codes of R6 (Table 00-4). -/
inductive Access where
  | rw | ro | wo | w1c | rc | rwl
deriving DecidableEq, Repr

/-- Which block repeats a register: one of the lower part or marked (D) (`dev`), one per quarter, one per core (R482, R483). -/
inductive Scope where
  | dev | quarterD | quarter | core
deriving DecidableEq, Repr

/-- One field of a register: bits [hi:lo], its access code and its reset value. -/
structure FieldInfo where
  hi : Nat
  lo : Nat
  acc : Access
  rst : Nat
deriving DecidableEq, Repr

/-- One register of chapter 18: offset in its block, scope, stride and count of an indexed family, width in bits. -/
structure RegInfo where
  base : Nat
  scope : Scope
  stride : Nat
  cnt : Nat
  width : Nat
  fields : List FieldInfo
deriving DecidableEq, Repr

/-- The registers, one constructor per name of Tables 18-3 to 18-7 (an indexed family is one constructor). -/
inductive Reg where
  | imgSrc
  | imgLen
  | imgCtl
  | imgAtBeat
  | imgStatus
  | imgSerial
  | imgDigest
  | globalChipId
  | imgQmask
  | meshDrop
  | numLs
  | numLsSet
  | numLsClean
  | numStepStatus
  | numStep
  | numSkips
  | numSmxMasked
  | numSmxInf
  | numSmxNan
  | tollCtl
  | tollStatus
  | tollTimeout
  | tollMask
  | xltBase
  | xltGranules
  | xltInval
  | xltStatus
  | xltWalks
  | shdCmd
  | shdStatus
  | shdMismatch
  | shdGone
  | shdBankBase
  | shdBankSize
  | shdBankState
  | shdBankVer
  | numGwatch
  | numGnz
  | numGexp
  | numGflush
  | numGsat
  | shdLedger
  | bootStatus
  | bootCmd
  | bootArg
  | bootLen
  | bootCount
  | bootS1Version
  | bootS2Version
  | bootPartSerial
  | bootCoreOk
  | fltCtl
  | fltStatus
  | fltCmd
  | fltProgress
  | fltSwapBase
  | fltMirrorBase
  | fltIncarnation
  | fltHolds
  | fltEvtSeq
  | fltUeCnt
  | fltLiveMiss
  | fltRewinds
  | fltTakeoverLimit
  | fltLost
  | hlCtl
  | hlStatus
  | hlWinSel
  | hlCrcErr
  | hlRetry
  | hlSfBackinv
  | hlSnpTimeout
  | hlCsrUnmapped
  | hlViol
  | hlViolLast
  | hlViolCfg
  | hlViolWindow
  | hlQuarDrop
  | hlCmdBase
  | hlCmdCtl
  | hlCmdDoorbell
  | hlCmdHead
  | hlCmdStatus
  | hlEvtBase
  | hlEvtCtl
  | hlEvtDoorbell
  | hlEvtTail
  | hlEvtLost
  | hlEvtNotify
  | i3cCtl
  | i3cStatus
  | jtagCtl
  | beatNow
  | beatFrac
  | beatStatus
  | beatCtl
  | beatErr
  | beatTrim
  | beatSet
  | beatPatBase
  | beatPatArm
  | beatPatLate
  | beatDlCap
  | beatLateRx
  | beatClkStatus
  | beatClkCtl
  | beatPortDelay
  | pwrCap
  | pwrWindow
  | pwrCtl
  | pwrOpReq
  | pwrStatus
  | pwrNow
  | pwrAvg
  | pwrEnergy
  | pwrCredit
  | pwrHintIgn
  | pwrHintDrop
  | pwrTherm
  | pwrDieTemp
  | pwrLateTx
  | pwrFastBeats
  | pwrTrim
  | secImgkey
  | secImgkeyValid
  | secLogCount
  | secLogChain
  | secLogIndex
  | secLogEntry
  | secNonce
  | secQuoteCtl
  | secQuoteDst
  | secIdStatus
  | secIdHash
  | mxeCtl
  | mxeStatus
  | mxeErrCmd
  | mxePasses
  | mxeStallFeed
  | mxeStallDrain
  | mxePoisonCnt
  | vxeCtl
  | vxeStatus
  | vxeErrInsn
  | xlrErrInsn
  | vxePoisonCnt
  | vxeStall
  | ctcCtl
  | ctcStatus
  | ctcStallLocal
  | ctcSwitches
  | ctcStart
  | ctcPc
  | ctcFault
  | ctcBankStall
  | ctcBankLast
  | tapValue
  | tapCmd
  | tapOvf
  | sxuCtl
  | sxuStatus
  | sxuPfCtl
  | sxuPfIssued
  | sxuPfUsed
  | sxuPfLate
  | sxuPfUnused
  | sxuPfSlack
  | sxuPfSnared
  | sxuPfRedundant
  | sxuRelayWait
  | sxuErrCnt
  | dmaCtl
  | dmaStatus
  | dmaDoorbell
  | dmaErrCnt
  | dmaBytes
  | dmaRingErr
  | dmaRingBase
  | dmaRingCtl
  | dmaRingHead
  | memCtl
  | memStatus
  | memErrAddr
  | stgParCnt
  | nsCeCnt
  | nsUeCnt
  | shdGather
  | shdGresult
  | pwrDroopCnt
  | pwrCoreFreq
  | shcAtomCtl
  | shcStatus
  | shcHits
  | shcMisses
  | shcCeCnt
  | shcUeCnt
  | shcAtomCnt
  | shcRedErr
  | shcWayRetired
  | shcRedBase
  | shcRedLim
  | mchCtl
  | mchGcmd
  | mchGstate
  | mchCap
  | mchMap
  | mchThermCtl
  | mchLateTx
  | mchTemp
  | mchChState
  | mchChCmd
  | mchCe
  | mchUe
  | mchPoison
  | mchAgeMax
  | mchRepair
  | mchLastCe
  | mchTgCtl
  | mchTgRange
  | mchTgErrs
  | mchTgFirst
  | mchTgLanes0
  | mchTgLanes1
  | fabPortCtl
  | fabPortStatus
  | fabPortPserial
  | fabPortPchip
  | fabFecCe
  | fabFecUe
  | fabCrcErr
  | fabRetry
  | fabGcmFail
  | fabViol
  | fabViolLast
  | fabQuarDrop
  | fabRekeys
  | fabTxBytes
  | fabRxBytes
  | fabLaneCe
  | fabCfg
  | fabViolCfg
  | fabViolWindow
  | fabTorus
  | fabTorusPorts
  | fabNoroute
  | fabTtlDrop
  | kvrBusy
  | kvrRejects
  | kvrAborts
  | kvrRetries
  | kvrRejectsTx
  | kvrAddr
  | kvrExpect
  | kvrSel
  | kvrLen
  | kvrCmd
  | kvrState
  | fabRoute
  | colDesc0
  | colDesc1
  | colSrc
  | colDst
  | colBytes
  | colAux
  | colUpd0
  | colUpd1
  | colUpd2
  | colUpd3
  | colUpd4
  | colUpd5
  | colUpd6
  | colUpd7
  | colUpd8
  | colCmd
  | colState
  | colInfo
  | lcxEpoch
  | lcxStall
  | lcxResends
  | lexEpoch
  | lexStatus
  | lexLoadAddr
  | lexLoadCmd
  | lexBlocks
  | lexDamaged
  | lexNoTable
  | colCfg
  | colStatus
  | colReleaseMissed
  | colBusyTx
  | colResends
  | colFails
  | colLateFwd
  | freBuf
  | freBufWait
  | freAdds
  | freDpChecks
  | freDpMismatch
  | freReplays
  | poolCtl
  | poolStatus
  | poolCmd
  | poolDoneSeq
  | poolLastErr
  | poolMetaBase
  | poolT3Base
  | poolT3Frames
  | poolLowWater
  | poolFree
  | poolMoves
  | poolMoveFails
  | poolSkips
  | poolTimeout
  | poolT4Region
  | poolT4Frames
  | poolT5Region
  | poolT5Frames
  | poolClient
  | poolClientInfo
deriving DecidableEq, Repr

/-- Tables 18-3 to 18-7 with the field maps of the owning chapters. -/
def Reg.info : Reg → RegInfo
  | .imgSrc => ⟨0x1000, .dev, 0x0, 1, 64, [⟨63, 0, .rw, 0⟩]⟩
  | .imgLen => ⟨0x1008, .dev, 0x0, 1, 32, [⟨31, 0, .rw, 0⟩]⟩
  | .imgCtl => ⟨0x100C, .dev, 0x0, 1, 32, [⟨1, 0, .wo, 0⟩]⟩
  | .imgAtBeat => ⟨0x1010, .dev, 0x0, 1, 64, [⟨63, 0, .rw, 0⟩]⟩
  | .imgStatus => ⟨0x1018, .dev, 0x0, 1, 32, [⟨31, 24, .ro, 0⟩, ⟨23, 16, .ro, 0⟩, ⟨9, 9, .w1c, 0⟩, ⟨8, 8, .w1c, 0⟩, ⟨2, 0, .ro, 0⟩]⟩
  | .imgSerial => ⟨0x101C, .dev, 0x0, 1, 32, [⟨31, 0, .ro, 0⟩]⟩
  | .imgDigest => ⟨0x1020, .dev, 0x4, 8, 32, [⟨31, 0, .ro, 0⟩]⟩
  | .globalChipId => ⟨0x1040, .dev, 0x0, 1, 32, [⟨16, 0, .ro, 131071⟩]⟩
  | .imgQmask => ⟨0x1044, .dev, 0x0, 1, 32, [⟨3, 0, .ro, 0⟩]⟩
  | .meshDrop => ⟨0x1048, .dev, 0x0, 1, 32, [⟨31, 0, .rc, 0⟩]⟩
  | .numLs => ⟨0x4000, .dev, 0x0, 1, 32, [⟨27, 8, .ro, 0⟩, ⟨4, 0, .ro, 0⟩]⟩
  | .numLsSet => ⟨0x4004, .dev, 0x0, 1, 32, [⟨31, 31, .wo, 0⟩, ⟨4, 0, .wo, 0⟩]⟩
  | .numLsClean => ⟨0x4008, .dev, 0x0, 1, 32, [⟨20, 0, .rw, 2000⟩]⟩
  | .numStepStatus => ⟨0x400C, .dev, 0x0, 1, 32, [⟨2, 2, .ro, 0⟩, ⟨1, 1, .w1c, 0⟩, ⟨0, 0, .ro, 0⟩]⟩
  | .numStep => ⟨0x4010, .dev, 0x0, 1, 32, [⟨31, 0, .ro, 0⟩]⟩
  | .numSkips => ⟨0x4014, .dev, 0x0, 1, 32, [⟨31, 0, .rc, 0⟩]⟩
  | .numSmxMasked => ⟨0x4018, .dev, 0x0, 1, 32, [⟨31, 0, .rc, 0⟩]⟩
  | .numSmxInf => ⟨0x401C, .dev, 0x0, 1, 32, [⟨31, 0, .rc, 0⟩]⟩
  | .numSmxNan => ⟨0x4020, .dev, 0x0, 1, 32, [⟨31, 0, .rc, 0⟩]⟩
  | .tollCtl => ⟨0x6000, .dev, 0x0, 1, 32, [⟨15, 0, .wo, 0⟩]⟩
  | .tollStatus => ⟨0x6004, .dev, 0x0, 1, 32, [⟨17, 17, .w1c, 0⟩, ⟨16, 16, .w1c, 0⟩, ⟨15, 0, .ro, 0⟩]⟩
  | .tollTimeout => ⟨0x6008, .dev, 0x0, 1, 32, [⟨23, 0, .rw, 0⟩]⟩
  | .tollMask => ⟨0x6100, .dev, 0x20, 16, 256, [⟨255, 0, .rw, 0⟩]⟩
  | .xltBase => ⟨0x8000, .dev, 0x0, 1, 64, [⟨39, 16, .rw, 0⟩]⟩
  | .xltGranules => ⟨0x8008, .dev, 0x0, 1, 32, [⟨23, 0, .rw, 0⟩]⟩
  | .xltInval => ⟨0x800C, .dev, 0x0, 1, 32, [⟨31, 31, .wo, 0⟩, ⟨23, 0, .wo, 0⟩]⟩
  | .xltStatus => ⟨0x8010, .dev, 0x0, 1, 32, [⟨1, 1, .w1c, 0⟩, ⟨0, 0, .ro, 0⟩]⟩
  | .xltWalks => ⟨0x8014, .dev, 0x0, 1, 32, [⟨31, 0, .rc, 0⟩]⟩
  | .shdCmd => ⟨0xC000, .dev, 0x0, 1, 64, [⟨63, 32, .wo, 0⟩, ⟨7, 4, .wo, 0⟩, ⟨0, 0, .wo, 0⟩]⟩
  | .shdStatus => ⟨0xC008, .dev, 0x0, 1, 32, [⟨5, 5, .ro, 0⟩, ⟨4, 4, .w1c, 0⟩, ⟨1, 1, .ro, 0⟩, ⟨0, 0, .ro, 0⟩]⟩
  | .shdMismatch => ⟨0xC00C, .dev, 0x0, 1, 32, [⟨31, 0, .rc, 0⟩]⟩
  | .shdGone => ⟨0xC010, .dev, 0x0, 1, 32, [⟨31, 0, .rc, 0⟩]⟩
  | .shdBankBase => ⟨0xC020, .dev, 0x20, 2, 64, [⟨39, 21, .rw, 0⟩]⟩
  | .shdBankSize => ⟨0xC028, .dev, 0x20, 2, 32, [⟨17, 0, .rw, 0⟩]⟩
  | .shdBankState => ⟨0xC02C, .dev, 0x20, 2, 32, [⟨2, 2, .ro, 0⟩, ⟨1, 0, .ro, 0⟩]⟩
  | .shdBankVer => ⟨0xC030, .dev, 0x20, 2, 32, [⟨31, 0, .ro, 0⟩]⟩
  | .numGwatch => ⟨0x10000, .dev, 0x20, 1024, 32, [⟨31, 16, .ro, 0⟩, ⟨15, 0, .rw, 0⟩]⟩
  | .numGnz => ⟨0x10004, .dev, 0x20, 1024, 32, [⟨31, 0, .ro, 0⟩]⟩
  | .numGexp => ⟨0x10008, .dev, 0x20, 1024, 32, [⟨7, 0, .ro, 0⟩]⟩
  | .numGflush => ⟨0x1000C, .dev, 0x20, 1024, 32, [⟨31, 0, .rc, 0⟩]⟩
  | .numGsat => ⟨0x10010, .dev, 0x20, 1024, 32, [⟨31, 0, .rc, 0⟩]⟩
  | .shdLedger => ⟨0x20000, .dev, 0x8, 1024, 64, [⟨63, 63, .ro, 0⟩, ⟨62, 62, .ro, 0⟩, ⟨61, 61, .ro, 0⟩, ⟨32, 32, .ro, 0⟩, ⟨31, 0, .ro, 0⟩]⟩
  | .bootStatus => ⟨0x100000, .dev, 0x0, 1, 32, [⟨31, 24, .ro, 0⟩, ⟨23, 16, .ro, 0⟩, ⟨15, 12, .ro, 0⟩, ⟨11, 8, .ro, 0⟩, ⟨7, 7, .ro, 0⟩, ⟨6, 6, .ro, 0⟩, ⟨5, 5, .ro, 0⟩, ⟨4, 4, .ro, 0⟩, ⟨3, 3, .ro, 0⟩, ⟨2, 2, .w1c, 0⟩, ⟨1, 1, .w1c, 0⟩, ⟨0, 0, .ro, 0⟩]⟩
  | .bootCmd => ⟨0x100004, .dev, 0x0, 1, 32, [⟨15, 8, .wo, 0⟩, ⟨3, 0, .wo, 0⟩]⟩
  | .bootArg => ⟨0x100008, .dev, 0x0, 1, 64, [⟨63, 0, .rw, 0⟩]⟩
  | .bootLen => ⟨0x100010, .dev, 0x0, 1, 32, [⟨21, 0, .rw, 0⟩]⟩
  | .bootCount => ⟨0x100014, .dev, 0x0, 1, 32, [⟨15, 8, .ro, 0⟩, ⟨7, 0, .ro, 0⟩]⟩
  | .bootS1Version => ⟨0x100018, .dev, 0x0, 1, 32, [⟨31, 0, .ro, 0⟩]⟩
  | .bootS2Version => ⟨0x10001C, .dev, 0x0, 1, 32, [⟨31, 0, .ro, 0⟩]⟩
  | .bootPartSerial => ⟨0x100020, .dev, 0x0, 1, 64, [⟨63, 0, .ro, 0⟩]⟩
  | .bootCoreOk => ⟨0x100040, .dev, 0x10, 4, 128, [⟨67, 0, .ro, 0⟩]⟩
  | .fltCtl => ⟨0x101000, .dev, 0x0, 1, 32, [⟨31, 24, .rw, 4⟩, ⟨23, 16, .rw, 4⟩, ⟨15, 8, .rw, 3⟩, ⟨3, 3, .rw, 1⟩, ⟨2, 2, .rw, 1⟩, ⟨1, 1, .rw, 1⟩]⟩
  | .fltStatus => ⟨0x101004, .dev, 0x0, 1, 32, [⟨31, 24, .ro, 0⟩, ⟨5, 5, .ro, 0⟩, ⟨4, 4, .w1c, 0⟩, ⟨3, 0, .ro, 0⟩]⟩
  | .fltCmd => ⟨0x101008, .dev, 0x0, 1, 32, [⟨3, 0, .wo, 0⟩]⟩
  | .fltProgress => ⟨0x101010, .dev, 0x0, 1, 64, [⟨63, 32, .rw, 0⟩, ⟨15, 0, .rw, 0⟩]⟩
  | .fltSwapBase => ⟨0x101018, .dev, 0x0, 1, 64, [⟨63, 0, .rw, 0⟩]⟩
  | .fltMirrorBase => ⟨0x101020, .dev, 0x0, 1, 64, [⟨63, 0, .rw, 0⟩]⟩
  | .fltIncarnation => ⟨0x101028, .dev, 0x0, 1, 32, [⟨15, 0, .ro, 0⟩]⟩
  | .fltHolds => ⟨0x10102C, .dev, 0x0, 1, 32, [⟨7, 0, .ro, 0⟩]⟩
  | .fltEvtSeq => ⟨0x101030, .dev, 0x0, 1, 32, [⟨31, 0, .ro, 0⟩]⟩
  | .fltUeCnt => ⟨0x101034, .dev, 0x0, 1, 32, [⟨31, 0, .rc, 0⟩]⟩
  | .fltLiveMiss => ⟨0x101038, .dev, 0x0, 1, 32, [⟨31, 0, .rc, 0⟩]⟩
  | .fltRewinds => ⟨0x10103C, .dev, 0x0, 1, 32, [⟨31, 0, .rc, 0⟩]⟩
  | .fltTakeoverLimit => ⟨0x101040, .dev, 0x0, 1, 32, [⟨23, 0, .rw, 4000000⟩]⟩
  | .fltLost => ⟨0x101100, .dev, 0x8, 8, 64, [⟨63, 63, .ro, 0⟩, ⟨47, 32, .ro, 0⟩, ⟨16, 0, .ro, 0⟩]⟩
  | .hlCtl => ⟨0x102000, .dev, 0x0, 1, 32, [⟨15, 8, .rw, 16⟩, ⟨1, 1, .rw, 1⟩, ⟨0, 0, .rw, 1⟩]⟩
  | .hlStatus => ⟨0x102004, .dev, 0x0, 1, 32, [⟨16, 16, .ro, 0⟩, ⟨15, 12, .ro, 0⟩, ⟨11, 8, .ro, 0⟩, ⟨7, 4, .ro, 0⟩, ⟨3, 0, .ro, 0⟩]⟩
  | .hlWinSel => ⟨0x102008, .dev, 0x0, 1, 32, [⟨0, 0, .rw, 0⟩]⟩
  | .hlCrcErr => ⟨0x102010, .dev, 0x10, 2, 32, [⟨31, 0, .rc, 0⟩]⟩
  | .hlRetry => ⟨0x102014, .dev, 0x10, 2, 32, [⟨31, 0, .rc, 0⟩]⟩
  | .hlSfBackinv => ⟨0x102040, .dev, 0x0, 1, 32, [⟨31, 0, .rc, 0⟩]⟩
  | .hlSnpTimeout => ⟨0x102044, .dev, 0x0, 1, 32, [⟨31, 0, .rc, 0⟩]⟩
  | .hlCsrUnmapped => ⟨0x102048, .dev, 0x0, 1, 32, [⟨31, 0, .rc, 0⟩]⟩
  | .hlViol => ⟨0x102050, .dev, 0x0, 1, 32, [⟨31, 0, .rc, 0⟩]⟩
  | .hlViolLast => ⟨0x102054, .dev, 0x0, 1, 32, [⟨7, 0, .ro, 0⟩]⟩
  | .hlViolCfg => ⟨0x102058, .dev, 0x0, 1, 32, [⟨31, 16, .rw, 64⟩, ⟨15, 0, .rw, 1000⟩]⟩
  | .hlViolWindow => ⟨0x10205C, .dev, 0x0, 1, 32, [⟨23, 0, .rw, 65536⟩]⟩
  | .hlQuarDrop => ⟨0x102060, .dev, 0x0, 1, 32, [⟨31, 0, .rc, 0⟩]⟩
  | .hlCmdBase => ⟨0x102100, .dev, 0x0, 1, 64, [⟨63, 0, .rw, 0⟩]⟩
  | .hlCmdCtl => ⟨0x102108, .dev, 0x0, 1, 32, [⟨4, 4, .rw, 0⟩, ⟨3, 0, .rw, 0⟩]⟩
  | .hlCmdDoorbell => ⟨0x10210C, .dev, 0x0, 1, 32, [⟨31, 0, .wo, 0⟩]⟩
  | .hlCmdHead => ⟨0x102110, .dev, 0x0, 1, 32, [⟨11, 0, .ro, 0⟩]⟩
  | .hlCmdStatus => ⟨0x102114, .dev, 0x0, 1, 32, [⟨2, 2, .ro, 0⟩, ⟨1, 1, .ro, 0⟩, ⟨0, 0, .ro, 0⟩]⟩
  | .hlEvtBase => ⟨0x102180, .dev, 0x0, 1, 64, [⟨63, 0, .rw, 0⟩]⟩
  | .hlEvtCtl => ⟨0x102188, .dev, 0x0, 1, 32, [⟨31, 16, .rw, 100⟩, ⟨15, 15, .ro, 0⟩, ⟨4, 4, .rw, 0⟩, ⟨3, 0, .rw, 0⟩]⟩
  | .hlEvtDoorbell => ⟨0x10218C, .dev, 0x0, 1, 32, [⟨12, 0, .wo, 0⟩]⟩
  | .hlEvtTail => ⟨0x102190, .dev, 0x0, 1, 32, [⟨11, 0, .ro, 0⟩, ⟨28, 16, .ro, 0⟩]⟩
  | .hlEvtLost => ⟨0x102194, .dev, 0x0, 1, 32, [⟨31, 0, .rc, 0⟩]⟩
  | .hlEvtNotify => ⟨0x102198, .dev, 0x0, 1, 64, [⟨63, 0, .rw, 0⟩]⟩
  | .i3cCtl => ⟨0x103000, .dev, 0x0, 1, 32, [⟨8, 8, .rw, 1⟩, ⟨2, 0, .rw, 5⟩]⟩
  | .i3cStatus => ⟨0x103004, .dev, 0x0, 1, 32, [⟨7, 7, .ro, 0⟩, ⟨6, 0, .ro, 0⟩]⟩
  | .jtagCtl => ⟨0x103008, .dev, 0x0, 1, 32, [⟨6, 0, .rw, 0⟩]⟩
  | .beatNow => ⟨0x200000, .dev, 0x0, 1, 64, [⟨63, 0, .ro, 0⟩]⟩
  | .beatFrac => ⟨0x200008, .dev, 0x0, 1, 32, [⟨15, 0, .ro, 0⟩]⟩
  | .beatStatus => ⟨0x20000C, .dev, 0x0, 1, 32, [⟨31, 24, .ro, 255⟩, ⟨23, 16, .ro, 0⟩, ⟨11, 11, .w1c, 0⟩, ⟨10, 10, .w1c, 0⟩, ⟨9, 9, .w1c, 0⟩, ⟨7, 7, .ro, 0⟩, ⟨6, 6, .ro, 0⟩, ⟨5, 5, .ro, 0⟩, ⟨1, 0, .ro, 0⟩]⟩
  | .beatCtl => ⟨0x200010, .dev, 0x0, 1, 32, [⟨2, 0, .rw, 4⟩]⟩
  | .beatErr => ⟨0x200014, .dev, 0x0, 1, 32, [⟨31, 0, .ro, 0⟩]⟩
  | .beatTrim => ⟨0x200018, .dev, 0x0, 1, 32, [⟨31, 0, .ro, 0⟩]⟩
  | .beatSet => ⟨0x200020, .dev, 0x0, 1, 64, [⟨63, 0, .wo, 0⟩]⟩
  | .beatPatBase => ⟨0x200028, .dev, 0x0, 1, 64, [⟨63, 0, .rw, 0⟩]⟩
  | .beatPatArm => ⟨0x200030, .dev, 0x0, 1, 32, [⟨7, 4, .ro, 0⟩, ⟨3, 0, .rw, 0⟩]⟩
  | .beatPatLate => ⟨0x200034, .dev, 0x0, 1, 32, [⟨31, 0, .rc, 0⟩]⟩
  | .beatDlCap => ⟨0x200038, .dev, 0x0, 1, 32, [⟨23, 0, .rw, 1024⟩]⟩
  | .beatLateRx => ⟨0x20003C, .dev, 0x0, 1, 32, [⟨31, 0, .rc, 0⟩]⟩
  | .beatClkStatus => ⟨0x200040, .dev, 0x0, 1, 32, [⟨31, 21, .ro, 0⟩, ⟨20, 10, .ro, 0⟩, ⟨9, 9, .ro, 0⟩, ⟨8, 8, .ro, 0⟩, ⟨7, 7, .ro, 0⟩, ⟨6, 6, .ro, 0⟩, ⟨5, 5, .ro, 0⟩, ⟨4, 4, .w1c, 0⟩, ⟨3, 3, .w1c, 0⟩, ⟨1, 0, .ro, 0⟩]⟩
  | .beatClkCtl => ⟨0x200044, .dev, 0x0, 1, 32, [⟨0, 0, .rw, 0⟩]⟩
  | .beatPortDelay => ⟨0x200080, .dev, 0x4, 16, 32, [⟨31, 31, .ro, 0⟩, ⟨23, 0, .ro, 0⟩]⟩
  | .pwrCap => ⟨0x300000, .dev, 0x0, 1, 32, [⟨11, 0, .rw, 2000⟩]⟩
  | .pwrWindow => ⟨0x300004, .dev, 0x0, 1, 32, [⟨5, 0, .rw, 8⟩]⟩
  | .pwrCtl => ⟨0x300008, .dev, 0x0, 1, 32, [⟨15, 8, .rw, 40⟩, ⟨2, 2, .rw, 0⟩, ⟨1, 1, .rw, 0⟩, ⟨0, 0, .rw, 0⟩]⟩
  | .pwrOpReq => ⟨0x30000C, .dev, 0x0, 1, 32, [⟨6, 4, .rw, 7⟩, ⟨2, 0, .rw, 7⟩]⟩
  | .pwrStatus => ⟨0x300010, .dev, 0x0, 1, 32, [⟨15, 15, .ro, 0⟩, ⟨14, 12, .ro, 0⟩, ⟨11, 11, .w1c, 0⟩, ⟨10, 10, .w1c, 0⟩, ⟨9, 9, .ro, 0⟩, ⟨8, 8, .w1c, 0⟩, ⟨7, 7, .ro, 0⟩, ⟨6, 4, .ro, 7⟩, ⟨2, 0, .ro, 7⟩]⟩
  | .pwrNow => ⟨0x300014, .dev, 0x0, 1, 32, [⟨15, 0, .ro, 0⟩]⟩
  | .pwrAvg => ⟨0x300018, .dev, 0x0, 1, 32, [⟨15, 0, .ro, 0⟩]⟩
  | .pwrEnergy => ⟨0x300020, .dev, 0x0, 1, 64, [⟨63, 0, .ro, 0⟩]⟩
  | .pwrCredit => ⟨0x300028, .dev, 0x0, 1, 32, [⟨31, 0, .ro, 0⟩]⟩
  | .pwrHintIgn => ⟨0x30002C, .dev, 0x0, 1, 32, [⟨31, 0, .rc, 0⟩]⟩
  | .pwrHintDrop => ⟨0x300030, .dev, 0x0, 1, 32, [⟨31, 0, .rc, 0⟩]⟩
  | .pwrTherm => ⟨0x300034, .dev, 0x0, 1, 32, [⟨31, 16, .rw, 60⟩, ⟨7, 0, .rw, 95⟩]⟩
  | .pwrDieTemp => ⟨0x300038, .dev, 0x0, 1, 32, [⟨9, 8, .ro, 0⟩, ⟨7, 0, .ro, 0⟩]⟩
  | .pwrLateTx => ⟨0x30003C, .dev, 0x0, 1, 32, [⟨31, 0, .rc, 0⟩]⟩
  | .pwrFastBeats => ⟨0x300040, .dev, 0x0, 1, 32, [⟨31, 0, .rc, 0⟩]⟩
  | .pwrTrim => ⟨0x300044, .dev, 0x0, 1, 32, [⟨3, 0, .ro, 0⟩]⟩
  | .secImgkey => ⟨0x400100, .dev, 0x20, 8, 256, [⟨255, 0, .rwl, 0⟩]⟩
  | .secImgkeyValid => ⟨0x400200, .dev, 0x0, 1, 32, [⟨7, 0, .rwl, 0⟩]⟩
  | .secLogCount => ⟨0x401000, .dev, 0x0, 1, 64, [⟨63, 0, .ro, 0⟩]⟩
  | .secLogChain => ⟨0x401020, .dev, 0x4, 8, 32, [⟨31, 0, .ro, 0⟩]⟩
  | .secLogIndex => ⟨0x401040, .dev, 0x0, 1, 64, [⟨63, 0, .rw, 0⟩]⟩
  | .secLogEntry => ⟨0x401080, .dev, 0x4, 32, 32, [⟨31, 0, .ro, 0⟩]⟩
  | .secNonce => ⟨0x401100, .dev, 0x4, 8, 32, [⟨31, 0, .rw, 0⟩]⟩
  | .secQuoteCtl => ⟨0x401120, .dev, 0x0, 1, 32, [⟨4, 4, .w1c, 0⟩, ⟨3, 3, .w1c, 0⟩, ⟨2, 2, .w1c, 0⟩, ⟨1, 1, .ro, 0⟩, ⟨0, 0, .wo, 0⟩]⟩
  | .secQuoteDst => ⟨0x401128, .dev, 0x0, 1, 64, [⟨63, 0, .rw, 0⟩]⟩
  | .secIdStatus => ⟨0x401130, .dev, 0x0, 1, 32, [⟨0, 0, .ro, 0⟩]⟩
  | .secIdHash => ⟨0x401140, .dev, 0x4, 8, 32, [⟨31, 0, .ro, 0⟩]⟩
  | .mxeCtl => ⟨0x2000, .core, 0x0, 1, 32, [⟨1, 1, .wo, 0⟩, ⟨0, 0, .rw, 0⟩]⟩
  | .mxeStatus => ⟨0x2004, .core, 0x0, 1, 32, [⟨31, 24, .ro, 0⟩, ⟨15, 11, .ro, 0⟩, ⟨10, 10, .w1c, 0⟩, ⟨9, 9, .w1c, 0⟩, ⟨8, 8, .ro, 0⟩, ⟨3, 3, .ro, 0⟩, ⟨2, 2, .ro, 0⟩, ⟨1, 1, .ro, 0⟩]⟩
  | .mxeErrCmd => ⟨0x2008, .core, 0x0, 1, 64, [⟨63, 0, .ro, 0⟩]⟩
  | .mxePasses => ⟨0x2010, .core, 0x0, 1, 64, [⟨63, 0, .rc, 0⟩]⟩
  | .mxeStallFeed => ⟨0x2018, .core, 0x0, 1, 32, [⟨31, 0, .rc, 0⟩]⟩
  | .mxeStallDrain => ⟨0x201C, .core, 0x0, 1, 32, [⟨31, 0, .rc, 0⟩]⟩
  | .mxePoisonCnt => ⟨0x2020, .core, 0x0, 1, 32, [⟨31, 0, .rc, 0⟩]⟩
  | .vxeCtl => ⟨0x3000, .core, 0x0, 1, 32, [⟨1, 1, .wo, 0⟩, ⟨0, 0, .rw, 0⟩]⟩
  | .vxeStatus => ⟨0x3004, .core, 0x0, 1, 32, [⟨31, 24, .ro, 0⟩, ⟨23, 16, .ro, 0⟩, ⟨15, 10, .ro, 0⟩, ⟨9, 5, .ro, 0⟩, ⟨4, 4, .w1c, 0⟩, ⟨3, 3, .w1c, 0⟩, ⟨2, 2, .w1c, 0⟩, ⟨1, 1, .ro, 0⟩]⟩
  | .vxeErrInsn => ⟨0x3008, .core, 0x0, 1, 64, [⟨63, 0, .ro, 0⟩]⟩
  | .xlrErrInsn => ⟨0x3010, .core, 0x0, 1, 64, [⟨63, 0, .ro, 0⟩]⟩
  | .vxePoisonCnt => ⟨0x3018, .core, 0x0, 1, 32, [⟨31, 0, .rc, 0⟩]⟩
  | .vxeStall => ⟨0x301C, .core, 0x0, 1, 32, [⟨31, 0, .rc, 0⟩]⟩
  | .ctcCtl => ⟨0x4000, .core, 0x0, 1, 32, [⟨7, 0, .rw, 0⟩]⟩
  | .ctcStatus => ⟨0x4004, .core, 0x0, 1, 32, [⟨24, 24, .w1c, 0⟩, ⟨23, 16, .ro, 0⟩, ⟨15, 8, .ro, 0⟩, ⟨7, 0, .ro, 0⟩]⟩
  | .ctcStallLocal => ⟨0x4008, .core, 0x0, 1, 32, [⟨31, 0, .rc, 0⟩]⟩
  | .ctcSwitches => ⟨0x400C, .core, 0x0, 1, 32, [⟨31, 0, .rc, 0⟩]⟩
  | .ctcStart => ⟨0x4010, .core, 0x18, 8, 64, [⟨63, 0, .rw, 0⟩]⟩
  | .ctcPc => ⟨0x4018, .core, 0x18, 8, 64, [⟨63, 0, .ro, 0⟩]⟩
  | .ctcFault => ⟨0x4020, .core, 0x18, 8, 32, [⟨31, 31, .w1c, 0⟩, ⟨7, 0, .ro, 0⟩]⟩
  | .ctcBankStall => ⟨0x4100, .core, 0x0, 1, 32, [⟨31, 0, .rc, 0⟩]⟩
  | .ctcBankLast => ⟨0x4104, .core, 0x0, 1, 32, [⟨31, 0, .ro, 0⟩]⟩
  | .tapValue => ⟨0x5000, .core, 0x4, 64, 32, [⟨31, 0, .ro, 0⟩]⟩
  | .tapCmd => ⟨0x5100, .core, 0x4, 64, 32, [⟨31, 31, .wo, 0⟩, ⟨30, 0, .wo, 0⟩]⟩
  | .tapOvf => ⟨0x5200, .core, 0x0, 1, 64, [⟨63, 0, .w1c, 0⟩]⟩
  | .sxuCtl => ⟨0x7000, .core, 0x0, 1, 32, [⟨1, 1, .wo, 0⟩, ⟨0, 0, .rw, 0⟩]⟩
  | .sxuStatus => ⟨0x7004, .core, 0x0, 1, 32, [⟨24, 16, .ro, 0⟩, ⟨5, 5, .ro, 0⟩, ⟨4, 0, .ro, 0⟩]⟩
  | .sxuPfCtl => ⟨0x7008, .core, 0x0, 1, 32, [⟨16, 8, .rw, 224⟩, ⟨0, 0, .rw, 1⟩]⟩
  | .sxuPfIssued => ⟨0x7010, .core, 0x0, 1, 64, [⟨63, 0, .rc, 0⟩]⟩
  | .sxuPfUsed => ⟨0x7018, .core, 0x0, 1, 64, [⟨63, 0, .rc, 0⟩]⟩
  | .sxuPfLate => ⟨0x7020, .core, 0x0, 1, 64, [⟨63, 0, .rc, 0⟩]⟩
  | .sxuPfUnused => ⟨0x7028, .core, 0x0, 1, 64, [⟨63, 0, .rc, 0⟩]⟩
  | .sxuPfSlack => ⟨0x7030, .core, 0x0, 1, 64, [⟨63, 0, .rc, 0⟩]⟩
  | .sxuPfSnared => ⟨0x7038, .core, 0x0, 1, 64, [⟨63, 0, .rc, 0⟩]⟩
  | .sxuPfRedundant => ⟨0x7040, .core, 0x0, 1, 64, [⟨63, 0, .rc, 0⟩]⟩
  | .sxuRelayWait => ⟨0x7048, .core, 0x0, 1, 32, [⟨31, 0, .rc, 0⟩]⟩
  | .sxuErrCnt => ⟨0x704C, .core, 0x0, 1, 32, [⟨31, 0, .rc, 0⟩]⟩
  | .dmaCtl => ⟨0x8000, .core, 0x0, 1, 32, [⟨0, 0, .rw, 0⟩]⟩
  | .dmaStatus => ⟨0x8004, .core, 0x0, 1, 32, [⟨21, 21, .ro, 0⟩, ⟨20, 16, .ro, 31⟩, ⟨15, 0, .ro, 0⟩]⟩
  | .dmaDoorbell => ⟨0x8008, .core, 0x0, 1, 32, [⟨15, 0, .wo, 0⟩]⟩
  | .dmaErrCnt => ⟨0x800C, .core, 0x0, 1, 32, [⟨31, 0, .rc, 0⟩]⟩
  | .dmaBytes => ⟨0x8010, .core, 0x0, 1, 64, [⟨63, 0, .rc, 0⟩]⟩
  | .dmaRingErr => ⟨0x8018, .core, 0x0, 1, 32, [⟨15, 0, .ro, 0⟩]⟩
  | .dmaRingBase => ⟨0x8100, .core, 0x10, 16, 64, [⟨63, 0, .rw, 0⟩]⟩
  | .dmaRingCtl => ⟨0x8108, .core, 0x10, 16, 32, [⟨3, 0, .rw, 0⟩]⟩
  | .dmaRingHead => ⟨0x810C, .core, 0x10, 16, 32, [⟨11, 0, .ro, 0⟩]⟩
  | .memCtl => ⟨0x9000, .core, 0x0, 1, 32, [⟨0, 0, .rw, 1⟩]⟩
  | .memStatus => ⟨0x9004, .core, 0x0, 1, 32, [⟨2, 2, .w1c, 0⟩, ⟨1, 1, .w1c, 0⟩, ⟨0, 0, .w1c, 0⟩]⟩
  | .memErrAddr => ⟨0x9008, .core, 0x0, 1, 32, [⟨31, 31, .ro, 0⟩, ⟨22, 0, .ro, 0⟩]⟩
  | .stgParCnt => ⟨0x900C, .core, 0x0, 1, 32, [⟨31, 0, .rc, 0⟩]⟩
  | .nsCeCnt => ⟨0x9010, .core, 0x0, 1, 32, [⟨31, 0, .rc, 0⟩]⟩
  | .nsUeCnt => ⟨0x9014, .core, 0x0, 1, 32, [⟨31, 0, .rc, 0⟩]⟩
  | .shdGather => ⟨0xA000, .core, 0x0, 1, 32, [⟨31, 31, .wo, 0⟩, ⟨9, 0, .wo, 0⟩]⟩
  | .shdGresult => ⟨0xA008, .core, 0x0, 1, 64, [⟨63, 60, .ro, 0⟩, ⟨32, 32, .ro, 0⟩, ⟨31, 0, .ro, 0⟩]⟩
  | .pwrDroopCnt => ⟨0xB000, .core, 0x0, 1, 32, [⟨31, 0, .rc, 0⟩]⟩
  | .pwrCoreFreq => ⟨0xB004, .core, 0x0, 1, 32, [⟨18, 16, .ro, 0⟩, ⟨15, 0, .ro, 600⟩]⟩
  | .shcAtomCtl => ⟨0x2000000, .quarterD, 0x0, 1, 32, [⟨0, 0, .rw, 0⟩]⟩
  | .shcStatus => ⟨0x2000004, .quarter, 0x0, 1, 32, [⟨11, 8, .ro, 0⟩, ⟨2, 2, .w1c, 0⟩, ⟨1, 1, .w1c, 0⟩, ⟨0, 0, .w1c, 0⟩]⟩
  | .shcHits => ⟨0x2000008, .quarter, 0x0, 1, 64, [⟨63, 0, .rc, 0⟩]⟩
  | .shcMisses => ⟨0x2000010, .quarter, 0x0, 1, 64, [⟨63, 0, .rc, 0⟩]⟩
  | .shcCeCnt => ⟨0x2000018, .quarter, 0x0, 1, 32, [⟨31, 0, .rc, 0⟩]⟩
  | .shcUeCnt => ⟨0x200001C, .quarter, 0x0, 1, 32, [⟨31, 0, .rc, 0⟩]⟩
  | .shcAtomCnt => ⟨0x2000020, .quarter, 0x0, 1, 32, [⟨31, 0, .rc, 0⟩]⟩
  | .shcRedErr => ⟨0x2000024, .quarter, 0x0, 1, 32, [⟨31, 0, .rc, 0⟩]⟩
  | .shcWayRetired => ⟨0x2000100, .quarter, 0x4, 32, 32, [⟨15, 0, .ro, 0⟩]⟩
  | .shcRedBase => ⟨0x2000200, .quarterD, 0x10, 16, 64, [⟨63, 63, .rw, 0⟩, ⟨62, 60, .rw, 0⟩, ⟨59, 57, .rw, 0⟩, ⟨39, 21, .rw, 0⟩]⟩
  | .shcRedLim => ⟨0x2000208, .quarterD, 0x10, 16, 32, [⟨18, 0, .rw, 0⟩]⟩
  | .mchCtl => ⟨0x2400000, .quarter, 0x0, 1, 32, [⟨15, 8, .rw, 64⟩, ⟨1, 1, .rw, 1⟩, ⟨0, 0, .rw, 1⟩]⟩
  | .mchGcmd => ⟨0x2400004, .quarterD, 0x0, 1, 32, [⟨1, 0, .wo, 0⟩]⟩
  | .mchGstate => ⟨0x2400008, .quarterD, 0x0, 1, 32, [⟨23, 16, .ro, 0⟩, ⟨15, 8, .ro, 0⟩, ⟨2, 2, .w1c, 0⟩, ⟨1, 0, .ro, 1⟩]⟩
  | .mchCap => ⟨0x2400010, .quarterD, 0x0, 1, 64, [⟨63, 0, .ro, 0⟩]⟩
  | .mchMap => ⟨0x2400020, .quarterD, 0x0, 1, 128, [⟨127, 0, .rw, 0⟩]⟩
  | .mchThermCtl => ⟨0x2400030, .quarterD, 0x0, 1, 32, [⟨15, 0, .rw, 60⟩]⟩
  | .mchLateTx => ⟨0x2400034, .quarter, 0x0, 1, 32, [⟨31, 0, .rc, 0⟩]⟩
  | .mchTemp => ⟨0x2400040, .quarter, 0x4, 2, 32, [⟨31, 31, .ro, 0⟩, ⟨30, 30, .ro, 0⟩, ⟨29, 29, .w1c, 0⟩, ⟨28, 28, .ro, 0⟩, ⟨18, 16, .ro, 0⟩, ⟨7, 0, .ro, 0⟩]⟩
  | .mchChState => ⟨0x2401000, .quarter, 0x80, 32, 32, [⟨27, 24, .ro, 0⟩, ⟨9, 9, .w1c, 0⟩, ⟨8, 8, .ro, 0⟩, ⟨7, 7, .w1c, 0⟩, ⟨6, 6, .w1c, 0⟩, ⟨5, 5, .ro, 0⟩, ⟨2, 0, .ro, 0⟩]⟩
  | .mchChCmd => ⟨0x2401004, .quarter, 0x80, 32, 32, [⟨1, 0, .wo, 0⟩]⟩
  | .mchCe => ⟨0x2401008, .quarter, 0x80, 32, 32, [⟨31, 0, .rc, 0⟩]⟩
  | .mchUe => ⟨0x240100C, .quarter, 0x80, 32, 32, [⟨31, 0, .rc, 0⟩]⟩
  | .mchPoison => ⟨0x2401010, .quarter, 0x80, 32, 32, [⟨31, 0, .rc, 0⟩]⟩
  | .mchAgeMax => ⟨0x2401014, .quarter, 0x80, 32, 32, [⟨31, 0, .rc, 0⟩]⟩
  | .mchRepair => ⟨0x2401018, .quarter, 0x80, 32, 64, [⟨27, 21, .ro, 127⟩, ⟨20, 14, .ro, 127⟩, ⟨13, 7, .ro, 127⟩, ⟨6, 0, .ro, 127⟩, ⟨59, 53, .ro, 127⟩, ⟨52, 46, .ro, 127⟩, ⟨45, 39, .ro, 127⟩, ⟨38, 32, .ro, 127⟩]⟩
  | .mchLastCe => ⟨0x2401020, .quarter, 0x80, 32, 32, [⟨6, 6, .ro, 0⟩, ⟨5, 0, .ro, 0⟩]⟩
  | .mchTgCtl => ⟨0x2401028, .quarter, 0x80, 32, 64, [⟨63, 48, .rw, 0⟩, ⟨31, 8, .rw, 0⟩, ⟨7, 4, .rw, 0⟩, ⟨3, 2, .rw, 0⟩, ⟨1, 1, .rw, 0⟩, ⟨0, 0, .rw, 0⟩]⟩
  | .mchTgRange => ⟨0x2401030, .quarter, 0x80, 32, 64, [⟨55, 32, .rw, 0⟩, ⟨23, 0, .rw, 0⟩]⟩
  | .mchTgErrs => ⟨0x2401038, .quarter, 0x80, 32, 32, [⟨31, 0, .rc, 0⟩]⟩
  | .mchTgFirst => ⟨0x2401040, .quarter, 0x80, 32, 64, [⟨63, 63, .ro, 0⟩, ⟨45, 40, .ro, 0⟩, ⟨32, 32, .ro, 0⟩, ⟨26, 24, .ro, 0⟩, ⟨23, 0, .ro, 0⟩]⟩
  | .mchTgLanes0 => ⟨0x2401048, .quarter, 0x80, 32, 64, [⟨35, 0, .ro, 0⟩]⟩
  | .mchTgLanes1 => ⟨0x2401050, .quarter, 0x80, 32, 64, [⟨63, 0, .ro, 0⟩]⟩
  | .fabPortCtl => ⟨0x2800000, .quarter, 0x100, 4, 32, [⟨31, 16, .rw, 4096⟩, ⟨1, 1, .wo, 0⟩, ⟨0, 0, .rw, 1⟩]⟩
  | .fabPortStatus => ⟨0x2800004, .quarter, 0x100, 4, 32, [⟨31, 24, .ro, 0⟩, ⟨23, 16, .ro, 0⟩, ⟨15, 8, .ro, 0⟩, ⟨7, 7, .ro, 0⟩, ⟨6, 6, .ro, 0⟩, ⟨2, 0, .ro, 0⟩]⟩
  | .fabPortPserial => ⟨0x2800008, .quarter, 0x100, 4, 64, [⟨63, 0, .ro, 0⟩]⟩
  | .fabPortPchip => ⟨0x2800010, .quarter, 0x100, 4, 32, [⟨20, 17, .ro, 0⟩, ⟨16, 0, .ro, 0⟩]⟩
  | .fabFecCe => ⟨0x2800014, .quarter, 0x100, 4, 32, [⟨31, 0, .rc, 0⟩]⟩
  | .fabFecUe => ⟨0x2800018, .quarter, 0x100, 4, 32, [⟨31, 0, .rc, 0⟩]⟩
  | .fabCrcErr => ⟨0x280001C, .quarter, 0x100, 4, 32, [⟨31, 0, .rc, 0⟩]⟩
  | .fabRetry => ⟨0x2800020, .quarter, 0x100, 4, 32, [⟨31, 0, .rc, 0⟩]⟩
  | .fabGcmFail => ⟨0x2800024, .quarter, 0x100, 4, 32, [⟨31, 0, .rc, 0⟩]⟩
  | .fabViol => ⟨0x2800028, .quarter, 0x100, 4, 32, [⟨31, 0, .rc, 0⟩]⟩
  | .fabViolLast => ⟨0x280002C, .quarter, 0x100, 4, 32, [⟨31, 24, .ro, 0⟩, ⟨16, 0, .ro, 0⟩]⟩
  | .fabQuarDrop => ⟨0x2800030, .quarter, 0x100, 4, 32, [⟨31, 0, .rc, 0⟩]⟩
  | .fabRekeys => ⟨0x2800034, .quarter, 0x100, 4, 32, [⟨31, 0, .rc, 0⟩]⟩
  | .fabTxBytes => ⟨0x2800038, .quarter, 0x100, 4, 64, [⟨63, 0, .rc, 0⟩]⟩
  | .fabRxBytes => ⟨0x2800040, .quarter, 0x100, 4, 64, [⟨63, 0, .rc, 0⟩]⟩
  | .fabLaneCe => ⟨0x2800048, .quarter, 0x100, 4, 64, [⟨63, 0, .ro, 0⟩]⟩
  | .fabCfg => ⟨0x2802000, .quarterD, 0x0, 1, 32, [⟨15, 8, .rw, 64⟩, ⟨2, 0, .rw, 5⟩]⟩
  | .fabViolCfg => ⟨0x2802004, .quarterD, 0x0, 1, 32, [⟨31, 16, .rw, 64⟩, ⟨15, 0, .rw, 1000⟩]⟩
  | .fabViolWindow => ⟨0x2802008, .quarterD, 0x0, 1, 32, [⟨23, 0, .rw, 65536⟩]⟩
  | .fabTorus => ⟨0x2802010, .quarterD, 0x0, 1, 64, [⟨56, 40, .rw, 0⟩, ⟨17, 12, .rw, 0⟩, ⟨11, 6, .rw, 0⟩, ⟨5, 0, .rw, 0⟩]⟩
  | .fabTorusPorts => ⟨0x2802018, .quarterD, 0x0, 1, 32, [⟨29, 25, .rw, 31⟩, ⟨24, 20, .rw, 31⟩, ⟨19, 15, .rw, 31⟩, ⟨14, 10, .rw, 31⟩, ⟨9, 5, .rw, 31⟩, ⟨4, 0, .rw, 31⟩]⟩
  | .fabNoroute => ⟨0x2802020, .quarterD, 0x0, 1, 32, [⟨31, 0, .rc, 0⟩]⟩
  | .fabTtlDrop => ⟨0x2802024, .quarterD, 0x0, 1, 32, [⟨31, 0, .rc, 0⟩]⟩
  | .kvrBusy => ⟨0x2803000, .quarter, 0x0, 1, 32, [⟨31, 0, .rc, 0⟩]⟩
  | .kvrRejects => ⟨0x2803004, .quarter, 0x0, 1, 32, [⟨31, 0, .rc, 0⟩]⟩
  | .kvrAborts => ⟨0x2803008, .quarter, 0x0, 1, 32, [⟨31, 0, .rc, 0⟩]⟩
  | .kvrRetries => ⟨0x280300C, .quarter, 0x0, 1, 32, [⟨31, 0, .rc, 0⟩]⟩
  | .kvrRejectsTx => ⟨0x2803010, .quarter, 0x0, 1, 32, [⟨31, 0, .rc, 0⟩]⟩
  | .kvrAddr => ⟨0x2804000, .quarter, 0x20, 128, 64, [⟨53, 48, .rw, 0⟩, ⟨22, 0, .rw, 0⟩]⟩
  | .kvrExpect => ⟨0x2804008, .quarter, 0x20, 128, 64, [⟨63, 48, .rw, 0⟩, ⟨47, 32, .rw, 0⟩, ⟨31, 0, .rw, 0⟩]⟩
  | .kvrSel => ⟨0x2804010, .quarter, 0x20, 128, 32, [⟨31, 16, .rw, 0⟩, ⟨13, 8, .rw, 0⟩, ⟨5, 0, .rw, 0⟩]⟩
  | .kvrLen => ⟨0x2804014, .quarter, 0x20, 128, 32, [⟨22, 0, .rw, 0⟩]⟩
  | .kvrCmd => ⟨0x2804018, .quarter, 0x20, 128, 32, [⟨1, 0, .wo, 0⟩]⟩
  | .kvrState => ⟨0x280401C, .quarter, 0x20, 128, 32, [⟨31, 24, .ro, 0⟩, ⟨2, 2, .w1c, 0⟩, ⟨1, 0, .ro, 0⟩]⟩
  | .fabRoute => ⟨0x2808000, .quarterD, 0x8, 4096, 64, [⟨63, 63, .rw, 0⟩, ⟨62, 61, .rw, 0⟩, ⟨55, 52, .rw, 0⟩, ⟨51, 48, .rw, 0⟩, ⟨47, 47, .rw, 0⟩]⟩
  | .colDesc0 => ⟨0x2C00000, .quarterD, 0x80, 256, 64, [⟨55, 40, .rw, 0⟩, ⟨39, 34, .rw, 0⟩, ⟨33, 27, .rw, 0⟩, ⟨26, 25, .rw, 0⟩, ⟨24, 24, .rw, 0⟩, ⟨23, 8, .rw, 0⟩, ⟨5, 4, .rw, 0⟩, ⟨3, 0, .rw, 0⟩]⟩
  | .colDesc1 => ⟨0x2C00008, .quarterD, 0x80, 256, 64, [⟨63, 48, .rw, 0⟩, ⟨47, 32, .rw, 0⟩, ⟨31, 0, .rw, 0⟩]⟩
  | .colSrc => ⟨0x2C00010, .quarterD, 0x80, 256, 64, [⟨63, 0, .rw, 0⟩]⟩
  | .colDst => ⟨0x2C00018, .quarterD, 0x80, 256, 64, [⟨63, 0, .rw, 0⟩]⟩
  | .colBytes => ⟨0x2C00020, .quarterD, 0x80, 256, 32, [⟨26, 0, .rw, 0⟩]⟩
  | .colAux => ⟨0x2C00024, .quarterD, 0x80, 256, 32, [⟨28, 28, .rw, 0⟩, ⟨27, 22, .rw, 0⟩, ⟨21, 16, .rw, 0⟩, ⟨9, 0, .rw, 0⟩]⟩
  | .colUpd0 => ⟨0x2C00028, .quarterD, 0x80, 256, 32, [⟨31, 0, .rw, 0⟩]⟩
  | .colUpd1 => ⟨0x2C0002C, .quarterD, 0x80, 256, 32, [⟨31, 0, .rw, 0⟩]⟩
  | .colUpd2 => ⟨0x2C00030, .quarterD, 0x80, 256, 32, [⟨31, 0, .rw, 0⟩]⟩
  | .colUpd3 => ⟨0x2C00034, .quarterD, 0x80, 256, 32, [⟨31, 0, .rw, 0⟩]⟩
  | .colUpd4 => ⟨0x2C00038, .quarterD, 0x80, 256, 32, [⟨31, 0, .rw, 0⟩]⟩
  | .colUpd5 => ⟨0x2C0003C, .quarterD, 0x80, 256, 32, [⟨31, 0, .rw, 0⟩]⟩
  | .colUpd6 => ⟨0x2C00040, .quarterD, 0x80, 256, 32, [⟨31, 0, .rw, 0⟩]⟩
  | .colUpd7 => ⟨0x2C00044, .quarterD, 0x80, 256, 32, [⟨31, 0, .rw, 0⟩]⟩
  | .colUpd8 => ⟨0x2C00048, .quarterD, 0x80, 256, 32, [⟨31, 0, .rw, 0⟩]⟩
  | .colCmd => ⟨0x2C00070, .quarterD, 0x80, 256, 32, [⟨1, 0, .wo, 0⟩]⟩
  | .colState => ⟨0x2C00074, .quarterD, 0x80, 256, 32, [⟨31, 24, .ro, 0⟩, ⟨23, 16, .ro, 0⟩, ⟨8, 8, .ro, 0⟩, ⟨2, 0, .ro, 0⟩]⟩
  | .colInfo => ⟨0x2C00078, .quarterD, 0x80, 256, 32, [⟨31, 0, .ro, 0⟩]⟩
  | .lcxEpoch => ⟨0x2C08000, .quarter, 0x0, 1, 32, [⟨31, 16, .ro, 0⟩, ⟨15, 0, .rw, 0⟩]⟩
  | .lcxStall => ⟨0x2C08004, .quarter, 0x0, 1, 32, [⟨31, 0, .rc, 0⟩]⟩
  | .lcxResends => ⟨0x2C08008, .quarter, 0x0, 1, 32, [⟨31, 0, .rc, 0⟩]⟩
  | .lexEpoch => ⟨0x2C08010, .quarter, 0x0, 1, 32, [⟨31, 16, .ro, 0⟩, ⟨15, 0, .ro, 0⟩]⟩
  | .lexStatus => ⟨0x2C08014, .quarter, 0x0, 1, 32, [⟨6, 6, .w1c, 0⟩, ⟨5, 5, .ro, 0⟩, ⟨4, 4, .w1c, 0⟩, ⟨3, 3, .w1c, 0⟩, ⟨2, 2, .ro, 0⟩, ⟨1, 1, .ro, 0⟩, ⟨0, 0, .ro, 0⟩]⟩
  | .lexLoadAddr => ⟨0x2C08018, .quarter, 0x0, 1, 64, [⟨63, 0, .rw, 0⟩]⟩
  | .lexLoadCmd => ⟨0x2C08020, .quarter, 0x0, 1, 32, [⟨31, 16, .wo, 0⟩, ⟨6, 0, .wo, 0⟩]⟩
  | .lexBlocks => ⟨0x2C08028, .quarter, 0x0, 1, 64, [⟨63, 0, .rc, 0⟩]⟩
  | .lexDamaged => ⟨0x2C08030, .quarter, 0x0, 1, 32, [⟨31, 0, .rc, 0⟩]⟩
  | .lexNoTable => ⟨0x2C08034, .quarter, 0x0, 1, 32, [⟨31, 0, .rc, 0⟩]⟩
  | .colCfg => ⟨0x2C09000, .quarterD, 0x0, 1, 32, [⟨31, 16, .rw, 256⟩, ⟨3, 0, .rw, 8⟩]⟩
  | .colStatus => ⟨0x2C09004, .quarterD, 0x0, 1, 32, [⟨1, 1, .w1c, 0⟩, ⟨0, 0, .w1c, 0⟩]⟩
  | .colReleaseMissed => ⟨0x2C09008, .quarterD, 0x0, 1, 32, [⟨31, 0, .rc, 0⟩]⟩
  | .colBusyTx => ⟨0x2C0900C, .quarterD, 0x0, 1, 32, [⟨31, 0, .rc, 0⟩]⟩
  | .colResends => ⟨0x2C09010, .quarterD, 0x0, 1, 32, [⟨31, 0, .rc, 0⟩]⟩
  | .colFails => ⟨0x2C09014, .quarterD, 0x0, 1, 32, [⟨31, 0, .rc, 0⟩]⟩
  | .colLateFwd => ⟨0x2C09018, .quarterD, 0x0, 1, 32, [⟨31, 0, .rc, 0⟩]⟩
  | .freBuf => ⟨0x2C09100, .quarter, 0x0, 1, 32, [⟨31, 16, .ro, 0⟩, ⟨15, 0, .ro, 0⟩]⟩
  | .freBufWait => ⟨0x2C09104, .quarter, 0x0, 1, 32, [⟨31, 0, .rc, 0⟩]⟩
  | .freAdds => ⟨0x2C09108, .quarter, 0x0, 1, 64, [⟨63, 0, .rc, 0⟩]⟩
  | .freDpChecks => ⟨0x2C09110, .quarter, 0x0, 1, 64, [⟨63, 0, .rc, 0⟩]⟩
  | .freDpMismatch => ⟨0x2C09118, .quarter, 0x0, 1, 32, [⟨31, 0, .rc, 0⟩]⟩
  | .freReplays => ⟨0x2C0911C, .quarter, 0x0, 1, 32, [⟨31, 0, .rc, 0⟩]⟩
  | .poolCtl => ⟨0x3000000, .quarterD, 0x0, 1, 32, [⟨0, 0, .rw, 0⟩]⟩
  | .poolStatus => ⟨0x3000004, .quarterD, 0x0, 1, 32, [⟨15, 11, .ro, 0⟩, ⟨10, 5, .ro, 0⟩, ⟨4, 4, .w1c, 0⟩, ⟨3, 3, .ro, 0⟩, ⟨2, 2, .ro, 0⟩, ⟨1, 1, .ro, 0⟩, ⟨0, 0, .ro, 0⟩]⟩
  | .poolCmd => ⟨0x3000008, .quarterD, 0x0, 1, 64, [⟨39, 34, .wo, 0⟩, ⟨33, 32, .wo, 0⟩, ⟨18, 0, .wo, 0⟩]⟩
  | .poolDoneSeq => ⟨0x3000010, .quarterD, 0x0, 1, 32, [⟨31, 0, .ro, 0⟩]⟩
  | .poolLastErr => ⟨0x3000014, .quarterD, 0x0, 1, 32, [⟨31, 24, .ro, 0⟩, ⟨18, 0, .ro, 0⟩]⟩
  | .poolMetaBase => ⟨0x3000018, .quarterD, 0x0, 1, 64, [⟨63, 0, .rw, 0⟩]⟩
  | .poolT3Base => ⟨0x3000020, .quarterD, 0x0, 1, 64, [⟨63, 0, .rw, 0⟩]⟩
  | .poolT3Frames => ⟨0x3000028, .quarterD, 0x0, 1, 32, [⟨17, 0, .rw, 0⟩]⟩
  | .poolLowWater => ⟨0x300002C, .quarterD, 0x0, 1, 32, [⟨31, 16, .rw, 16⟩, ⟨15, 0, .rw, 64⟩]⟩
  | .poolFree => ⟨0x3000030, .quarterD, 0x0, 1, 64, [⟨59, 40, .ro, 0⟩, ⟨39, 20, .ro, 0⟩, ⟨19, 0, .ro, 0⟩]⟩
  | .poolMoves => ⟨0x3000038, .quarterD, 0x0, 1, 32, [⟨31, 0, .rc, 0⟩]⟩
  | .poolMoveFails => ⟨0x300003C, .quarterD, 0x0, 1, 32, [⟨31, 0, .rc, 0⟩]⟩
  | .poolSkips => ⟨0x3000040, .quarterD, 0x0, 1, 32, [⟨31, 0, .rc, 0⟩]⟩
  | .poolTimeout => ⟨0x3000044, .quarterD, 0x0, 1, 32, [⟨15, 0, .rw, 256⟩]⟩
  | .poolT4Region => ⟨0x3000100, .quarterD, 0x10, 8, 64, [⟨63, 63, .rw, 0⟩, ⟨56, 40, .rw, 0⟩, ⟨39, 21, .rw, 0⟩]⟩
  | .poolT4Frames => ⟨0x3000108, .quarterD, 0x10, 8, 32, [⟨19, 0, .rw, 0⟩]⟩
  | .poolT5Region => ⟨0x3000180, .quarterD, 0x10, 4, 64, [⟨63, 63, .rw, 0⟩, ⟨56, 21, .rw, 0⟩]⟩
  | .poolT5Frames => ⟨0x3000188, .quarterD, 0x10, 4, 32, [⟨19, 0, .rw, 0⟩]⟩
  | .poolClient => ⟨0x3001000, .quarterD, 0x10, 64, 64, [⟨63, 32, .rw, 0⟩, ⟨31, 0, .rw, 0⟩]⟩
  | .poolClientInfo => ⟨0x3001008, .quarterD, 0x10, 64, 32, [⟨31, 31, .ro, 0⟩, ⟨26, 24, .ro, 0⟩, ⟨19, 0, .ro, 0⟩]⟩

/-- The registers of the index, part 0. -/
def Reg.part0 : List Reg :=
  [.imgSrc, .imgLen, .imgCtl, .imgAtBeat, .imgStatus, .imgSerial, .imgDigest, .globalChipId, .imgQmask, .meshDrop, .numLs, .numLsSet, .numLsClean, .numStepStatus, .numStep, .numSkips, .numSmxMasked, .numSmxInf, .numSmxNan, .tollCtl, .tollStatus, .tollTimeout, .tollMask, .xltBase, .xltGranules, .xltInval, .xltStatus, .xltWalks, .shdCmd, .shdStatus, .shdMismatch, .shdGone, .shdBankBase, .shdBankSize, .shdBankState, .shdBankVer, .numGwatch, .numGnz, .numGexp, .numGflush]
/-- The registers of the index, part 1. -/
def Reg.part1 : List Reg :=
  [.numGsat, .shdLedger, .bootStatus, .bootCmd, .bootArg, .bootLen, .bootCount, .bootS1Version, .bootS2Version, .bootPartSerial, .bootCoreOk, .fltCtl, .fltStatus, .fltCmd, .fltProgress, .fltSwapBase, .fltMirrorBase, .fltIncarnation, .fltHolds, .fltEvtSeq, .fltUeCnt, .fltLiveMiss, .fltRewinds, .fltTakeoverLimit, .fltLost, .hlCtl, .hlStatus, .hlWinSel, .hlCrcErr, .hlRetry, .hlSfBackinv, .hlSnpTimeout, .hlCsrUnmapped, .hlViol, .hlViolLast, .hlViolCfg, .hlViolWindow, .hlQuarDrop, .hlCmdBase, .hlCmdCtl]
/-- The registers of the index, part 2. -/
def Reg.part2 : List Reg :=
  [.hlCmdDoorbell, .hlCmdHead, .hlCmdStatus, .hlEvtBase, .hlEvtCtl, .hlEvtDoorbell, .hlEvtTail, .hlEvtLost, .hlEvtNotify, .i3cCtl, .i3cStatus, .jtagCtl, .beatNow, .beatFrac, .beatStatus, .beatCtl, .beatErr, .beatTrim, .beatSet, .beatPatBase, .beatPatArm, .beatPatLate, .beatDlCap, .beatLateRx, .beatClkStatus, .beatClkCtl, .beatPortDelay, .pwrCap, .pwrWindow, .pwrCtl, .pwrOpReq, .pwrStatus, .pwrNow, .pwrAvg, .pwrEnergy, .pwrCredit, .pwrHintIgn, .pwrHintDrop, .pwrTherm, .pwrDieTemp]
/-- The registers of the index, part 3. -/
def Reg.part3 : List Reg :=
  [.pwrLateTx, .pwrFastBeats, .pwrTrim, .secImgkey, .secImgkeyValid, .secLogCount, .secLogChain, .secLogIndex, .secLogEntry, .secNonce, .secQuoteCtl, .secQuoteDst, .secIdStatus, .secIdHash, .mxeCtl, .mxeStatus, .mxeErrCmd, .mxePasses, .mxeStallFeed, .mxeStallDrain, .mxePoisonCnt, .vxeCtl, .vxeStatus, .vxeErrInsn, .xlrErrInsn, .vxePoisonCnt, .vxeStall, .ctcCtl, .ctcStatus, .ctcStallLocal, .ctcSwitches, .ctcStart, .ctcPc, .ctcFault, .ctcBankStall, .ctcBankLast, .tapValue, .tapCmd, .tapOvf, .sxuCtl]
/-- The registers of the index, part 4. -/
def Reg.part4 : List Reg :=
  [.sxuStatus, .sxuPfCtl, .sxuPfIssued, .sxuPfUsed, .sxuPfLate, .sxuPfUnused, .sxuPfSlack, .sxuPfSnared, .sxuPfRedundant, .sxuRelayWait, .sxuErrCnt, .dmaCtl, .dmaStatus, .dmaDoorbell, .dmaErrCnt, .dmaBytes, .dmaRingErr, .dmaRingBase, .dmaRingCtl, .dmaRingHead, .memCtl, .memStatus, .memErrAddr, .stgParCnt, .nsCeCnt, .nsUeCnt, .shdGather, .shdGresult, .pwrDroopCnt, .pwrCoreFreq, .shcAtomCtl, .shcStatus, .shcHits, .shcMisses, .shcCeCnt, .shcUeCnt, .shcAtomCnt, .shcRedErr, .shcWayRetired, .shcRedBase]
/-- The registers of the index, part 5. -/
def Reg.part5 : List Reg :=
  [.shcRedLim, .mchCtl, .mchGcmd, .mchGstate, .mchCap, .mchMap, .mchThermCtl, .mchLateTx, .mchTemp, .mchChState, .mchChCmd, .mchCe, .mchUe, .mchPoison, .mchAgeMax, .mchRepair, .mchLastCe, .mchTgCtl, .mchTgRange, .mchTgErrs, .mchTgFirst, .mchTgLanes0, .mchTgLanes1, .fabPortCtl, .fabPortStatus, .fabPortPserial, .fabPortPchip, .fabFecCe, .fabFecUe, .fabCrcErr, .fabRetry, .fabGcmFail, .fabViol, .fabViolLast, .fabQuarDrop, .fabRekeys, .fabTxBytes, .fabRxBytes, .fabLaneCe, .fabCfg]
/-- The registers of the index, part 6. -/
def Reg.part6 : List Reg :=
  [.fabViolCfg, .fabViolWindow, .fabTorus, .fabTorusPorts, .fabNoroute, .fabTtlDrop, .kvrBusy, .kvrRejects, .kvrAborts, .kvrRetries, .kvrRejectsTx, .kvrAddr, .kvrExpect, .kvrSel, .kvrLen, .kvrCmd, .kvrState, .fabRoute, .colDesc0, .colDesc1, .colSrc, .colDst, .colBytes, .colAux, .colUpd0, .colUpd1, .colUpd2, .colUpd3, .colUpd4, .colUpd5, .colUpd6, .colUpd7, .colUpd8, .colCmd, .colState, .colInfo, .lcxEpoch, .lcxStall, .lcxResends, .lexEpoch]
/-- The registers of the index, part 7. -/
def Reg.part7 : List Reg :=
  [.lexStatus, .lexLoadAddr, .lexLoadCmd, .lexBlocks, .lexDamaged, .lexNoTable, .colCfg, .colStatus, .colReleaseMissed, .colBusyTx, .colResends, .colFails, .colLateFwd, .freBuf, .freBufWait, .freAdds, .freDpChecks, .freDpMismatch, .freReplays, .poolCtl, .poolStatus, .poolCmd, .poolDoneSeq, .poolLastErr, .poolMetaBase, .poolT3Base, .poolT3Frames, .poolLowWater, .poolFree, .poolMoves, .poolMoveFails, .poolSkips, .poolTimeout, .poolT4Region, .poolT4Frames, .poolT5Region, .poolT5Frames, .poolClient, .poolClientInfo]

/-- Every register of the index. -/
def Reg.all : List Reg := Reg.part0 ++ Reg.part1 ++ Reg.part2 ++ Reg.part3 ++ Reg.part4 ++ Reg.part5 ++ Reg.part6 ++ Reg.part7

end Sys2Proof.Machine
end

