-- ==== Sys2Proof/Machine/Fields.lean ====
section
/-!
DEFINITION. Sys2Proof/Machine/Fields.lean: the names of the register fields (Table 18-3 to 18-7 and the owning
chapters' field maps). F.<REGISTER>_<FIELD> names bits [hi:lo] of a register; a register of one field is F.<REGISTER>_V
where the owning chapter gives the field no name.
-/

namespace Sys2Proof.Machine

/-- A named field: bits [hi:lo] of a register. -/
structure Fld where
  reg : Reg
  hi : Nat
  lo : Nat
deriving DecidableEq, Repr

/-- IMG_SRC[63:0], RW; R40. -/
abbrev F.IMG_SRC_V : Fld := ⟨.imgSrc, 63, 0⟩
/-- IMG_LEN[31:0], RW; R40. -/
abbrev F.IMG_LEN_V : Fld := ⟨.imgLen, 31, 0⟩
/-- IMG_CTL[1:0], WO; R40. -/
abbrev F.IMG_CTL_CMD : Fld := ⟨.imgCtl, 1, 0⟩
/-- IMG_AT_BEAT[63:0], RW; R40. -/
abbrev F.IMG_AT_BEAT_V : Fld := ⟨.imgAtBeat, 63, 0⟩
/-- IMG_STATUS[31:24], RO; R40. -/
abbrev F.IMG_STATUS_REASON : Fld := ⟨.imgStatus, 31, 24⟩
/-- IMG_STATUS[23:16], RO; R40. -/
abbrev F.IMG_STATUS_SECT : Fld := ⟨.imgStatus, 23, 16⟩
/-- IMG_STATUS[9:9], W1C; R40. -/
abbrev F.IMG_STATUS_BUSY_SEEN : Fld := ⟨.imgStatus, 9, 9⟩
/-- IMG_STATUS[8:8], W1C; R40. -/
abbrev F.IMG_STATUS_DONE : Fld := ⟨.imgStatus, 8, 8⟩
/-- IMG_STATUS[2:0], RO; R40. -/
abbrev F.IMG_STATUS_STATE : Fld := ⟨.imgStatus, 2, 0⟩
/-- IMG_SERIAL[31:0], RO; R40. -/
abbrev F.IMG_SERIAL_V : Fld := ⟨.imgSerial, 31, 0⟩
/-- IMG_DIGEST[31:0], RO; R40. -/
abbrev F.IMG_DIGEST_V : Fld := ⟨.imgDigest, 31, 0⟩
/-- GLOBAL_CHIP_ID[16:0], RO; R40. -/
abbrev F.GLOBAL_CHIP_ID_CHIP : Fld := ⟨.globalChipId, 16, 0⟩
/-- IMG_QMASK[3:0], RO; R40. -/
abbrev F.IMG_QMASK_QMASK : Fld := ⟨.imgQmask, 3, 0⟩
/-- MESH_DROP[31:0], RC; R40. -/
abbrev F.MESH_DROP_V : Fld := ⟨.meshDrop, 31, 0⟩
/-- NUM_LS[27:8], RO; R127. -/
abbrev F.NUM_LS_RUN : Fld := ⟨.numLs, 27, 8⟩
/-- NUM_LS[4:0], RO; R127. -/
abbrev F.NUM_LS_EXP : Fld := ⟨.numLs, 4, 0⟩
/-- NUM_LS_SET[31:31], WO; R127. -/
abbrev F.NUM_LS_SET_HOLD : Fld := ⟨.numLsSet, 31, 31⟩
/-- NUM_LS_SET[4:0], WO; R127. -/
abbrev F.NUM_LS_SET_EXP : Fld := ⟨.numLsSet, 4, 0⟩
/-- NUM_LS_CLEAN[20:0], RW; R127. -/
abbrev F.NUM_LS_CLEAN_CLEAN_STEPS : Fld := ⟨.numLsClean, 20, 0⟩
/-- NUM_STEP_STATUS[2:2], RO; R127. -/
abbrev F.NUM_STEP_STATUS_HOLD_PENDING : Fld := ⟨.numStepStatus, 2, 2⟩
/-- NUM_STEP_STATUS[1:1], W1C; R127. -/
abbrev F.NUM_STEP_STATUS_FLOOR : Fld := ⟨.numStepStatus, 1, 1⟩
/-- NUM_STEP_STATUS[0:0], RO; R127. -/
abbrev F.NUM_STEP_STATUS_LAST_SKIPPED : Fld := ⟨.numStepStatus, 0, 0⟩
/-- NUM_STEP[31:0], RO; R127. -/
abbrev F.NUM_STEP_V : Fld := ⟨.numStep, 31, 0⟩
/-- NUM_SKIPS[31:0], RC; R127. -/
abbrev F.NUM_SKIPS_V : Fld := ⟨.numSkips, 31, 0⟩
/-- NUM_SMX_MASKED[31:0], RC; R127. -/
abbrev F.NUM_SMX_MASKED_V : Fld := ⟨.numSmxMasked, 31, 0⟩
/-- NUM_SMX_INF[31:0], RC; R127. -/
abbrev F.NUM_SMX_INF_V : Fld := ⟨.numSmxInf, 31, 0⟩
/-- NUM_SMX_NAN[31:0], RC; R127. -/
abbrev F.NUM_SMX_NAN_V : Fld := ⟨.numSmxNan, 31, 0⟩
/-- TOLL_CTL[15:0], WO; R157. -/
abbrev F.TOLL_CTL_RESET : Fld := ⟨.tollCtl, 15, 0⟩
/-- TOLL_STATUS[17:17], W1C; R157. -/
abbrev F.TOLL_STATUS_MASK_REFUSED : Fld := ⟨.tollStatus, 17, 17⟩
/-- TOLL_STATUS[16:16], W1C; R157. -/
abbrev F.TOLL_STATUS_TIMEOUT_SEEN : Fld := ⟨.tollStatus, 16, 16⟩
/-- TOLL_STATUS[15:0], RO; R157. -/
abbrev F.TOLL_STATUS_PENDING : Fld := ⟨.tollStatus, 15, 0⟩
/-- TOLL_TIMEOUT[23:0], RW; R157. -/
abbrev F.TOLL_TIMEOUT_BEATS : Fld := ⟨.tollTimeout, 23, 0⟩
/-- TOLL_MASK[255:0], RW; R157. -/
abbrev F.TOLL_MASK_V : Fld := ⟨.tollMask, 255, 0⟩
/-- XLT_BASE[39:16], RW; R224. -/
abbrev F.XLT_BASE_BASE : Fld := ⟨.xltBase, 39, 16⟩
/-- XLT_GRANULES[23:0], RW; R224. -/
abbrev F.XLT_GRANULES_N : Fld := ⟨.xltGranules, 23, 0⟩
/-- XLT_INVAL[31:31], WO; R224. -/
abbrev F.XLT_INVAL_ALL : Fld := ⟨.xltInval, 31, 31⟩
/-- XLT_INVAL[23:0], WO; R224. -/
abbrev F.XLT_INVAL_GRANULE : Fld := ⟨.xltInval, 23, 0⟩
/-- XLT_STATUS[1:1], W1C; R224. -/
abbrev F.XLT_STATUS_INVAL_REFUSED : Fld := ⟨.xltStatus, 1, 1⟩
/-- XLT_STATUS[0:0], RO; R224. -/
abbrev F.XLT_STATUS_INVAL_BUSY : Fld := ⟨.xltStatus, 0, 0⟩
/-- XLT_WALKS[31:0], RC; R224. -/
abbrev F.XLT_WALKS_V : Fld := ⟨.xltWalks, 31, 0⟩
/-- SHD_CMD[63:32], WO; R378. -/
abbrev F.SHD_CMD_VERSION : Fld := ⟨.shdCmd, 63, 32⟩
/-- SHD_CMD[7:4], WO; R378. -/
abbrev F.SHD_CMD_OP : Fld := ⟨.shdCmd, 7, 4⟩
/-- SHD_CMD[0:0], WO; R378. -/
abbrev F.SHD_CMD_BANK : Fld := ⟨.shdCmd, 0, 0⟩
/-- SHD_STATUS[5:5], RO; R378. -/
abbrev F.SHD_STATUS_SNAPSHOT : Fld := ⟨.shdStatus, 5, 5⟩
/-- SHD_STATUS[4:4], W1C; R378. -/
abbrev F.SHD_STATUS_REFUSED : Fld := ⟨.shdStatus, 4, 4⟩
/-- SHD_STATUS[1:1], RO; R378. -/
abbrev F.SHD_STATUS_CUR_VALID : Fld := ⟨.shdStatus, 1, 1⟩
/-- SHD_STATUS[0:0], RO; R378. -/
abbrev F.SHD_STATUS_CUR : Fld := ⟨.shdStatus, 0, 0⟩
/-- SHD_MISMATCH[31:0], RC; R378. -/
abbrev F.SHD_MISMATCH_V : Fld := ⟨.shdMismatch, 31, 0⟩
/-- SHD_GONE[31:0], RC; R378. -/
abbrev F.SHD_GONE_V : Fld := ⟨.shdGone, 31, 0⟩
/-- SHD_BANK_BASE[39:21], RW; R378. -/
abbrev F.SHD_BANK_BASE_BASE : Fld := ⟨.shdBankBase, 39, 21⟩
/-- SHD_BANK_SIZE[17:0], RW; R378. -/
abbrev F.SHD_BANK_SIZE_PAGES : Fld := ⟨.shdBankSize, 17, 0⟩
/-- SHD_BANK_STATE[2:2], RO; R378. -/
abbrev F.SHD_BANK_STATE_MISMATCH : Fld := ⟨.shdBankState, 2, 2⟩
/-- SHD_BANK_STATE[1:0], RO; R378. -/
abbrev F.SHD_BANK_STATE_STATE : Fld := ⟨.shdBankState, 1, 0⟩
/-- SHD_BANK_VER[31:0], RO; R378. -/
abbrev F.SHD_BANK_VER_V : Fld := ⟨.shdBankVer, 31, 0⟩
/-- NUM_GWATCH[31:16], RO; R127. -/
abbrev F.NUM_GWATCH_ZERO_RUN : Fld := ⟨.numGwatch, 31, 16⟩
/-- NUM_GWATCH[15:0], RW; R127. -/
abbrev F.NUM_GWATCH_WATCH_STEPS : Fld := ⟨.numGwatch, 15, 0⟩
/-- NUM_GNZ[31:0], RO; R127. -/
abbrev F.NUM_GNZ_V : Fld := ⟨.numGnz, 31, 0⟩
/-- NUM_GEXP[7:0], RO; R127. -/
abbrev F.NUM_GEXP_EXP : Fld := ⟨.numGexp, 7, 0⟩
/-- NUM_GFLUSH[31:0], RC; R127. -/
abbrev F.NUM_GFLUSH_V : Fld := ⟨.numGflush, 31, 0⟩
/-- NUM_GSAT[31:0], RC; R127. -/
abbrev F.NUM_GSAT_V : Fld := ⟨.numGsat, 31, 0⟩
/-- SHD_LEDGER[63:63], RO; R378. -/
abbrev F.SHD_LEDGER_FWD_VALID : Fld := ⟨.shdLedger, 63, 63⟩
/-- SHD_LEDGER[62:62], RO; R378. -/
abbrev F.SHD_LEDGER_CHANGED : Fld := ⟨.shdLedger, 62, 62⟩
/-- SHD_LEDGER[61:61], RO; R378. -/
abbrev F.SHD_LEDGER_GONE : Fld := ⟨.shdLedger, 61, 61⟩
/-- SHD_LEDGER[32:32], RO; R378. -/
abbrev F.SHD_LEDGER_FWD_BANK : Fld := ⟨.shdLedger, 32, 32⟩
/-- SHD_LEDGER[31:0], RO; R378. -/
abbrev F.SHD_LEDGER_FWD_VER : Fld := ⟨.shdLedger, 31, 0⟩
/-- BOOT_STATUS[31:24], RO; R480. -/
abbrev F.BOOT_STATUS_REASON : Fld := ⟨.bootStatus, 31, 24⟩
/-- BOOT_STATUS[23:16], RO; R480. -/
abbrev F.BOOT_STATUS_RESULT : Fld := ⟨.bootStatus, 23, 16⟩
/-- BOOT_STATUS[15:12], RO; R480. -/
abbrev F.BOOT_STATUS_STAGE : Fld := ⟨.bootStatus, 15, 12⟩
/-- BOOT_STATUS[11:8], RO; R480. -/
abbrev F.BOOT_STATUS_QSERVICE : Fld := ⟨.bootStatus, 11, 8⟩
/-- BOOT_STATUS[7:7], RO; R480. -/
abbrev F.BOOT_STATUS_REDUCED : Fld := ⟨.bootStatus, 7, 7⟩
/-- BOOT_STATUS[6:6], RO; R480. -/
abbrev F.BOOT_STATUS_DAMPED : Fld := ⟨.bootStatus, 6, 6⟩
/-- BOOT_STATUS[5:5], RO; R480. -/
abbrev F.BOOT_STATUS_ACTIVE : Fld := ⟨.bootStatus, 5, 5⟩
/-- BOOT_STATUS[4:4], RO; R480. -/
abbrev F.BOOT_STATUS_S1_COPY : Fld := ⟨.bootStatus, 4, 4⟩
/-- BOOT_STATUS[3:3], RO; R480. -/
abbrev F.BOOT_STATUS_RESUMED : Fld := ⟨.bootStatus, 3, 3⟩
/-- BOOT_STATUS[2:2], W1C; R480. -/
abbrev F.BOOT_STATUS_CMD_REFUSED : Fld := ⟨.bootStatus, 2, 2⟩
/-- BOOT_STATUS[1:1], W1C; R480. -/
abbrev F.BOOT_STATUS_DONE : Fld := ⟨.bootStatus, 1, 1⟩
/-- BOOT_STATUS[0:0], RO; R480. -/
abbrev F.BOOT_STATUS_BUSY : Fld := ⟨.bootStatus, 0, 0⟩
/-- BOOT_CMD[15:8], WO; R480. -/
abbrev F.BOOT_CMD_REGION : Fld := ⟨.bootCmd, 15, 8⟩
/-- BOOT_CMD[3:0], WO; R480. -/
abbrev F.BOOT_CMD_OP : Fld := ⟨.bootCmd, 3, 0⟩
/-- BOOT_ARG[63:0], RW; R480. -/
abbrev F.BOOT_ARG_V : Fld := ⟨.bootArg, 63, 0⟩
/-- BOOT_LEN[21:0], RW; R480. -/
abbrev F.BOOT_LEN_BYTES : Fld := ⟨.bootLen, 21, 0⟩
/-- BOOT_COUNT[15:8], RO; R480. -/
abbrev F.BOOT_COUNT_WRITTEN : Fld := ⟨.bootCount, 15, 8⟩
/-- BOOT_COUNT[7:0], RO; R480. -/
abbrev F.BOOT_COUNT_READ : Fld := ⟨.bootCount, 7, 0⟩
/-- BOOT_S1_VERSION[31:0], RO; R480. -/
abbrev F.BOOT_S1_VERSION_V : Fld := ⟨.bootS1Version, 31, 0⟩
/-- BOOT_S2_VERSION[31:0], RO; R480. -/
abbrev F.BOOT_S2_VERSION_V : Fld := ⟨.bootS2Version, 31, 0⟩
/-- BOOT_PART_SERIAL[63:0], RO; R480. -/
abbrev F.BOOT_PART_SERIAL_V : Fld := ⟨.bootPartSerial, 63, 0⟩
/-- BOOT_CORE_OK[67:0], RO; R480. -/
abbrev F.BOOT_CORE_OK_OK : Fld := ⟨.bootCoreOk, 67, 0⟩
/-- FLT_CTL[31:24], RW; R425. -/
abbrev F.FLT_CTL_ATTEMPT_LIMIT : Fld := ⟨.fltCtl, 31, 24⟩
/-- FLT_CTL[23:16], RW; R425. -/
abbrev F.FLT_CTL_UE_LIMIT : Fld := ⟨.fltCtl, 23, 16⟩
/-- FLT_CTL[15:8], RW; R425. -/
abbrev F.FLT_CTL_CORE_ERR_LIMIT : Fld := ⟨.fltCtl, 15, 8⟩
/-- FLT_CTL[3:3], RW; R425. -/
abbrev F.FLT_CTL_LIVE_EN : Fld := ⟨.fltCtl, 3, 3⟩
/-- FLT_CTL[2:2], RW; R425. -/
abbrev F.FLT_CTL_AUTO_SWAP : Fld := ⟨.fltCtl, 2, 2⟩
/-- FLT_CTL[1:1], RW; R425. -/
abbrev F.FLT_CTL_AUTO_REWIND : Fld := ⟨.fltCtl, 1, 1⟩
/-- FLT_STATUS[31:24], RO; R425. -/
abbrev F.FLT_STATUS_LAST_CAUSE : Fld := ⟨.fltStatus, 31, 24⟩
/-- FLT_STATUS[5:5], RO; R425. -/
abbrev F.FLT_STATUS_SWAP_STALE : Fld := ⟨.fltStatus, 5, 5⟩
/-- FLT_STATUS[4:4], W1C; R425. -/
abbrev F.FLT_STATUS_LIMIT_SEEN : Fld := ⟨.fltStatus, 4, 4⟩
/-- FLT_STATUS[3:0], RO; R425. -/
abbrev F.FLT_STATUS_STATE : Fld := ⟨.fltStatus, 3, 0⟩
/-- FLT_CMD[3:0], WO; R425. -/
abbrev F.FLT_CMD_OP : Fld := ⟨.fltCmd, 3, 0⟩
/-- FLT_PROGRESS[63:32], RW; R425. -/
abbrev F.FLT_PROGRESS_STEP : Fld := ⟨.fltProgress, 63, 32⟩
/-- FLT_PROGRESS[15:0], RW; R425. -/
abbrev F.FLT_PROGRESS_ATTEMPT : Fld := ⟨.fltProgress, 15, 0⟩
/-- FLT_SWAP_BASE[63:0], RW; R425. -/
abbrev F.FLT_SWAP_BASE_V : Fld := ⟨.fltSwapBase, 63, 0⟩
/-- FLT_MIRROR_BASE[63:0], RW; R425. -/
abbrev F.FLT_MIRROR_BASE_V : Fld := ⟨.fltMirrorBase, 63, 0⟩
/-- FLT_INCARNATION[15:0], RO; R425. -/
abbrev F.FLT_INCARNATION_INC : Fld := ⟨.fltIncarnation, 15, 0⟩
/-- FLT_HOLDS[7:0], RO; R425. -/
abbrev F.FLT_HOLDS_N : Fld := ⟨.fltHolds, 7, 0⟩
/-- FLT_EVT_SEQ[31:0], RO; R425. -/
abbrev F.FLT_EVT_SEQ_V : Fld := ⟨.fltEvtSeq, 31, 0⟩
/-- FLT_UE_CNT[31:0], RC; R425. -/
abbrev F.FLT_UE_CNT_V : Fld := ⟨.fltUeCnt, 31, 0⟩
/-- FLT_LIVE_MISS[31:0], RC; R425. -/
abbrev F.FLT_LIVE_MISS_V : Fld := ⟨.fltLiveMiss, 31, 0⟩
/-- FLT_REWINDS[31:0], RC; R425. -/
abbrev F.FLT_REWINDS_V : Fld := ⟨.fltRewinds, 31, 0⟩
/-- FLT_TAKEOVER_LIMIT[23:0], RW; R425. -/
abbrev F.FLT_TAKEOVER_LIMIT_BEATS : Fld := ⟨.fltTakeoverLimit, 23, 0⟩
/-- FLT_LOST[63:63], RO; R425. -/
abbrev F.FLT_LOST_VALID : Fld := ⟨.fltLost, 63, 63⟩
/-- FLT_LOST[47:32], RO; R425. -/
abbrev F.FLT_LOST_INC : Fld := ⟨.fltLost, 47, 32⟩
/-- FLT_LOST[16:0], RO; R425. -/
abbrev F.FLT_LOST_CHIP : Fld := ⟨.fltLost, 16, 0⟩
/-- HL_CTL[15:8], RW; R457. -/
abbrev F.HL_CTL_SNP_BEATS : Fld := ⟨.hlCtl, 15, 8⟩
/-- HL_CTL[1:1], RW; R457. -/
abbrev F.HL_CTL_HALF1_EN : Fld := ⟨.hlCtl, 1, 1⟩
/-- HL_CTL[0:0], RW; R457. -/
abbrev F.HL_CTL_HALF0_EN : Fld := ⟨.hlCtl, 0, 0⟩
/-- HL_STATUS[16:16], RO; R457. -/
abbrev F.HL_STATUS_QUAR : Fld := ⟨.hlStatus, 16, 16⟩
/-- HL_STATUS[15:12], RO; R457. -/
abbrev F.HL_STATUS_LANES1 : Fld := ⟨.hlStatus, 15, 12⟩
/-- HL_STATUS[11:8], RO; R457. -/
abbrev F.HL_STATUS_LANES0 : Fld := ⟨.hlStatus, 11, 8⟩
/-- HL_STATUS[7:4], RO; R457. -/
abbrev F.HL_STATUS_STATE1 : Fld := ⟨.hlStatus, 7, 4⟩
/-- HL_STATUS[3:0], RO; R457. -/
abbrev F.HL_STATUS_STATE0 : Fld := ⟨.hlStatus, 3, 0⟩
/-- HL_WIN_SEL[0:0], RW; R457. -/
abbrev F.HL_WIN_SEL_Q3 : Fld := ⟨.hlWinSel, 0, 0⟩
/-- HL_CRC_ERR[31:0], RC; R457. -/
abbrev F.HL_CRC_ERR_V : Fld := ⟨.hlCrcErr, 31, 0⟩
/-- HL_RETRY[31:0], RC; R457. -/
abbrev F.HL_RETRY_V : Fld := ⟨.hlRetry, 31, 0⟩
/-- HL_SF_BACKINV[31:0], RC; R457. -/
abbrev F.HL_SF_BACKINV_V : Fld := ⟨.hlSfBackinv, 31, 0⟩
/-- HL_SNP_TIMEOUT[31:0], RC; R457. -/
abbrev F.HL_SNP_TIMEOUT_V : Fld := ⟨.hlSnpTimeout, 31, 0⟩
/-- HL_CSR_UNMAPPED[31:0], RC; R457. -/
abbrev F.HL_CSR_UNMAPPED_V : Fld := ⟨.hlCsrUnmapped, 31, 0⟩
/-- HL_VIOL[31:0], RC; R457. -/
abbrev F.HL_VIOL_V : Fld := ⟨.hlViol, 31, 0⟩
/-- HL_VIOL_LAST[7:0], RO; R457. -/
abbrev F.HL_VIOL_LAST_CODE : Fld := ⟨.hlViolLast, 7, 0⟩
/-- HL_VIOL_CFG[31:16], RW; R457. -/
abbrev F.HL_VIOL_CFG_VIOL_LIMIT : Fld := ⟨.hlViolCfg, 31, 16⟩
/-- HL_VIOL_CFG[15:0], RW; R457. -/
abbrev F.HL_VIOL_CFG_QUAR_BEATS : Fld := ⟨.hlViolCfg, 15, 0⟩
/-- HL_VIOL_WINDOW[23:0], RW; R457. -/
abbrev F.HL_VIOL_WINDOW_BEATS : Fld := ⟨.hlViolWindow, 23, 0⟩
/-- HL_QUAR_DROP[31:0], RC; R457. -/
abbrev F.HL_QUAR_DROP_V : Fld := ⟨.hlQuarDrop, 31, 0⟩
/-- HL_CMD_BASE[63:0], RW; R457. -/
abbrev F.HL_CMD_BASE_V : Fld := ⟨.hlCmdBase, 63, 0⟩
/-- HL_CMD_CTL[4:4], RW; R457. -/
abbrev F.HL_CMD_CTL_PAUSE : Fld := ⟨.hlCmdCtl, 4, 4⟩
/-- HL_CMD_CTL[3:0], RW; R457. -/
abbrev F.HL_CMD_CTL_LOG2SIZE : Fld := ⟨.hlCmdCtl, 3, 0⟩
/-- HL_CMD_DOORBELL[31:0], WO; R457. -/
abbrev F.HL_CMD_DOORBELL_V : Fld := ⟨.hlCmdDoorbell, 31, 0⟩
/-- HL_CMD_HEAD[11:0], RO; R457. -/
abbrev F.HL_CMD_HEAD_HEAD : Fld := ⟨.hlCmdHead, 11, 0⟩
/-- HL_CMD_STATUS[2:2], RO; R457. -/
abbrev F.HL_CMD_STATUS_RING_ERR : Fld := ⟨.hlCmdStatus, 2, 2⟩
/-- HL_CMD_STATUS[1:1], RO; R457. -/
abbrev F.HL_CMD_STATUS_ACTIVE : Fld := ⟨.hlCmdStatus, 1, 1⟩
/-- HL_CMD_STATUS[0:0], RO; R457. -/
abbrev F.HL_CMD_STATUS_PENDING : Fld := ⟨.hlCmdStatus, 0, 0⟩
/-- HL_EVT_BASE[63:0], RW; R457. -/
abbrev F.HL_EVT_BASE_V : Fld := ⟨.hlEvtBase, 63, 0⟩
/-- HL_EVT_CTL[31:16], RW; R457. -/
abbrev F.HL_EVT_CTL_NOTIFY_BEATS : Fld := ⟨.hlEvtCtl, 31, 16⟩
/-- HL_EVT_CTL[15:15], RO; R457. -/
abbrev F.HL_EVT_CTL_EVT_ERR : Fld := ⟨.hlEvtCtl, 15, 15⟩
/-- HL_EVT_CTL[4:4], RW; R457. -/
abbrev F.HL_EVT_CTL_NOTIFY_EN : Fld := ⟨.hlEvtCtl, 4, 4⟩
/-- HL_EVT_CTL[3:0], RW; R457. -/
abbrev F.HL_EVT_CTL_LOG2SIZE : Fld := ⟨.hlEvtCtl, 3, 0⟩
/-- HL_EVT_DOORBELL[12:0], WO; R457. -/
abbrev F.HL_EVT_DOORBELL_N : Fld := ⟨.hlEvtDoorbell, 12, 0⟩
/-- HL_EVT_TAIL[11:0], RO; R457. -/
abbrev F.HL_EVT_TAIL_TAIL : Fld := ⟨.hlEvtTail, 11, 0⟩
/-- HL_EVT_TAIL[28:16], RO; R457. -/
abbrev F.HL_EVT_TAIL_FREE : Fld := ⟨.hlEvtTail, 28, 16⟩
/-- HL_EVT_LOST[31:0], RC; R457. -/
abbrev F.HL_EVT_LOST_V : Fld := ⟨.hlEvtLost, 31, 0⟩
/-- HL_EVT_NOTIFY[63:0], RW; R457. -/
abbrev F.HL_EVT_NOTIFY_V : Fld := ⟨.hlEvtNotify, 63, 0⟩
/-- I3C_CTL[8:8], RW; R457. -/
abbrev F.I3C_CTL_IBI_EN : Fld := ⟨.i3cCtl, 8, 8⟩
/-- I3C_CTL[2:0], RW; R457. -/
abbrev F.I3C_CTL_IBI_MIN_CLASS : Fld := ⟨.i3cCtl, 2, 0⟩
/-- I3C_STATUS[7:7], RO; R457. -/
abbrev F.I3C_STATUS_ASSIGNED : Fld := ⟨.i3cStatus, 7, 7⟩
/-- I3C_STATUS[6:0], RO; R457. -/
abbrev F.I3C_STATUS_ADDR : Fld := ⟨.i3cStatus, 6, 0⟩
/-- JTAG_CTL[6:0], RW; R457. -/
abbrev F.JTAG_CTL_CHANNEL : Fld := ⟨.jtagCtl, 6, 0⟩
/-- BEAT_NOW[63:0], RO; R71. -/
abbrev F.BEAT_NOW_V : Fld := ⟨.beatNow, 63, 0⟩
/-- BEAT_FRAC[15:0], RO; R71. -/
abbrev F.BEAT_FRAC_FRAC : Fld := ⟨.beatFrac, 15, 0⟩
/-- BEAT_STATUS[31:24], RO; R71. -/
abbrev F.BEAT_STATUS_UPSTREAM : Fld := ⟨.beatStatus, 31, 24⟩
/-- BEAT_STATUS[23:16], RO; R71. -/
abbrev F.BEAT_STATUS_HOPS : Fld := ⟨.beatStatus, 23, 16⟩
/-- BEAT_STATUS[11:11], W1C; R71. -/
abbrev F.BEAT_STATUS_LATE_SEEN : Fld := ⟨.beatStatus, 11, 11⟩
/-- BEAT_STATUS[10:10], W1C; R71. -/
abbrev F.BEAT_STATUS_STEP : Fld := ⟨.beatStatus, 10, 10⟩
/-- BEAT_STATUS[9:9], W1C; R71. -/
abbrev F.BEAT_STATUS_ARM_REFUSED : Fld := ⟨.beatStatus, 9, 9⟩
/-- BEAT_STATUS[7:7], RO; R71. -/
abbrev F.BEAT_STATUS_LOCKED : Fld := ⟨.beatStatus, 7, 7⟩
/-- BEAT_STATUS[6:6], RO; R71. -/
abbrev F.BEAT_STATUS_HOLDOVER : Fld := ⟨.beatStatus, 6, 6⟩
/-- BEAT_STATUS[5:5], RO; R71. -/
abbrev F.BEAT_STATUS_VALID : Fld := ⟨.beatStatus, 5, 5⟩
/-- BEAT_STATUS[1:0], RO; R71. -/
abbrev F.BEAT_STATUS_ROLE : Fld := ⟨.beatStatus, 1, 0⟩
/-- BEAT_CTL[2:0], RW; R71. -/
abbrev F.BEAT_CTL_SYNC_LOG2 : Fld := ⟨.beatCtl, 2, 0⟩
/-- BEAT_ERR[31:0], RO; R71. -/
abbrev F.BEAT_ERR_V : Fld := ⟨.beatErr, 31, 0⟩
/-- BEAT_TRIM[31:0], RO; R71. -/
abbrev F.BEAT_TRIM_V : Fld := ⟨.beatTrim, 31, 0⟩
/-- BEAT_SET[63:0], WO; R71. -/
abbrev F.BEAT_SET_V : Fld := ⟨.beatSet, 63, 0⟩
/-- BEAT_PAT_BASE[63:0], RW; R71. -/
abbrev F.BEAT_PAT_BASE_V : Fld := ⟨.beatPatBase, 63, 0⟩
/-- BEAT_PAT_ARM[7:4], RO; R71. -/
abbrev F.BEAT_PAT_ARM_PENDING : Fld := ⟨.beatPatArm, 7, 4⟩
/-- BEAT_PAT_ARM[3:0], RW; R71. -/
abbrev F.BEAT_PAT_ARM_ARM : Fld := ⟨.beatPatArm, 3, 0⟩
/-- BEAT_PAT_LATE[31:0], RC; R71. -/
abbrev F.BEAT_PAT_LATE_V : Fld := ⟨.beatPatLate, 31, 0⟩
/-- BEAT_DL_CAP[23:0], RW; R71. -/
abbrev F.BEAT_DL_CAP_BEATS : Fld := ⟨.beatDlCap, 23, 0⟩
/-- BEAT_LATE_RX[31:0], RC; R71. -/
abbrev F.BEAT_LATE_RX_V : Fld := ⟨.beatLateRx, 31, 0⟩
/-- BEAT_CLK_STATUS[31:21], RO; R71. -/
abbrev F.BEAT_CLK_STATUS_CREC_RUN : Fld := ⟨.beatClkStatus, 31, 21⟩
/-- BEAT_CLK_STATUS[20:10], RO; R71. -/
abbrev F.BEAT_CLK_STATUS_XTAL_RUN : Fld := ⟨.beatClkStatus, 20, 10⟩
/-- BEAT_CLK_STATUS[9:9], RO; R71. -/
abbrev F.BEAT_CLK_STATUS_HREC_PRESENT : Fld := ⟨.beatClkStatus, 9, 9⟩
/-- BEAT_CLK_STATUS[8:8], RO; R71. -/
abbrev F.BEAT_CLK_STATUS_CREC_PRESENT : Fld := ⟨.beatClkStatus, 8, 8⟩
/-- BEAT_CLK_STATUS[7:7], RO; R71. -/
abbrev F.BEAT_CLK_STATUS_XTAL_PRESENT : Fld := ⟨.beatClkStatus, 7, 7⟩
/-- BEAT_CLK_STATUS[6:6], RO; R71. -/
abbrev F.BEAT_CLK_STATUS_CREC_QUAL : Fld := ⟨.beatClkStatus, 6, 6⟩
/-- BEAT_CLK_STATUS[5:5], RO; R71. -/
abbrev F.BEAT_CLK_STATUS_XTAL_QUAL : Fld := ⟨.beatClkStatus, 5, 5⟩
/-- BEAT_CLK_STATUS[4:4], W1C; R71. -/
abbrev F.BEAT_CLK_STATUS_CLK_SWITCHED : Fld := ⟨.beatClkStatus, 4, 4⟩
/-- BEAT_CLK_STATUS[3:3], W1C; R71. -/
abbrev F.BEAT_CLK_STATUS_SAFE_SEEN : Fld := ⟨.beatClkStatus, 3, 3⟩
/-- BEAT_CLK_STATUS[1:0], RO; R71. -/
abbrev F.BEAT_CLK_STATUS_SELECTED : Fld := ⟨.beatClkStatus, 1, 0⟩
/-- BEAT_CLK_CTL[0:0], RW; R71. -/
abbrev F.BEAT_CLK_CTL_PREFER : Fld := ⟨.beatClkCtl, 0, 0⟩
/-- BEAT_PORT_DELAY[31:31], RO; R71. -/
abbrev F.BEAT_PORT_DELAY_VALID : Fld := ⟨.beatPortDelay, 31, 31⟩
/-- BEAT_PORT_DELAY[23:0], RO; R71. -/
abbrev F.BEAT_PORT_DELAY_DELAY : Fld := ⟨.beatPortDelay, 23, 0⟩
/-- PWR_CAP[11:0], RW; R399. -/
abbrev F.PWR_CAP_CAP_W : Fld := ⟨.pwrCap, 11, 0⟩
/-- PWR_WINDOW[5:0], RW; R399. -/
abbrev F.PWR_WINDOW_WINDOW_S : Fld := ⟨.pwrWindow, 5, 0⟩
/-- PWR_CTL[15:8], RW; R399. -/
abbrev F.PWR_CTL_DROOP_MV : Fld := ⟨.pwrCtl, 15, 8⟩
/-- PWR_CTL[2:2], RW; R399. -/
abbrev F.PWR_CTL_TRIM_HOLD : Fld := ⟨.pwrCtl, 2, 2⟩
/-- PWR_CTL[1:1], RW; R399. -/
abbrev F.PWR_CTL_MANUAL : Fld := ⟨.pwrCtl, 1, 1⟩
/-- PWR_CTL[0:0], RW; R399. -/
abbrev F.PWR_CTL_HINTS : Fld := ⟨.pwrCtl, 0, 0⟩
/-- PWR_OP_REQ[6:4], RW; R399. -/
abbrev F.PWR_OP_REQ_DUTY_REQ : Fld := ⟨.pwrOpReq, 6, 4⟩
/-- PWR_OP_REQ[2:0], RW; R399. -/
abbrev F.PWR_OP_REQ_OP_REQ : Fld := ⟨.pwrOpReq, 2, 0⟩
/-- PWR_STATUS[15:15], RO; R399. -/
abbrev F.PWR_STATUS_FREQ_MODE : Fld := ⟨.pwrStatus, 15, 15⟩
/-- PWR_STATUS[14:12], RO; R399. -/
abbrev F.PWR_STATUS_OP_CEIL : Fld := ⟨.pwrStatus, 14, 12⟩
/-- PWR_STATUS[11:11], W1C; R399. -/
abbrev F.PWR_STATUS_FAST_SEEN : Fld := ⟨.pwrStatus, 11, 11⟩
/-- PWR_STATUS[10:10], W1C; R399. -/
abbrev F.PWR_STATUS_HINT_SHORT : Fld := ⟨.pwrStatus, 10, 10⟩
/-- PWR_STATUS[9:9], RO; R399. -/
abbrev F.PWR_STATUS_DIE_HOT : Fld := ⟨.pwrStatus, 9, 9⟩
/-- PWR_STATUS[8:8], W1C; R399. -/
abbrev F.PWR_STATUS_CAP_UNMET_SEEN : Fld := ⟨.pwrStatus, 8, 8⟩
/-- PWR_STATUS[7:7], RO; R399. -/
abbrev F.PWR_STATUS_CAP_UNMET : Fld := ⟨.pwrStatus, 7, 7⟩
/-- PWR_STATUS[6:4], RO; R399. -/
abbrev F.PWR_STATUS_DUTY : Fld := ⟨.pwrStatus, 6, 4⟩
/-- PWR_STATUS[2:0], RO; R399. -/
abbrev F.PWR_STATUS_OP : Fld := ⟨.pwrStatus, 2, 0⟩
/-- PWR_NOW[15:0], RO; R399. -/
abbrev F.PWR_NOW_W : Fld := ⟨.pwrNow, 15, 0⟩
/-- PWR_AVG[15:0], RO; R399. -/
abbrev F.PWR_AVG_W : Fld := ⟨.pwrAvg, 15, 0⟩
/-- PWR_ENERGY[63:0], RO; R399. -/
abbrev F.PWR_ENERGY_V : Fld := ⟨.pwrEnergy, 63, 0⟩
/-- PWR_CREDIT[31:0], RO; R399. -/
abbrev F.PWR_CREDIT_V : Fld := ⟨.pwrCredit, 31, 0⟩
/-- PWR_HINT_IGN[31:0], RC; R399. -/
abbrev F.PWR_HINT_IGN_V : Fld := ⟨.pwrHintIgn, 31, 0⟩
/-- PWR_HINT_DROP[31:0], RC; R399. -/
abbrev F.PWR_HINT_DROP_V : Fld := ⟨.pwrHintDrop, 31, 0⟩
/-- PWR_THERM[31:16], RW; R399. -/
abbrev F.PWR_THERM_LATE_PWR : Fld := ⟨.pwrTherm, 31, 16⟩
/-- PWR_THERM[7:0], RW; R399. -/
abbrev F.PWR_THERM_DIE_T_HI : Fld := ⟨.pwrTherm, 7, 0⟩
/-- PWR_DIE_TEMP[9:8], RO; R399. -/
abbrev F.PWR_DIE_TEMP_QUARTER : Fld := ⟨.pwrDieTemp, 9, 8⟩
/-- PWR_DIE_TEMP[7:0], RO; R399. -/
abbrev F.PWR_DIE_TEMP_TEMP : Fld := ⟨.pwrDieTemp, 7, 0⟩
/-- PWR_LATE_TX[31:0], RC; R399. -/
abbrev F.PWR_LATE_TX_V : Fld := ⟨.pwrLateTx, 31, 0⟩
/-- PWR_FAST_BEATS[31:0], RC; R399. -/
abbrev F.PWR_FAST_BEATS_V : Fld := ⟨.pwrFastBeats, 31, 0⟩
/-- PWR_TRIM[3:0], RO; R399. -/
abbrev F.PWR_TRIM_TRIM : Fld := ⟨.pwrTrim, 3, 0⟩
/-- SEC_IMGKEY[255:0], RWL; R40. -/
abbrev F.SEC_IMGKEY_V : Fld := ⟨.secImgkey, 255, 0⟩
/-- SEC_IMGKEY_VALID[7:0], RWL; R40. -/
abbrev F.SEC_IMGKEY_VALID_SLOTS : Fld := ⟨.secImgkeyValid, 7, 0⟩
/-- SEC_LOG_COUNT[63:0], RO; R480. -/
abbrev F.SEC_LOG_COUNT_V : Fld := ⟨.secLogCount, 63, 0⟩
/-- SEC_LOG_CHAIN[31:0], RO; R480. -/
abbrev F.SEC_LOG_CHAIN_V : Fld := ⟨.secLogChain, 31, 0⟩
/-- SEC_LOG_INDEX[63:0], RW; R480. -/
abbrev F.SEC_LOG_INDEX_V : Fld := ⟨.secLogIndex, 63, 0⟩
/-- SEC_LOG_ENTRY[31:0], RO; R480. -/
abbrev F.SEC_LOG_ENTRY_V : Fld := ⟨.secLogEntry, 31, 0⟩
/-- SEC_NONCE[31:0], RW; R480. -/
abbrev F.SEC_NONCE_V : Fld := ⟨.secNonce, 31, 0⟩
/-- SEC_QUOTE_CTL[4:4], W1C; R480. -/
abbrev F.SEC_QUOTE_CTL_GONE : Fld := ⟨.secQuoteCtl, 4, 4⟩
/-- SEC_QUOTE_CTL[3:3], W1C; R480. -/
abbrev F.SEC_QUOTE_CTL_REFUSED : Fld := ⟨.secQuoteCtl, 3, 3⟩
/-- SEC_QUOTE_CTL[2:2], W1C; R480. -/
abbrev F.SEC_QUOTE_CTL_DONE : Fld := ⟨.secQuoteCtl, 2, 2⟩
/-- SEC_QUOTE_CTL[1:1], RO; R480. -/
abbrev F.SEC_QUOTE_CTL_BUSY : Fld := ⟨.secQuoteCtl, 1, 1⟩
/-- SEC_QUOTE_CTL[0:0], WO; R480. -/
abbrev F.SEC_QUOTE_CTL_GO : Fld := ⟨.secQuoteCtl, 0, 0⟩
/-- SEC_QUOTE_DST[63:0], RW; R480. -/
abbrev F.SEC_QUOTE_DST_V : Fld := ⟨.secQuoteDst, 63, 0⟩
/-- SEC_ID_STATUS[0:0], RO; R480. -/
abbrev F.SEC_ID_STATUS_READY : Fld := ⟨.secIdStatus, 0, 0⟩
/-- SEC_ID_HASH[31:0], RO; R480. -/
abbrev F.SEC_ID_HASH_V : Fld := ⟨.secIdHash, 31, 0⟩
/-- MXE_CTL[1:1], WO; R102. -/
abbrev F.MXE_CTL_ABORT : Fld := ⟨.mxeCtl, 1, 1⟩
/-- MXE_CTL[0:0], RW; R102. -/
abbrev F.MXE_CTL_PAUSE : Fld := ⟨.mxeCtl, 0, 0⟩
/-- MXE_STATUS[31:24], RO; R102. -/
abbrev F.MXE_STATUS_ERR_CODE : Fld := ⟨.mxeStatus, 31, 24⟩
/-- MXE_STATUS[15:11], RO; R102. -/
abbrev F.MXE_STATUS_QDEPTH : Fld := ⟨.mxeStatus, 15, 11⟩
/-- MXE_STATUS[10:10], W1C; R102. -/
abbrev F.MXE_STATUS_POISON : Fld := ⟨.mxeStatus, 10, 10⟩
/-- MXE_STATUS[9:9], W1C; R102. -/
abbrev F.MXE_STATUS_ERR : Fld := ⟨.mxeStatus, 9, 9⟩
/-- MXE_STATUS[8:8], RO; R102. -/
abbrev F.MXE_STATUS_HELD : Fld := ⟨.mxeStatus, 8, 8⟩
/-- MXE_STATUS[3:3], RO; R102. -/
abbrev F.MXE_STATUS_DRAINING : Fld := ⟨.mxeStatus, 3, 3⟩
/-- MXE_STATUS[2:2], RO; R102. -/
abbrev F.MXE_STATUS_FILL_SET : Fld := ⟨.mxeStatus, 2, 2⟩
/-- MXE_STATUS[1:1], RO; R102. -/
abbrev F.MXE_STATUS_BUSY : Fld := ⟨.mxeStatus, 1, 1⟩
/-- MXE_ERR_CMD[63:0], RO; R102. -/
abbrev F.MXE_ERR_CMD_V : Fld := ⟨.mxeErrCmd, 63, 0⟩
/-- MXE_PASSES[63:0], RC; R102. -/
abbrev F.MXE_PASSES_V : Fld := ⟨.mxePasses, 63, 0⟩
/-- MXE_STALL_FEED[31:0], RC; R102. -/
abbrev F.MXE_STALL_FEED_V : Fld := ⟨.mxeStallFeed, 31, 0⟩
/-- MXE_STALL_DRAIN[31:0], RC; R102. -/
abbrev F.MXE_STALL_DRAIN_V : Fld := ⟨.mxeStallDrain, 31, 0⟩
/-- MXE_POISON_CNT[31:0], RC; R102. -/
abbrev F.MXE_POISON_CNT_V : Fld := ⟨.mxePoisonCnt, 31, 0⟩
/-- VXE_CTL[1:1], WO; R157. -/
abbrev F.VXE_CTL_ABORT : Fld := ⟨.vxeCtl, 1, 1⟩
/-- VXE_CTL[0:0], RW; R157. -/
abbrev F.VXE_CTL_PAUSE : Fld := ⟨.vxeCtl, 0, 0⟩
/-- VXE_STATUS[31:24], RO; R157. -/
abbrev F.VXE_STATUS_ERR_CODE : Fld := ⟨.vxeStatus, 31, 24⟩
/-- VXE_STATUS[23:16], RO; R157. -/
abbrev F.VXE_STATUS_XERR_CODE : Fld := ⟨.vxeStatus, 23, 16⟩
/-- VXE_STATUS[15:10], RO; R157. -/
abbrev F.VXE_STATUS_VQDEPTH : Fld := ⟨.vxeStatus, 15, 10⟩
/-- VXE_STATUS[9:5], RO; R157. -/
abbrev F.VXE_STATUS_XQDEPTH : Fld := ⟨.vxeStatus, 9, 5⟩
/-- VXE_STATUS[4:4], W1C; R157. -/
abbrev F.VXE_STATUS_POISON : Fld := ⟨.vxeStatus, 4, 4⟩
/-- VXE_STATUS[3:3], W1C; R157. -/
abbrev F.VXE_STATUS_XERR : Fld := ⟨.vxeStatus, 3, 3⟩
/-- VXE_STATUS[2:2], W1C; R157. -/
abbrev F.VXE_STATUS_ERR : Fld := ⟨.vxeStatus, 2, 2⟩
/-- VXE_STATUS[1:1], RO; R157. -/
abbrev F.VXE_STATUS_BUSY : Fld := ⟨.vxeStatus, 1, 1⟩
/-- VXE_ERR_INSN[63:0], RO; R157. -/
abbrev F.VXE_ERR_INSN_V : Fld := ⟨.vxeErrInsn, 63, 0⟩
/-- XLR_ERR_INSN[63:0], RO; R157. -/
abbrev F.XLR_ERR_INSN_V : Fld := ⟨.xlrErrInsn, 63, 0⟩
/-- VXE_POISON_CNT[31:0], RC; R157. -/
abbrev F.VXE_POISON_CNT_V : Fld := ⟨.vxePoisonCnt, 31, 0⟩
/-- VXE_STALL[31:0], RC; R157. -/
abbrev F.VXE_STALL_V : Fld := ⟨.vxeStall, 31, 0⟩
/-- CTC_CTL[7:0], RW; R157. -/
abbrev F.CTC_CTL_RUN : Fld := ⟨.ctcCtl, 7, 0⟩
/-- CTC_STATUS[24:24], W1C; R157. -/
abbrev F.CTC_STATUS_TOLL_FAILED : Fld := ⟨.ctcStatus, 24, 24⟩
/-- CTC_STATUS[23:16], RO; R157. -/
abbrev F.CTC_STATUS_FAULTED : Fld := ⟨.ctcStatus, 23, 16⟩
/-- CTC_STATUS[15:8], RO; R157. -/
abbrev F.CTC_STATUS_BLOCKED : Fld := ⟨.ctcStatus, 15, 8⟩
/-- CTC_STATUS[7:0], RO; R157. -/
abbrev F.CTC_STATUS_RUNNING : Fld := ⟨.ctcStatus, 7, 0⟩
/-- CTC_STALL_LOCAL[31:0], RC; R157. -/
abbrev F.CTC_STALL_LOCAL_V : Fld := ⟨.ctcStallLocal, 31, 0⟩
/-- CTC_SWITCHES[31:0], RC; R157. -/
abbrev F.CTC_SWITCHES_V : Fld := ⟨.ctcSwitches, 31, 0⟩
/-- CTC_START[63:0], RW; R157. -/
abbrev F.CTC_START_V : Fld := ⟨.ctcStart, 63, 0⟩
/-- CTC_PC[63:0], RO; R157. -/
abbrev F.CTC_PC_V : Fld := ⟨.ctcPc, 63, 0⟩
/-- CTC_FAULT[31:31], W1C; R157. -/
abbrev F.CTC_FAULT_VALID : Fld := ⟨.ctcFault, 31, 31⟩
/-- CTC_FAULT[7:0], RO; R157. -/
abbrev F.CTC_FAULT_CAUSE : Fld := ⟨.ctcFault, 7, 0⟩
/-- CTC_BANK_STALL[31:0], RC; R224. -/
abbrev F.CTC_BANK_STALL_V : Fld := ⟨.ctcBankStall, 31, 0⟩
/-- CTC_BANK_LAST[31:0], RO; R224. -/
abbrev F.CTC_BANK_LAST_V : Fld := ⟨.ctcBankLast, 31, 0⟩
/-- TAP_VALUE[31:0], RO; R157. -/
abbrev F.TAP_VALUE_V : Fld := ⟨.tapValue, 31, 0⟩
/-- TAP_CMD[31:31], WO; R157. -/
abbrev F.TAP_CMD_OP : Fld := ⟨.tapCmd, 31, 31⟩
/-- TAP_CMD[30:0], WO; R157. -/
abbrev F.TAP_CMD_VALUE : Fld := ⟨.tapCmd, 30, 0⟩
/-- TAP_OVF[63:0], W1C; R157. -/
abbrev F.TAP_OVF_V : Fld := ⟨.tapOvf, 63, 0⟩
/-- SXU_CTL[1:1], WO; R224. -/
abbrev F.SXU_CTL_ABORT : Fld := ⟨.sxuCtl, 1, 1⟩
/-- SXU_CTL[0:0], RW; R224. -/
abbrev F.SXU_CTL_PAUSE : Fld := ⟨.sxuCtl, 0, 0⟩
/-- SXU_STATUS[24:16], RO; R224. -/
abbrev F.SXU_STATUS_TAGS : Fld := ⟨.sxuStatus, 24, 16⟩
/-- SXU_STATUS[5:5], RO; R224. -/
abbrev F.SXU_STATUS_BUSY : Fld := ⟨.sxuStatus, 5, 5⟩
/-- SXU_STATUS[4:0], RO; R224. -/
abbrev F.SXU_STATUS_CONTEXTS : Fld := ⟨.sxuStatus, 4, 0⟩
/-- SXU_PF_CTL[16:8], RW; R224. -/
abbrev F.SXU_PF_CTL_MAX_TAGS : Fld := ⟨.sxuPfCtl, 16, 8⟩
/-- SXU_PF_CTL[0:0], RW; R224. -/
abbrev F.SXU_PF_CTL_AUTO : Fld := ⟨.sxuPfCtl, 0, 0⟩
/-- SXU_PF_ISSUED[63:0], RC; R224. -/
abbrev F.SXU_PF_ISSUED_V : Fld := ⟨.sxuPfIssued, 63, 0⟩
/-- SXU_PF_USED[63:0], RC; R224. -/
abbrev F.SXU_PF_USED_V : Fld := ⟨.sxuPfUsed, 63, 0⟩
/-- SXU_PF_LATE[63:0], RC; R224. -/
abbrev F.SXU_PF_LATE_V : Fld := ⟨.sxuPfLate, 63, 0⟩
/-- SXU_PF_UNUSED[63:0], RC; R224. -/
abbrev F.SXU_PF_UNUSED_V : Fld := ⟨.sxuPfUnused, 63, 0⟩
/-- SXU_PF_SLACK[63:0], RC; R224. -/
abbrev F.SXU_PF_SLACK_V : Fld := ⟨.sxuPfSlack, 63, 0⟩
/-- SXU_PF_SNARED[63:0], RC; R224. -/
abbrev F.SXU_PF_SNARED_V : Fld := ⟨.sxuPfSnared, 63, 0⟩
/-- SXU_PF_REDUNDANT[63:0], RC; R224. -/
abbrev F.SXU_PF_REDUNDANT_V : Fld := ⟨.sxuPfRedundant, 63, 0⟩
/-- SXU_RELAY_WAIT[31:0], RC; R224. -/
abbrev F.SXU_RELAY_WAIT_V : Fld := ⟨.sxuRelayWait, 31, 0⟩
/-- SXU_ERR_CNT[31:0], RC; R224. -/
abbrev F.SXU_ERR_CNT_V : Fld := ⟨.sxuErrCnt, 31, 0⟩
/-- DMA_CTL[0:0], RW; R224. -/
abbrev F.DMA_CTL_DISABLE : Fld := ⟨.dmaCtl, 0, 0⟩
/-- DMA_STATUS[21:21], RO; R224. -/
abbrev F.DMA_STATUS_BUSY : Fld := ⟨.dmaStatus, 21, 21⟩
/-- DMA_STATUS[20:16], RO; R224. -/
abbrev F.DMA_STATUS_ACTIVE : Fld := ⟨.dmaStatus, 20, 16⟩
/-- DMA_STATUS[15:0], RO; R224. -/
abbrev F.DMA_STATUS_PENDING : Fld := ⟨.dmaStatus, 15, 0⟩
/-- DMA_DOORBELL[15:0], WO; R224. -/
abbrev F.DMA_DOORBELL_RING : Fld := ⟨.dmaDoorbell, 15, 0⟩
/-- DMA_ERR_CNT[31:0], RC; R224. -/
abbrev F.DMA_ERR_CNT_V : Fld := ⟨.dmaErrCnt, 31, 0⟩
/-- DMA_BYTES[63:0], RC; R224. -/
abbrev F.DMA_BYTES_V : Fld := ⟨.dmaBytes, 63, 0⟩
/-- DMA_RING_ERR[15:0], RO; R224. -/
abbrev F.DMA_RING_ERR_CH : Fld := ⟨.dmaRingErr, 15, 0⟩
/-- DMA_RING_BASE[63:0], RW; R224. -/
abbrev F.DMA_RING_BASE_V : Fld := ⟨.dmaRingBase, 63, 0⟩
/-- DMA_RING_CTL[3:0], RW; R224. -/
abbrev F.DMA_RING_CTL_LOG2SIZE : Fld := ⟨.dmaRingCtl, 3, 0⟩
/-- DMA_RING_HEAD[11:0], RO; R224. -/
abbrev F.DMA_RING_HEAD_HEAD : Fld := ⟨.dmaRingHead, 11, 0⟩
/-- MEM_CTL[0:0], RW; R254. -/
abbrev F.MEM_CTL_SCRUB_EN : Fld := ⟨.memCtl, 0, 0⟩
/-- MEM_STATUS[2:2], W1C; R254. -/
abbrev F.MEM_STATUS_NS_UE : Fld := ⟨.memStatus, 2, 2⟩
/-- MEM_STATUS[1:1], W1C; R254. -/
abbrev F.MEM_STATUS_NS_CE : Fld := ⟨.memStatus, 1, 1⟩
/-- MEM_STATUS[0:0], W1C; R254. -/
abbrev F.MEM_STATUS_STG_PAR : Fld := ⟨.memStatus, 0, 0⟩
/-- MEM_ERR_ADDR[31:31], RO; R254. -/
abbrev F.MEM_ERR_ADDR_NS : Fld := ⟨.memErrAddr, 31, 31⟩
/-- MEM_ERR_ADDR[22:0], RO; R254. -/
abbrev F.MEM_ERR_ADDR_OFFSET : Fld := ⟨.memErrAddr, 22, 0⟩
/-- STG_PAR_CNT[31:0], RC; R254. -/
abbrev F.STG_PAR_CNT_V : Fld := ⟨.stgParCnt, 31, 0⟩
/-- NS_CE_CNT[31:0], RC; R254. -/
abbrev F.NS_CE_CNT_V : Fld := ⟨.nsCeCnt, 31, 0⟩
/-- NS_UE_CNT[31:0], RC; R254. -/
abbrev F.NS_UE_CNT_V : Fld := ⟨.nsUeCnt, 31, 0⟩
/-- SHD_GATHER[31:31], WO; R378. -/
abbrev F.SHD_GATHER_PASS : Fld := ⟨.shdGather, 31, 31⟩
/-- SHD_GATHER[9:0], WO; R378. -/
abbrev F.SHD_GATHER_GROUP : Fld := ⟨.shdGather, 9, 0⟩
/-- SHD_GRESULT[63:60], RO; R378. -/
abbrev F.SHD_GRESULT_STATUS : Fld := ⟨.shdGresult, 63, 60⟩
/-- SHD_GRESULT[32:32], RO; R378. -/
abbrev F.SHD_GRESULT_BANK : Fld := ⟨.shdGresult, 32, 32⟩
/-- SHD_GRESULT[31:0], RO; R378. -/
abbrev F.SHD_GRESULT_VERSION : Fld := ⟨.shdGresult, 31, 0⟩
/-- PWR_DROOP_CNT[31:0], RC; R399. -/
abbrev F.PWR_DROOP_CNT_V : Fld := ⟨.pwrDroopCnt, 31, 0⟩
/-- PWR_CORE_FREQ[18:16], RO; R399. -/
abbrev F.PWR_CORE_FREQ_STEPS : Fld := ⟨.pwrCoreFreq, 18, 16⟩
/-- PWR_CORE_FREQ[15:0], RO; R399. -/
abbrev F.PWR_CORE_FREQ_MHZ : Fld := ⟨.pwrCoreFreq, 15, 0⟩
/-- SHC_ATOM_CTL[0:0], RW; R254. -/
abbrev F.SHC_ATOM_CTL_RED_EN : Fld := ⟨.shcAtomCtl, 0, 0⟩
/-- SHC_STATUS[11:8], RO; R254. -/
abbrev F.SHC_STATUS_PINNED : Fld := ⟨.shcStatus, 11, 8⟩
/-- SHC_STATUS[2:2], W1C; R254. -/
abbrev F.SHC_STATUS_TAG_ERR : Fld := ⟨.shcStatus, 2, 2⟩
/-- SHC_STATUS[1:1], W1C; R254. -/
abbrev F.SHC_STATUS_UE : Fld := ⟨.shcStatus, 1, 1⟩
/-- SHC_STATUS[0:0], W1C; R254. -/
abbrev F.SHC_STATUS_CE : Fld := ⟨.shcStatus, 0, 0⟩
/-- SHC_HITS[63:0], RC; R254. -/
abbrev F.SHC_HITS_V : Fld := ⟨.shcHits, 63, 0⟩
/-- SHC_MISSES[63:0], RC; R254. -/
abbrev F.SHC_MISSES_V : Fld := ⟨.shcMisses, 63, 0⟩
/-- SHC_CE_CNT[31:0], RC; R254. -/
abbrev F.SHC_CE_CNT_V : Fld := ⟨.shcCeCnt, 31, 0⟩
/-- SHC_UE_CNT[31:0], RC; R254. -/
abbrev F.SHC_UE_CNT_V : Fld := ⟨.shcUeCnt, 31, 0⟩
/-- SHC_ATOM_CNT[31:0], RC; R254. -/
abbrev F.SHC_ATOM_CNT_V : Fld := ⟨.shcAtomCnt, 31, 0⟩
/-- SHC_RED_ERR[31:0], RC; R254. -/
abbrev F.SHC_RED_ERR_V : Fld := ⟨.shcRedErr, 31, 0⟩
/-- SHC_WAY_RETIRED[15:0], RO; R254. -/
abbrev F.SHC_WAY_RETIRED_WAYS : Fld := ⟨.shcWayRetired, 15, 0⟩
/-- SHC_RED_BASE[63:63], RW; R254. -/
abbrev F.SHC_RED_BASE_ENABLE : Fld := ⟨.shcRedBase, 63, 63⟩
/-- SHC_RED_BASE[62:60], RW; R254. -/
abbrev F.SHC_RED_BASE_OP : Fld := ⟨.shcRedBase, 62, 60⟩
/-- SHC_RED_BASE[59:57], RW; R254. -/
abbrev F.SHC_RED_BASE_FMT : Fld := ⟨.shcRedBase, 59, 57⟩
/-- SHC_RED_BASE[39:21], RW; R254. -/
abbrev F.SHC_RED_BASE_BASE : Fld := ⟨.shcRedBase, 39, 21⟩
/-- SHC_RED_LIM[18:0], RW; R254. -/
abbrev F.SHC_RED_LIM_PAGES : Fld := ⟨.shcRedLim, 18, 0⟩
/-- MCH_CTL[15:8], RW; R283. -/
abbrev F.MCH_CTL_PIN_LIMIT : Fld := ⟨.mchCtl, 15, 8⟩
/-- MCH_CTL[1:1], RW; R283. -/
abbrev F.MCH_CTL_AUTO_RETRAIN : Fld := ⟨.mchCtl, 1, 1⟩
/-- MCH_CTL[0:0], RW; R283. -/
abbrev F.MCH_CTL_SCRUB_EN : Fld := ⟨.mchCtl, 0, 0⟩
/-- MCH_GCMD[1:0], WO; R283. -/
abbrev F.MCH_GCMD_CMD : Fld := ⟨.mchGcmd, 1, 0⟩
/-- MCH_GSTATE[23:16], RO; R283. -/
abbrev F.MCH_GSTATE_CHANNELS : Fld := ⟨.mchGstate, 23, 16⟩
/-- MCH_GSTATE[15:8], RO; R283. -/
abbrev F.MCH_GSTATE_REASON : Fld := ⟨.mchGstate, 15, 8⟩
/-- MCH_GSTATE[2:2], W1C; R283. -/
abbrev F.MCH_GSTATE_REFUSED : Fld := ⟨.mchGstate, 2, 2⟩
/-- MCH_GSTATE[1:0], RO; R283. -/
abbrev F.MCH_GSTATE_STATE : Fld := ⟨.mchGstate, 1, 0⟩
/-- MCH_CAP[63:0], RO; R283. -/
abbrev F.MCH_CAP_V : Fld := ⟨.mchCap, 63, 0⟩
/-- MCH_MAP[127:0], RW; R283. -/
abbrev F.MCH_MAP_V : Fld := ⟨.mchMap, 127, 0⟩
/-- MCH_THERM_CTL[15:0], RW; R283. -/
abbrev F.MCH_THERM_CTL_LATE_BEATS : Fld := ⟨.mchThermCtl, 15, 0⟩
/-- MCH_LATE_TX[31:0], RC; R283. -/
abbrev F.MCH_LATE_TX_V : Fld := ⟨.mchLateTx, 31, 0⟩
/-- MCH_TEMP[31:31], RO; R283. -/
abbrev F.MCH_TEMP_SENSOR_FAIL : Fld := ⟨.mchTemp, 31, 31⟩
/-- MCH_TEMP[30:30], RO; R283. -/
abbrev F.MCH_TEMP_EMERGENCY : Fld := ⟨.mchTemp, 30, 30⟩
/-- MCH_TEMP[29:29], W1C; R283. -/
abbrev F.MCH_TEMP_EMERG_SEEN : Fld := ⟨.mchTemp, 29, 29⟩
/-- MCH_TEMP[28:28], RO; R283. -/
abbrev F.MCH_TEMP_REF_HALF : Fld := ⟨.mchTemp, 28, 28⟩
/-- MCH_TEMP[18:16], RO; R283. -/
abbrev F.MCH_TEMP_LEVEL : Fld := ⟨.mchTemp, 18, 16⟩
/-- MCH_TEMP[7:0], RO; R283. -/
abbrev F.MCH_TEMP_TEMP : Fld := ⟨.mchTemp, 7, 0⟩
/-- MCH_CH_STATE[27:24], RO; R283. -/
abbrev F.MCH_CH_STATE_REASON : Fld := ⟨.mchChState, 27, 24⟩
/-- MCH_CH_STATE[9:9], W1C; R283. -/
abbrev F.MCH_CH_STATE_TG_DONE : Fld := ⟨.mchChState, 9, 9⟩
/-- MCH_CH_STATE[8:8], RO; R283. -/
abbrev F.MCH_CH_STATE_TG_RUN : Fld := ⟨.mchChState, 8, 8⟩
/-- MCH_CH_STATE[7:7], W1C; R283. -/
abbrev F.MCH_CH_STATE_CMD_REFUSED : Fld := ⟨.mchChState, 7, 7⟩
/-- MCH_CH_STATE[6:6], W1C; R283. -/
abbrev F.MCH_CH_STATE_PIN_EXHAUSTED : Fld := ⟨.mchChState, 6, 6⟩
/-- MCH_CH_STATE[5:5], RO; R283. -/
abbrev F.MCH_CH_STATE_RETRAIN_PENDING : Fld := ⟨.mchChState, 5, 5⟩
/-- MCH_CH_STATE[2:0], RO; R283. -/
abbrev F.MCH_CH_STATE_STATE : Fld := ⟨.mchChState, 2, 0⟩
/-- MCH_CH_CMD[1:0], WO; R283. -/
abbrev F.MCH_CH_CMD_CMD : Fld := ⟨.mchChCmd, 1, 0⟩
/-- MCH_CE[31:0], RC; R283. -/
abbrev F.MCH_CE_V : Fld := ⟨.mchCe, 31, 0⟩
/-- MCH_UE[31:0], RC; R283. -/
abbrev F.MCH_UE_V : Fld := ⟨.mchUe, 31, 0⟩
/-- MCH_POISON[31:0], RC; R283. -/
abbrev F.MCH_POISON_V : Fld := ⟨.mchPoison, 31, 0⟩
/-- MCH_AGE_MAX[31:0], RC; R283. -/
abbrev F.MCH_AGE_MAX_V : Fld := ⟨.mchAgeMax, 31, 0⟩
/-- MCH_REPAIR[27:21], RO; R283. -/
abbrev F.MCH_REPAIR_P0_SPARE1 : Fld := ⟨.mchRepair, 27, 21⟩
/-- MCH_REPAIR[20:14], RO; R283. -/
abbrev F.MCH_REPAIR_P0_SPARE0 : Fld := ⟨.mchRepair, 20, 14⟩
/-- MCH_REPAIR[13:7], RO; R283. -/
abbrev F.MCH_REPAIR_P0_ERASE1 : Fld := ⟨.mchRepair, 13, 7⟩
/-- MCH_REPAIR[6:0], RO; R283. -/
abbrev F.MCH_REPAIR_P0_ERASE0 : Fld := ⟨.mchRepair, 6, 0⟩
/-- MCH_REPAIR[59:53], RO; R283. -/
abbrev F.MCH_REPAIR_P1_SPARE1 : Fld := ⟨.mchRepair, 59, 53⟩
/-- MCH_REPAIR[52:46], RO; R283. -/
abbrev F.MCH_REPAIR_P1_SPARE0 : Fld := ⟨.mchRepair, 52, 46⟩
/-- MCH_REPAIR[45:39], RO; R283. -/
abbrev F.MCH_REPAIR_P1_ERASE1 : Fld := ⟨.mchRepair, 45, 39⟩
/-- MCH_REPAIR[38:32], RO; R283. -/
abbrev F.MCH_REPAIR_P1_ERASE0 : Fld := ⟨.mchRepair, 38, 32⟩
/-- MCH_LAST_CE[6:6], RO; R283. -/
abbrev F.MCH_LAST_CE_PC : Fld := ⟨.mchLastCe, 6, 6⟩
/-- MCH_LAST_CE[5:0], RO; R283. -/
abbrev F.MCH_LAST_CE_LANE : Fld := ⟨.mchLastCe, 5, 0⟩
/-- MCH_TG_CTL[63:48], RW; R283. -/
abbrev F.MCH_TG_CTL_LOOPS : Fld := ⟨.mchTgCtl, 63, 48⟩
/-- MCH_TG_CTL[31:8], RW; R283. -/
abbrev F.MCH_TG_CTL_SEED : Fld := ⟨.mchTgCtl, 31, 8⟩
/-- MCH_TG_CTL[7:4], RW; R283. -/
abbrev F.MCH_TG_CTL_PATTERN : Fld := ⟨.mchTgCtl, 7, 4⟩
/-- MCH_TG_CTL[3:2], RW; R283. -/
abbrev F.MCH_TG_CTL_OP : Fld := ⟨.mchTgCtl, 3, 2⟩
/-- MCH_TG_CTL[1:1], RW; R283. -/
abbrev F.MCH_TG_CTL_RAW : Fld := ⟨.mchTgCtl, 1, 1⟩
/-- MCH_TG_CTL[0:0], RW; R283. -/
abbrev F.MCH_TG_CTL_START : Fld := ⟨.mchTgCtl, 0, 0⟩
/-- MCH_TG_RANGE[55:32], RW; R283. -/
abbrev F.MCH_TG_RANGE_COUNT : Fld := ⟨.mchTgRange, 55, 32⟩
/-- MCH_TG_RANGE[23:0], RW; R283. -/
abbrev F.MCH_TG_RANGE_FIRST : Fld := ⟨.mchTgRange, 23, 0⟩
/-- MCH_TG_ERRS[31:0], RC; R283. -/
abbrev F.MCH_TG_ERRS_V : Fld := ⟨.mchTgErrs, 31, 0⟩
/-- MCH_TG_FIRST[63:63], RO; R283. -/
abbrev F.MCH_TG_FIRST_VALID : Fld := ⟨.mchTgFirst, 63, 63⟩
/-- MCH_TG_FIRST[45:40], RO; R283. -/
abbrev F.MCH_TG_FIRST_LANE : Fld := ⟨.mchTgFirst, 45, 40⟩
/-- MCH_TG_FIRST[32:32], RO; R283. -/
abbrev F.MCH_TG_FIRST_PC : Fld := ⟨.mchTgFirst, 32, 32⟩
/-- MCH_TG_FIRST[26:24], RO; R283. -/
abbrev F.MCH_TG_FIRST_BURST : Fld := ⟨.mchTgFirst, 26, 24⟩
/-- MCH_TG_FIRST[23:0], RO; R283. -/
abbrev F.MCH_TG_FIRST_UNIT : Fld := ⟨.mchTgFirst, 23, 0⟩
/-- MCH_TG_LANES0[35:0], RO; R283. -/
abbrev F.MCH_TG_LANES0_LANES : Fld := ⟨.mchTgLanes0, 35, 0⟩
/-- MCH_TG_LANES1[63:0], RO; R283. -/
abbrev F.MCH_TG_LANES1_V : Fld := ⟨.mchTgLanes1, 63, 0⟩
/-- FAB_PORT_CTL[31:16], RW; R323. -/
abbrev F.FAB_PORT_CTL_LANE_LIMIT : Fld := ⟨.fabPortCtl, 31, 16⟩
/-- FAB_PORT_CTL[1:1], WO; R323. -/
abbrev F.FAB_PORT_CTL_RETRAIN : Fld := ⟨.fabPortCtl, 1, 1⟩
/-- FAB_PORT_CTL[0:0], RW; R323. -/
abbrev F.FAB_PORT_CTL_ENABLE : Fld := ⟨.fabPortCtl, 0, 0⟩
/-- FAB_PORT_STATUS[31:24], RO; R323. -/
abbrev F.FAB_PORT_STATUS_REASON : Fld := ⟨.fabPortStatus, 31, 24⟩
/-- FAB_PORT_STATUS[23:16], RO; R323. -/
abbrev F.FAB_PORT_STATUS_RX_LANES : Fld := ⟨.fabPortStatus, 23, 16⟩
/-- FAB_PORT_STATUS[15:8], RO; R323. -/
abbrev F.FAB_PORT_STATUS_TX_LANES : Fld := ⟨.fabPortStatus, 15, 8⟩
/-- FAB_PORT_STATUS[7:7], RO; R323. -/
abbrev F.FAB_PORT_STATUS_QUAR : Fld := ⟨.fabPortStatus, 7, 7⟩
/-- FAB_PORT_STATUS[6:6], RO; R323. -/
abbrev F.FAB_PORT_STATUS_KEY_PHASE : Fld := ⟨.fabPortStatus, 6, 6⟩
/-- FAB_PORT_STATUS[2:0], RO; R323. -/
abbrev F.FAB_PORT_STATUS_STATE : Fld := ⟨.fabPortStatus, 2, 0⟩
/-- FAB_PORT_PSERIAL[63:0], RO; R323. -/
abbrev F.FAB_PORT_PSERIAL_V : Fld := ⟨.fabPortPserial, 63, 0⟩
/-- FAB_PORT_PCHIP[20:17], RO; R323. -/
abbrev F.FAB_PORT_PCHIP_PORT : Fld := ⟨.fabPortPchip, 20, 17⟩
/-- FAB_PORT_PCHIP[16:0], RO; R323. -/
abbrev F.FAB_PORT_PCHIP_CHIP : Fld := ⟨.fabPortPchip, 16, 0⟩
/-- FAB_FEC_CE[31:0], RC; R323. -/
abbrev F.FAB_FEC_CE_V : Fld := ⟨.fabFecCe, 31, 0⟩
/-- FAB_FEC_UE[31:0], RC; R323. -/
abbrev F.FAB_FEC_UE_V : Fld := ⟨.fabFecUe, 31, 0⟩
/-- FAB_CRC_ERR[31:0], RC; R323. -/
abbrev F.FAB_CRC_ERR_V : Fld := ⟨.fabCrcErr, 31, 0⟩
/-- FAB_RETRY[31:0], RC; R323. -/
abbrev F.FAB_RETRY_V : Fld := ⟨.fabRetry, 31, 0⟩
/-- FAB_GCM_FAIL[31:0], RC; R323. -/
abbrev F.FAB_GCM_FAIL_V : Fld := ⟨.fabGcmFail, 31, 0⟩
/-- FAB_VIOL[31:0], RC; R323. -/
abbrev F.FAB_VIOL_V : Fld := ⟨.fabViol, 31, 0⟩
/-- FAB_VIOL_LAST[31:24], RO; R323. -/
abbrev F.FAB_VIOL_LAST_CODE : Fld := ⟨.fabViolLast, 31, 24⟩
/-- FAB_VIOL_LAST[16:0], RO; R323. -/
abbrev F.FAB_VIOL_LAST_SRC : Fld := ⟨.fabViolLast, 16, 0⟩
/-- FAB_QUAR_DROP[31:0], RC; R323. -/
abbrev F.FAB_QUAR_DROP_V : Fld := ⟨.fabQuarDrop, 31, 0⟩
/-- FAB_REKEYS[31:0], RC; R323. -/
abbrev F.FAB_REKEYS_V : Fld := ⟨.fabRekeys, 31, 0⟩
/-- FAB_TX_BYTES[63:0], RC; R323. -/
abbrev F.FAB_TX_BYTES_V : Fld := ⟨.fabTxBytes, 63, 0⟩
/-- FAB_RX_BYTES[63:0], RC; R323. -/
abbrev F.FAB_RX_BYTES_V : Fld := ⟨.fabRxBytes, 63, 0⟩
/-- FAB_LANE_CE[63:0], RO; R323. -/
abbrev F.FAB_LANE_CE_V : Fld := ⟨.fabLaneCe, 63, 0⟩
/-- FAB_CFG[15:8], RW; R323. -/
abbrev F.FAB_CFG_TTL : Fld := ⟨.fabCfg, 15, 8⟩
/-- FAB_CFG[2:0], RW; R323. -/
abbrev F.FAB_CFG_RSHIFT : Fld := ⟨.fabCfg, 2, 0⟩
/-- FAB_VIOL_CFG[31:16], RW; R323. -/
abbrev F.FAB_VIOL_CFG_VIOL_LIMIT : Fld := ⟨.fabViolCfg, 31, 16⟩
/-- FAB_VIOL_CFG[15:0], RW; R323. -/
abbrev F.FAB_VIOL_CFG_QUAR_BEATS : Fld := ⟨.fabViolCfg, 15, 0⟩
/-- FAB_VIOL_WINDOW[23:0], RW; R323. -/
abbrev F.FAB_VIOL_WINDOW_BEATS : Fld := ⟨.fabViolWindow, 23, 0⟩
/-- FAB_TORUS[56:40], RW; R323. -/
abbrev F.FAB_TORUS_BASE : Fld := ⟨.fabTorus, 56, 40⟩
/-- FAB_TORUS[17:12], RW; R323. -/
abbrev F.FAB_TORUS_ZM1 : Fld := ⟨.fabTorus, 17, 12⟩
/-- FAB_TORUS[11:6], RW; R323. -/
abbrev F.FAB_TORUS_YM1 : Fld := ⟨.fabTorus, 11, 6⟩
/-- FAB_TORUS[5:0], RW; R323. -/
abbrev F.FAB_TORUS_XM1 : Fld := ⟨.fabTorus, 5, 0⟩
/-- FAB_TORUS_PORTS[29:25], RW; R323. -/
abbrev F.FAB_TORUS_PORTS_MZ : Fld := ⟨.fabTorusPorts, 29, 25⟩
/-- FAB_TORUS_PORTS[24:20], RW; R323. -/
abbrev F.FAB_TORUS_PORTS_PZ : Fld := ⟨.fabTorusPorts, 24, 20⟩
/-- FAB_TORUS_PORTS[19:15], RW; R323. -/
abbrev F.FAB_TORUS_PORTS_MY : Fld := ⟨.fabTorusPorts, 19, 15⟩
/-- FAB_TORUS_PORTS[14:10], RW; R323. -/
abbrev F.FAB_TORUS_PORTS_PY : Fld := ⟨.fabTorusPorts, 14, 10⟩
/-- FAB_TORUS_PORTS[9:5], RW; R323. -/
abbrev F.FAB_TORUS_PORTS_MX : Fld := ⟨.fabTorusPorts, 9, 5⟩
/-- FAB_TORUS_PORTS[4:0], RW; R323. -/
abbrev F.FAB_TORUS_PORTS_PX : Fld := ⟨.fabTorusPorts, 4, 0⟩
/-- FAB_NOROUTE[31:0], RC; R323. -/
abbrev F.FAB_NOROUTE_V : Fld := ⟨.fabNoroute, 31, 0⟩
/-- FAB_TTL_DROP[31:0], RC; R323. -/
abbrev F.FAB_TTL_DROP_V : Fld := ⟨.fabTtlDrop, 31, 0⟩
/-- KVR_BUSY[31:0], RC; R184. -/
abbrev F.KVR_BUSY_V : Fld := ⟨.kvrBusy, 31, 0⟩
/-- KVR_REJECTS[31:0], RC; R184. -/
abbrev F.KVR_REJECTS_V : Fld := ⟨.kvrRejects, 31, 0⟩
/-- KVR_ABORTS[31:0], RC; R184. -/
abbrev F.KVR_ABORTS_V : Fld := ⟨.kvrAborts, 31, 0⟩
/-- KVR_RETRIES[31:0], RC; R184. -/
abbrev F.KVR_RETRIES_V : Fld := ⟨.kvrRetries, 31, 0⟩
/-- KVR_REJECTS_TX[31:0], RC; R184. -/
abbrev F.KVR_REJECTS_TX_V : Fld := ⟨.kvrRejectsTx, 31, 0⟩
/-- KVR_ADDR[53:48], RW; R184. -/
abbrev F.KVR_ADDR_LCI : Fld := ⟨.kvrAddr, 53, 48⟩
/-- KVR_ADDR[22:0], RW; R184. -/
abbrev F.KVR_ADDR_OFFSET : Fld := ⟨.kvrAddr, 22, 0⟩
/-- KVR_EXPECT[63:48], RW; R184. -/
abbrev F.KVR_EXPECT_LAYER : Fld := ⟨.kvrExpect, 63, 48⟩
/-- KVR_EXPECT[47:32], RW; R184. -/
abbrev F.KVR_EXPECT_ATTEMPT : Fld := ⟨.kvrExpect, 47, 32⟩
/-- KVR_EXPECT[31:0], RW; R184. -/
abbrev F.KVR_EXPECT_STEP : Fld := ⟨.kvrExpect, 31, 0⟩
/-- KVR_SEL[31:16], RW; R184. -/
abbrev F.KVR_SEL_ROUND : Fld := ⟨.kvrSel, 31, 16⟩
/-- KVR_SEL[13:8], RW; R184. -/
abbrev F.KVR_SEL_TAP : Fld := ⟨.kvrSel, 13, 8⟩
/-- KVR_SEL[5:0], RW; R184. -/
abbrev F.KVR_SEL_TAP_LCI : Fld := ⟨.kvrSel, 5, 0⟩
/-- KVR_LEN[22:0], RW; R184. -/
abbrev F.KVR_LEN_LEN : Fld := ⟨.kvrLen, 22, 0⟩
/-- KVR_CMD[1:0], WO; R184. -/
abbrev F.KVR_CMD_CMD : Fld := ⟨.kvrCmd, 1, 0⟩
/-- KVR_STATE[31:24], RO; R184. -/
abbrev F.KVR_STATE_REASON : Fld := ⟨.kvrState, 31, 24⟩
/-- KVR_STATE[2:2], W1C; R184. -/
abbrev F.KVR_STATE_ARM_REFUSED : Fld := ⟨.kvrState, 2, 2⟩
/-- KVR_STATE[1:0], RO; R184. -/
abbrev F.KVR_STATE_STATE : Fld := ⟨.kvrState, 1, 0⟩
/-- FAB_ROUTE[63:63], RW; R323. -/
abbrev F.FAB_ROUTE_VALID : Fld := ⟨.fabRoute, 63, 63⟩
/-- FAB_ROUTE[62:61], RW; R323. -/
abbrev F.FAB_ROUTE_MODE : Fld := ⟨.fabRoute, 62, 61⟩
/-- FAB_ROUTE[55:52], RW; R323. -/
abbrev F.FAB_ROUTE_PRIMARY : Fld := ⟨.fabRoute, 55, 52⟩
/-- FAB_ROUTE[51:48], RW; R323. -/
abbrev F.FAB_ROUTE_ALTERNATE : Fld := ⟨.fabRoute, 51, 48⟩
/-- FAB_ROUTE[47:47], RW; R323. -/
abbrev F.FAB_ROUTE_ALT_EN : Fld := ⟨.fabRoute, 47, 47⟩
/-- COL_DESC0[55:40], RW; R357. -/
abbrev F.COL_DESC0_EPOCH : Fld := ⟨.colDesc0, 55, 40⟩
/-- COL_DESC0[39:34], RW; R357. -/
abbrev F.COL_DESC0_BASIS : Fld := ⟨.colDesc0, 39, 34⟩
/-- COL_DESC0[33:27], RW; R357. -/
abbrev F.COL_DESC0_RANK : Fld := ⟨.colDesc0, 33, 27⟩
/-- COL_DESC0[26:25], RW; R357. -/
abbrev F.COL_DESC0_ELEM : Fld := ⟨.colDesc0, 26, 25⟩
/-- COL_DESC0[24:24], RW; R357. -/
abbrev F.COL_DESC0_WIRE : Fld := ⟨.colDesc0, 24, 24⟩
/-- COL_DESC0[23:8], RW; R357. -/
abbrev F.COL_DESC0_TREE_ID : Fld := ⟨.colDesc0, 23, 8⟩
/-- COL_DESC0[5:4], RW; R357. -/
abbrev F.COL_DESC0_QUARTER : Fld := ⟨.colDesc0, 5, 4⟩
/-- COL_DESC0[3:0], RW; R357. -/
abbrev F.COL_DESC0_KIND : Fld := ⟨.colDesc0, 3, 0⟩
/-- COL_DESC1[63:48], RW; R357. -/
abbrev F.COL_DESC1_BUCKET : Fld := ⟨.colDesc1, 63, 48⟩
/-- COL_DESC1[47:32], RW; R357. -/
abbrev F.COL_DESC1_ATTEMPT : Fld := ⟨.colDesc1, 47, 32⟩
/-- COL_DESC1[31:0], RW; R357. -/
abbrev F.COL_DESC1_STEP : Fld := ⟨.colDesc1, 31, 0⟩
/-- COL_SRC[63:0], RW; R357. -/
abbrev F.COL_SRC_V : Fld := ⟨.colSrc, 63, 0⟩
/-- COL_DST[63:0], RW; R357. -/
abbrev F.COL_DST_V : Fld := ⟨.colDst, 63, 0⟩
/-- COL_BYTES[26:0], RW; R357. -/
abbrev F.COL_BYTES_BYTES : Fld := ⟨.colBytes, 26, 0⟩
/-- COL_AUX[28:28], RW; R357. -/
abbrev F.COL_AUX_TAPEN : Fld := ⟨.colAux, 28, 28⟩
/-- COL_AUX[27:22], RW; R357. -/
abbrev F.COL_AUX_TAP_LCI : Fld := ⟨.colAux, 27, 22⟩
/-- COL_AUX[21:16], RW; R357. -/
abbrev F.COL_AUX_TAP : Fld := ⟨.colAux, 21, 16⟩
/-- COL_AUX[9:0], RW; R357. -/
abbrev F.COL_AUX_GROUP : Fld := ⟨.colAux, 9, 0⟩
/-- COL_UPD0[31:0], RW; R357. -/
abbrev F.COL_UPD0_V : Fld := ⟨.colUpd0, 31, 0⟩
/-- COL_UPD1[31:0], RW; R357. -/
abbrev F.COL_UPD1_V : Fld := ⟨.colUpd1, 31, 0⟩
/-- COL_UPD2[31:0], RW; R357. -/
abbrev F.COL_UPD2_V : Fld := ⟨.colUpd2, 31, 0⟩
/-- COL_UPD3[31:0], RW; R357. -/
abbrev F.COL_UPD3_V : Fld := ⟨.colUpd3, 31, 0⟩
/-- COL_UPD4[31:0], RW; R357. -/
abbrev F.COL_UPD4_V : Fld := ⟨.colUpd4, 31, 0⟩
/-- COL_UPD5[31:0], RW; R357. -/
abbrev F.COL_UPD5_V : Fld := ⟨.colUpd5, 31, 0⟩
/-- COL_UPD6[31:0], RW; R357. -/
abbrev F.COL_UPD6_V : Fld := ⟨.colUpd6, 31, 0⟩
/-- COL_UPD7[31:0], RW; R357. -/
abbrev F.COL_UPD7_V : Fld := ⟨.colUpd7, 31, 0⟩
/-- COL_UPD8[31:0], RW; R357. -/
abbrev F.COL_UPD8_V : Fld := ⟨.colUpd8, 31, 0⟩
/-- COL_CMD[1:0], WO; R357. -/
abbrev F.COL_CMD_CMD : Fld := ⟨.colCmd, 1, 0⟩
/-- COL_STATE[31:24], RO; R357. -/
abbrev F.COL_STATE_REASON : Fld := ⟨.colState, 31, 24⟩
/-- COL_STATE[23:16], RO; R357. -/
abbrev F.COL_STATE_REPLAYS : Fld := ⟨.colState, 23, 16⟩
/-- COL_STATE[8:8], RO; R357. -/
abbrev F.COL_STATE_OVF : Fld := ⟨.colState, 8, 8⟩
/-- COL_STATE[2:0], RO; R357. -/
abbrev F.COL_STATE_STATE : Fld := ⟨.colState, 2, 0⟩
/-- COL_INFO[31:0], RO; R357. -/
abbrev F.COL_INFO_V : Fld := ⟨.colInfo, 31, 0⟩
/-- LCX_EPOCH[31:16], RO; R323. -/
abbrev F.LCX_EPOCH_CUR : Fld := ⟨.lcxEpoch, 31, 16⟩
/-- LCX_EPOCH[15:0], RW; R323. -/
abbrev F.LCX_EPOCH_NEXT : Fld := ⟨.lcxEpoch, 15, 0⟩
/-- LCX_STALL[31:0], RC; R323. -/
abbrev F.LCX_STALL_V : Fld := ⟨.lcxStall, 31, 0⟩
/-- LCX_RESENDS[31:0], RC; R323. -/
abbrev F.LCX_RESENDS_V : Fld := ⟨.lcxResends, 31, 0⟩
/-- LEX_EPOCH[31:16], RO; R323. -/
abbrev F.LEX_EPOCH_SLOT1 : Fld := ⟨.lexEpoch, 31, 16⟩
/-- LEX_EPOCH[15:0], RO; R323. -/
abbrev F.LEX_EPOCH_SLOT0 : Fld := ⟨.lexEpoch, 15, 0⟩
/-- LEX_STATUS[6:6], W1C; R323. -/
abbrev F.LEX_STATUS_ADV_REFUSED : Fld := ⟨.lexStatus, 6, 6⟩
/-- LEX_STATUS[5:5], RO; R323. -/
abbrev F.LEX_STATUS_ADV_PENDING : Fld := ⟨.lexStatus, 5, 5⟩
/-- LEX_STATUS[4:4], W1C; R323. -/
abbrev F.LEX_STATUS_REFUSED : Fld := ⟨.lexStatus, 4, 4⟩
/-- LEX_STATUS[3:3], W1C; R323. -/
abbrev F.LEX_STATUS_LOAD_ERR : Fld := ⟨.lexStatus, 3, 3⟩
/-- LEX_STATUS[2:2], RO; R323. -/
abbrev F.LEX_STATUS_LOAD_BUSY : Fld := ⟨.lexStatus, 2, 2⟩
/-- LEX_STATUS[1:1], RO; R323. -/
abbrev F.LEX_STATUS_SLOT1_VALID : Fld := ⟨.lexStatus, 1, 1⟩
/-- LEX_STATUS[0:0], RO; R323. -/
abbrev F.LEX_STATUS_SLOT0_VALID : Fld := ⟨.lexStatus, 0, 0⟩
/-- LEX_LOAD_ADDR[63:0], RW; R323. -/
abbrev F.LEX_LOAD_ADDR_V : Fld := ⟨.lexLoadAddr, 63, 0⟩
/-- LEX_LOAD_CMD[31:16], WO; R323. -/
abbrev F.LEX_LOAD_CMD_EPOCH : Fld := ⟨.lexLoadCmd, 31, 16⟩
/-- LEX_LOAD_CMD[6:0], WO; R323. -/
abbrev F.LEX_LOAD_CMD_BASES : Fld := ⟨.lexLoadCmd, 6, 0⟩
/-- LEX_BLOCKS[63:0], RC; R323. -/
abbrev F.LEX_BLOCKS_V : Fld := ⟨.lexBlocks, 63, 0⟩
/-- LEX_DAMAGED[31:0], RC; R323. -/
abbrev F.LEX_DAMAGED_V : Fld := ⟨.lexDamaged, 31, 0⟩
/-- LEX_NO_TABLE[31:0], RC; R323. -/
abbrev F.LEX_NO_TABLE_V : Fld := ⟨.lexNoTable, 31, 0⟩
/-- COL_CFG[31:16], RW; R357. -/
abbrev F.COL_CFG_WINDOW : Fld := ⟨.colCfg, 31, 16⟩
/-- COL_CFG[3:0], RW; R357. -/
abbrev F.COL_CFG_DP_LOG2 : Fld := ⟨.colCfg, 3, 0⟩
/-- COL_STATUS[1:1], W1C; R357. -/
abbrev F.COL_STATUS_RELEASE_MISSED : Fld := ⟨.colStatus, 1, 1⟩
/-- COL_STATUS[0:0], W1C; R357. -/
abbrev F.COL_STATUS_POST_REFUSED : Fld := ⟨.colStatus, 0, 0⟩
/-- COL_RELEASE_MISSED[31:0], RC; R357. -/
abbrev F.COL_RELEASE_MISSED_V : Fld := ⟨.colReleaseMissed, 31, 0⟩
/-- COL_BUSY_TX[31:0], RC; R357. -/
abbrev F.COL_BUSY_TX_V : Fld := ⟨.colBusyTx, 31, 0⟩
/-- COL_RESENDS[31:0], RC; R357. -/
abbrev F.COL_RESENDS_V : Fld := ⟨.colResends, 31, 0⟩
/-- COL_FAILS[31:0], RC; R357. -/
abbrev F.COL_FAILS_V : Fld := ⟨.colFails, 31, 0⟩
/-- COL_LATE_FWD[31:0], RC; R357. -/
abbrev F.COL_LATE_FWD_V : Fld := ⟨.colLateFwd, 31, 0⟩
/-- FRE_BUF[31:16], RO; R357. -/
abbrev F.FRE_BUF_RESERVED : Fld := ⟨.freBuf, 31, 16⟩
/-- FRE_BUF[15:0], RO; R357. -/
abbrev F.FRE_BUF_HELD : Fld := ⟨.freBuf, 15, 0⟩
/-- FRE_BUF_WAIT[31:0], RC; R357. -/
abbrev F.FRE_BUF_WAIT_V : Fld := ⟨.freBufWait, 31, 0⟩
/-- FRE_ADDS[63:0], RC; R357. -/
abbrev F.FRE_ADDS_V : Fld := ⟨.freAdds, 63, 0⟩
/-- FRE_DP_CHECKS[63:0], RC; R357. -/
abbrev F.FRE_DP_CHECKS_V : Fld := ⟨.freDpChecks, 63, 0⟩
/-- FRE_DP_MISMATCH[31:0], RC; R357. -/
abbrev F.FRE_DP_MISMATCH_V : Fld := ⟨.freDpMismatch, 31, 0⟩
/-- FRE_REPLAYS[31:0], RC; R357. -/
abbrev F.FRE_REPLAYS_V : Fld := ⟨.freReplays, 31, 0⟩
/-- POOL_CTL[0:0], RW; R254. -/
abbrev F.POOL_CTL_ENABLE : Fld := ⟨.poolCtl, 0, 0⟩
/-- POOL_STATUS[15:11], RO; R254. -/
abbrev F.POOL_STATUS_MOVES : Fld := ⟨.poolStatus, 15, 11⟩
/-- POOL_STATUS[10:5], RO; R254. -/
abbrev F.POOL_STATUS_QDEPTH : Fld := ⟨.poolStatus, 10, 5⟩
/-- POOL_STATUS[4:4], W1C; R254. -/
abbrev F.POOL_STATUS_REFUSED : Fld := ⟨.poolStatus, 4, 4⟩
/-- POOL_STATUS[3:3], RO; R254. -/
abbrev F.POOL_STATUS_OVERCOMMIT : Fld := ⟨.poolStatus, 3, 3⟩
/-- POOL_STATUS[2:2], RO; R254. -/
abbrev F.POOL_STATUS_STUCK : Fld := ⟨.poolStatus, 2, 2⟩
/-- POOL_STATUS[1:1], RO; R254. -/
abbrev F.POOL_STATUS_BUSY : Fld := ⟨.poolStatus, 1, 1⟩
/-- POOL_STATUS[0:0], RO; R254. -/
abbrev F.POOL_STATUS_ENABLED : Fld := ⟨.poolStatus, 0, 0⟩
/-- POOL_CMD[39:34], WO; R254. -/
abbrev F.POOL_CMD_CLIENT : Fld := ⟨.poolCmd, 39, 34⟩
/-- POOL_CMD[33:32], WO; R254. -/
abbrev F.POOL_CMD_OP : Fld := ⟨.poolCmd, 33, 32⟩
/-- POOL_CMD[18:0], WO; R254. -/
abbrev F.POOL_CMD_DP : Fld := ⟨.poolCmd, 18, 0⟩
/-- POOL_DONE_SEQ[31:0], RO; R254. -/
abbrev F.POOL_DONE_SEQ_V : Fld := ⟨.poolDoneSeq, 31, 0⟩
/-- POOL_LAST_ERR[31:24], RO; R254. -/
abbrev F.POOL_LAST_ERR_STATUS : Fld := ⟨.poolLastErr, 31, 24⟩
/-- POOL_LAST_ERR[18:0], RO; R254. -/
abbrev F.POOL_LAST_ERR_DP : Fld := ⟨.poolLastErr, 18, 0⟩
/-- POOL_META_BASE[63:0], RW; R254. -/
abbrev F.POOL_META_BASE_V : Fld := ⟨.poolMetaBase, 63, 0⟩
/-- POOL_T3_BASE[63:0], RW; R254. -/
abbrev F.POOL_T3_BASE_V : Fld := ⟨.poolT3Base, 63, 0⟩
/-- POOL_T3_FRAMES[17:0], RW; R254. -/
abbrev F.POOL_T3_FRAMES_T3 : Fld := ⟨.poolT3Frames, 17, 0⟩
/-- POOL_LOW_WATER[31:16], RW; R254. -/
abbrev F.POOL_LOW_WATER_LOW_WATER_T4 : Fld := ⟨.poolLowWater, 31, 16⟩
/-- POOL_LOW_WATER[15:0], RW; R254. -/
abbrev F.POOL_LOW_WATER_LOW_WATER_T3 : Fld := ⟨.poolLowWater, 15, 0⟩
/-- POOL_FREE[59:40], RO; R254. -/
abbrev F.POOL_FREE_T5 : Fld := ⟨.poolFree, 59, 40⟩
/-- POOL_FREE[39:20], RO; R254. -/
abbrev F.POOL_FREE_T4 : Fld := ⟨.poolFree, 39, 20⟩
/-- POOL_FREE[19:0], RO; R254. -/
abbrev F.POOL_FREE_T3 : Fld := ⟨.poolFree, 19, 0⟩
/-- POOL_MOVES[31:0], RC; R254. -/
abbrev F.POOL_MOVES_V : Fld := ⟨.poolMoves, 31, 0⟩
/-- POOL_MOVE_FAILS[31:0], RC; R254. -/
abbrev F.POOL_MOVE_FAILS_V : Fld := ⟨.poolMoveFails, 31, 0⟩
/-- POOL_SKIPS[31:0], RC; R254. -/
abbrev F.POOL_SKIPS_V : Fld := ⟨.poolSkips, 31, 0⟩
/-- POOL_TIMEOUT[15:0], RW; R254. -/
abbrev F.POOL_TIMEOUT_BEATS : Fld := ⟨.poolTimeout, 15, 0⟩
/-- POOL_T4_REGION[63:63], RW; R254. -/
abbrev F.POOL_T4_REGION_ENABLE : Fld := ⟨.poolT4Region, 63, 63⟩
/-- POOL_T4_REGION[56:40], RW; R254. -/
abbrev F.POOL_T4_REGION_CHIP : Fld := ⟨.poolT4Region, 56, 40⟩
/-- POOL_T4_REGION[39:21], RW; R254. -/
abbrev F.POOL_T4_REGION_PAGE : Fld := ⟨.poolT4Region, 39, 21⟩
/-- POOL_T4_FRAMES[19:0], RW; R254. -/
abbrev F.POOL_T4_FRAMES_N : Fld := ⟨.poolT4Frames, 19, 0⟩
/-- POOL_T5_REGION[63:63], RW; R254. -/
abbrev F.POOL_T5_REGION_ENABLE : Fld := ⟨.poolT5Region, 63, 63⟩
/-- POOL_T5_REGION[56:21], RW; R254. -/
abbrev F.POOL_T5_REGION_PAGE : Fld := ⟨.poolT5Region, 56, 21⟩
/-- POOL_T5_FRAMES[19:0], RW; R254. -/
abbrev F.POOL_T5_FRAMES_N : Fld := ⟨.poolT5Frames, 19, 0⟩
/-- POOL_CLIENT[63:32], RW; R254. -/
abbrev F.POOL_CLIENT_MAX_PAGES : Fld := ⟨.poolClient, 63, 32⟩
/-- POOL_CLIENT[31:0], RW; R254. -/
abbrev F.POOL_CLIENT_MIN_PAGES : Fld := ⟨.poolClient, 31, 0⟩
/-- POOL_CLIENT_INFO[31:31], RO; R254. -/
abbrev F.POOL_CLIENT_INFO_VALID : Fld := ⟨.poolClientInfo, 31, 31⟩
/-- POOL_CLIENT_INFO[26:24], RO; R254. -/
abbrev F.POOL_CLIENT_INFO_LOW_TIER : Fld := ⟨.poolClientInfo, 26, 24⟩
/-- POOL_CLIENT_INFO[19:0], RO; R254. -/
abbrev F.POOL_CLIENT_INFO_T3 : Fld := ⟨.poolClientInfo, 19, 0⟩

end Sys2Proof.Machine
end

