-- ==== Sys2Proof/Machine/State.lean ====
section
/-!
DEFINITION. Sys2Proof/Machine/State.lean: the state of the PZ3-288 as plain data, its reset value, and the reasons for which a command can stop.
Registers live in one sparse register file keyed by CSR address (Tables 18-3 to 18-7); what the manual gives the machine
beside its registers stands in the structures below, chapter by chapter.
-/

namespace Sys2Proof.Machine

/-! ### Outputs: what the block sends outside -/

/-- What leaves the block. The log of outputs is the model's own record of it (newest last). -/
inductive Output where
  /-- a register read answered: CSR address and value -/
  | read (addr value : Nat)
  /-- a frame sent on a port (Table 11-3) -/
  | frame (port : Nat) (t : Trailer) (flits : List Flit)
  /-- a HauneLink transaction sent: half, OP, TAG, ADDR, REASON, data -/
  | hl (half op tag addr reason : Nat) (data : List Byte)
  /-- a HauneLink ACK or NAK: half, SEQ -/
  | hlAck (half seq : Nat) (nak : Bool)
  /-- bytes answered on I3C -/
  | i3c (bytes : List Byte)
  /-- an in-band interrupt with its class byte -/
  | ibi (cls : Nat)
  /-- bits shifted out on JTAG: width and value -/
  | jtag (width value : Nat)
  /-- HBM_1500 reaches the IEEE 1500 wrapper of a channel (R454) -/
  | wrapper (channel : Nat)
  /-- a write to companion memory by a ring or the belfry: address and bytes -/
  | companion (addr : Nat) (bytes : List Byte)
  /-- a pin driven: name and level (chapter 19) -/
  | pin (name : String) (level : Nat)
  /-- the VC_VID code driven to the regulator (R496) -/
  | regulator (code : Nat)
  /-- a packet-flash write: offset and bytes -/
  | flash (offset : Nat) (bytes : List Byte)
  /-- a page copied by the pool to a frame of T4 or T5: tier, location, bytes -/
  | poolCopy (tier loc : Nat) (bytes : List Byte)
  /-- a MESH TPOST sent: quarter, physical core, tap -/
  | tpost (core tap : Nat)
deriving DecidableEq, Repr

/-! ### Chapter 02: the image in force and the load in progress -/

/-- One BIND entry (Table 02-6). -/
structure Bind where
  /-- ROLE: 0 off, 1 active, 2 spare; 2 bits; R23 -/
  role : Nat := 0
  /-- LCI bound to an active core; 6 bits; R23 -/
  lci : Nat := 0
deriving DecidableEq, Repr

/-- One LOGICAL entry (Table 02-7). -/
structure Logical where
  /-- VALID; 1 bit; R23 -/
  valid : Bool := false
  /-- VSTAGE; 3 bits; R23 -/
  vstage : Nat := 0
  /-- STAGE; 16 bits; R23 -/
  stage : Nat := 0
  /-- SLOT; 8 bits; R23 -/
  slot : Nat := 0
deriving DecidableEq, Repr

/-- The SECT_NOC block of one quarter (Table 02-4): NOFWD as a 72-bit mask and the 2,592 bytes of next-hop codes. -/
structure NocQuarter where
  /-- NOFWD; 72 bits; R22 -/
  nofwd : Nat := 0
  /-- HOP, 72 x 72 four-bit codes; R22 -/
  hop : List Byte := []
deriving DecidableEq, Repr

/-- The near-store and shared-cache partition of one quarter (Table 02-8). -/
structure MemPart where
  /-- near-store regions WEIGHT, KV, ACCUM, ACT, GENERAL in 64 KiB units; 5 x 8 bits; R24 -/
  regions : List Nat := []
  /-- PINNED_WAYS, 0 to 8; R24 -/
  pinned : Nat := 0
deriving DecidableEq, Repr

/-- One pool client record of SECT_MEM (Table 02-8). -/
structure ClientCfg where
  minPages : Nat := 0
  maxPages : Nat := 0
  lowTier : Nat := 0
  valid : Bool := false
deriving DecidableEq, Repr

/-- One pattern entry (Table 02-10). -/
structure PatEntry where
  ofs : Nat := 0
  frac : Nat := 0
  action : Nat := 0
  target : Nat := 0
  arg : Nat := 0
deriving DecidableEq, Repr

/-- One tree record (Table 02-11). -/
structure TreeRec where
  treeId : Nat := 0
  levels : Nat := 0
  n : Nat := 0
  rank : Nat := 0
  parent : Nat := 0
  children : List Nat := []
deriving DecidableEq, Repr

/-- The numerics of one tensor group (Table 02-12). -/
structure GroupCfg where
  fwd : Nat := 0
  bwd : Nat := 0
  grad : Nat := 0
  comp : Bool := false
  sr : Bool := false
  watch : Nat := 0
deriving DecidableEq, Repr

/-- One takeover script entry (Table 02-13). -/
structure ScriptEntry where
  lost : Nat := 0
  region : Nat := 0
  op : Nat := 0
  value : Nat := 0
deriving DecidableEq, Repr

/-- The settings an image defines (R31, R39): those of the nine sections and of the header. -/
structure Settings where
  /-- JOB_ID of the image; 64 bits; R18 -/
  jobId : Nat := 0
  /-- SERIAL of the image; 32 bits; R18 -/
  serial : Nat := 0
  /-- QMASK; 4 bits; R18 -/
  qmask : Nat := 0
  /-- CHIP_ID; 17 bits; R18 -/
  chipId : Nat := 0
  /-- next-hop tables and NOFWD, four quarters; R22 -/
  noc : List NocQuarter := []
  /-- VSTAGES; 4 bits; R23 -/
  vstages : Nat := 0
  /-- PIPE_STAGES; 16 bits; R23 -/
  pipeStages : Nat := 0
  /-- BIND, 272 entries; R23 -/
  bind : List Bind := []
  /-- LOGICAL, 256 entries; R23 -/
  logical : List Logical := []
  /-- relay chains, 16 lists of LCIs; SECT_CHAIN, 02 -/
  chains : List (List Nat) := []
  /-- partitions of the four quarters; R24 -/
  mem : List MemPart := []
  /-- pool clients, 64 records; R24 -/
  clients : List ClientCfg := []
  /-- BEAT_ROLE; 2 bits; R52 -/
  beatRole : Nat := 0
  /-- PERIOD; 32 bits; R60 -/
  period : Nat := 0
  /-- pattern entries of the four quarters, at most 4,096 each; R25 -/
  entries : List (List PatEntry) := []
  /-- reduction trees, at most 64; R26 -/
  trees : List TreeRec := []
  /-- LS_INIT; 5 bits; R116 -/
  lsInit : Nat := 0
  /-- CLEAN_STEPS of the image; R119 -/
  cleanSteps : Nat := 0
  /-- tensor groups, at most 1,024; SECT_NUM, 02 -/
  groups : List GroupCfg := []
  /-- CAP_W, WINDOW_S, FREQ_MODE, OP_CEIL, HINTS; SECT_POWER, 02 -/
  capW : Nat := 0
  windowS : Nat := 0
  freqMode : Nat := 0
  opCeil : Nat := 0
  hints : Nat := 0
  /-- ROLE: 0 worker, 1 standby; SECT_FAULT, 02 -/
  faultRole : Nat := 0
  /-- BUDDY; 32 bits; SECT_FAULT, 02 -/
  buddy : Nat := 0
  /-- STANDBY, four chip ids; SECT_FAULT, 02 -/
  standby : List Nat := []
  /-- takeover script, at most 256 entries; R421 -/
  script : List ScriptEntry := []
deriving DecidableEq, Repr

/-- Who commanded the load in progress: the companion, the autonomous swap (R412) or a takeover (R420). -/
inductive LoadBy where
  | companion | swap | takeover
deriving DecidableEq, Repr

/-- The image load machine beside its registers (Table 02-17). The state itself is IMG_STATUS.STATE. -/
structure Image where
  /-- settings in force; none before the first full load; R31, R38 -/
  inForce : Option Settings := none
  /-- digest of the signed bytes of the full image in force (for BASE_DIGEST); 256 bits; R19 -/
  fullDigest : Nat := 0
  /-- state before the command in progress, to which a refusal returns; Table 02-17 -/
  prior : Nat := 0
  /-- the load in progress is partial; R33 -/
  partialLoad : Bool := false
  /-- who commanded it; R27, R412, R420 -/
  by_ : LoadBy := .companion
  /-- IMG_SRC, IMG_LEN and IMG_AT_BEAT taken by the command in progress; R27 -/
  src : Nat := 0
  len : Nat := 0
  atBeat : Nat := 0
  /-- the verified image waiting for APPLY or its switch beat; R29, R33 -/
  staged : Option Settings := none
  /-- which of SECT_STAGE and SECT_NOC the staged partial image holds -/
  stagedStage : Bool := false
  stagedNoc : Bool := false
  /-- digest of the staged image's signed bytes and its signer; R30 -/
  stagedDigest : Nat := 0
  stagedSigner : Nat := 0
  /-- the switch beat of the staged partial image; R33 -/
  switchBeat : Nat := 0
  /-- quarters whose mesh injection is stopped for the switch (bit q); R34 -/
  quiesced : Nat := 0
  /-- RWL fields locked; R7, R31 -/
  locked : Bool := false
  /-- full load in progress keeps the command ring from fetching; R28 -/
  holdRing : Bool := false
deriving DecidableEq, Repr

/-! ### Chapter 03: clocks, the beat, pattern tables and deadlines -/

/-- What a port last said in its SYNC (R56). -/
structure SyncInfo where
  port : Nat := 0
  hops : Nat := 0
  holdover : Bool := false
  interval : Nat := 0
  arrival : Nat := 0
  /-- its latest SYNC arrived within 4 intervals -/
  fresh : Bool := true
deriving DecidableEq, Repr

/-- A PROBE sent and not yet answered (R54). -/
structure ProbeOut where
  port : Nat := 0
  id : Nat := 0
  launch : Nat := 0
deriving DecidableEq, Repr

/-- The previous SYNC handled under |e| < 16,384 (R57): its port, whether the word that followed was limited, its I. -/
structure SlewInfo where
  port : Nat := 0
  limited : Bool := false
  ticks : Nat := 0
deriving DecidableEq, Repr

/-- Clock sources and the beat timer beside the registers of Table 03-7. -/
structure Clock where
  /-- fraction of the beat timer; 48 bits; R50 -/
  frac : BitVec 48 := 0
  /-- rate word in force; 48 bits; R50 -/
  rate : Nat := 450359962737
  /-- the timer advances (a qualified source is selected); R50 -/
  running : Bool := false
  /-- the timer is stopped until the expected stamp reaches it; R57 -/
  stopped : Bool := false
  /-- the expected stamp while the timer is stopped, in units of 2^-48 beat; R57 -/
  expected : Nat := 0
  /-- consecutive SYNCs or BEAT_IN edges within 131 units; R52, R57 -/
  good : Nat := 0
  /-- latest SYNC of each port; R56 -/
  syncs : List SyncInfo := []
  /-- PROBEs waiting for their ECHO; R54 -/
  probes : List ProbeOut := []
  /-- PROBEs that have arrived, with their stamps, whose ECHO has not gone; R54 -/
  echoes : List ProbeOut := []
  /-- next PROBE id; 32 bits; R54 -/
  probeId : Nat := 0
  /-- the previous SYNC, if handled under |e| < 16,384; R57 -/
  slew : Option SlewInfo := none
  /-- BEAT_SET count waiting for the next boundary; R52 -/
  setPending : Option Nat := none
  /-- source that a BEAT_CLK_CTL write prefers, not yet acted on; R49 -/
  prefer : Option ClkSrc := none
  /-- upstream change waiting for the next boundary; R56 -/
  upPending : Option Nat := none
  /-- consecutive out-of-window windows of XTAL and of CREC; R46 -/
  xtalBad : Nat := 0
  crecBad : Nat := 0
  /-- port whose receiver feeds CREC; R43 -/
  crecPort : Option Nat := none
  /-- change of CREC's port waiting for the next boundary; R43 -/
  crecPending : Option Nat := none
  /-- Carillon ports whose receivers are locked (bit n); R42 -/
  rxLock : Nat := 0
  /-- locked Carillon receivers whose clock is in window against XTAL or HREC (bit n); R43 -/
  rxIn : Nat := 0
  /-- HauneLink halves whose receivers are locked (bit h); R42 -/
  hlLock : Nat := 0
  /-- outputs forced to the safe states of Table 03-2; R48 -/
  safe : Bool := false
  /-- bridges out of service (bit 0 Q0-Q1, 1 Q1-Q3, 2 Q3-Q2, 3 Q2-Q0); R13 -/
  bridgesOut : Nat := 0
  /-- bridges whose failure has not yet changed the routes; R13 -/
  bridgesPending : Nat := 0
deriving DecidableEq, Repr

/-- The pattern dispatcher of one quarter (R60, R61): its arming boundary and the next entry (k, i). -/
structure Dispatcher where
  /-- arming boundary in force, in fraction units; none while disarmed -/
  armedAt : Option Nat := none
  /-- period number k of the next entry -/
  k : Nat := 0
  /-- index i of the next entry -/
  i : Nat := 0
  /-- an entry has issued in the present tick; R61 -/
  used : Bool := false
deriving DecidableEq, Repr

/-- An open deadline (R66): its kind, REF, the physical core that its target named when it was armed (R21; 272 for none), end and first end E0
in fraction units. -/
structure Deadline where
  kind : Nat := 0
  ref : Nat := 0
  target : Nat := 0
  fin : Nat := 0
  e0 : Nat := 0
deriving DecidableEq, Repr

/-- Pattern dispatchers, deadlines and arbiter pointers. -/
structure Pattern where
  /-- dispatchers of the four quarters; R60 -/
  disp : List (Nat × Dispatcher) := []
  /-- open deadlines, keyed 64 x quarter + slot; R66 -/
  deadlines : List (Nat × Deadline) := []
  /-- intervals of stamps that steps within this beat skipped, from the stamp left to the stamp taken; R61 -/
  skips : List (Nat × Nat) := []
  /-- LATE notices to be forwarded at the next beat boundary, each with the chip it came from; R354 -/
  lateOut : List (LateMsg × Nat) := []
deriving DecidableEq, Repr


/-! ### Chapters 04 to 08: a core -/

/-- An FP32 bit pattern. -/
abbrev F32 := BitVec 32

/-- A matrix command in the MXE queue (R95, R96): its four words, and the operand bytes that another unit has written since it was
accepted (store x 2^23 + offset; R79). -/
structure MxeCmd where
  words : List Nat
  touched : List Nat := []
deriving DecidableEq, Repr

/-- The tile of a command: its set, group, class, rows, columns and compensation (R84, R88, R97). -/
structure MxeTile where
  set : Nat
  group : Nat
  cls : Nat
  m : Nat
  n : Nat
  comp : Bool
deriving DecidableEq, Repr

/-- The command whose passes run (R75): next pass, row and class-F sub-pass. -/
structure MxeRun where
  cmd : MxeCmd
  pass : Nat := 0
  row : Nat := 0
  sub : Nat := 0
  /-- the tile has started: its set is cleared or loaded; R88 -/
  started : Bool := false
  /-- the packed weight tile that the array holds, read once as it is loaded; R76, R82 -/
  held : List Byte := []
  /-- a weight tile of this pass was read with an error; R100 -/
  badW : Bool := false
  /-- this pass has been counted in MXE_POISON_CNT; R100 -/
  poisoned : Bool := false
deriving DecidableEq, Repr

/-- An accumulator: sum and compensation term (R83). -/
structure Acc where
  s : F32 := 0
  c : F32 := 0
deriving DecidableEq, Repr

/-- A tile that has ended and waits for, or makes, its drain (R89, R90), with the accumulators of its set. -/
structure MxeDrain where
  words : List Nat
  tile : MxeTile
  running : Bool := false
  acc : List (Nat × Acc) := []
deriving DecidableEq, Repr

/-- The matrix engine of a core beside its registers. -/
structure Mxe where
  /-- command queue, oldest first, at most 16; R95 -/
  queue : List MxeCmd := []
  /-- the command in progress; R95 -/
  run : Option MxeRun := none
  /-- the tile in the filling set: being filled, or held by a command with END = 0; R97 -/
  tile : Option MxeTile := none
  /-- tiles to be drained, in command order, at most two; R88, R95 -/
  drains : List MxeDrain := []
  /-- accumulators of the filling set, keyed set x 4,096 + row x 64 + column; R83 -/
  acc : List (Nat × Acc) := []
  /-- a row entered in the last cycle under the fast limiter, which admits none in this one; R388 -/
  skip : Bool := false
deriving DecidableEq, Repr

/-- A row of a statistics side-band (Table 06-1). -/
structure RowStat where
  m : F32 := 0
  l : F32 := 0
  lse : F32 := 0
  cls : Nat := 0
deriving DecidableEq, Repr

/-- An action of the factor file (Table 06-5). -/
inductive Act where
  | nan | sum | keepA | takeB | zero | scale
deriving DecidableEq, Repr

/-- A factor-file row (R129): fA, fB and the action. -/
structure Factor where
  fA : F32 := 0
  fB : F32 := 0
  act : Act := .keepA
deriving DecidableEq, Repr

/-- A vector instruction in a queue or running: its number in issue order, its word (Table 06-2) and the storage error it meets when it
executes (R131, R228). -/
structure VInsn where
  id : Nat
  word : Nat
  err : Nat := 0
deriving DecidableEq, Repr

/-- The vector engine and the cross-lane reducer of a core (R128, R129, R138 to R141). -/
structure Vxe where
  /-- vector registers and buffer vectors by operand code: 0x00 to 0x0F, 0x20 to 0xDF; 128 lanes each; R128, R132 -/
  vec : List (Nat × List F32) := []
  /-- predicate registers P1 to P7; 128 bits; R128 -/
  pred : List (Nat × BitVec 128) := []
  /-- side-bands, keyed 64 x buffer + row; R129 -/
  side : List (Nat × RowStat) := []
  /-- factor file, 64 rows; R129 -/
  factor : List (Nat × Factor) := []
  /-- compress cursor; 24 bits; R140 -/
  cursor : Nat := 0
  /-- summary registers S0 to S15; 64 bits; R138 -/
  summ : List (Nat × BitVec 64) := []
  /-- XROW and XCOL, 64 entries each; R138 -/
  xrow : List (Nat × F32) := []
  xcol : List (Nat × F32) := []
  /-- VXE queue, at most 32, and XLR queue, at most 16; 06 -/
  vq : List VInsn := []
  xq : List VInsn := []
  /-- instructions that run; R134 -/
  vrun : Option VInsn := none
  xrun : Option VInsn := none
  /-- number of the next instruction; R134 -/
  nextId : Nat := 0
  /-- summary registers that become valid when ERR or XERR is cleared; R140 -/
  vheld : List Nat := []
  xheld : List Nat := []
deriving DecidableEq, Repr

/-- What a thread waits for (Table 06-8). -/
inductive Block where
  /-- data of the load or atomic in a miss slot -/
  | load (slot : Nat)
  /-- a free miss slot, or one on an HBM bank (R210) -/
  | slot (bank : Option Nat)
  /-- room in the queue of a unit: 0 VXE, 1 XLR, 2 MXE, 3 SXU, 4 DMA -/
  | room (unit : Nat)
  | twait (tap : Nat) (v : Int)
  | sget (rd s : Nat)
  | toll (rd ch : Nat)
  /-- VXE and XLR instructions numbered below n -/
  | vfence (n : Nat)
  | mfence
  /-- both -/
  | fence (n : Nat)
  /-- its condition has cleared: it is ready in the next cycle -/
  | due
deriving DecidableEq, Repr

/-- A CTC thread beside its registers in the CSR map (R145 to R149). -/
structure Thread where
  /-- general registers g1 to g31; 64 bits; 06 -/
  g : List (Nat × BitVec 64) := []
  /-- not stopped; R149 -/
  live : Bool := false
  /-- the condition it is blocked on -/
  block : Option Block := none
deriving DecidableEq, Repr

/-- A miss slot in use (R146, R210): thread, access number, destination register, bank counted, whether it is a store. -/
structure MissSlot where
  thread : Nat
  access : Nat
  rd : Nat := 0
  size : Nat := 8
  bank : Option Nat := none
  store : Bool := false
  /-- the instruction is an atomic on FP32; R237 -/
  float : Bool := false
  /-- address of the instruction; R148 -/
  pc : Nat := 0
deriving DecidableEq, Repr

/-- The control core (R146, R147). -/
structure Ctc where
  threads : List (Nat × Thread) := []
  /-- the current thread; none when the last one blocked, yielded or halted; R147 -/
  cur : Option Nat := none
  /-- the thread that issued last -/
  last : Nat := 0
  /-- thread pointer; R147 -/
  ptr : Nat := 0
  /-- pointer over the threads that wait for a bank; R69, R210 -/
  bankPtr : Nat := 0
  /-- miss slots in use, of 64; R146 -/
  slots : List (Nat × MissSlot) := []
deriving DecidableEq, Repr

/-- A translation held in an STC or QTC: chip-local granule and table entry; least recently used first (R187). -/
structure XltHeld where
  granule : Nat
  entry : Nat
deriving DecidableEq, Repr

/-- A tag of SXU (R195): the line it fetches, acknowledges or runs ahead for. -/
structure SxuTag where
  tag : Nat
  ctx : Nat
  /-- the stream that took it: once its context has another, its line is discarded; R199 -/
  sid : Nat
  row : Nat
  /-- byte offset in the row, and bytes -/
  off : Nat
  len : Nat
  access : Nat
  ahead : Bool := false
  /-- a WRITE line whose local bytes have not been read yet, and those that another unit has written since, as in `MxeCmd.touched`; R177 -/
  reading : Bool := false
  touched : List Nat := []
deriving DecidableEq, Repr

/-- A stream context (R190 to R194). -/
structure Stream where
  words : List Nat
  /-- core-local address of the descriptor -/
  desc : Nat
  /-- number in issue order; R206 -/
  id : Nat
  /-- next line to request: row and byte offset; R195 -/
  row : Nat := 0
  off : Nat := 0
  /-- buffers that have passed their gate; R193 -/
  gated : Nat := 0
  /-- lines landed or failed, per buffer not yet reported, keyed by buffer: rows complete bytes; R194 -/
  doneBytes : List (Nat × Nat) := []
  /-- buffers whose DONE pulse has been sent; R194 -/
  pulsed : Nat := 0
  /-- lowest failing row and its code; R198 -/
  err : Option (Nat × Nat) := none
  /-- one more than the highest row for which a demand fetch has been issued; R200 -/
  top : Nat := 0
  /-- effective prefetch depth; R204 -/
  depth : Nat := 0
  /-- run-ahead position: row and byte offset; R200 -/
  pfRow : Nat := 0
  pfOff : Nat := 0
  /-- granules in which run-ahead is suspended; R202 -/
  snared : List Nat := []
  /-- lines fetched ahead in this context (line addresses); R200 -/
  ahead : List Nat := []
  /-- the number of the head's stream whose rows it carries: its own at the head, 272 x id + core; at a member that of the stream whose
  lines it takes, once one has reached it; R206 -/
  serves : Option Nat := none
deriving DecidableEq, Repr

/-- A line of a relay chain that has landed at a member (R208): chain, number of the head's stream, geometry sent ahead, row, byte offset, and
the bytes, or the code of a failed row; ready once its whole row has landed. -/
structure RelayLine where
  chain : Nat
  ord : Nat
  rowBytes : Nat
  rows : Nat
  conv : Nat
  row : Nat
  off : Nat
  data : List Byte
  fail : Nat := 0
  ready : Bool := false
deriving DecidableEq, Repr

/-- The stream unit (R190 to R209). -/
structure Sxu where
  ctx : List (Nat × Stream) := []
  tags : List SxuTag := []
  nextId : Nat := 0
  /-- free tags are given to contexts in turn; R69, R195 -/
  ptr : Nat := 0
  /-- lines waiting to move to the next chain member, oldest first; R208 -/
  relay : List RelayLine := []
  /-- streams (chain, number) whose RELAY ended with CHAIN_MISMATCH: their lines pass through; R207 -/
  passing : List (Nat × Nat) := []
  /-- a run-ahead tag has been freed and is not yet offered to the contexts; R195, R201 -/
  freed : Bool := false
  /-- run-ahead fetches issued, late and unused in the present interval; R204 -/
  ivIssued : Nat := 0
  ivLate : Nat := 0
  ivUnused : Nat := 0
deriving DecidableEq, Repr

/-- The descriptor the DMA engine executes (R214 to R221). -/
structure DmaJob where
  words : List Nat
  /-- next destination byte to fetch for; R217 -/
  next : Nat := 0
  /-- reads issued and not returned -/
  reading : Nat := 0
  /-- next destination byte to write, and the lines landed that are not all written: offset, bytes; none for a line that failed; R217 -/
  wnext : Nat := 0
  landed : List (Nat × Nat × Option (List Byte)) := []
  /-- source bytes of the core's stores that another unit has written since the descriptor was read, as in `MxeCmd.touched`; R177 -/
  touched : List Nat := []
  /-- lowest failing byte and its code; R221 -/
  err : Option (Nat × Nat) := none
  /-- KV roll: the stripe header read; bytes answered so far; waiting 4 beats; R220 -/
  hdr : List Byte := []
  kvSent : Nat := 0
  kvWait : Option Nat := none
  /-- a final KV roll code, or 0x100 + a status of Table 08-4; R220 -/
  kvCode : Nat := 0
  /-- a DRAIN waits for its acknowledgements; R219 -/
  draining : Bool := false
deriving DecidableEq, Repr

/-- The DMA engine of a core (R212 to R223). -/
structure Dma where
  /-- the channel being served has read its descriptor and not seen the answer -/
  reading : Bool := false
  /-- a doorbell for the channel since that read; R216 -/
  rung : Bool := false
  job : Option DmaJob := none
  /-- write-backs to a ring in global memory not yet acknowledged, and whether one failed; R222 -/
  backs : Nat := 0
  backBad : Bool := false
  /-- engine pointer; R216 -/
  ptr : Nat := 0
  /-- COPY writes of each channel not yet acknowledged since its last DRAIN; R219 -/
  unacked : List (Nat × Nat) := []
  /-- number of the engine's next write, and of the first since DISABLE: acknowledgements of earlier ones count nothing; R219, R223 -/
  wseq : Nat := 0
  wbase : Nat := 0
  /-- first failing write of each channel since its last DRAIN, in the order of the writes: its number, ring index and code; R219 -/
  failed : List (Nat × Nat × Nat × Nat) := []
deriving DecidableEq, Repr

/-- A core. -/
structure Core where
  mxe : Mxe := {}
  vxe : Vxe := {}
  ctc : Ctc := {}
  sxu : Sxu := {}
  dma : Dma := {}
  /-- bytes of STG and NS that something has written; T0, T1; R225, R226 -/
  stg : List Host.Cell := []
  ns : List Host.Cell := []
  /-- 8-byte words of NS whose check bits are inverted; R229 -/
  nsBad : List Nat := []
  /-- stream translation cache, at most 64; R187 -/
  stc : List XltHeld := []
deriving DecidableEq, Repr

/-- A TPOST on its way over the mesh (R150): physical core and counter. -/
structure TapPost where
  core : Nat
  tap : Nat
deriving DecidableEq, Repr

/-- An arrival at a toll channel (R153): its core, and a blocked thread with its RD or the tap to pulse. -/
structure TollArrival where
  core : Nat
  /-- 64 x quarter + LCI of the member -/
  member : Nat
  thread : Option Nat
  rd : Nat := 0
  tap : Nat := 0
deriving DecidableEq, Repr

/-- A toll channel (R152 to R154): arrivals of the current generation, the stamp of its first, and the arrivals that wait for a later one. -/
structure TollCh where
  now : List TollArrival := []
  first : Nat := 0
  next : List TollArrival := []
deriving DecidableEq, Repr

/-! ### Chapter 05: numerics -/

/-- The registers that UNDO_CLOSE restores (R376, R377), with the gradient counts of the step. -/
structure NumSnapshot where
  exp : Nat
  run : Nat
  clean : Nat
  held : Option Nat
  step : Nat
  status : Nat
  /-- ZERO_RUN, NUM_GNZ, NUM_GEXP and the event-written flag of each group -/
  groups : List (Nat × Nat × Nat × Bool)
  /-- the step and attempt of the close -/
  atStep : Nat
  atAttempt : Nat
deriving DecidableEq, Repr

/-- Numerics beside the registers of Table 05-11. -/
structure NumSt where
  /-- exponent of a held NUM_LS_SET write; R120 -/
  held : Option Nat := none
  /-- CLEAN_STEPS in force; a write to NUM_LS_CLEAN takes effect at the next close; R120 -/
  clean : Nat := 2000
  /-- WATCH_STEPS in force, by group; a write takes effect at the next close; R123 -/
  watch : List (Nat × Nat) := []
  /-- nonzero elements of the step in progress, by group; R122 -/
  gnz : List (Nat × Nat) := []
  /-- largest biased exponent of the step in progress, by group; R122 -/
  gexp : List (Nat × Nat) := []
  /-- groups whose SILENT_GRADIENT was written in the current run; R123 -/
  told : List Nat := []
  /-- snapshot kept from a close until the step retires; R375 -/
  snapshot : Option NumSnapshot := none
deriving DecidableEq, Repr

/-! ### Chapters 07 to 10: receive slots, accesses, translation, shared cache, the pool and HBM -/

/-- A KV roll receive slot beside its registers (R168 to R170): the fields taken at ARM, the offset of the next payload write, the bytes
announced, and whether the stripe in flight was released. -/
structure KvSlot where
  layer : Nat := 0
  attempt : Nat := 0
  step : Nat := 0
  round : Nat := 0
  next : Nat := 0
  len : Nat := 0
  /-- payload bytes landed; R170 -/
  got : Nat := 0
  aborted : Bool := false
  /-- the released stripe has been answered ABORTED and counted in KVR_REJECTS; R184 -/
  counted : Bool := false
deriving DecidableEq, Repr

/-- An atomic operation (Table 09-2). -/
inductive AtomOp where
  | addI | addF | minI | maxI | minF | maxF | swap | cas
deriving DecidableEq, Repr

/-- What an access does: read bytes, write bytes, or an atomic with its operand and, for ACAS, the value to store. -/
inductive AccOp where
  | read (n : Nat)
  | write (bs : List Byte)
  /-- write of the bytes whose mask bit is set -/
  | masked (mask : Nat) (bs : List Byte)
  | atomic (op : AtomOp) (v old : BitVec 64)
deriving DecidableEq, Repr

/-- Who made an access and takes its outcome. -/
inductive Origin where
  | ctc (core slot : Nat)
  /-- an SXU tag -/
  | stream (core tag : Nat)
  /-- a DMA read: channel, byte offset in the transfer, bytes wanted from the line -/
  | dmaRead (core ch off len : Nat)
  /-- a DMA write: channel, ring index, number among the engine's writes -/
  | dmaWrite (core ch index seq : Nat)
  /-- a DMA descriptor read or write-back -/
  | dmaDesc (core ch : Nat)
  | dmaBack (core ch : Nat)
  /-- a packet from another chip -/
  | packet (p : Packet)
  /-- FRE's read of a line that is not local, and its write of one, for a collective slot; 256 + quarter for LEX's table loads; R307, R334 -/
  | fre (slot : Nat)
  | freOut (slot : Nat)
  /-- a companion request: half, TAG and OP of Table 16-2 -/
  | companion (half tag op : Nat)
  | other
deriving DecidableEq, Repr

/-- Where an access stands (R187, R188, R236, R435): its table walk, a page in motion, on its way to its home slice, a snoop, its fill from HBM, its
answer from another chip or the companion, or done with a status of Table 08-4 (0 for OK) and bytes. -/
inductive AccState where
  | walk
  | motion
  /-- it waits for the injection into its quarter's mesh to resume; R34 -/
  | mesh
  /-- a demand fetch waits for its core's own run-ahead fetch of the line; R203 -/
  | behind
  /-- the bank of a store has eight misses of its core already; R210 -/
  | capped (pa : Nat)
  /-- its request ended with a link error on a failed bridge and is issued again once the new routes are in force; R13 -/
  | bridge (pa : Nat)
  | slice (pa : Nat)
  | snoop (pa : Nat)
  | fill (pa : Nat)
  | remote (tag : Nat)
  | done (code : Nat) (bs : List Byte)
deriving DecidableEq, Repr

/-- An access in progress: its number, origin, the core whose STC it uses (none: a quarter's own), quarter, global address. -/
structure MemAcc where
  id : Nat
  who : Origin
  core : Option Nat := none
  q : Nat := 0
  addr : Nat
  op : AccOp
  st : AccState
  /-- a run-ahead fetch; R200 -/
  ahead : Bool := false
  /-- bytes of it already served, those read, and the first status that was not OK -/
  pos : Nat := 0
  got : List Byte := []
  code : Nat := 0
  /-- issue stamp of a request to T4 or T5; R241 -/
  issued : Nat := 0
  /-- a demand fetch that met its core's own run-ahead fetch; R203 -/
  late : Bool := false
  /-- cycles since the arrival of the marked line that it meets; R203 -/
  slack : Nat := 0
  /-- what the check of a core window's store finds if it is one; R227, R229 -/
  werr : Nat := 0
  /-- bytes of a read, by their place in it, that a write has overlapped; R177 -/
  touched : List Nat := []
deriving DecidableEq, Repr

/-- A line of the shared cache (R231, R234): line number, way, 64 bytes, dirty, poisoned, and the core whose run-ahead fetch brought it with
the stamp of its arrival (R203). -/
structure ShcLine where
  line : Nat
  /-- way of its set; R231, R235 -/
  way : Nat := 0
  data : List Byte
  dirty : Bool := false
  poison : Bool := false
  mark : Option Nat := none
  at_ : Nat := 0
deriving DecidableEq, Repr

/-- The last command that MCH issued for a request (R263): a precharge with the row that it closed, an activate, a column command. -/
inductive MchCmd where
  | none
  | precharge (row : Nat)
  | activate
  | column
deriving DecidableEq, Repr

/-- A request in the queue of a pseudo-channel (R263): its number, line, bank, row and whether it is a write. A scrubber's names the first line of its unit,
and becomes a write once the unit is read (R271). -/
structure MchReq where
  id : Nat
  line : Nat
  bank : Nat
  row : Nat
  write : Bool := false
  /-- one more than the stamp of acceptance; 0 while it stays in the slice -/
  accepted : Nat := 0
  urgent : Bool := false
  /-- column commands issued, of two -/
  cols : Nat := 0
  /-- its last command met a parity error (1), or was issued again for one (2); R256 -/
  parity : Nat := 0
  last : MchCmd := .none
  /-- bytes of its bursts decoded, and whether one was uncorrectable or poison; R268 -/
  got : List Byte := []
  bad : Bool := false
  /-- the scrubber's, and whether a symbol of its unit was corrected; R271 -/
  scrub : Bool := false
  fixed : Bool := false
deriving DecidableEq, Repr

/-- A pseudo-channel (R263, R265, R279). -/
structure PseudoCh where
  /-- requests in arrival order, at most 64 -/
  queue : List MchReq := []
  /-- requests whose column command has issued and whose bursts are awaited -/
  bursts : List MchReq := []
  /-- open row of each bank -/
  open_ : List (Nat × Nat) := []
  /-- bank pointer; R69 -/
  ptr : Nat := 0
  /-- the last 31 command slots, newest first: a column command issued; R279 -/
  slots : List Bool := []
  /-- refreshes owed per bank, in intervals: positive postponed, negative pulled in, biased by 8; R265 -/
  owed : List (Nat × Nat) := []
  /-- the last refresh of each bank: 1 issued, 2 met a parity error, 3 issued again for one; R256 -/
  refs : List (Nat × Nat) := []
  /-- pointer over the slice (0) and the scrubber (1); R69, R262 -/
  reqPtr : Nat := 0
  /-- corrected symbols of each lane in the window; R270 -/
  laneWin : Nat := 0
  laneCnt : List (Nat × Nat) := []
  /-- next unit the scrubber reads, and one more than the beat of the last; R271 -/
  scrub : Nat := 0
  scrubBeat : Nat := 0
deriving DecidableEq, Repr

/-- A run of a traffic generator (R281): MCH_TG_CTL and MCH_TG_RANGE as START found them; START was written 0. -/
structure TgRun where
  loops : Nat := 0
  seed : Nat := 0
  pattern : Nat := 0
  op : Nat := 0
  raw : Bool := false
  first : Nat := 0
  count : Nat := 0
  stopping : Bool := false
deriving DecidableEq, Repr

/-- A channel beside its registers (R272 to R274). -/
structure Channel where
  pc0 : PseudoCh := {}
  pc1 : PseudoCh := {}
  /-- why it trains: 0 start-up or APPLY, 1 in service, 2 test, 3 after a second parity error -/
  why : Nat := 0
  /-- the run of its traffic generator; R281 -/
  tg : Option TgRun := none
deriving DecidableEq, Repr

/-- A stack's sensor (R278): consecutive failed reads, and one more than the beat of the last reading. -/
structure Stack where
  fails : Nat := 0
  readAt : Nat := 0
deriving DecidableEq, Repr

/-- A pool page record (Table 09-4). -/
structure PageRec where
  pooled : Bool := false
  state : Nat := 0
  tier : Nat := 0
  frame : Nat := 0
  client : Nat := 0
  fails : Nat := 0
  touch : Nat := 0
  /-- beat of the last touch recorded by each quarter; R244 -/
  touched : List (Nat × Nat) := []
  /-- beat of its last failed move; R246 -/
  failedAt : Option Nat := none
deriving DecidableEq, Repr

/-- A pool command (Table 09-12) and how far it has come: 0 not begun, 1 waits for the move of its page, 2 held on its page's motion, 3 waits
for an eviction, 4 its page's frame is being given up, 5 ended with a code (Table 09-13). -/
structure PoolCmd where
  op : Nat
  client : Nat
  dp : Nat
  st : Nat := 0
  code : Nat := 0
  /-- waiting for an eviction: the page that is evicted for it; R248 -/
  victim : Nat := 0
  /-- a FREE whose frame is being given up: its tier and location, and the requests still open under the old entries; R189, R248 -/
  tier : Nat := 0
  frame : Nat := 0
  opened : List Nat := []
deriving DecidableEq, Repr

/-- A move in progress or decided (R250): page, source tier and frame number, target tier and frame number, whether it promotes, and whether the
pool chose it by itself for its tier's low water (R247). -/
structure PoolMove where
  dp : Nat
  fromTier : Nat
  fromFrame : Nat
  toTier : Nat
  toFrame : Nat
  promote : Bool := false
  sel : Bool := false
deriving DecidableEq, Repr

/-- The pool beside its registers (R242 to R253). Frame numbers count from 0 in each tier, in register order. -/
structure Pool where
  /-- page records that are not all zero, by device page; R243 -/
  recs : List (Nat × PageRec) := []
  /-- frames in use, by tier 3, 4, 5: tier x 2^20 + frame; R242 -/
  used : List Nat := []
  /-- the frame registers have been read since reset, and what they said: tier, location of the first frame, frames; R243, R253 -/
  known : Bool := false
  segs : List (Nat × Nat × Nat) := []
  /-- commands queued, oldest first, at most 32; R248 -/
  queue : List PoolCmd := []
  /-- moves in progress, at most 8, and moves decided that wait; R247 -/
  moves : List PoolMove := []
  later : List PoolMove := []
deriving DecidableEq, Repr

/-- Memory beside its registers: accesses, translation caches, shared cache, channels. -/
structure MemSys where
  /-- accesses in progress, oldest first -/
  accs : List MemAcc := []
  nextAcc : Nat := 0
  /-- quarter translation caches, at most 4,096 each; R187 -/
  qtc : List (Nat × List XltHeld) := []
  /-- walks in flight whose result is discarded, by access; R189 -/
  staleWalks : List Nat := []
  /-- invalidation in progress: accesses translated under the old entries; R189 -/
  draining : List Nat := []
  /-- lines of the shared cache, least recently used first; R231 -/
  shc : List ShcLine := []
  /-- scratch lines marked poisoned; R234 -/
  scratchBad : List Nat := []
  /-- device channels by number 32q + s; R255 -/
  chans : List (Nat × Channel) := []
  nextReq : Nat := 0
  sensors : List (Nat × Stack) := []
  /-- device channels in the address map, in slot order; R258 -/
  slots : List Nat := []
  /-- receive slots, 128 x quarter + slot; R168 -/
  kv : List (Nat × KvSlot) := []
  /-- stripes rejected with NO_SLOT, by 256 x source chip + 64 x quarter + LCI: one more than the offset of the last write so answered; R184 -/
  kvLost : List (Nat × Nat) := []
deriving DecidableEq, Repr
/-! ### Memories of the device -/

/-- Local HBM and pinned scratch. -/
structure MemSt where
  /-- physical bytes of local HBM that something has written, addresses strictly rising; T3 -/
  hbm : List Host.Cell := []
  /-- 64-byte lines of HBM stored as poison, by physical line address, rising; R282 -/
  poison : List Nat := []
  /-- how often the contents of HBM have been lost (R48, R277): unwritten bytes are free values after the first time -/
  epoch : Nat := 0
  /-- pinned scratch bytes by device address; R233 -/
  scratch : List Host.Cell := []
  /-- how often the contents of each quarter's pinned scratch became undefined; R233 -/
  scratchEpoch : List (Nat × Nat) := []
deriving DecidableEq, Repr

/-! ### Chapter 11: Carillon ports, link compression, outstanding requests -/

/-- A packet queued at a port (R289, R298, R316): how many of its flits have been sent, how many are here, and whether the last is among them; the port and
subclass that brought it, none for one of this device; whether its flits here hold places of that port's receive buffer; and whether its last flit is the one
that ends a packet broken on its way in. -/
structure TxPkt where
  pkt : Packet
  sent : Nat := 0
  avail : Nat
  ended : Bool := true
  inPort : Option Nat := none
  inSub : Nat := 0
  buffered : Bool := false
  extra : Bool := false
deriving DecidableEq, Repr

/-- A sequenced frame kept in the retry buffer (R293). -/
structure SentFrame where
  seq : Nat
  flits : List Flit
deriving DecidableEq, Repr

/-- A packet being assembled on one channel of a port (R296, R320). -/
structure Assembly where
  vc : Nat
  pkt : Packet
  /-- flits received so far -/
  flits : Nat := 1
  /-- the packet is being dropped to its end -/
  dropping : Bool := false
  /-- its flits move on as they come; R316 -/
  fwd : Bool := false
deriving DecidableEq, Repr

/-- Key setup of one port (R317 to R319). Keys themselves are the outside's; the stage and the counters are held. -/
structure Keying where
  /-- 0 not started, 1 KX1 exchanged, 2 KX2 exchanged, 3 KX3 exchanged and verified; R318 -/
  stage : Nat := 0
  /-- the belfry has taken the exchange up: the identity key is ready; R286, R318 -/
  taken : Bool := false
  /-- this side is the initiator; R318 -/
  initiator : Bool := false
  /-- keys installed in both directions; R318 -/
  installed : Bool := false
  /-- transcript hash T, or the salt of the last rekey; 32 bytes; R318, R319 -/
  transcript : List Byte := []
  /-- key material of the two directions, 36 bytes each, not readable; R318 -/
  keyTx : List Byte := []
  keyRx : List Byte := []
  /-- encapsulation key, ciphertext and nonces of the exchange; R318 -/
  ek : List Byte := []
  ct : List Byte := []
  nI : List Byte := []
  nR : List Byte := []
  /-- bytes of the key-exchange message being received; R318 -/
  rxMsg : List Byte := []
  /-- frame counters of the two directions; 64 bits; R317 -/
  ctrTx : Nat := 0
  ctrRx : Nat := 0
  /-- receive key phase; R319 -/
  phaseRx : Bool := false
  /-- a new receive key is derived and its first frame awaited; R319 -/
  rxNew : Bool := false
  /-- frame periods left in which the receiver accepts both phases; R319 -/
  bothPhases : Nat := 0
  /-- a rekey has started and not completed; R319 -/
  rekey : Bool := false
  /-- key-exchange message waiting for its answer, sent again after 1 ms; R318 -/
  unanswered : Option Nat := none
deriving DecidableEq, Repr

/-- One Carillon port beside its registers. -/
structure Port where
  /-- consecutive training failures; R286 -/
  fails : Nat := 0
  /-- a retry of training waits 100 ms; R286 -/
  retryWait : Bool := false
  /-- lanes left out of the two directions until ENABLE is written 0 then 1; 8 bits each; R287 -/
  outRx : Nat := 0
  outTx : Nat := 0
  /-- the receive lanes that have locked in this training, and the partner's PARAM: part serial, chip id, port, receive lane set; R287 -/
  lock : Option Nat := none
  param : Option (Nat × Nat × Nat × Nat) := none
  /-- key setup state; R317 to R319 -/
  key : Keying := {}
  /-- next SEQ to send; 12 bits; R293 -/
  txSeq : Nat := 0
  /-- retry buffer, oldest first, at most 32; R293 -/
  retry : List SentFrame := []
  /-- frames of the retry buffer still to be sent again; R294 -/
  resend : List SentFrame := []
  /-- SEQ expected; 12 bits; R294 -/
  rxSeq : Nat := 0
  /-- NAK to set in the next trailer; R294 -/
  nakNow : Bool := false
  /-- a NAK was sent and no frame accepted since; frame periods since then; R294 -/
  nakSent : Bool := false
  nakAge : Nat := 0
  /-- consecutive trailers with NAK and the same ACK; R288, R294 -/
  nakRun : Nat := 0
  nakAck : Nat := 0
  /-- consecutive frames failing their CRC; R288 -/
  crcRun : Nat := 0
  /-- packets queued for the port; R289, R298 -/
  txq : List TxPkt := []
  /-- packets wholly sent whose last frame is not yet acknowledged, with the SEQ of that frame; R289 -/
  sentPkts : List (Nat × Packet) := []
  /-- pointers over the sources of each channel's packets; R69, R316 -/
  srcPtr : List (Nat × Nat) := []
  /-- link-control messages to send; R298 -/
  linkq : List LinkMsg := []
  /-- flits the partner has freed since UP, as its last CREDIT said, 16 counts VC 0 SUB 0, VC 0 SUB 1, ...; R297 -/
  peerFreed : List Nat := []
  /-- flits sent per channel and subclass since UP, modulo 2^16; R297 -/
  sentFlits : List Nat := []
  /-- flits of this receiver freed per channel and subclass since UP, modulo 2^16; R297 -/
  freed : List Nat := []
  /-- flits received per channel and subclass since UP, modulo 2^16; R297 -/
  gotFlits : List Nat := []
  /-- flits received before UP and not yet freed, which no CREDIT since UP counts; R297 -/
  oldFlits : List Nat := []
  /-- packets in assembly; R296 -/
  asm : List Assembly := []
  /-- packets received whole and not yet served by their own command -/
  rxq : List Packet := []
  /-- arbiter pointers of the ordinary, beat and knell classes; R69, R70 -/
  ptrOrd : Nat := 0
  ptrBeat : Nat := 0
  ptrKnell : Nat := 0
  /-- violation window number, violations and tag failures in it; R321, R322 -/
  violWin : Nat := 0
  violCnt : Nat := 0
  tagCnt : Nat := 0
  /-- quarantine to start at the next boundary; R321 -/
  quarPending : Bool := false
  /-- beat at which the quarantine ends; R321 -/
  quarEnd : Nat := 0
  /-- lane error window number; corrected symbols of each lane in it; lanes that reached LANE_LIMIT in it and in the one before; R288 -/
  laneWin : Nat := 0
  laneSum : List Nat := []
  limitCur : Nat := 0
  limitPrev : Nat := 0
  /-- the port is disabled at the end of the frame that carries the knell; R416 -/
  closing : Bool := false
  /-- last HEARTBEAT: chip id, INC, part serial; R414 -/
  hbChip : Nat := 0x1FFFF
  hbInc : Nat := 0
  hbSerial : Nat := 0
  /-- start of the liveness window; none while no window runs; R414 -/
  liveFrom : Option Nat := none
  /-- the port left UP for FAILED or DISABLED and its PING is owed; R414 -/
  leftUp : Bool := false
  /-- stamp of an unanswered PING to the port's partner; R414 -/
  pingAt : Option Nat := none
deriving DecidableEq, Repr

/-- Who waits for an outstanding request (R241, R300). -/
inductive Waiter where
  /-- an access of this device, by number -/
  | access (id : Nat)
  /-- a KV roll write of a core's DMA channel: the header, or the payload bytes -/
  | kvStripe (core ch len : Nat)
  /-- a pool move of a page -/
  | pool (dp : Nat)
  /-- a collective packet of a slot -/
  | collective (slot : Nat)
  | image
  | mirror
  | swapTable (core : Nat)
  | evtRing
  | cmdRing
  | other
deriving DecidableEq, Repr

/-- An outstanding request to T4 or T5 (R241, R300). -/
structure Req where
  tag : Nat
  /-- PTYPE of the request, or 0 for a HauneLink request -/
  ptype : Nat
  dst : Nat := 0
  addr : Nat := 0
  waiter : Waiter := .other
  /-- issue stamp, for the window of R241 -/
  issued : Nat := 0
  /-- block copy kept until answered (R304), with its counts of DAMAGED and NO_TABLE answers -/
  copy : Option Packet := none
  /-- quarter whose LCX formed the block -/
  quarter : Nat := 0
  damaged : Nat := 0
  noTable : Nat := 0
  /-- beat of the next resend (R304, R341), 0 for none, and whether it follows a BUSY -/
  resendAt : Nat := 0
  busy : Bool := false
deriving DecidableEq, Repr

/-- A factor table slot of LCX and LEX (R306). -/
structure TableSlot where
  epoch : Nat := 0
  bases : Nat := 0
  /-- FP32 values, basis by basis, row by row -/
  values : List (BitVec 32) := []
deriving DecidableEq, Repr

/-- LCX and LEX of one quarter (R306 to R309). -/
structure Lex where
  /-- slots 0 and 1; none is empty; R306 -/
  slot0 : Option TableSlot := none
  slot1 : Option TableSlot := none
  /-- load pending or running: epoch, BASES, address, started; R307 -/
  loadEpoch : Nat := 0
  loadBases : Nat := 0
  loadAddr : Nat := 0
  loadRunning : Bool := false
  /-- epochs of blocks queued at LEX; R307 -/
  queued : List Nat := []
deriving DecidableEq, Repr

/-- The fabric: ports, outstanding requests, LCX and LEX. -/
structure Fabric where
  /-- ports P00 to P15; R284 -/
  ports : List (Nat × Port) := []
  /-- outstanding requests; R241, R300 -/
  reqs : List Req := []
  /-- next TAG; 32 bits; Table 11-8 -/
  nextTag : Nat := 0
  /-- LCX and LEX of the four quarters; R306 -/
  lex : List (Nat × Lex) := []
  /-- packets whose destination is this device's own units, raised inside it (answers and NACKs to its own requests) -/
  localq : List Packet := []
deriving DecidableEq, Repr


/-! ### Chapter 12: collective slots -/

/-- A piece held at FRE (R333, R336, R348): the level of its child, its first row of 256 bytes and its FP32 values, for a level whose turn has not
come; or a BCAST piece that has landed and waits to be forwarded. -/
structure HeldPiece where
  level : Nat
  row : Nat
  vals : List F32 := []
  pkt : Packet
deriving DecidableEq, Repr

/-- A collective slot beside its registers: the descriptor copied at POST and the progress of its work. What it has sent and not had answered
stands among the outstanding requests of the fabric. -/
structure ColSlot where
  /-- COL_DESC0, COL_DESC1, COL_SRC, COL_DST, COL_BYTES, COL_AUX and COL_UPD as posted; R326 -/
  desc0 : Nat := 0
  desc1 : Nat := 0
  src : Nat := 0
  dst : Nat := 0
  bytes : Nat := 0
  aux : Nat := 0
  upd : List Nat := []
  /-- number in order of release; R328 -/
  rel : Nat := 0
  /-- KiB reserved; R336 -/
  kib : Nat := 0
  /-- partial sums of tiles begun and not finished: tile and its 4,096 values; R333 -/
  part : List (Nat × List F32) := []
  /-- rows of 256 bytes added, keyed tile x 32 + level, as a mask of 64; R333 -/
  added : List (Nat × Nat) := []
  held : List HeldPiece := []
  /-- tiles finished and written to DST; R333 -/
  finished : List Nat := []
  /-- tiles counted under R122 in this attempt; R343 -/
  counted : List Nat := []
  /-- the next piece to send to the parent: tile, and its part; R333, R339 -/
  nextSend : Nat := 0
  nextPart : Nat := 0
  /-- levels of children whose SEAL was consumed, and SEALs that wait for pieces still held; R335, R337 -/
  sealed_ : List Nat := []
  sealWait : List (Nat × Packet) := []
  sealSent : Bool := false
  /-- levels of children whose pieces are discarded until their RESTART; R351 -/
  await : List Nat := []
  /-- mismatches of this attempt; R353 -/
  mism : Nat := 0
  /-- overflow flag so far; R342 -/
  ovf : Bool := false
  /-- levels of children whose VOTE_UP arrived, the OR of their votes, and whether the vote was sent up or taken; R344 -/
  voted : List Nat := []
  voteOr : Bool := false
  voteSent : Bool := false
  voteTaken : Bool := false
  /-- BCAST: next byte to send at rank 0, pieces landed (offset and bytes), and whether the parent's SEAL was consumed; R348 -/
  bcNext : Nat := 0
  landed : List (Nat × Nat) := []
  bcSeal : Bool := false
  /-- BCAST: pieces on their way to a DST in T4, T5 or another chip, not answered yet; R337 -/
  landing : List Packet := []
deriving DecidableEq, Repr

/-- Collectives beside the registers of Table 12-9. -/
structure ColSt where
  slots : List (Nat × ColSlot) := []
  /-- number of the next release -/
  nextRel : Nat := 1
  /-- steps closed in this job, each with its attempt; R346 -/
  closed : List (Nat × Nat) := []
deriving DecidableEq, Repr


/-! ### Chapter 14: power -/

/-- A heavy-phase plan (R389): the beat it was entered in, its start and end in beats, its level in mW, and whether it could not be met (R390). -/
structure Plan where
  entered : Nat
  start : Nat
  stop : Nat
  level : Nat
  short : Bool := false
deriving DecidableEq, Repr

/-- Power management beside the registers of Table 14-3. Powers are in mW. -/
structure Power where
  /-- powers of the bins finished since the averaging began, newest first, at most WINDOW_S x 1,000; R380, R381 -/
  bins : List Nat := []
  /-- VDD_C share and the rest of the last bin; R382 -/
  coreShare : Nat := 0
  otherShare : Nat := 0
  /-- sum of the beats of the bin in progress, their VDD_C share, and their count; R379 -/
  sum : Nat := 0
  coreSum : Nat := 0
  beats : Nat := 0
  /-- the beat measured last, and the number of the bin in progress; R379 -/
  sampled : Option Nat := none
  bin : Nat := 0
  /-- energy since reset, in nJ; R379 -/
  energy : Nat := 0
  /-- powers of the latest 1,000 beats, newest first; R388 -/
  last : List Nat := []
  /-- the fast limiter acts; it acted in the bin in progress; beats since one exceeded 2,500 W; R388 -/
  fast : Bool := false
  fastBin : Bool := false
  calm : Nat := 0
  /-- averaging restarts at the next bin boundary; R381 -/
  restart : Bool := false
  /-- plans, at most 16, in order of entry; R389 -/
  plans : List Plan := []
  /-- a raise waits for the regulator: target point and beat of the request; R384 -/
  raising : Option (Nat × Nat) := none
  /-- the VC_VID code driven; R496 -/
  vid : Nat := 0
  /-- a duty chosen for the next group of eight beats; R392 -/
  dutyNext : Nat := 8
  /-- consecutive beats in which no core reported slack below the guard; R386 -/
  slack : Nat := 0
  /-- cores whose clock is stretched; R387 -/
  stretched : List Nat := []
  /-- k of R396 at the last bin boundary -/
  k : Nat := 0
  /-- the first full image load has been made; R384 -/
  loaded : Bool := false
  /-- LATE owed at the next beat boundary: its reason and k; R396 -/
  lateOwed : Option (Nat × Nat) := none
  /-- HBM LATE owed: T of the reading and the quarter; R280 -/
  hbmLate : List (Nat × Nat) := []
  /-- per-core fmax of the part record, core x 8 + OP, in units of 6.25 MHz; R385 -/
  fmax : List Nat := []
  /-- the thermal trip output is asserted; R395, R499 -/
  tripped : Bool := false
deriving DecidableEq, Repr
/-! ### Chapter 15: event records, holds, takeover -/

/-- An event record (Table 15-2), and whether it went to the ring (R445) with its LOST count (R444). -/
structure EventRec where
  code : Nat
  cls : Nat
  seq : Nat
  beat : Nat
  frac : Nat
  source : Nat
  chip : Nat
  step : Nat
  attempt : Nat
  detail : List Byte
  /-- TAIL it was written at; none if dropped (R445) -/
  slot : Option Nat
  lost : Nat
deriving DecidableEq, Repr

/-- A hold (R409): a chip id and a kind, REPAIR or TAKEOVER. -/
structure Hold where
  chip : Nat
  repair : Bool
deriving DecidableEq, Repr

/-- An assignment directed by the host of a lost chip (R419). -/
structure Assign where
  lost : Nat
  /-- INC and part serial that the knell named -/
  inc : Nat := 0
  serial : Nat := 0
  /-- directory entry -/
  index : Nat := 0
  /-- standbys of the entry still to be tried, the assigned one first -/
  standbys : List Nat := []
  /-- beat of the ASSIGN, and of the ACCEPT if one came -/
  sentAt : Nat := 0
  acceptedAt : Option Nat := none
deriving DecidableEq, Repr

/-- The takeover a standby carries out (R420, R422). -/
structure Takeover where
  lost : Nat
  host : Nat
  index : Nat := 0
  /-- INC of L that the ASSIGN names -/
  inc : Nat := 0
  slotBytes : Nat := 0
  /-- restore: 0 not begun, 1 running, 2 second try, 3 done -/
  restore : Nat := 0
  /-- owners whose REMIRRORED has arrived -/
  remirrored : List Nat := []
deriving DecidableEq, Repr

/-- Fault state beside the registers of Table 15-11. -/
structure FaultSt where
  /-- event records written, newest last; R401 -/
  events : List EventRec := []
  /-- records dropped since the last one delivered; R444 -/
  lostSince : Nat := 0
  /-- set of holds; R409 -/
  holds : List Hold := []
  /-- removals that arrived before their hold, with their beat; R409 -/
  early : List (Hold × Nat) := []
  /-- keys of flooded messages seen, newest last, with their beat; at most 64; R410 -/
  keys : List (FaultMsg × Nat) := []
  /-- votes of this step are withheld; R405 -/
  withheld : Option Nat := none
  /-- first attempt of the step in progress; R408 -/
  firstStep : Nat := 0
  firstAttempt : Nat := 0
  /-- window number of R406, events counted against the device and against each core -/
  ueWin : Nat := 0
  ueCnt : Nat := 0
  ueCore : List (Nat × Nat) := []
  /-- failed cores (68q + n); R411 -/
  failed : List Nat := []
  /-- failed cores whose swap was not completed; R412 -/
  swapWait : List Nat := []
  /-- entries of FLT_LOST in the order they were filled, oldest first; R417 -/
  lostAge : List Nat := []
  /-- chips refused with LINK_DOWN until CLAIMED; R417 -/
  refused : List Nat := []
  /-- PINGs unanswered: partner chip and beat; R415 -/
  unanswered : List (Nat × Nat) := []
  /-- assignments directed by this host; R419 -/
  assigns : List Assign := []
  /-- beat at which each TAKEOVER hold was taken; R419 -/
  holdSince : List (Nat × Nat) := []
  /-- takeover in hand at this standby; R420 -/
  takeover : Option Takeover := none
  /-- chip id taken over by this device, if any; R421 -/
  claimed : Option Nat := none
  /-- quarters in compute service (bit q); R411, R416 -/
  inService : Nat := 0
  /-- fault messages sent, newest last: port (16 for routed) and message with HOPS; R410 -/
  sent : List (Nat × Nat × FaultMsg) := []
  /-- class awaiting an in-band interrupt; R451 -/
  ibiPending : Option Nat := none
  /-- beat of the last in-band interrupt; R451 -/
  ibiLast : Option Nat := none
  /-- event ring: notification owed and the beat of the last one; R446 -/
  notifyOwed : Bool := false
  notifyLast : Option Nat := none
deriving DecidableEq, Repr

/-! ### Chapter 16: HauneLink, coherence, rings, I3C, JTAG -/

/-- A snoop waiting for its answer (R435 to R438) with the device request that waits for it. -/
structure Snoop where
  tag : Nat
  /-- physical line number, and the device address sent -/
  line : Nat
  addr : Nat := 0
  half : Nat := 0
  /-- SNP_INV, or SNP_SHARE -/
  inv : Bool
  /-- the entry was OWNED; R438 -/
  owned : Bool := false
  issued : Nat
  /-- dirty data supplied by a WB_DIRTY; R437 -/
  supplied : Bool := false
deriving DecidableEq, Repr

/-- One half of HauneLink (R426 to R430). -/
structure HlHalf where
  /-- consecutive training failures; R430 -/
  fails : Nat := 0
  retryWait : Bool := false
  /-- lanes left out until the half is disabled and enabled; 4 bits; R427 -/
  left : Nat := 0
  /-- next SEQ to send and SEQ expected; 10 bits; R428, R429 -/
  txSeq : Nat := 0
  rxSeq : Nat := 0
  /-- flits that wait for room in the retry buffer or for the half to be UP, oldest first: KIND and slot; R429, R431 -/
  wait : List (Nat × List Byte) := []
  /-- the retry buffer, oldest first, at most 256 flits: SEQ and the 68 bytes; R428, R429 -/
  retry : List (Nat × List Byte) := []
  /-- a NAK was sent and the resend has not come; R429 -/
  nakSent : Bool := false
  /-- consecutive CRC failures; R430 -/
  crcRun : Nat := 0
  /-- consecutive NAKs naming one flit; R430 -/
  nakRun : Nat := 0
  nakSeq : Nat := 0
  /-- flit periods since the last ACK; R429 -/
  sinceAck : Nat := 0
deriving DecidableEq, Repr

/-- A device request on HauneLink not yet answered (R432, R433). -/
structure HlReq where
  tag : Nat
  half : Nat
  op : Nat
  addr : Nat
  data : List Byte := []
  waiter : Waiter := .other
  issued : Nat := 0
deriving DecidableEq, Repr

/-- A snoop filter entry (R435): a line the companion may hold. Newest use last. -/
structure SfEntry where
  line : Nat
  /-- device address under which the companion asked for it -/
  addr : Nat := 0
  owned : Bool
deriving DecidableEq, Repr

/-- The command entry in execution (Table 16-4). -/
structure CmdEntry where
  words : List Nat
  /-- a WAIT_BEAT or POLL64 has begun to wait -/
  started : Bool := false
  /-- beats a POLL64 has waited, and the beat of its last read -/
  polled : Nat := 0
  sampled : Nat := 0
deriving DecidableEq, Repr

/-- HauneLink and device control beside the registers of Table 16-9. -/
structure Haune where
  half0 : HlHalf := {}
  half1 : HlHalf := {}
  /-- device requests open, oldest first; R432, R433 -/
  reqs : List HlReq := []
  /-- next TAG of a device request; 16 bits -/
  nextTag : Nat := 0
  /-- TAGs of companion requests open; R455 -/
  open_ : List (Nat × Nat) := []
  /-- snoops open; R437, R438 -/
  snoops : List Snoop := []
  /-- snoop filter entries, per slice (32 x quarter + slice), least recently used first; R435 -/
  filter : List (Nat × List SfEntry) := []
  /-- companion violation window; R456 -/
  violWin : Nat := 0
  violCnt : Nat := 0
  quarPending : Bool := false
  quarEnd : Nat := 0
  /-- command ring: the entry in execution; R442 -/
  cmd : Option CmdEntry := none
  /-- the entry at HEAD is being read, or written back; R442 -/
  cmdRead : Bool := false
  cmdBack : Bool := false
  /-- the event ring has been configured since reset; R445 -/
  evtSet : Bool := false
  /-- I3C: answer waiting for the private read; R449 -/
  i3cAnswer : Option (List Byte) := none
  /-- in-band interrupts enabled by ENEC; R448 -/
  i3cEvents : Bool := true
  /-- telemetry snapshot; 64 bytes; R450 -/
  telemetry : List Byte := []
  /-- upper halves latched by a 32-bit read of a lower half: CSR address and value; R5 -/
  latch : List (Nat × Nat) := []
  /-- JTAG instruction register; 8 bits; R452 -/
  ir : Nat := 1
  /-- a JTAG CSR access has been answered: ERR and data; R454 -/
  jtagDone : Bool := false
  jtagErr : Bool := false
  jtagData : Nat := 0
  /-- DEBUG_ATTACH logged since reset; R447 -/
  attached : Bool := false
  /-- boundary test has taken the balls; R453 -/
  ballsTaken : Bool := false
deriving DecidableEq, Repr


/-! ### Chapter 17: start-up, identity and the attestation log -/

/-- Start-up beside the registers of Table 17-11. -/
structure Boot where
  flash : Flash := {}
  /-- what the outside and the silicon make of this start -/
  env : StartEnv := {}
  /-- the hand-over latch: 0 empty, 1 CHECKPOINT, 2 CLAIM; R458 -/
  latch : Nat := 0
  /-- step of Table 17-3 in hand; 0 before reset release -/
  step : Nat := 0
  /-- steps 8, 9 and 10 done (bits 0, 1, 2); R463 -/
  done : Nat := 0
  /-- part record in force -/
  part : List Byte := []
  /-- quarters that passed step 8; R467 -/
  q8 : Nat := 0
  /-- log entries retained, newest last, at most 4,096; R474 -/
  log : List (List Byte) := []
  count : Nat := 0
  /-- C_n; 32 bytes; R473 -/
  chain : List Byte := List.replicate 32 0
  /-- DEBUG_ATTACH to append after START: the JTAG instruction code; R473 -/
  attach : Option Nat := none
  /-- the quote being signed: its 128 bytes; R475 -/
  quote : List Byte := []
  /-- stage 2: the fetch in progress, its address and length -/
  s2addr : Nat := 0
  s2len : Nat := 0
  /-- damped command in progress: OP and REGION; R478 -/
  damped : Option (Nat × Nat) := none
  /-- the mailbox slice of damped mode; R477 -/
  mailSlice : Nat := 0
  /-- RESET_N is high; R495 -/
  resetN : Bool := true
  /-- damped mode was asked for by ENTER_DAMPED; R479 -/
  asked : Bool := false
deriving DecidableEq, Repr
/-- Everything the block holds but the queue of commands. -/
structure Dev where
  regs : List (Nat × RegVal) := []
  free : Nat := 0
  out : List Output := []
  img : Image := {}
  clk : Clock := {}
  pat : Pattern := {}
  fab : Fabric := {}
  flt : FaultSt := {}
  hl : Haune := {}
  mem : MemSt := {}
  sys : MemSys := {}
  num : NumSt := {}
  cores : List (Nat × Core) := []
  tolls : List (Nat × TollCh) := []
  /-- TPOSTs on their way over the mesh; R150 -/
  posts : List TapPost := []
  pool : Pool := {}
  col : ColSt := {}
  pwr : Power := {}
  boot : Boot := {}
deriving DecidableEq, Repr

/-- The state of the block: the device and the commands waiting, first in, first out. -/
structure State where
  dev : Dev := {}
  pending : List Instr := []
deriving DecidableEq, Repr

/-- Why a command stops the machine. -/
inductive Fault where
  /-- A command's operand names a quarter, core, port, slot, channel or register instance that the manual does not give the device.
  Raised by every meaning with such an operand. Safe: no effect is claimed for a unit that does not exist. -/
  | noSuchUnit
deriving DecidableEq, Repr

/-- Why a command has no meaning. -/
inductive Refusal where
  /-- The command's meaning is not written. Raised only by an arm of exec. Safe: nothing is claimed. -/
  | notModelled (mnemonic : String)
deriving DecidableEq, Repr

/-- The machine right after reset: every register at its reset value, nothing in the queue. -/
def State.reset : State := {}

end Sys2Proof.Machine
end

