-- ==== Sys2Proof/Machine/Ops.lean ====
section
/-!
DEFINITION. Sys2Proof/Machine/Ops.lean: the named operations every family uses: sparse maps, byte memory, registers (R5, R6,
R482 to R485), the stamp (R50, R65), free values, packet routing (R311 to R315), leaving service (R289), event records
(R401, R444 to R446), the knell (R416), rewind orders (R405 to R409) and failed cores (R411, R412).
-/

namespace Sys2Proof.Machine

/-! ### Sparse maps in canonical form -/

/-- The value at a key of a sparse map; `dflt` where the map lists nothing. -/
def mget {α : Type} (dflt : α) : List (Nat × α) → Nat → α
  | [], _ => dflt
  | (k', v) :: m, k => if k' = k then v else mget dflt m k

/-- A sparse map without a key. -/
def merase {α : Type} (m : List (Nat × α)) (k : Nat) : List (Nat × α) := m.filter (fun e => decide (e.1 ≠ k))

/-- A sparse map with a new entry, before the first greater key. -/
def minsert {α : Type} : List (Nat × α) → Nat → α → List (Nat × α)
  | [], k, v => [(k, v)]
  | (k', v') :: m, k, v => if k < k' then (k, v) :: (k', v') :: m else (k', v') :: minsert m k v

/-- Write a key of a sparse map; writing the default removes the entry, so that equal maps are equal lists. -/
def mset {α : Type} [DecidableEq α] (dflt : α) (m : List (Nat × α)) (k : Nat) (v : α) : List (Nat × α) :=
  if v = dflt then merase m k else minsert (merase m k) k v

/-- The canonical form from a lower bound: keys strictly rising from `lo`, and no entry equal to the default. -/
def mwfFrom {α : Type} [DecidableEq α] (dflt : α) (lo : Nat) : List (Nat × α) → Bool
  | [] => true
  | (k, v) :: m => decide (lo ≤ k) && decide (v ≠ dflt) && mwfFrom dflt (k + 1) m

/-- The canonical form of a sparse map. -/
def mwf {α : Type} [DecidableEq α] (dflt : α) (m : List (Nat × α)) : Bool := mwfFrom dflt 0 m

/-! ### Numbers and bytes -/

/-- Bits [hi:lo] of a number. -/
def bits (v hi lo : Nat) : Nat := (v >>> lo) % 2 ^ (hi - lo + 1)

/-- Bit b of a number. -/
def bitOf (v b : Nat) : Bool := (v >>> b) % 2 = 1

/-- A mask with bit b set or cleared. -/
def setBit (v b : Nat) (on : Bool) : Nat :=
  if bitOf v b = on then v else if on then v + 2 ^ b else v - 2 ^ b

/-- One for true, zero for false. -/
def b2n (b : Bool) : Nat := if b then 1 else 0

/-- How many of the lowest n bits are set. -/
def popCount (n v : Nat) : Nat := ((List.range n).filter (fun b => bitOf v b)).length

/-- A signed number from its low n bits. -/
def signed (n v : Nat) : Int := if v % 2 ^ n < 2 ^ (n - 1) then (v % 2 ^ n : Nat) else (v % 2 ^ n : Nat) - (2 ^ n : Nat)

/-- The low n bits of a signed number. -/
def unsigned (n : Nat) (v : Int) : Nat := (v % (2 ^ n : Nat)).toNat

/-- The n low bytes of a number, lowest first (R4). -/
def leBytes : Nat → Nat → List Byte
  | 0, _ => []
  | n + 1, v => BitVec.ofNat 8 v :: leBytes n (v / 256)

/-- The number that bytes spell, lowest byte first (R4). -/
def leNat : List Byte → Nat
  | [] => 0
  | b :: bs => b.toNat + 256 * leNat bs

/-- n bytes of a list from an offset; bytes past its end read as zero. -/
def slice (bs : List Byte) (off n : Nat) : List Byte :=
  let t := (bs.drop off).take n
  t ++ List.replicate (n - t.length) 0

/-- The little-endian number of n bytes at an offset. -/
def leAt (bs : List Byte) (off n : Nat) : Nat := leNat (slice bs off n)

/-- Division rounded up. -/
def ceilDiv (a b : Nat) : Nat := (a + b - 1) / b

/-- A setting whose value 0 is taken as 1. -/
def atLeast1 (n : Nat) : Nat := if n = 0 then 1 else n

/-- Replace element i of a list. -/
def setAt {α : Type} : List α → Nat → α → List α
  | [], _, _ => []
  | _ :: l, 0, v => v :: l
  | x :: l, i + 1, v => x :: setAt l i v

/-! ### Byte memory -/

/-- What byte a of memory `space` that nothing has written reads as: a free value (chapters 09 and 10 give no contents at power-up). -/
def Mem.init (space a : Nat) : Byte := Config.initByte space a

/-- One byte of a memory. -/
def bread (space : Nat) (m : List Host.Cell) (a : Nat) : Byte := mget (Mem.init space a) m a

/-- Write one byte of a memory. -/
def bwrite (space : Nat) (m : List Host.Cell) (a : Nat) (v : Byte) : List Host.Cell := mset (Mem.init space a) m a v

/-- n bytes from an address. -/
def breadN (space : Nat) (m : List Host.Cell) (a : Nat) : Nat → List Byte
  | 0 => []
  | n + 1 => bread space m a :: breadN space m (a + 1) n

/-- Write bytes from an address upwards. -/
def bwriteN (space : Nat) (m : List Host.Cell) (a : Nat) : List Byte → List Host.Cell
  | [] => m
  | v :: vs => bwriteN space (bwrite space m a v) (a + 1) vs

/-- The canonical form of a memory from a lower bound: addresses strictly rising, and no entry equal to what an unlisted address reads as. -/
def mwfMem (space : Nat) : Nat → List Host.Cell → Bool
  | _, [] => true
  | lo, (k, v) :: m => decide (lo ≤ k) && decide (v ≠ Mem.init space k) && mwfMem space (k + 1) m

/-- The canonical form of a memory. -/
abbrev Memory.wf (space : Nat) (m : List Host.Cell) : Bool := mwfMem space 0 m

/-! ### Registers -/

/-- The CSR address of a register instance: unit u (quarter, or core as 68 x quarter + number) and index i (R481, R482, R483). -/
def Reg.addr (r : Reg) (u i : Nat) : Nat :=
  let f := r.info
  match f.scope with
  | .dev => f.base + i * f.stride
  | .quarterD => 0x04000000 + f.base + i * f.stride
  | .quarter => 0x04000000 * (u + 1) + f.base + i * f.stride
  | .core => 0x04000000 * (u / 68 + 1) + (u % 68) * 0x40000 + f.base + i * f.stride

/-- A register's reset value: that of its fields. -/
def Reg.rst (r : Reg) : RegVal :=
  r.info.fields.foldl (fun v f => v ||| (BitVec.ofNat 256 f.rst <<< f.lo)) 0

/-- The contents of a register. -/
def Dev.reg (d : Dev) (r : Reg) (u i : Nat) : RegVal := mget r.rst d.regs (r.addr u i)

/-- Set the contents of a register. -/
def Dev.setReg (d : Dev) (r : Reg) (u i : Nat) (v : RegVal) : Dev :=
  { d with regs := mset r.rst d.regs (r.addr u i) v }

/-- A field of a register, as a number. -/
def Dev.get (d : Dev) (f : Fld) (u : Nat := 0) (i : Nat := 0) : Nat :=
  bits (d.reg f.reg u i).toNat f.hi f.lo

/-- A mask of ones over bits [hi:lo]. -/
def maskOf (hi lo : Nat) : RegVal := BitVec.ofNat 256 ((2 ^ (hi - lo + 1) - 1) * 2 ^ lo)

/-- Set a field of a register to a number, taken modulo its width. -/
def Dev.put (d : Dev) (f : Fld) (u : Nat) (i : Nat) (n : Nat) : Dev :=
  let m := maskOf f.hi f.lo
  d.setReg f.reg u i ((d.reg f.reg u i &&& ~~~m) ||| (BitVec.ofNat 256 (n * 2 ^ f.lo) &&& m))

/-- Set a device-wide field. -/
def Dev.putD (d : Dev) (f : Fld) (n : Nat) : Dev := d.put f 0 0 n

/-- A one-bit field as a Boolean. -/
def Dev.flag (d : Dev) (f : Fld) (u : Nat := 0) (i : Nat := 0) : Bool := d.get f u i ≠ 0

/-! ### Time -/

/-- The beat count. -/
def Dev.beat (d : Dev) : Nat := d.get F.BEAT_NOW_V

/-- The 16-bit fraction shown with the count (R50). -/
def Dev.frac16 (d : Dev) : Nat := d.clk.frac.toNat / 2 ^ 32

/-- The stamp of the present tick, in units of 1/65,536 beat. -/
def Dev.now (d : Dev) : Nat := d.beat * 65536 + d.frac16

/-! ### Free values and outputs -/

/-- A free value of n bits: nothing constrains it. The counter moves on, so that each is a fresh one. -/
def Dev.fresh (d : Dev) (n : Nat) : Nat × Dev :=
  (Config.freeNat d.free % 2 ^ n, { d with free := d.free + 1 })

/-- Record what the block sends outside. -/
def Dev.emit (d : Dev) (o : Output) : Dev := { d with out := d.out ++ [o] }

/-- The chip id in force. -/
def Dev.chip (d : Dev) : Nat := d.get F.GLOBAL_CHIP_ID_CHIP

/-- Apply an operation for each element of a list, in order. -/
def Dev.each {α : Type} (d : Dev) (l : List α) (f : Dev → α → Dev) : Dev := l.foldl f d

/-! ### Cores and ports -/

/-- Core c (68 x quarter + number). -/
def Dev.core (d : Dev) (c : Nat) : Core := mget {} d.cores c

/-- Replace core c. -/
def Dev.setCore (d : Dev) (c : Nat) (v : Core) : Dev := { d with cores := mset {} d.cores c v }

/-- Port n (0 to 15). -/
def Dev.port (d : Dev) (n : Nat) : Port := mget {} d.fab.ports n

/-- Replace port n. -/
def Dev.setPort (d : Dev) (n : Nat) (v : Port) : Dev :=
  { d with fab := { d.fab with ports := mset {} d.fab.ports n v } }

/-- A field of the registers of port n (R284: quarter n / 4, local port n mod 4). -/
def Dev.pget (d : Dev) (f : Fld) (n : Nat) : Nat := d.get f (n / 4) (n % 4)

/-- Set a field of the registers of port n. -/
def Dev.pput (d : Dev) (f : Fld) (n v : Nat) : Dev := d.put f (n / 4) (n % 4) v

/-- The state of port n (Table 11-18). -/
def Dev.portState (d : Dev) (n : Nat) : Nat := d.pget F.FAB_PORT_STATUS_STATE n

/-- No clock source is selected: no core, memory controller, link transmitter or beat timer runs (R41, R48). -/
def Dev.noSource (d : Dev) : Bool := d.get F.BEAT_CLK_STATUS_SELECTED = 0

/-- Port n is UP. -/
def Dev.portUp (d : Dev) (n : Nat) : Bool := d.portState n = 3

/-- The ports that are UP. -/
def Dev.upPorts (d : Dev) : List Nat := (List.range 16).filter (fun n => d.portUp n)

/-- Core c is gated: it failed (R411), or it did not pass its start-up test (R484). -/
def Dev.gated (d : Dev) (c : Nat) : Bool :=
  d.flt.failed.contains c || !bitOf (d.get F.BOOT_CORE_OK_OK 0 (c / 68)) (c % 68)

/-- The binding entry of core c in force; off before any image. -/
def Dev.bindOf (d : Dev) (c : Nat) : Bind :=
  match d.img.inForce with
  | none => {}
  | some s => s.bind.getD c {}

/-- Tensor groups of the image in force (GROUPS). -/
def Dev.groups (d : Dev) : Nat := ((d.img.inForce.map (·.groups)).getD []).length

/-- The physical core that LCI l of quarter q is bound to (R21). -/
def Dev.lciCore (d : Dev) (q l : Nat) : Option Nat :=
  ((List.range 68).map (fun n => 68 * q + n)).find? (fun c => (d.bindOf c).role = 1 && (d.bindOf c).lci = l)

/-- The cores of quarter q that the binding makes active, less failed cores (Table 03-4, R411). -/
def Dev.activeCores (d : Dev) (q : Nat) : List Nat :=
  ((List.range 68).map (fun n => 68 * q + n)).filter (fun c => (d.bindOf c).role = 1 && !d.flt.failed.contains c)

/-! ### Saturating counters and sticky bits -/

/-- Add to a counter that saturates at the field's largest value. -/
def Dev.count (d : Dev) (f : Fld) (u : Nat := 0) (i : Nat := 0) (n : Nat := 1) : Dev :=
  d.put f u i (min (2 ^ (f.hi - f.lo + 1) - 1) (d.get f u i + n))

/-- Count in a port register. -/
def Dev.pcount (d : Dev) (f : Fld) (n : Nat) (k : Nat := 1) : Dev := d.count f (n / 4) (n % 4) k

/-! ### HauneLink requests of the device (R431 to R433) -/

/-- The state of half h (Table 16-11). -/
def Dev.hlState (d : Dev) (h : Nat) : Nat :=
  if h = 0 then d.get F.HL_STATUS_STATE0 else d.get F.HL_STATUS_STATE1

/-- The half that traffic towards companion address a takes (R431); none if no half is UP or RETRAINING. -/
def Dev.hlHalfFor (d : Dev) (a : Nat) : Option Nat :=
  let live := fun h => d.hlState h = 2 || d.hlState h = 3
  let pick := b2n (bitOf a 12)
  if live 0 && live 1 then some pick
  else if live 0 then some 0
  else if live 1 then some 1
  else none

/-- Half h of HauneLink. -/
def Dev.hlHalf (d : Dev) (h : Nat) : HlHalf := if h = 0 then d.hl.half0 else d.hl.half1

/-- Replace half h of HauneLink. -/
def Dev.setHlHalf (d : Dev) (h : Nat) (v : HlHalf) : Dev :=
  if h = 0 then { d with hl := { d.hl with half0 := v } } else { d with hl := { d.hl with half1 := v } }

/-- n steps of CRC-16 with polynomial 0x1021. -/
def crc16Step : Nat → BitVec 16 → BitVec 16
  | 0, c => c
  | n + 1, c => crc16Step n (if c.getLsbD 15 then (c <<< 1) ^^^ 0x1021#16 else c <<< 1)

/-- CRC-16 with polynomial 0x1021 and initial value 0xFFFF (R428). -/
def crc16 (bs : List Byte) : BitVec 16 :=
  bs.foldl (fun (c : BitVec 16) (b : Byte) => crc16Step 8 (c ^^^ (b.setWidth 16 <<< (8 : Nat)))) 0xFFFF#16

/-- The 68 bytes of a flit (R428): its slot, the control word with KIND and SEQ, and the CRC-16 over both. -/
def hlFlitBytes (kind seq : Nat) (slot : List Byte) : List Byte :=
  let b := slice slot 0 64 ++ leBytes 2 (kind * 16384 + seq % 1024 * 16)
  b ++ leBytes 2 (crc16 b).toNat

/-- The CRC of a received flit is good (R428). -/
def HlFlit.crcOk (f : HlFlit) : Bool := f.bytes.length = 68 && (crc16 (f.bytes.take 66)).toNat = leAt f.bytes 66 2

/-- KIND of a received flit: 0 idle, 1 header, 2 data, 3 link control. -/
def HlFlit.kind (f : HlFlit) : Nat := bits (leAt f.bytes 64 2) 15 14

/-- SEQ of a received flit. -/
def HlFlit.seq (f : HlFlit) : Nat := bits (leAt f.bytes 64 2) 13 4

/-- The 16 bytes of a transaction header (Table 16-2). -/
def hlHeader (op size tag addr reason : Nat) : List Byte :=
  leBytes 1 op ++ leBytes 1 size ++ leBytes 2 tag ++ leBytes 8 addr ++ leBytes 1 reason ++ leBytes 3 0

/-- Data in the slots of data flits: 64 bytes each. `n` bounds their number. -/
def hlSlots : Nat → List Byte → List (List Byte)
  | 0, _ => []
  | n + 1, bs => if bs.isEmpty then [] else slice bs 0 64 :: hlSlots n (bs.drop 64)

/-- KIND and slot of the flits of a transaction (R428, Table 16-2): its header, alone in a header flit, and its data; the mask of WR_MASKED has a flit of its own. -/
def hlFlits (op tag addr reason : Nat) (data : List Byte) : List (Nat × List Byte) :=
  let size := if op = 4 then data.length / 64 - 1 else 0
  let slots := if op = 5 then [slice data 0 8, slice data 8 64] else hlSlots (data.length / 64 + 1) data
  (1, hlHeader op size tag addr reason) :: slots.map (fun s => (2, s))

/-- Flits that wait on an UP half go out, each with the next SEQ, while its retry buffer of 256 has room (R429). -/
def Dev.hlPump (d : Dev) (h : Nat) : Dev :=
  let t := d.hlHalf h
  if d.hlState h ≠ 2 then d
  else
    let n := min t.wait.length (256 - t.retry.length)
    let go := (t.wait.take n).zipIdx.map (fun x => ((t.txSeq + x.2) % 1024, hlFlitBytes x.1.1 (t.txSeq + x.2) x.1.2))
    d.setHlHalf h { t with wait := t.wait.drop n, retry := t.retry ++ go, txSeq := (t.txSeq + n) % 1024 }

/-- Send a transaction on half h (R428, R429): its flits join those that wait, and go out while there is room. -/
def Dev.hlSend (d : Dev) (h op tag addr reason : Nat) (data : List Byte) : Dev :=
  let t := d.hlHalf h
  ((d.setHlHalf h { t with wait := t.wait ++ hlFlits op tag addr reason data }).hlPump h).emit (.hl h op tag addr reason data)

/-- Send a HauneLink request for a companion line. False: it ends with LINK_ERROR, no half being UP (R432). -/
def Dev.hlRequest (d : Dev) (op addr : Nat) (data : List Byte) (w : Waiter) : Bool × Dev :=
  match d.hlHalfFor addr with
  | none => (false, d)
  | some h =>
    let r : HlReq := { tag := d.hl.nextTag, half := h, op := op, addr := addr, data := data, waiter := w, issued := d.now }
    (true, { d with hl := { d.hl with reqs := d.hl.reqs ++ [r], nextTag := (d.hl.nextTag + 1) % 65536 } }.hlSend h op r.tag addr 0 data)

/-! ### Event records (R401, R402, R444 to R446, R451) -/

/-- Event codes of Table 15-4. -/
inductive Ev where
  | imageLoaded | rewindOrder | rewindDone | rewindLimit | resumable | knellSent | peerLost | selfFenced | takeoverAssigned
  | takeoverImage | takeoverDone | takeoverFailed | coreFailed | swapDone | swapFailed | livenessLost | imageRefused
  | clkSwitch | beatStep | patternDisarmed | deadlineMiss | dlOverwrite
  | mxeCmdError | mxePoison | vxePoison | vxeInsnError | xlrInsnError | ctcFault | tollTimeout | streamError | dmaError
  | dmaRingError | coreMarginLow
  | shcTagError | poolCmdFailed | poolMoveFailed | poolPageLost | bridgeDown
  | hbmPinErased | hbmPinExhausted | hbmTrainFail | hbmRetrain | hbmChannelFailed | hbmEmergency | hbmSensorFail
  | fabPortUp | fabPortDown | fabAuthFail | fabLaneDropped | fabBlockFailed | fabQuarantine | lexLoadFailed | kvRollRejected
  | collFailed | collReleaseMissed | dualPathMismatch | freCheckFailed | stepSkipped | lsFloor | silentGradient | shardVersion
  | shardGone | bankVersionMismatch | transferFailed
  | pwrHintShort | pwrCapUnmet | dieHot | thermalTrip
deriving DecidableEq, Repr

/-- Code and class of an event (Table 15-4). -/
def Ev.info : Ev → Nat × Nat
  | .imageLoaded => (0x0001, 0) | .rewindOrder => (0x0002, 0) | .rewindDone => (0x0003, 0) | .rewindLimit => (0x0004, 3)
  | .resumable => (0x0005, 0) | .knellSent => (0x0006, 6) | .peerLost => (0x0007, 0) | .selfFenced => (0x0008, 6)
  | .takeoverAssigned => (0x0009, 0) | .takeoverImage => (0x000A, 3) | .takeoverDone => (0x000B, 0)
  | .takeoverFailed => (0x000C, 3) | .coreFailed => (0x000D, 4) | .swapDone => (0x000E, 0) | .swapFailed => (0x000F, 3)
  | .livenessLost => (0x0010, 2) | .imageRefused => (0x0011, 3)
  | .clkSwitch => (0x0100, 2) | .beatStep => (0x0101, 0) | .patternDisarmed => (0x0102, 3) | .deadlineMiss => (0x0103, 3)
  | .dlOverwrite => (0x0104, 3)
  | .mxeCmdError => (0x0200, 3) | .mxePoison => (0x0201, 5) | .vxePoison => (0x0202, 5) | .vxeInsnError => (0x0203, 3)
  | .xlrInsnError => (0x0204, 3) | .ctcFault => (0x0205, 3) | .tollTimeout => (0x0206, 3) | .streamError => (0x0207, 3)
  | .dmaError => (0x0208, 3) | .dmaRingError => (0x0209, 3) | .coreMarginLow => (0x020A, 2)
  | .shcTagError => (0x0300, 5) | .poolCmdFailed => (0x0301, 3) | .poolMoveFailed => (0x0302, 3) | .poolPageLost => (0x0303, 4)
  | .bridgeDown => (0x0304, 2)
  | .hbmPinErased => (0x0400, 2) | .hbmPinExhausted => (0x0401, 2) | .hbmTrainFail => (0x0402, 2) | .hbmRetrain => (0x0403, 0)
  | .hbmChannelFailed => (0x0404, 6) | .hbmEmergency => (0x0405, 3) | .hbmSensorFail => (0x0406, 2)
  | .fabPortUp => (0x0500, 0) | .fabPortDown => (0x0501, 2) | .fabAuthFail => (0x0502, 2) | .fabLaneDropped => (0x0503, 2)
  | .fabBlockFailed => (0x0504, 3) | .fabQuarantine => (0x0505, 3) | .lexLoadFailed => (0x0506, 3) | .kvRollRejected => (0x0507, 3)
  | .collFailed => (0x0600, 4) | .collReleaseMissed => (0x0601, 3) | .dualPathMismatch => (0x0602, 1)
  | .freCheckFailed => (0x0603, 5) | .stepSkipped => (0x0604, 0) | .lsFloor => (0x0605, 3) | .silentGradient => (0x0606, 3)
  | .shardVersion => (0x0607, 0) | .shardGone => (0x0608, 4) | .bankVersionMismatch => (0x0609, 3)
  | .transferFailed => (0x060A, 4)
  | .pwrHintShort => (0x0700, 0) | .pwrCapUnmet => (0x0701, 3) | .dieHot => (0x0702, 2) | .thermalTrip => (0x0703, 6)

/-- SOURCE of a record (Table 15-2): quarter, unit, and physical core, port or channel number (0x7F for none). -/
def evSource (q unit n : Nat) : Nat := q * 16384 + unit * 256 + n

/-- SOURCE naming core c of a unit. -/
def coreSource (c unit : Nat) : Nat := evSource (c / 68) unit (c % 68)

/-- SOURCE of the belfry or another device-wide unit. -/
def devSource (unit : Nat) : Nat := evSource 0 unit 0x7F

/-- DETAIL from fields of given sizes in bytes (R402), padded with zeros to 24 bytes. -/
def packDetail (fs : List (Nat × Nat)) : List Byte :=
  slice (fs.flatMap (fun f => leBytes f.1 f.2)) 0 24

/-- The entries of a ring whose LOG2SIZE is n. -/
def ringSize (n : Nat) : Nat := 2 ^ n

/-- The 64 bytes of a delivered record (Table 15-2, R444). -/
def EventRec.bytes (r : EventRec) : List Byte :=
  leBytes 2 r.code ++ leBytes 1 r.cls ++ leBytes 1 0 ++ leBytes 4 r.seq ++ leBytes 8 r.beat ++ leBytes 2 r.frac
    ++ leBytes 2 r.source ++ leBytes 4 r.chip ++ leBytes 4 r.step ++ leBytes 2 r.attempt ++ leBytes 2 0 ++ r.detail
    ++ leBytes 4 r.lost ++ leBytes 3 0 ++ leBytes 1 0x80

/-- A line of zeros with bytes at an offset. -/
def overlayLine (off : Nat) (bs : List Byte) : List Byte := slice (List.replicate off 0 ++ bs) 0 64

/-- TAIL is written to HL_EVT_NOTIFY (R446). -/
def Dev.notify (d : Dev) : Dev :=
  let a := d.get F.HL_EVT_NOTIFY_V
  let line := overlayLine (a % 64) (leBytes 4 (d.get F.HL_EVT_TAIL_TAIL))
  let (_, d) := d.hlRequest 0x05 (a / 64 * 64) (leBytes 8 (0xF * 2 ^ (a % 64)) ++ line) .other
  { d with flt := { d.flt with notifyOwed := false, notifyLast := some d.beat } }

/-- A record falls to the ring, or is dropped (R444, R445, R446). -/
def Dev.deliver (d : Dev) (r : EventRec) : Dev :=
  let free := d.get F.HL_EVT_TAIL_FREE
  let drop := free = 0 || d.flag F.HL_EVT_CTL_EVT_ERR || (free ≤ 4 && r.cls < 4)
  let dropped := fun (d : Dev) =>
    { d with flt := { d.flt with events := d.flt.events ++ [r], lostSince := min (2 ^ 32 - 1) (d.flt.lostSince + 1) } }.count
      F.HL_EVT_LOST_V
  if drop then dropped d
  else
    let tail := d.get F.HL_EVT_TAIL_TAIL
    let r' := { r with slot := some tail, lost := d.flt.lostSince }
    let (ok, d) := d.hlRequest 0x04 (d.get F.HL_EVT_BASE_V + 64 * tail) r'.bytes .evtRing
    if ok then
      let d := (d.putD F.HL_EVT_TAIL_TAIL ((tail + 1) % ringSize (d.get F.HL_EVT_CTL_LOG2SIZE))).putD F.HL_EVT_TAIL_FREE (free - 1)
      let d := { d with flt := { d.flt with events := d.flt.events ++ [r'], lostSince := 0, notifyOwed := true } }
      if d.flag F.HL_EVT_CTL_NOTIFY_EN && 4 ≤ r.cls then d.notify else d
    else dropped (d.putD F.HL_EVT_CTL_EVT_ERR 1)

/-- Write an event record (R401): the next SEQ, the stamp, FLT_PROGRESS, and DETAIL under R402. An in-band interrupt is owed for
its class (R451). -/
def Dev.recordOnly (d : Dev) (e : Ev) (source : Nat) (detail : List (Nat × Nat)) : Dev :=
  let seq := (d.get F.FLT_EVT_SEQ_V + 1) % 2 ^ 32
  let d := d.putD F.FLT_EVT_SEQ_V seq
  let r : EventRec :=
    { code := e.info.1, cls := e.info.2, seq := seq, beat := d.beat, frac := d.frac16, source := source, chip := d.chip
      step := d.get F.FLT_PROGRESS_STEP, attempt := d.get F.FLT_PROGRESS_ATTEMPT, detail := packDetail detail, slot := none, lost := 0 }
  let d := d.deliver r
  if d.flag F.I3C_CTL_IBI_EN && d.hl.i3cEvents && d.get F.I3C_CTL_IBI_MIN_CLASS ≤ r.cls then
    { d with flt := { d.flt with ibiPending := some (max r.cls (d.flt.ibiPending.getD 0)) } }
  else d

/-! ### Bridges and routes between quarters (R12, R13) -/

/-- The bridge that joins two adjacent quarters: 0 Q0-Q1, 1 Q1-Q3, 2 Q3-Q2, 3 Q2-Q0. -/
def bridgeOf (a b : Nat) : Option Nat :=
  match a, b with
  | 0, 1 | 1, 0 => some 0
  | 1, 3 | 3, 1 => some 1
  | 3, 2 | 2, 3 => some 2
  | 2, 0 | 0, 2 => some 3
  | _, _ => none

/-- The intermediate quarter for diagonal traffic (Table 01-3). -/
def throughQuarter (a b : Nat) : Nat :=
  match a, b with
  | 0, 3 => 1
  | 3, 0 => 2
  | 1, 2 => 0
  | 2, 1 => 3
  | _, _ => a

/-- The directed bridge links that a path of quarters crosses, in order. -/
def pathLinks : List Nat → List (Nat × Nat)
  | a :: b :: t => (a, b) :: pathLinks (b :: t)
  | _ => []

/-- A path crosses a bridge of a mask. -/
def pathMeets (mask : Nat) (p : List Nat) : Bool := (pathLinks p).any (fun l => (bridgeOf l.1 l.2).any (bitOf mask))

/-- The quarters that traffic from quarter a to quarter b passes, with the bridges of a mask out of service (R12, R13): the common bridge, or the quarter
of Table 01-3; where a bridge of that path is out, the other intermediate quarter, or three hops the other way round the ring. -/
def quarterPath (out a b : Nat) : List Nat :=
  if a = b then [a]
  else if (bridgeOf a b).isSome then (if pathMeets out [a, b] then [a, 3 - b, 3 - a, b] else [a, b])
  else if pathMeets out [a, throughQuarter a b, b] then [a, 3 - throughQuarter a b, b] else [a, throughQuarter a b, b]

/-! ### Packets: routing and sending (R311 to R315) -/

/-- Where a packet goes: to this device, to a port in a subclass, or refused with a NACK reason of Table 11-13. -/
inductive Route where
  | here
  | port (n sub : Nat)
  | refuse (code : Nat)
deriving DecidableEq, Repr

/-- NACK reasons of Table 11-13. -/
def nackNoRoute : Nat := 0x40
def nackTtl : Nat := 0x41
def nackLinkDown : Nat := 0x42

/-- One dimension of dimension-order routing (R314, R315): none to move on, else whether by the + port and whether the hop wraps. -/
def torusStep (n own dst : Nat) : Option (Bool × Bool) :=
  let delta := (dst + n - own) % n
  if delta = 0 then none
  else if 2 * delta ≤ n then some (true, own = n - 1)
  else some (false, own = 0)

/-- Torus routing (R314, R315). `sub` is the subclass the packet has, `dim` the dimension it last moved in (none at entry). -/
def Dev.torusRoute (d : Dev) (dst sub : Nat) (dim : Option Nat) : Route :=
  let base := d.get F.FAB_TORUS_BASE
  let x := d.get F.FAB_TORUS_XM1 + 1
  let y := d.get F.FAB_TORUS_YM1 + 1
  let z := d.get F.FAB_TORUS_ZM1 + 1
  let inside := fun c => base ≤ c && c < base + x * y * z
  if !(inside dst && inside d.chip) then .refuse nackNoRoute
  else
    let o := d.chip - base
    let t := dst - base
    let go := fun (k : Nat) (plus minus : Fld) (s : Bool × Bool) =>
      let p := if s.1 then d.get plus else d.get minus
      let sub' := if s.2 then 1 else if dim = some k then sub else 0
      if p < 16 && d.portUp p then Route.port p sub' else .refuse nackLinkDown
    match torusStep x (o % x) (t % x) with
    | some s => go 0 F.FAB_TORUS_PORTS_PX F.FAB_TORUS_PORTS_MX s
    | none =>
      match torusStep y (o / x % y) (t / x % y) with
      | some s => go 1 F.FAB_TORUS_PORTS_PY F.FAB_TORUS_PORTS_MY s
      | none =>
        match torusStep z (o / (x * y)) (t / (x * y)) with
        | some s => go 2 F.FAB_TORUS_PORTS_PZ F.FAB_TORUS_PORTS_MZ s
        | none => .here

/-- The torus dimension a port moves in, for a packet that arrived by it (R315). -/
def Dev.portDim (d : Dev) (inPort : Option Nat) : Option Nat :=
  match inPort with
  | none => none
  | some p =>
    if p = d.get F.FAB_TORUS_PORTS_PX || p = d.get F.FAB_TORUS_PORTS_MX then some 0
    else if p = d.get F.FAB_TORUS_PORTS_PY || p = d.get F.FAB_TORUS_PORTS_MY then some 1
    else if p = d.get F.FAB_TORUS_PORTS_PZ || p = d.get F.FAB_TORUS_PORTS_MZ then some 2
    else none

/-- Where a packet for chip `dst` goes (R311, R312). -/
def Dev.route (d : Dev) (dst sub : Nat) (inPort : Option Nat) : Route :=
  if dst = d.chip then .here
  else
    let g := dst >>> d.get F.FAB_CFG_RSHIFT
    if 4096 ≤ g then .refuse nackNoRoute
    else if !d.flag F.FAB_ROUTE_VALID 0 g then .refuse nackNoRoute
    else if d.get F.FAB_ROUTE_MODE 0 g = 1 then d.torusRoute dst sub (d.portDim inPort)
    else
      let p := d.get F.FAB_ROUTE_PRIMARY 0 g
      let a := d.get F.FAB_ROUTE_ALTERNATE 0 g
      if d.portUp p then .port p 0
      else if d.flag F.FAB_ROUTE_ALT_EN 0 g && d.portUp a then .port a 0
      else .refuse nackLinkDown

/-- Flits of a packet (R299). -/
def Packet.flits (p : Packet) : Nat := ceilDiv (32 + p.data.length) 64

/-- A whole packet as it is queued at a port, with the port that brought it. -/
def Packet.whole (p : Packet) (inPort : Option Nat := none) : TxPkt := { pkt := p, avail := p.flits, inPort := inPort, inSub := p.sub }

/-- Queue a packet at a port. -/
def Dev.enqueueTx (d : Dev) (n : Nat) (q : TxPkt) : Dev :=
  let t := d.port n
  d.setPort n { t with txq := t.txq ++ [q] }

/-- Queue a whole packet of this device at a port. -/
def Dev.enqueue (d : Dev) (n : Nat) (p : Packet) : Dev := d.enqueueTx n p.whole

/-- A request in the sense of R300: it receives exactly one answer. -/
def Packet.isRequest (p : Packet) : Bool := p.ptype = 1 || p.ptype = 2 || p.ptype = 3 || p.ptype = 0x0B

/-- An answer queued for the device's own units. -/
def Dev.deliverLocal (d : Dev) (p : Packet) : Dev := { d with fab := { d.fab with localq := d.fab.localq ++ [p] } }

/-- Count a refusal of routing (R311, R313). -/
def Dev.countRefusal (d : Dev) (code : Nat) : Dev :=
  if code = nackNoRoute then d.count F.FAB_NOROUTE_V
  else if code = nackTtl then d.count F.FAB_TTL_DROP_V
  else d

/-- Send an answer or another packet that is never answered itself: it is queued by its route, or dropped where it has none. Nothing is
sent to a chip that a knell has named (R417). -/
def Dev.sendAnswer (d : Dev) (p : Packet) : Dev :=
  if d.flt.refused.contains p.dst then d
  else match d.route p.dst 0 none with
    | .here => d.deliverLocal p
    | .port n sub => d.enqueue n { p with sub := sub }
    | .refuse c => d.countRefusal c

/-- FINAL of the fabric's own NACK reasons and of the block answers (Table 11-13). -/
def nackFinal (code : Nat) : Bool := !(code = 0x60 || code = 0x64)

/-- The NACK of a request with a reason (R300): to its SRC with its TAG. -/
def nackOf (d : Dev) (p : Packet) (code : Nat) (final : Bool) : Packet :=
  { ptype := 7, final := final, dst := p.src, src := d.chip, tag := p.tag, addr := p.addr, hops := atLeast1 (d.get F.FAB_CFG_TTL)
    code := code, aop := p.ptype, vc := 1 }

/-- Answer a request with a NACK of Table 11-13. -/
def Dev.sendNack (d : Dev) (p : Packet) (code : Nat) (final : Bool := nackFinal code) : Dev :=
  d.sendAnswer (nackOf d p code final)

/-- Route a packet and queue it at its port, or refuse it (R311 to R313). A request so refused is answered with a NACK; a response
is dropped. -/
def Dev.sendTx (d : Dev) (q : TxPkt) : Dev :=
  match d.route q.pkt.dst q.pkt.sub q.inPort with
  | .here => d.deliverLocal q.pkt
  | .port n sub => d.enqueueTx n { q with pkt := { q.pkt with sub := sub } }
  | .refuse c =>
    let d := d.countRefusal c
    if q.pkt.isRequest then d.sendNack q.pkt c else d

/-- Route a whole packet; `inPort` is the port it arrived by, none where this device originates it. -/
def Dev.sendPacket (d : Dev) (p : Packet) (inPort : Option Nat) : Dev := d.sendTx (p.whole inPort)

/-- Originate a packet (R313): HOPS is TTL, SRC this chip. A request to a chip that a knell has named ends at once with LINK_DOWN
and nothing else is sent to it (R417). -/
def Dev.originate (d : Dev) (p : Packet) : Dev :=
  let p := { p with src := d.chip, hops := atLeast1 (d.get F.FAB_CFG_TTL) }
  if d.flt.refused.contains p.dst then (if p.isRequest then d.deliverLocal (nackOf d p nackLinkDown true) else d)
  else d.sendPacket p none

/-- A new TAG. -/
def Dev.takeTag (d : Dev) : Nat × Dev :=
  (d.fab.nextTag, { d with fab := { d.fab with nextTag := (d.fab.nextTag + 1) % 2 ^ 32 } })

/-- Send a request of this device and keep it outstanding (R241, R300). The block copy is kept until it is answered (R304). -/
def Dev.request (d : Dev) (p : Packet) (w : Waiter) (q : Nat := 0) : Dev :=
  let (tag, d) := d.takeTag
  let p := { p with tag := tag }
  let r : Req := { tag := tag, ptype := p.ptype, dst := p.dst, addr := p.addr, waiter := w, issued := d.now
                   copy := if p.block || p.ptype = 0x0B || p.vc = 4 then some p else none, quarter := q }
  { d with fab := { d.fab with reqs := d.fab.reqs ++ [r] } }.originate p

/-! ### Upstream selection (R56, R59) -/

/-- The nominal rate word N (R50). -/
def rateNominal : Nat := 450359962737

/-- The rate trim a of R57, which BEAT_TRIM shows. -/
def Dev.trim (d : Dev) : Int := signed 32 (d.get F.BEAT_TRIM_V)

/-- ROLE in force (Table 03-8). -/
def Dev.role (d : Dev) : Nat := d.get F.BEAT_STATUS_ROLE

/-- A port is eligible as upstream (R56). -/
def Dev.eligible (d : Dev) (s : SyncInfo) : Bool :=
  s.fresh && d.flag F.BEAT_PORT_DELAY_VALID 0 s.port && !s.holdover && s.hops ≤ 62

/-- The eligible port with the lowest HOPS, the lower number among equals (R56). -/
def Dev.bestPort (d : Dev) : Option SyncInfo :=
  (d.clk.syncs.filter d.eligible).foldl (fun b s => match b with
    | none => some s
    | some t => if s.hops < t.hops || (s.hops = t.hops && s.port < t.port) then some s else b) none

/-- A follower with no eligible port enters holdover (R59): it runs at N + a. DESIGN CHOICE: the SYNC handled before it no longer counts as the previous one
of R57, so that the first SYNC after the holdover leaves the rate trim as it is (log 63). -/
def Dev.enterHoldover (d : Dev) : Dev :=
  let d := (d.putD F.BEAT_STATUS_HOLDOVER 1).putD F.BEAT_STATUS_UPSTREAM 0xFF
  { d with clk := { d.clk with rate := (rateNominal + d.trim).toNat, slew := none, upPending := none } }

/-- A change in what the ports offer (R56, R59): where the upstream is ineligible, or another port offers HOPS lower by at least 2, the change to the best
port waits for the next beat boundary; with no eligible port a VALID follower enters holdover, and one not yet VALID has no upstream. -/
def Dev.reselect (d : Dev) : Dev :=
  if d.role ≠ 0 then d
  else
    let up := d.get F.BEAT_STATUS_UPSTREAM
    let cur := d.clk.syncs.find? (fun s => s.port = up)
    match d.bestPort with
    | none =>
      if !d.flag F.BEAT_STATUS_VALID then { d with clk := { d.clk with upPending := none } }.putD F.BEAT_STATUS_UPSTREAM 0xFF
      else if d.flag F.BEAT_STATUS_HOLDOVER then d
      else d.enterHoldover
    | some b =>
      let want := match cur with | some s => !d.eligible s || b.hops + 2 ≤ s.hops | none => true
      { d with clk := { d.clk with upPending := if want && b.port ≠ up then some b.port else none } }

/-! ### Leaving service (R289) -/

/-- Index of a channel and subclass in the counts of a CREDIT message (Table 11-7). -/
def vcIndex (vc sub : Nat) : Nat := 2 * vc + sub

/-- Flits of the receive buffer are freed, and a CREDIT message is owed (R297); flits from before UP count in none. -/
def Port.freeFlits (t : Port) (vc sub k : Nat) : Port :=
  let i := vcIndex vc sub
  let before := min k (t.oldFlits.getD i 0)
  let t := { t with oldFlits := if before = 0 then t.oldFlits else setAt t.oldFlits i (t.oldFlits.getD i 0 - before) }
  if k = before then t
  else
    let freed := setAt t.freed i ((t.freed.getD i 0 + (k - before)) % 65536)
    { t with freed := freed, linkq := t.linkq.filter (fun m => match m with | .credit _ => false | _ => true) ++ [.credit freed] }

/-- Flits of a packet that wait here leave the receive buffer of the port that brought them. -/
def Dev.freeInput (d : Dev) (q : TxPkt) : Dev :=
  match q.inPort with
  | some k => if q.buffered then d.setPort k ((d.port k).freeFlits q.pkt.vc q.inSub (q.avail - q.sent - b2n q.extra)) else d
  | none => d

/-- The rest of the packets that a port was bringing will not come (R316, R320), on one channel or on all. One of which nothing has moved on is taken out.
DESIGN CHOICE: one that has begun to move on ends with one more flit, so that the next device finds its flit count wrong (log 76). -/
def Dev.endForwards (d : Dev) (n : Nat) (ch : Nat → Bool) : Dev :=
  let of := fun (q : TxPkt) => q.inPort = some n && !q.ended && ch q.pkt.vc
  d.each (List.range 16) fun d k =>
    let t := d.port k
    if !t.txq.any of then d
    else
      let gone := t.txq.filter (fun q => of q && q.sent = 0)
      let txq := (t.txq.filter (fun q => !(of q && q.sent = 0))).map (fun q => if of q then { q with ended := true, avail := q.avail + 1, extra := true } else q)
      (d.setPort k { t with txq := txq }).each gone (fun d q => d.freeInput q)

/-- A port leaves service for FAILED or DISABLED (R289), with every delay and liveness window of it ended (R54). A LOCAL packet is not
routed (R299), so one still waiting is not routed again. Discarded are the packets of which a flit is sent and not acknowledged, each once. -/
def Dev.portLeave (d : Dev) (n state : Nat) : Dev :=
  let t := d.port n
  let unsent := t.txq.filter (fun q => q.sent = 0 && !q.pkt.isLocal)
  let cut := t.txq.filter (fun q => q.sent ≠ 0)
  let lost := (t.sentPkts.map (·.2) ++ cut.map (·.pkt)).filter Packet.isRequest
  let key := { t.key with installed := false, stage := 0, taken := false, rekey := false, unanswered := none }
  let d := d.setPort n { t with txq := [], sentPkts := [], retry := [], resend := [], linkq := [], asm := [], key := key, nakNow := false, nakSent := false
                                nakRun := 0, crcRun := 0, closing := false, liveFrom := none, lock := none, param := none
                                leftUp := t.leftUp || d.portState n = 3 || d.portState n = 4 }
  let d := (d.pput F.FAB_PORT_STATUS_STATE n state).put F.BEAT_PORT_DELAY_VALID 0 n 0
  let d := { d with clk := { d.clk with probes := d.clk.probes.filter (fun p => p.port ≠ n)
                                        echoes := d.clk.echoes.filter (fun p => p.port ≠ n) } }.reselect
  let d := d.endForwards n (fun _ => true)
  let d := d.each cut (fun d q => d.freeInput q)
  let d := d.each lost (fun d p => d.sendNack p nackLinkDown)
  d.each unsent (fun d q => d.sendTx q)

/-! ### Fault messages, the knell and rewind orders (R405 to R410, R415, R416) -/

/-- The 64 bytes of a fault message (Table 15-5). -/
def FaultMsg.bytes (m : FaultMsg) : List Byte :=
  leBytes 1 m.ctype ++ leBytes 1 m.hold ++ leBytes 2 m.cause ++ leBytes 4 m.job ++ leBytes 4 m.chip ++ leBytes 2 m.inc
    ++ leBytes 2 m.attempt ++ leBytes 4 m.step ++ leBytes 4 m.origin ++ leBytes 8 m.serial ++ leBytes 4 m.host ++ leBytes 1 m.index
    ++ List.replicate 27 0

/-- The fault message that 64 bytes spell. -/
def FaultMsg.parse (b : List Byte) : FaultMsg :=
  { ctype := leAt b 0 1, hold := leAt b 1 1, cause := leAt b 2 2, job := leAt b 4 4, chip := leAt b 8 4, inc := leAt b 12 2
    attempt := leAt b 14 2, step := leAt b 16 4, origin := leAt b 20 4, serial := leAt b 24 8, host := leAt b 32 4, index := leAt b 36 1 }

/-- The key of a flooded message: its bytes 0 to 31 (R410). -/
def FaultMsg.key (m : FaultMsg) : FaultMsg := { m with host := 0, index := 0 }

/-- The packet of a fault message: KNELL on VC 7, CONTROL on VC 5 (R410). -/
def FaultMsg.packet (m : FaultMsg) (d : Dev) (dst hops : Nat) (flooded : Bool) : Packet :=
  { ptype := if m.ctype = 0x30 then 9 else 0x0A, isLocal := flooded, dst := dst, src := d.chip, hops := hops, len := 64
    vc := if m.ctype = 0x30 then 7 else 5, data := m.bytes }

/-- Bits [31:0] of the image's JOB_ID (R410). -/
def Dev.job (d : Dev) : Nat := (d.img.inForce.map (·.jobId)).getD 0 % 2 ^ 32

/-- The device's own part serial (R472). -/
def Dev.serial (d : Dev) : Nat := d.get F.BOOT_PART_SERIAL_V

/-- Enter a key in the table of 64 keys, which replaces its oldest entry (R410). -/
def Dev.noteKey (d : Dev) (m : FaultMsg) : Dev :=
  let ks := d.flt.keys.filter (fun k => k.1 ≠ m.key) ++ [(m.key, d.beat)]
  { d with flt := { d.flt with keys := ks.drop (ks.length - 64) } }

/-- The key was seen in the last 65,536 beats (R410). -/
def Dev.keySeen (d : Dev) (m : FaultMsg) : Bool :=
  d.flt.keys.any (fun k => k.1 = m.key && d.beat < k.2 + 65536)

/-- Flood a message of this device on every UP port with HOPS = TTL (R410). -/
def Dev.flood (d : Dev) (m : FaultMsg) : Dev :=
  let d := d.noteKey m
  d.each d.upPorts (fun d n => d.enqueue n (m.packet d 0 (atLeast1 (d.get F.FAB_CFG_TTL)) true))

/-- Send a routed fault message to a chip (R410); nothing goes to a chip that a knell has named (R417). -/
def Dev.sendRouted (d : Dev) (m : FaultMsg) (dst : Nat) : Dev :=
  if d.flt.refused.contains dst then d else d.sendPacket (m.packet d dst (atLeast1 (d.get F.FAB_CFG_TTL)) false) none

/-- A fault message of this device about a chip. -/
def Dev.message (d : Dev) (ctype chip inc serial : Nat) : FaultMsg :=
  { ctype := ctype, job := d.job, chip := chip, inc := inc, serial := serial, origin := d.chip, step := 0 }

/-- STATE of FLT_STATUS. -/
def Dev.fltState (d : Dev) : Nat := d.get F.FLT_STATUS_STATE

/-- The device is REWINDING, HELD or READY. -/
def Dev.rewindStates (d : Dev) : Bool := d.fltState = 1 || d.fltState = 2 || d.fltState = 3

/-- FLT_HOLDS shows the holds outstanding (R409). -/
def Dev.showHolds (d : Dev) : Dev := d.putD F.FLT_HOLDS_N (min 255 d.flt.holds.length)

/-- A HELD device with no hold becomes READY and writes RESUMABLE (R409). -/
def Dev.maybeReady (d : Dev) : Dev :=
  if d.fltState = 2 && d.flt.holds.isEmpty then (d.putD F.FLT_STATUS_STATE 3).recordOnly .resumable (devSource 0) [] else d

/-- Take a hold (R409): cancelled by a removal that came before it within 65,536 beats; a READY device returns to HELD. -/
def Dev.addHold (d : Dev) (h : Hold) : Dev :=
  if d.flt.early.any (fun e => e.1 = h && d.beat < e.2 + 65536) then
    { d with flt := { d.flt with early := d.flt.early.filter (fun e => e.1 ≠ h) } }
  else
    let d := if d.flt.holds.contains h then d else
      { d with flt := { d.flt with holds := d.flt.holds ++ [h]
                                   holdSince := if h.repair then d.flt.holdSince else d.flt.holdSince ++ [(h.chip, d.beat)] } }
    let d := if d.fltState = 3 then d.putD F.FLT_STATUS_STATE 2 else d
    d.showHolds

/-- Remove a hold, or keep the removal for 65,536 beats (R409). -/
def Dev.removeHold (d : Dev) (h : Hold) : Dev :=
  if d.flt.holds.contains h then
    let d := { d with flt := { d.flt with holds := d.flt.holds.filter (· ≠ h)
                                          holdSince := if h.repair then d.flt.holdSince
                                            else d.flt.holdSince.filter (fun e => e.1 ≠ h.chip) } }
    d.showHolds.maybeReady
  else { d with flt := { d.flt with early := d.flt.early.filter (fun e => d.beat < e.2 + 65536) ++ [(h, d.beat)] } }

/-- The winner of R69 among requesters 0 to n - 1 from pointer p. -/
def arbiter (n p : Nat) (req : Nat → Bool) : Option Nat :=
  ((List.range n).map (fun k => (p + k) % n)).find? req

/-- The device sends its own knell for a cause of Table 15-6 (R416): the knell goes in the next frame of every UP port, and the
ports are disabled at the end of those frames. -/
def Dev.knell (d : Dev) (cause : Nat) : Dev :=
  let d := d.recordOnly .knellSent (devSource 0) []
  let m := { d.message 0x30 d.chip (d.get F.FLT_INCARNATION_INC) d.serial with cause := cause, step := d.get F.FLT_PROGRESS_STEP }
  let up := d.upPorts
  let d := d.flood m
  let d := d.each up (fun d n => d.setPort n { d.port n with closing := true })
  let d := d.each ((List.range 16).filter (fun n => !up.contains n)) (fun d n => d.portLeave n 0)
  (d.putD F.FLT_STATUS_LAST_CAUSE cause).putD F.FLT_STATUS_STATE 7

/-- The device fences itself (R415): every port disabled, SELF_FENCED, STATE FENCED. -/
def Dev.fence (d : Dev) : Dev :=
  let d := d.each (List.range 16) (fun d n => d.portLeave n 0)
  (d.recordOnly .selfFenced (devSource 0) []).putD F.FLT_STATUS_STATE 7

/-- A device begins to obey order (s, a) (R407 steps 1 to 3): REWIND_ORDER, FLT_PROGRESS, REWINDING. A higher step retires every lower
step and its snapshot, and a is the first attempt of the new step here (R408). The votes withheld under R405 are free again once the order is obeyed. A standby before its takeover is done, and
a fenced device, keep their STATE (Table 15-9, R415). -/
def Dev.obey (d : Dev) (s a : Nat) : Dev :=
  let p := d.get F.FLT_PROGRESS_STEP
  let d := d.recordOnly .rewindOrder (devSource 0) []
  let d := if p < s then { d with num := { d.num with snapshot := none }, flt := { d.flt with firstStep := s, firstAttempt := a } }
             |>.putD F.SHD_STATUS_SNAPSHOT 0 else d
  let d := (d.putD F.FLT_PROGRESS_STEP s).putD F.FLT_PROGRESS_ATTEMPT a
  let d := if d.fltState ≤ 3 then d.putD F.FLT_STATUS_STATE 1 else d
  let d := { d with flt := { d.flt with withheld := none } }
  d.count F.FLT_REWINDS_V

/-- (s, a) is greater than FLT_PROGRESS. -/
def Dev.orderGreater (d : Dev) (s a : Nat) : Bool :=
  d.get F.FLT_PROGRESS_STEP < s || (d.get F.FLT_PROGRESS_STEP = s && d.get F.FLT_PROGRESS_ATTEMPT < a)

/-- Originate the order (s, a + 1), (s, a) being FLT_PROGRESS (R405, R408), with a hold of this chip where one is carried. Beyond
ATTEMPT_LIMIT it writes REWIND_LIMIT instead. A fenced device has left service (Table 15-3) and originates none. -/
def Dev.originateOrder (d : Dev) (repair : Bool) : Dev :=
  let s := d.get F.FLT_PROGRESS_STEP
  let a := d.get F.FLT_PROGRESS_ATTEMPT + 1
  if d.fltState = 7 then d
  else if atLeast1 (d.get F.FLT_CTL_ATTEMPT_LIMIT) < a - (if d.flt.firstStep = s then d.flt.firstAttempt else 0) then
    (d.recordOnly .rewindLimit (devSource 0) []).putD F.FLT_STATUS_LIMIT_SEEN 1
  else
    let m := { d.message 0x10 d.chip (d.get F.FLT_INCARNATION_INC) d.serial with step := s, attempt := a, hold := if repair then 2 else 0 }
    let d := d.flood m
    let d := d.obey s a
    if repair then d.addHold ⟨d.chip, true⟩ else d

/-- Votes of the step in progress are withheld (R405). -/
def Dev.withholdVotes (d : Dev) : Dev :=
  { d with flt := { d.flt with withheld := some (d.get F.FLT_PROGRESS_STEP) } }

/-- A rewind-class event under AUTO_REWIND (R405), and what else it does: votes are withheld from the event on, and an order is originated unless the
device already rewinds. -/
def Dev.rewindEvent (d : Dev) (also : Dev → Dev := id) : Dev :=
  if d.flag F.FLT_CTL_AUTO_REWIND then
    let d := also d.withholdVotes
    if d.rewindStates then d else d.originateOrder false
  else also d

/-- A spare core of quarter q that passed its start-up test (R412). -/
def Dev.hasSpare (d : Dev) (q : Nat) : Bool :=
  ((List.range 68).map (fun n => 68 * q + n)).any (fun c => (d.bindOf c).role = 2 && !d.gated c)

/-- A failed core is still bound to an LCI (R412). -/
def Dev.failedBound (d : Dev) : Bool := d.flt.failed.any (fun c => (d.bindOf c).role = 1)

/-- The belfry reads entry 68q + n of the swap table for a failed core, or leaves the swap to the companion (R412). -/
def Dev.spareSwap (d : Dev) (c : Nat) : Dev :=
  if !d.flag F.FLT_CTL_AUTO_SWAP then d
  else if d.flag F.FLT_STATUS_SWAP_STALE then d.recordOnly .swapFailed (coreSource c 0) []
  else
    let (ok, d) := d.hlRequest 0x03 ((d.get F.FLT_SWAP_BASE_V + 16 * c) / 64 * 64) [] (.swapTable c)
    if ok then { d with flt := { d.flt with swapWait := d.flt.swapWait ++ [c] } }
    else d.recordOnly .swapFailed (coreSource c 0) []

/-- A core fails (R411): its clocks are gated, CORE_FAILED is written, and a rewind order with HOLD = REPAIR is originated, or the hold
taken directly while the device rewinds. Votes are withheld where an order is owed, also where R408 stops it. Then the spare swap of R412, or the knell
where the quarter has no spare. -/
def Dev.failCore (d : Dev) (c : Nat) : Dev :=
  if d.flt.failed.contains c then d
  else
    let d := { d with flt := { d.flt with failed := d.flt.failed ++ [c] } }
    let d := d.recordOnly .coreFailed (coreSource c 0) []
    let d := if d.rewindStates then d.addHold ⟨d.chip, true⟩ else d.withholdVotes.originateOrder true
    if d.hasSpare (c / 68) then d.spareSwap c else d.knell 0x04

/-- The window number of R406. -/
def Dev.ueWindow (d : Dev) : Nat := d.beat / 2 ^ 24

/-- An UNCORRECTABLE event counts (R406, R411): against the core its SOURCE names, or against the device. -/
def Dev.countUe (d : Dev) (core : Option Nat) : Dev :=
  let d := d.count F.FLT_UE_CNT_V
  let d := if d.flt.ueWin = d.ueWindow then d else { d with flt := { d.flt with ueWin := d.ueWindow, ueCnt := 0, ueCore := [] } }
  match core with
  | some c =>
    let n := mget 0 d.flt.ueCore c + 1
    let d := { d with flt := { d.flt with ueCore := mset 0 d.flt.ueCore c n } }
    if atLeast1 (d.get F.FLT_CTL_CORE_ERR_LIMIT) ≤ n then d.failCore c else d
  | none =>
    let n := d.flt.ueCnt + 1
    let d := { d with flt := { d.flt with ueCnt := n } }
    if n = atLeast1 (d.get F.FLT_CTL_UE_LIMIT) then d.knell 0x05 else d

/-- The core a SOURCE names: units MXE to STG or NS with a physical core number (Table 15-2). -/
def sourceCore (source : Nat) : Option Nat :=
  let unit := bits source 13 8
  let n := bits source 6 0
  if 1 ≤ unit && unit ≤ 7 && n < 68 then some (68 * bits source 15 14 + n) else none

/-- Write an event record and do what its class says (Table 15-3, R405, R406). CORE_FAILED and the knells have their own rules. -/
def Dev.record (d : Dev) (e : Ev) (source : Nat) (detail : List (Nat × Nat)) : Dev :=
  let d := d.recordOnly e source detail
  if e.info.2 = 5 then d.rewindEvent (fun d => d.countUe (sourceCore source))
  else if e.info.2 = 4 then d.rewindEvent
  else d

end Sys2Proof.Machine
end

