-- ==== Sys2Proof/Machine/Hash.lean ====
section
/-!
DEFINITION. Sys2Proof/Machine/Hash.lean: the digests and check codes that the manual names by their standards: SHA-256
(R19, R20, R318, R473), HMAC and HKDF (R318), SLH-DSA verification (R20, R470), CRC-32 of IEEE 802.3 (R292, R302) and CRC-16 (R428).
-/

namespace Sys2Proof.Machine

/-! ### SHA-256 (FIPS 180-4) -/

/-- The largest r' from r, below r + 2^b, whose k-th power is at most n. -/
def rootFrom (k n : Nat) : Nat → Nat → Nat
  | 0, r => r
  | b + 1, r => rootFrom k n b (if (r + 2 ^ b) ^ k ≤ n then r + 2 ^ b else r)

/-- The first 32 fraction bits of the k-th root of p. -/
def rootFrac (k p : Nat) : BitVec 32 := BitVec.ofNat 32 (rootFrom k (p * 2 ^ (32 * k)) 40 0)

/-- The first 64 primes, the last of which is 311. -/
def shaPrimes : List Nat :=
  (List.range 312).filter fun p => 2 ≤ p && (List.range 18).all fun q => q < 2 || p ≤ q || p % q ≠ 0

/-- The exclusive or of the rotations of a word by each of the counts. -/
def xorTurns (x : BitVec 32) (ns : List Nat) : BitVec 32 := ns.foldl (fun v n => v ^^^ x.rotateRight n) 0#32

/-- One round with the sum of its constant and schedule word. The working state stands as its last four pairs (a, e), newest first:
b, c, d and f, g, h are a and e of one, two and three rounds before. -/
def shaTurn (h : List (BitVec 32 × BitVec 32)) (kw : BitVec 32) : List (BitVec 32 × BitVec 32) :=
  let p := fun i => h.getD i (0, 0)
  let t := (p 3).2 + xorTurns (p 0).2 [6, 11, 25] + ((((p 1).2 ^^^ (p 2).2) &&& (p 0).2) ^^^ (p 2).2) + kw
  let u := xorTurns (p 0).1 [2, 13, 22] + (((p 1).1 &&& (p 2).1) ||| (((p 1).1 ||| (p 2).1) &&& (p 0).1))
  (t + u, (p 3).1 + t) :: h.take 3

/-- The rounds that remain, one for each prime, on the window of the next sixteen schedule words: each takes the front word and adds
one at the back. -/
def shaTurns (h : List (BitVec 32 × BitVec 32)) (win : List (BitVec 32)) : List Nat → List (BitVec 32 × BitVec 32)
  | [] => h
  | p :: ps =>
    let w := fun i => win.getD i 0#32
    let low := xorTurns (w 1) [7, 18] ^^^ (w 1 >>> 3)
    let high := xorTurns (w 14) [17, 19] ^^^ (w 14 >>> 10)
    shaTurns (shaTurn h (rootFrac 3 p + w 0)) (win.drop 1 ++ [w 0 + low + w 9 + high]) ps

/-- The initial value: the roots of the first four primes with those of the next four. -/
def shaStart : List (BitVec 32 × BitVec 32) :=
  (List.range 4).map fun i => (rootFrac 2 (shaPrimes.getD i 0), rootFrac 2 (shaPrimes.getD (4 + i) 0))

/-- A number as n bytes, highest first. -/
def beBytes (n v : Nat) : List Byte := (leBytes n v).reverse

/-- The number that bytes give, highest first. -/
def beNat (bs : List Byte) : Nat := leNat bs.reverse

/-- n 64-byte blocks at the front of a padded message taken into the state. -/
def shaAbsorb : Nat → List Byte → List (BitVec 32 × BitVec 32) → List (BitVec 32 × BitVec 32)
  | 0, _, h => h
  | n + 1, m, h =>
    let win := (List.range 16).map fun j => BitVec.ofNat 32 (beNat (slice m (4 * j) 4))
    shaAbsorb n (m.drop 64) (List.zipWith (fun x y => (x.1 + y.1, x.2 + y.2)) h (shaTurns h win shaPrimes))

/-- SHA-256 as its 32 bytes, first byte first. -/
def sha256 (m : List Byte) : List Byte :=
  let n := (m.length + 72) / 64
  let h := shaAbsorb n (slice (m ++ [0x80]) 0 (64 * n - 8) ++ beBytes 8 (8 * m.length)) shaStart
  h.flatMap (fun p => beBytes 4 p.1.toNat) ++ h.flatMap (fun p => beBytes 4 p.2.toNat)

/-- A digest as a number whose byte k is byte k of the digest, the order in which registers hold it (R40). -/
def digestNat (bs : List Byte) : Nat := leNat bs

/-- HMAC-SHA-256. -/
def hmacSha256 (key msg : List Byte) : List Byte :=
  let k := slice (if 64 < key.length then sha256 key else key) 0 64
  sha256 (k.map (· ^^^ 0x5c) ++ sha256 (k.map (· ^^^ 0x36) ++ msg))

/-- HKDF-SHA-256 (RFC 5869) for n bytes, at most 64. -/
def hkdf (salt ikm info : List Byte) (n : Nat) : List Byte :=
  let prk := hmacSha256 salt ikm
  let t1 := hmacSha256 prk (info ++ [1])
  let t2 := hmacSha256 prk (t1 ++ info ++ [2])
  (t1 ++ t2).take n

/-! ### SLH-DSA verification (FIPS 205), SHA2 parameter sets with n = 16 and lg_w = 4 (R20, R318, R461, R470) -/

/-- A parameter set: layers d of height h', and k FORS trees of height a. -/
structure SlhSet where
  d : Nat
  hp : Nat
  a : Nat
  k : Nat
deriving DecidableEq, Repr

/-- SLH-DSA-SHA2-128s and SLH-DSA-SHA2-128f. -/
def slh128s : SlhSet := { d := 7, hp := 9, a := 12, k := 14 }
def slh128f : SlhSet := { d := 22, hp := 3, a := 6, k := 33 }

/-- Bytes of a signature: R, k FORS keys with their paths, and d layers of 35 chain values and a path. -/
def SlhSet.sigBytes (p : SlhSet) : Nat := 16 * (1 + p.k * (p.a + 1) + p.d * (35 + p.hp))

/-- A compressed address of 22 bytes: layer, tree, type and the three words that follow. -/
def slhAddr (layer tree type w1 w2 w3 : Nat) : List Byte :=
  beBytes 1 layer ++ beBytes 8 tree ++ beBytes 1 type ++ beBytes 4 w1 ++ beBytes 4 w2 ++ beBytes 4 w3

/-- F, H and T_l: one hash for every length, under PK.seed and an address. -/
def slhHash (seed adrs m : List Byte) : List Byte :=
  (sha256 (seed ++ List.replicate 48 0 ++ adrs ++ m)).take 16

/-- n digits of b bits of a byte string, highest first. -/
def slhDigits (m : List Byte) (b n : Nat) : List Nat :=
  (List.range n).map fun i => beNat m / 2 ^ (8 * m.length - b * (i + 1)) % 2 ^ b

/-- The root that a path leads to from a node with an index; adrs gives the address of a node at a height and index. -/
def slhClimb (seed : List Byte) (adrs : Nat → Nat → List Byte) : Nat → Nat → List (List Byte) → List Byte → List Byte
  | _, _, [], node => node
  | height, idx, auth :: rest, node =>
    let m := if idx % 2 = 0 then node ++ auth else auth ++ node
    slhClimb seed adrs (height + 1) (idx / 2) rest (slhHash seed (adrs (height + 1) (idx / 2)) m)

/-- n pieces of 16 bytes from piece i of a signature. -/
def slhPieces (sig : List Byte) (i n : Nat) : List (List Byte) := (List.range n).map fun j => slice sig (16 * (i + j)) 16

/-- The FORS public key of a signature over a digest, at leaf kp of tree t: the trees stand in the pieces from piece 1. -/
def slhFors (p : SlhSet) (seed sig md : List Byte) (t kp : Nat) : List Byte :=
  let roots := (List.range p.k).map fun i =>
    let idx := i * 2 ^ p.a + (slhDigits md p.a p.k).getD i 0
    let at_ := fun height ix => slhAddr 0 t 3 kp height ix
    let piece := 1 + i * (p.a + 1)
    slhClimb seed at_ 0 idx (slhPieces sig (piece + 1) p.a) (slhHash seed (at_ 0 idx) (slice sig (16 * piece) 16))
  slhHash seed (slhAddr 0 t 4 kp 0 0) roots.flatten

/-- n steps of a chain from step i; adrs gives the address of a step. -/
def slhChain (seed : List Byte) (adrs : Nat → List Byte) : Nat → Nat → List Byte → List Byte
  | 0, _, x => x
  | n + 1, i, x => slhChain seed adrs n (i + 1) (slhHash seed (adrs i) x)

/-- The 35 digits that a one-time key signs: those of the message and of their checksum. -/
def wotsDigits (m : List Byte) : List Nat :=
  let ds := slhDigits m 4 32
  ds ++ slhDigits (beBytes 2 (16 * (ds.map (15 - ·)).sum)) 4 3

/-- The one-time public key of a message at key pair kp of a tree, whose chain values stand from a piece of the signature. -/
def slhWots (seed sig : List Byte) (piece layer tree kp : Nat) (m : List Byte) : List Byte :=
  let tops := (wotsDigits m).zipIdx.map fun e =>
    slhChain seed (fun j => slhAddr layer tree 0 kp e.2 j) (15 - e.1) e.1 (slice sig (16 * (piece + e.2)) 16)
  slhHash seed (slhAddr layer tree 1 kp 0 0) tops.flatten

/-- The root that n layers of the hypertree, from a layer, lead to from a node below leaf of tree. -/
def slhHyper (p : SlhSet) (seed sig : List Byte) : Nat → Nat → Nat → Nat → List Byte → List Byte
  | 0, _, _, _, node => node
  | n + 1, layer, tree, leaf, node =>
    let piece := 1 + p.k * (p.a + 1) + layer * (35 + p.hp)
    let pk := slhWots seed sig piece layer tree leaf node
    let root := slhClimb seed (fun height ix => slhAddr layer tree 2 0 height ix) 0 leaf (slhPieces sig (piece + 35) p.hp) pk
    slhHyper p seed sig n (layer + 1) (tree / 2 ^ p.hp) (tree % 2 ^ p.hp) root

/-- n blocks of MGF1 with SHA-256, from counter i. -/
def mgf1 (m : List Byte) : Nat → Nat → List Byte
  | 0, _ => []
  | n + 1, i => sha256 (m ++ beBytes 4 i) ++ mgf1 m n (i + 1)

/-- A public key of 32 bytes verifies a signature over a message with an empty context. -/
def slhVerify (p : SlhSet) (key msg sig : List Byte) : Bool :=
  let seed := slice key 0 16
  let root := slice key 16 16
  let r := slice sig 0 16
  let dig := mgf1 (r ++ seed ++ sha256 (r ++ seed ++ root ++ [0, 0] ++ msg)) 2 0
  let mdLen := ceilDiv (p.k * p.a) 8
  let treeLen := ceilDiv (p.hp * (p.d - 1)) 8
  let tree := beNat (slice dig mdLen treeLen) % 2 ^ (p.hp * (p.d - 1))
  let leaf := beNat (slice dig (mdLen + treeLen) (ceilDiv p.hp 8)) % 2 ^ p.hp
  key.length = 32 && sig.length = p.sigBytes
    && slhHyper p seed sig p.d 0 tree leaf (slhFors p seed sig (dig.take mdLen) tree leaf) = root

/-! ### Cyclic redundancy checks -/

/-- n steps of the reflected CRC-32 of IEEE 802.3. -/
def crc32Step : Nat → BitVec 32 → BitVec 32
  | 0, c => c
  | n + 1, c => crc32Step n (if c.getLsbD 0 then (c >>> 1) ^^^ 0xEDB88320#32 else c >>> 1)

/-- CRC-32 of IEEE 802.3 over bytes in ascending order (R292). -/
def crc32 (bs : List Byte) : BitVec 32 :=
  ~~~(bs.foldl (fun c b => crc32Step 8 (c ^^^ b.setWidth 32)) 0xFFFFFFFF#32)

end Sys2Proof.Machine
end

