-- ==== Sys2Proof/Machine/ImageOps.lean ====
section
/-!
DEFINITION. Sys2Proof/Machine/ImageOps.lean: the layout of an Ndelas image and the checks of Table 02-15 (R18 to R26, R29, R32, R64,
R103), as functions of the image's bytes and the state.
-/

namespace Sys2Proof.Machine

/-- Every byte of a range is zero. -/
def zeros (bs : List Byte) (off n : Nat) : Bool := (slice bs off n).all (· = 0)

/-- "None" as a chip id. -/
def noChip : Nat := 0xFFFFFFFF

/-- The largest chip id. -/
def maxChip : Nat := 0x1FFFF

/-! ### Header and directory (Tables 02-1, 02-2) -/

/-- MAGIC, VERSION, FLAGS, LENGTH, JOB_ID, SERIAL, SECTIONS, QMASK, CHIP_ID, TARGET_SERIAL of the header. -/
structure ImgHeader where
  magic : Nat
  version : Nat
  flags : Nat
  length : Nat
  jobId : Nat
  serial : Nat
  sections : Nat
  qmask : Nat
  chipId : Nat
  target : Nat
  baseDigest : Nat
  signer : Nat
deriving DecidableEq, Repr

/-- The header of an image. -/
def imgHeader (b : List Byte) : ImgHeader :=
  { magic := leAt b 0 4, version := leAt b 4 2, flags := leAt b 6 2, length := leAt b 8 8, jobId := leAt b 16 8
    serial := leAt b 24 4, sections := leAt b 28 2, qmask := leAt b 30 1, chipId := leAt b 32 4, target := leAt b 40 8
    baseDigest := leAt b 48 32, signer := leAt b 80 32 }

/-- A directory entry: TYPE, SVERSION, OFFSET, LENGTH and whether its reserved bytes are zero. -/
structure DirEntry where
  type : Nat
  sversion : Nat
  offset : Nat
  length : Nat
  rsvZero : Bool
deriving DecidableEq, Repr

/-- Directory entry i. -/
def dirEntry (b : List Byte) (i : Nat) : DirEntry :=
  let o := 128 + 16 * i
  ⟨leAt b o 2, leAt b (o + 2) 2, leAt b (o + 4) 4, leAt b (o + 8) 4, zeros b (o + 12) 4⟩

/-- The directory, of at most n entries. -/
def directory (b : List Byte) (n : Nat) : List DirEntry := (List.range n).map (dirEntry b)

/-- The end of the last section as check 5 takes it (R19). -/
def lastEnd (b : List Byte) (sections : Nat) : Nat :=
  let n := min sections 9
  (directory b n).foldl (fun m e => max m (e.offset + e.length)) (128 + 16 * n)

/-- The section lengths that the counts of each layout imply (R19). -/
def impliedLength (b : List Byte) (e : DirEntry) : Nat :=
  match e.type with
  | 1 => 10432
  | 2 => 1584
  | 3 => 16 + ((List.range 16).map (fun i => leAt b (e.offset + i) 1)).sum
  | 4 => 1088
  | 5 => 32 + 16 * ((List.range 4).map (fun i => leAt b (e.offset + 8 + 2 * i) 2)).sum
  | 6 => 16 + 96 * leAt b e.offset 2
  | 7 => 16 + 8 * leAt b (e.offset + 2) 2
  | 8 => 16
  | 9 => 32 + 16 * leAt b (e.offset + 24) 2
  | _ => 0

/-- Sections in ascending OFFSET order, apart from one another, with zero bytes between them, ending before the signer key. -/
def placed (b : List Byte) : Nat → List DirEntry → Bool
  | lo, [] => zeros b lo (leAt b 8 8 - 7888 - lo)
  | lo, e :: es => decide (lo ≤ e.offset) && decide (e.offset % 64 = 0) && zeros b lo (e.offset - lo) && placed b (e.offset + e.length) es

/-- The types of a directory are those R19 asks for. -/
def typesOk (isPartial : Bool) (ts : List Nat) : Bool :=
  decide ts.Nodup && (if isPartial then decide (ts.length = 1 ∨ ts.length = 2) && ts.all (fun t => t = 1 || t = 2)
    else decide (ts.length = 9) && ts.all (fun t => 1 ≤ t && t ≤ 9))

/-- Check 9 of Table 02-15 but for what R32 asks of a partial image. -/
def directoryOk (b : List Byte) (isPartial : Bool) : Bool :=
  let h := imgHeader b
  let dir := directory b (min h.sections 9)
  decide (h.sections = dir.length) && decide (1 ≤ h.sections)
    && decide (h.flags = b2n isPartial)
    && zeros b 31 1 && zeros b 36 4 && zeros b 112 16
    && decide (h.chipId ≤ maxChip) && decide (h.qmask ≤ 15)
    && (isPartial || decide (h.baseDigest = 0))
    && typesOk isPartial (dir.map (·.type))
    && dir.all (fun e => e.sversion = 1 && e.rsvZero && e.length = impliedLength b e)
    && decide ((h.length - 7856) % 64 = 0)
    && placed b (128 + 16 * h.sections) dir

/-! ### Sections -/

/-- The bytes of a section. -/
def section_ (b : List Byte) (e : DirEntry) : List Byte := slice b e.offset e.length

/-- The next-hop code of a quarter block from position c to d (Table 02-4). -/
def NocQuarter.code (n : NocQuarter) (c dst : Nat) : Nat :=
  let k := 72 * c + dst
  let v := (n.hop.getD (k / 2) 0).toNat
  if k % 2 = 0 then v % 16 else v / 16

/-- Follow the route to `dst` for at most `fuel` hops (R22). `west` says that every hop so far was west. -/
def NocQuarter.walk (n : NocQuarter) (dst : Nat) : Nat → Nat → Bool → Bool
  | fuel, c, west =>
    if c = dst then n.code c dst = 0
    else match fuel with
      | 0 => false
      | fuel + 1 =>
        let step := fun (c' : Nat) (w : Bool) => (c' = dst || !bitOf n.nofwd c') && n.walk dst fuel c' w
        match n.code c dst with
        | 1 => decide (9 ≤ c) && step (c - 9) false
        | 2 => decide (c % 9 < 8) && step (c + 1) false
        | 3 => decide (c < 63) && step (c + 9) false
        | 4 => decide (0 < c % 9) && west && step (c - 1) true
        | _ => false

/-- Every route of a quarter block is as R22 asks. DESIGN CHOICE: a code, reserved ones included, that lies on no route so checked is accepted
whatever it is (log 61). -/
def NocQuarter.ok (n : NocQuarter) : Bool :=
  (List.range 72).all (fun s => bitOf n.nofwd s || (List.range 72).all (fun t => n.walk t 24 s true))

/-- SECT_NOC (Table 02-4). -/
def parseNoc (s : List Byte) (qmask : Nat) : Option (List NocQuarter) :=
  let qs := (List.range 4).map (fun q => ({ nofwd := leAt s (2608 * q) 9, hop := slice s (2608 * q + 16) 2592 } : NocQuarter))
  let ok := (List.range 4).all (fun q => !bitOf qmask q || (zeros s (2608 * q + 9) 7 && (qs.getD q {}).ok))
  if ok then some qs else none

/-- The settings SECT_STAGE defines (Tables 02-5 to 02-7). -/
structure StageSect where
  vstages : Nat
  pipe : Nat
  bind : List Bind
  logical : List Logical
deriving DecidableEq, Repr

/-- BIND and LOGICAL of quarter q are as R23 asks. -/
def StageSect.quarterOk (t : StageSect) (q : Nat) (used : Bool) : Bool :=
  let cores := (List.range 68).map (fun n => t.bind.getD (68 * q + n) {})
  let lcis := (List.range 64).map (fun l => t.logical.getD (64 * q + l) {})
  if used then
    (List.range 64).all (fun l =>
      let n := (cores.filter (fun c => c.role = 1 && c.lci = l)).length
      if (lcis.getD l {}).valid then n = 1 else n = 0)
  else cores.all (fun c => c.role = 0) && lcis.all (fun l => !l.valid)

/-- The LOGICAL table of a SECT_STAGE as it stands (Table 02-7). -/
def stageLogical (s : List Byte) : List Logical :=
  ((List.range 256).map (fun i => leAt s (560 + 4 * i) 4)).map (fun v => ⟨bitOf v 31, bits v 26 24, bits v 23 8, bits v 7 0⟩)

/-- SECT_STAGE: the layout, the field ranges and R23 but for the start-up test. DESIGN CHOICE: VSTAGE and STAGE are held to their ranges where the
LOGICAL entry is VALID, and may be anything elsewhere (log 61). -/
def parseStage (s : List Byte) (qmask : Nat) : Option StageSect :=
  let binds := (List.range 272).map (fun i => leAt s (16 + 2 * i) 2)
  let logs := (List.range 256).map (fun i => leAt s (560 + 4 * i) 4)
  let t : StageSect :=
    { vstages := leAt s 0 1, pipe := leAt s 2 2
      bind := binds.map (fun v => ⟨bits v 15 14, bits v 5 0⟩)
      logical := stageLogical s }
  let ok := zeros s 1 1 && zeros s 4 12 && decide (2 ≤ t.vstages) && decide (t.vstages ≤ 8) && decide (1 ≤ t.pipe)
    && binds.all (fun v => bits v 15 14 ≠ 3 && bits v 13 6 = 0 && (bits v 15 14 = 1 || bits v 5 0 = 0))
    && logs.all (fun v => bits v 30 27 = 0 && (!bitOf v 31 || (bits v 26 24 < t.vstages && bits v 23 8 < t.pipe)))
    && (List.range 4).all (fun q => t.quarterOk q (bitOf qmask q))
  if ok then some t else none

/-- A valid LCI of quarter q. -/
def lciValid (lg : List Logical) (q l : Nat) : Bool := decide (l < 64) && (lg.getD (64 * q + l) {}).valid

/-- The chains of SECT_CHAIN from their lengths. -/
def chainLists (s : List Byte) : List Nat → Nat → List (List Nat)
  | [], _ => []
  | n :: ns, o => ((slice s o n).map BitVec.toNat) :: chainLists s ns (o + n)

/-- SECT_CHAIN. -/
def parseChain (s : List Byte) (lg : List Logical) : Option (List (List Nat)) :=
  let lens := (List.range 16).map (fun i => leAt s i 1)
  let cs := chainLists s lens 16
  let ok := lens.all (· ≤ 64) && (List.range 16).all (fun i =>
    let c := cs.getD i []
    decide c.Nodup && c.all (fun l => lciValid lg (i / 4) l))
  if ok then some cs else none

/-- SECT_MEM (Table 02-8). DESIGN CHOICE: LOW_TIER is held to 3 to 5 for the valid clients, and may be anything for the others (log 61). -/
def parseMem (s : List Byte) : Option (List MemPart × List ClientCfg) :=
  let parts := (List.range 4).map (fun q => (⟨(slice s (16 * q) 5).map BitVec.toNat, leAt s (16 * q + 5) 1⟩ : MemPart))
  let recs := (List.range 64).map (fun k =>
    let o := 64 + 16 * k
    (⟨leAt s o 4, leAt s (o + 4) 4, leAt s (o + 8) 1, leAt s (o + 9) 1 = 1⟩ : ClientCfg))
  let ok := (List.range 4).all (fun q => zeros s (16 * q + 6) 10)
    && parts.all (fun p => p.regions.sum ≤ 96 && p.pinned ≤ 8)
    && (List.range 64).all (fun k => zeros s (64 + 16 * k + 10) 6 && leAt s (64 + 16 * k + 9) 1 ≤ 1)
    && recs.all (fun c => !c.valid || (3 ≤ c.lowTier && c.lowTier ≤ 5 && c.minPages ≤ c.maxPages))
  if ok then some (parts, recs) else none

/-- An entry's ARG is within Table 03-4 and R66 (R64); the CHANNEL of a start-DMA-ring action is 0 to 15 (R215). -/
def patArgOk (e : PatEntry) : Bool :=
  match e.action with
  | 1 => e.arg < 2 ^ 8
  | 2 => e.arg < 16
  | 3 => bits e.arg 15 6 = 0 && e.arg < 2 ^ 32
  | 4 => 1 ≤ bits e.arg 55 32 && e.target = 0xFF
  | 5 => bits e.arg 15 6 = 0 && 1 ≤ bits e.arg 47 16
      && (bits e.arg 55 48 = 1 || (bits e.arg 55 48 = 2 && bits e.arg 63 56 < 64 && e.target ≠ 0xFF))
  | _ => false

/-- Entries in non-decreasing order of their stamps (R25). -/
def patSorted : List PatEntry → Bool
  | a :: b :: t => decide (a.ofs * 65536 + a.frac ≤ b.ofs * 65536 + b.frac) && patSorted (b :: t)
  | _ => true

/-- The entries of the four quarters from their counts. -/
def patLists (s : List Byte) : List Nat → Nat → List (List PatEntry)
  | [], _ => []
  | n :: ns, o =>
    ((List.range n).map (fun i =>
      let p := o + 16 * i
      (⟨leAt s p 4, leAt s (p + 4) 2, leAt s (p + 6) 1, leAt s (p + 7) 1, leAt s (p + 8) 8⟩ : PatEntry))) :: patLists s ns (o + 16 * n)

/-- SECT_PATTERN (Tables 02-9, 02-10; R25, R64): role, period, entries. -/
def parsePattern (s : List Byte) (qmask : Nat) (lg : List Logical) : Option (Nat × Nat × List (List PatEntry)) :=
  let counts := (List.range 4).map (fun q => leAt s (8 + 2 * q) 2)
  let es := patLists s counts 32
  let period := leAt s 4 4
  let ok := leAt s 0 1 ≤ 2 && zeros s 1 3 && 1 ≤ period && zeros s 16 16
    && (List.range 4).all (fun q =>
      let l := es.getD q []
      l.length ≤ 4096 && (bitOf qmask q || l.isEmpty) && patSorted l
        && l.all (fun e => e.ofs < period && patArgOk e && (e.target = 0xFF || lciValid lg q e.target)))
  if ok then some (leAt s 0 1, period, es) else none

/-- Trailing zero bits of a rank below 2^17. -/
def trailing (r : Nat) : Nat := ((List.range 17).find? (fun t => bitOf r t)).getD 17

/-- The ceiling of log2 of n, n at most 131,072. -/
def log2Up (n : Nat) : Nat := ((List.range 18).find? (fun l => decide (n ≤ 2 ^ l))).getD 18

/-- One tree record (Table 02-11, R26). -/
def parseTree (s : List Byte) (o : Nat) : Option TreeRec :=
  let t : TreeRec :=
    { treeId := leAt s o 2, levels := leAt s (o + 2) 1, n := leAt s (o + 4) 4, rank := leAt s (o + 8) 4, parent := leAt s (o + 16) 4
      children := (List.range 17).map (fun l => leAt s (o + 20 + 4 * l) 4) }
  let tz := if t.rank = 0 then t.levels else trailing t.rank
  let ok := zeros s (o + 3) 1 && zeros s (o + 12) 4 && zeros s (o + 88) 8
    && 1 ≤ t.n && t.n ≤ 131072 && t.rank < t.n && t.levels = log2Up t.n
    && (if t.rank = 0 then t.parent = noChip else t.parent ≤ maxChip)
    && (List.range 17).all (fun l =>
      if l < tz && t.rank + 2 ^ l < t.n then t.children.getD l noChip ≤ maxChip else t.children.getD l 0 = noChip)
  if ok then some t else none

/-- SECT_TREE. -/
def parseTrees (s : List Byte) : Option (List TreeRec) :=
  let n := leAt s 0 2
  if n ≤ 64 && zeros s 2 14 then
    match (List.range n).mapM (fun i => parseTree s (16 + 96 * i)) with
    | some ts => if decide (ts.map (·.treeId)).Nodup then some ts else none
    | none => none
  else none

/-- A format code of Table 05-1. -/
def formatOk (f : Nat) : Bool := 1 ≤ f && f ≤ 0x0C

/-- SECT_NUM (Table 02-12): LS_INIT, CLEAN_STEPS, groups. -/
def parseNum (s : List Byte) : Option (Nat × Nat × List GroupCfg) :=
  let n := leAt s 2 2
  let gs := (List.range n).map (fun g =>
    let o := 16 + 8 * g
    let fl := leAt s (o + 3) 1
    (⟨leAt s o 1, leAt s (o + 1) 1, leAt s (o + 2) 1, bitOf fl 0, bitOf fl 1, leAt s (o + 4) 2⟩ : GroupCfg))
  let ok := leAt s 0 1 ≤ 24 && zeros s 1 1 && zeros s 8 8 && 1 ≤ n && n ≤ 1024 && 1 ≤ leAt s 4 4 && leAt s 4 4 ≤ 1048576
    && gs.all (fun g => formatOk g.fwd && formatOk g.bwd && formatOk g.grad)
    && (List.range n).all (fun g => leAt s (16 + 8 * g + 3) 1 < 4 && zeros s (16 + 8 * g + 6) 2)
  if ok then some (leAt s 0 1, leAt s 4 4, gs) else none

/-- SECT_POWER is valid. -/
def powerOk (s : List Byte) : Bool :=
  900 ≤ leAt s 0 2 && leAt s 0 2 ≤ 2300 && 1 ≤ leAt s 2 1 && leAt s 2 1 ≤ 32 && leAt s 3 1 ≤ 1 && leAt s 4 1 ≤ 7
    && leAt s 5 1 ≤ 1 && zeros s 6 10

/-- SECT_FAULT is valid for a device of chip id `own` (Table 02-13). A script VALUE is a region entry of Table 11-14, its reserved encodings
and bits unused (check 12 of Table 02-15). -/
def faultOk (s : List Byte) (own : Nat) : Bool :=
  let role := leAt s 0 1
  let sb := (List.range 4).map (fun i => leAt s (8 + 4 * i) 4)
  role ≤ 1 && zeros s 1 3 && zeros s 26 6 && leAt s 24 2 ≤ 256
    && (if role = 0 then leAt s 4 4 ≤ maxChip && leAt s 4 4 ≠ own && sb.any (· ≤ maxChip) else leAt s 4 4 = noChip)
    && sb.all (fun c => c ≤ maxChip || c = noChip)
    && (List.range (leAt s 24 2)).all (fun k =>
      let o := 32 + 16 * k
      let v := leAt s (o + 8) 8
      leAt s o 4 ≤ maxChip && leAt s (o + 4) 2 < 4096 && (leAt s (o + 6) 1 = 1 || leAt s (o + 6) 1 = 2) && zeros s (o + 7) 1
        && bits v 62 61 ≤ 1 && bits v 60 56 = 0 && bits v 46 0 = 0)

/-- The script of SECT_FAULT. -/
def faultScript (s : List Byte) : List ScriptEntry :=
  (List.range (leAt s 24 2)).map (fun k =>
    let o := 32 + 16 * k
    ⟨leAt s o 4, leAt s (o + 4) 2, leAt s (o + 6) 1, leAt s (o + 8) 8⟩)

/-! ### Checks 4 to 15 -/

/-- Refusal reasons of Tables 02-15 and 02-17. -/
def imgNotQuiescent : Nat := 0x01
def imgBusy : Nat := 0x02
def imgFetchError : Nat := 0x08
def imgCancelled : Nat := 0x11
def imgNoImage : Nat := 0x12
def imgBadSource : Nat := 0x13
def imgNoPending : Nat := 0x14

/-- A partial image only rebinds (R32): same VSTAGES, PIPE_STAGES and LOGICAL as in force. -/
def rebindOnly (new old : Settings) : Bool :=
  new.vstages = old.vstages && new.pipeStages = old.pipeStages && new.logical = old.logical

/-- Settings taken from one section of an image, those of the sections before it given, and for a partial image those in force. A section that breaks
its rules, R32 among them, gives none. -/
def takeSection (b : List Byte) (h : ImgHeader) (lg : List Logical) (old : Option Settings) (st : Settings) (e : DirEntry) : Option Settings :=
  let s := section_ b e
  match e.type with
  | 1 => (parseNoc s h.qmask).map (fun n => { st with noc := n })
  | 2 => ((parseStage s h.qmask).map (fun t =>
      ({ st with vstages := t.vstages, pipeStages := t.pipe, bind := t.bind, logical := t.logical } : Settings))).filter (fun t => old.all (rebindOnly t))
  | 3 => (parseChain s lg).map (fun c => { st with chains := c })
  | 4 => (parseMem s).map (fun p => { st with mem := p.1, clients := p.2 })
  | 5 => (parsePattern s h.qmask lg).map (fun p => { st with beatRole := p.1, period := p.2.1, entries := p.2.2 })
  | 6 => (parseTrees s).map (fun t => { st with trees := t })
  | 7 => (parseNum s).map (fun p => { st with lsInit := p.1, cleanSteps := p.2.1, groups := p.2.2 })
  | 8 => if powerOk s then some { st with capW := leAt s 0 2, windowS := leAt s 2 1, freqMode := leAt s 3 1, opCeil := leAt s 4 1
                                          hints := leAt s 5 1 % 2 } else none
  | 9 => if faultOk s h.chipId then
      some { st with faultRole := leAt s 0 1, buddy := leAt s 4 4, standby := (List.range 4).map (fun i => leAt s (8 + 4 * i) 4)
                     script := faultScript s } else none
  | _ => none

/-- The sections in directory order (check 12): the settings, or the TYPE that failed. -/
def takeSections (b : List Byte) (h : ImgHeader) (lg : List Logical) (old : Option Settings) : Settings → List DirEntry → Settings ⊕ Nat
  | st, [] => .inl st
  | st, e :: es =>
    match takeSection b h lg old st e with
    | some st' => takeSections b h lg old st' es
    | none => .inr e.type

/-- The LOGICAL table that the sections of an image refer to: that of its own SECT_STAGE, whether or not the rest of it is valid, so that each section
is judged for itself (check 12). -/
def ownLogical (b : List Byte) (dir : List DirEntry) : List Logical :=
  match dir.find? (fun e => e.type = 2) with
  | some e => stageLogical (section_ b e)
  | none => []

/-- A channel is mapped out of the device (R272, R273): MAPPED_OUT, or taken from there into TEST, where it may train. -/
def Dev.mappedOut (d : Dev) (c : Nat) : Bool :=
  let st := d.get F.MCH_CH_STATE_STATE (c / 32) (c % 32)
  st = 5 || ((st = 6 || st = 1) && !d.sys.slots.isEmpty && !d.sys.slots.contains c)

/-- Pages of 2 MiB of local HBM in service (R24). -/
def Dev.hbmPages (d : Dev) : Nat := 147456 - 1152 * ((List.range 128).filter d.mappedOut).length

/-- A signer hash stands in a valid key slot (check 6). -/
def Dev.signerTrusted (d : Dev) (hash : Nat) : Bool :=
  (List.range 8).any (fun n => bitOf (d.get F.SEC_IMGKEY_VALID_SLOTS) n && d.get F.SEC_IMGKEY_V 0 n = hash)

/-- The public key carried by an image of length n, and its signed bytes and signature (R20). -/
def imgKey (b : List Byte) (n : Nat) : List Byte := slice b (n - 7888) 32

/-- The outcome of checks 4 to 14: the verified settings, or REASON and SECT. -/
def Dev.checkImage (d : Dev) (b : List Byte) (len : Nat) (isPartial : Bool) : Settings ⊕ (Nat × Nat) :=
  let h := imgHeader b
  let dir := directory b (min h.sections 9)
  let key := imgKey b h.length
  let inForce := d.img.inForce.getD {}
  if h.magic ≠ 0x534C444E then .inr (0x03, 0)
  else if h.version ≠ 1 then .inr (0x04, 0)
  else if h.length ≠ len || 2 ^ 20 < h.length || h.length < lastEnd b h.sections + 7888 then .inr (0x05, 0)
  else if !d.signerTrusted h.signer then .inr (0x06, 0)
  else if digestNat (sha256 key) ≠ h.signer || !slhVerify slh128s key (b.take (h.length - 7856)) (slice b (h.length - 7856) 7856)
    then .inr (0x07, 0)
  else if h.target ≠ 0 && h.target ≠ d.serial then .inr (0x0B, 0)
  else if !directoryOk b isPartial || (isPartial && (h.qmask ≠ inForce.qmask || h.chipId ≠ inForce.chipId)) then .inr (0x09, 0)
  else if isPartial && h.baseDigest ≠ d.img.fullDigest then .inr (0x0E, 0)
  else if (List.range 4).any (fun q => bitOf h.qmask q && !bitOf d.flt.inService q) then .inr (0x0C, 0)
  else
    let base : Settings := if isPartial then inForce else {}
    match takeSections b h (ownLogical b dir) (if isPartial then some inForce else none)
        { base with jobId := h.jobId, serial := h.serial, qmask := h.qmask, chipId := h.chipId } dir with
    | .inr t => .inr (0x0A, t)
    | .inl st =>
      if (dir.any (fun e => e.type = 2)) &&
          (List.range 272).any (fun c => (st.bind.getD c {}).role ≠ 0 && !bitOf (d.get F.BOOT_CORE_OK_OK 0 (c / 68)) (c % 68))
        then .inr (0x0D, 0)
      else if !isPartial && d.hbmPages < ((st.clients.filter (·.valid)).map (·.minPages)).sum then .inr (0x10, 0)
      else .inl st

end Sys2Proof.Machine
end

