-- ==== Sys2Proof/Machine/BeatOps.lean ====
section
/-!
DEFINITION. Sys2Proof/Machine/BeatOps.lean: clock sources (R43 to R49), the timer and SYNC (R50 to R59), pattern arming
(R60 to R63) and deadlines (R66 to R68), as operations the event rows call.
-/

namespace Sys2Proof.Machine

/-! ### The timer -/

/-- The largest change of the rate word, floor(N x 2^-10) (R50, R57). -/
def rateLimit : Nat := rateNominal / 1024

/-- Set the timer to a stamp in fraction units. -/
def Dev.setTimer (d : Dev) (stamp : Nat) : Dev :=
  { d.putD F.BEAT_NOW_V (stamp / 65536) with clk := { d.clk with frac := BitVec.ofNat 48 (stamp % 65536 * 2 ^ 32) } }

/-- Clamp a signed number to plus or minus a limit. -/
def clampI (v : Int) (l : Nat) : Int := if v < -(l : Int) then -(l : Int) else if (l : Int) < v then l else v

/-- Division of a signed number by a positive one, rounded to nearest. -/
def roundDiv (a : Int) (b : Nat) : Int := (2 * a + b).fdiv (2 * b)

/-- Set the rate trim. -/
def Dev.setTrim (d : Dev) (a : Int) : Dev := d.putD F.BEAT_TRIM_V (unsigned 32 a)

/-- One tick of the timer (R50): the fraction grows by the rate word, and the flag says that it overflowed. A stopped timer, or one with
no source selected, does not move. -/
def Dev.advance (d : Dev) : Bool × Dev :=
  if !d.clk.running || d.clk.stopped then (false, d)
  else
    let f := d.clk.frac.toNat + d.clk.rate
    (2 ^ 48 ≤ f, { d with clk := { d.clk with frac := BitVec.ofNat 48 f } })

/-! ### Pattern tables -/

/-- Disarm every pattern table and every pending one (R62, R63). -/
def Dev.disarmAll (d : Dev) : Dev :=
  { (d.putD F.BEAT_PAT_ARM_ARM 0).putD F.BEAT_PAT_ARM_PENDING 0 with pat := { d.pat with disp := [] } }

/-- The beat becomes invalid (R63): VALID cleared, every table disarmed, PATTERN_DISARMED written. A beat that was not valid does not
become invalid. -/
def Dev.beatInvalid (d : Dev) : Dev :=
  if d.flag F.BEAT_STATUS_VALID then ((d.putD F.BEAT_STATUS_VALID 0).disarmAll).record .patternDisarmed (devSource 15) [] else d.disarmAll

/-- The pattern entries of quarter q. -/
def Dev.patEntries (d : Dev) (q : Nat) : List PatEntry := ((d.img.inForce.map (·.entries)).getD []).getD q []

/-- The pattern period. -/
def Dev.patPeriod (d : Dev) : Nat := (d.img.inForce.map (·.period)).getD 1

/-- The absolute stamp of entry i in period k, in fraction units (R60). -/
def Dev.entryStamp (d : Dev) (e : PatEntry) (k : Nat) : Nat :=
  (d.get F.BEAT_PAT_BASE_V + k * d.patPeriod + e.ofs) * 65536 + e.frac

/-- The first entry whose absolute stamp is at or after a boundary: period and index (R60). -/
def Dev.firstEntry (d : Dev) (q boundary : Nat) : Nat × Nat :=
  let b0 := d.get F.BEAT_PAT_BASE_V * 65536
  let k := if boundary ≤ b0 then 0 else (boundary - b0) / 65536 / atLeast1 d.patPeriod
  match (d.patEntries q).findIdx? (fun e => boundary ≤ d.entryStamp e k) with
  | some i => (k, i)
  | none => (k + 1, 0)

/-- The tables whose arming waits are armed at a beat boundary, stamp (beat, 0) (R60). -/
def Dev.armPending (d : Dev) : Dev :=
  let pend := d.get F.BEAT_PAT_ARM_PENDING
  let b := 65536 * d.beat
  let d := d.each ((List.range 4).filter (fun q => bitOf pend q)) (fun d q =>
    let p := d.firstEntry q b
    { d with pat := { d.pat with disp := mset {} d.pat.disp q { armedAt := some b, k := p.1, i := p.2 } } })
  d.putD F.BEAT_PAT_ARM_PENDING 0

/-! ### Deadlines -/

/-- The key of a deadline slot. -/
def dlKey (q s : Nat) : Nat := 64 * q + s

/-- Free the deadlines that a condition meets before their end (R67). -/
def Dev.meetDeadlines (d : Dev) (p : Nat → Deadline → Bool) : Dev :=
  { d with pat := { d.pat with deadlines := d.pat.deadlines.filter (fun e => !(p (e.1 / 64) e.2 && d.now < e.2.fin)) } }

/-- A collective slot enters DONE or SKIPPED (R66 KIND 0x01). -/
def Dev.collectiveEnds (d : Dev) (slot : Nat) : Dev := d.meetDeadlines (fun _ e => e.kind = 1 && e.ref = slot)

/-- A tap counter of core c reaches zero (R66 KIND 0x02). -/
def Dev.tapReachesZero (d : Dev) (c tap : Nat) : Dev :=
  d.meetDeadlines (fun _ e => e.kind = 2 && e.ref = tap && e.target = c)

/-- A deadline not met at its end is missed (R67): the slot is freed and DEADLINE_MISS written. -/
def Dev.missDeadline (d : Dev) (q s : Nat) : Dev :=
  match d.pat.deadlines.find? (fun e => e.1 = dlKey q s) with
  | none => d
  | some e =>
    if e.2.fin ≤ d.now then
      let d := { d with pat := { d.pat with deadlines := d.pat.deadlines.filter (fun x => x.1 ≠ dlKey q s) } }
      d.record .deadlineMiss (evSource q 15 0x7F) [(1, s), (1, e.2.kind), (1, e.2.ref), (8, e.2.fin / 65536), (2, e.2.fin % 65536)]
    else d

/-- Every deadline whose end the timer has reached is missed (R67). -/
def Dev.scanDeadlines (d : Dev) : Dev :=
  d.each (d.pat.deadlines.map (·.1)) (fun d k => d.missDeadline (k / 64) (k % 64))

/-- Arm a deadline from its pattern entry (R66, Table 03-4), its target resolved by the binding in force (R21), replacing an open one with DL_OVERWRITE (R67, R502). A counter already at zero meets it at
once, unless its end has come (R65). -/
def Dev.armDeadline (d : Dev) (q : Nat) (e : PatEntry) (stamp : Nat) : Dev :=
  let s := bits e.arg 5 0
  let kind := bits e.arg 55 48
  let ref := bits e.arg 63 56
  let d := match d.pat.deadlines.find? (fun x => x.1 = dlKey q s) with
    | some o => d.record .dlOverwrite (evSource q 15 0x7F)
        [(1, s), (1, o.2.kind), (1, o.2.ref), (8, o.2.fin / 65536), (2, o.2.fin % 65536)]
    | none => d
  let fin := stamp + bits e.arg 47 16
  let atZero := match d.lciCore q e.target with
    | some c => decide (signed 32 (d.get F.TAP_VALUE_V c ref) ≤ 0)
    | none => false
  let rest := d.pat.deadlines.filter (fun x => x.1 ≠ dlKey q s)
  if kind = 2 && atZero && d.now < fin then { d with pat := { d.pat with deadlines := rest } }
  else { d with pat := { d.pat with deadlines := rest ++ [(dlKey q s, ⟨kind, ref, (d.lciCore q e.target).getD 272, fin, fin⟩)] } }

/-- A LATE payload stretches the open KIND 0x01 deadlines of its slot up to the cap (R68). The flag says that one was stretched. -/
def Dev.applyLate (d : Dev) (m : LateMsg) : Bool × Dev :=
  let cap := 65536 * d.get F.BEAT_DL_CAP_BEATS
  let hit := fun (e : Deadline) => e.kind = 1 && e.ref = m.slot && d.now < e.fin
  let stretched := fun (e : Deadline) => min (max e.fin m.newEnd) (e.e0 + cap)
  let some1 := d.pat.deadlines.any (fun e => hit e.2 && e.2.fin < stretched e.2)
  let dls := d.pat.deadlines.map (fun e => if hit e.2 then (e.1, { e.2 with fin := stretched e.2 }) else e)
  (some1, { d with pat := { d.pat with deadlines := dls } })

/-! ### Upstream selection and SYNC (R56, R57, R59) -/

/-- The change of upstream takes effect (R56): own HOPS is the upstream's plus one. -/
def Dev.takeUpstream (d : Dev) (n : Nat) : Dev :=
  match d.clk.syncs.find? (fun s => s.port = n) with
  | some s => { (d.putD F.BEAT_STATUS_UPSTREAM n).putD F.BEAT_STATUS_HOPS (s.hops + 1) with clk := { d.clk with upPending := none, slew := none } }
  | none => d

/-- BEAT_ERR shows e; a value that its 32 bits cannot hold is free. -/
def Dev.showErr (d : Dev) (e : Int) : Dev :=
  if -(2 ^ 31 : Int) ≤ e && e < 2 ^ 31 then d.putD F.BEAT_ERR_V (unsigned 32 e)
  else let (v, d) := d.fresh 32; d.putD F.BEAT_ERR_V v

/-- LOCKED (R57): set after 16 consecutive errors under 131 units, cleared by one of 655 or more. -/
def Dev.lockOn (d : Dev) (e : Int) : Dev :=
  let good := if e.natAbs < 131 then min 16 (d.clk.good + 1) else 0
  let d := { d with clk := { d.clk with good := good } }
  if 655 ≤ e.natAbs then d.putD F.BEAT_STATUS_LOCKED 0 else if good = 16 then d.putD F.BEAT_STATUS_LOCKED 1 else d

/-- A step or stop of the timer (R57): STEP, BEAT_STEP, trim 0. DESIGN CHOICE: the rate word of the interval that follows is the nominal N; the manual names
none for it (log 63). -/
def Dev.stepped (d : Dev) : Dev :=
  let d := (d.putD F.BEAT_STATUS_STEP 1).record .beatStep (devSource 15) []
  { d.setTrim 0 with clk := { d.clk with rate := rateNominal, slew := none } }

/-- The slew of R57 for |e| < 16,384, over an interval of I ticks, for a SYNC from a port. -/
def Dev.slewBy (d : Dev) (e : Int) (ticks port : Nat) : Dev :=
  let u := roundDiv (e * 2 ^ 32) ticks
  let a := match d.clk.slew with
    | some p => if p.port = port && !p.limited then clampI (d.trim - roundDiv (e * 2 ^ 32) p.ticks) rateLimit else d.trim
    | none => d.trim
  let w := a - u
  let c := clampI w rateLimit
  { d.setTrim a with clk := { d.clk with rate := (rateNominal + c).toNat, slew := some ⟨port, decide (c ≠ w), ticks⟩ } }

/-- The timer is set to an expected stamp, and the stamps between are skipped (R61). The ages of the SYNCs noted, which are elapsed time (R56), stay as
they were. -/
def Dev.jumpTo (d : Dev) (expected : Nat) : Dev :=
  let t := d.now
  { d.setTimer expected with pat := { d.pat with skips := d.pat.skips ++ [(t, expected)] }, clk := { (d.setTimer expected).clk with
      syncs := d.clk.syncs.map (fun (s : SyncInfo) => { s with arrival := s.arrival + expected - t }) } }

/-- The error e between the local stamp and the expected stamp is acted on (R57). A stopped timer learns the expected stamp anew, and goes on once it
has been reached. -/
def Dev.follow (d : Dev) (expected : Nat) (ticks port : Nat) : Dev :=
  let e : Int := (d.now : Int) - expected
  let d := (d.showErr e).lockOn e
  let d := if d.clk.stopped then { d with clk := { d.clk with expected := expected * 2 ^ 32, stopped := decide (0 < e) } } else d
  if !d.flag F.BEAT_STATUS_VALID then
    { (d.jumpTo expected).setTrim 0 with clk := { (d.jumpTo expected).clk with rate := rateNominal, slew := none } }.putD F.BEAT_STATUS_VALID 1
  else
    if e.natAbs < 16384 then d.slewBy e ticks port
    else if e < 0 then (d.jumpTo expected).stepped
    else { d.stepped with clk := { d.stepped.clk with stopped := true, expected := expected * 2 ^ 32 } }

/-- The stamp of the timer in units of 2^-48 beat. -/
def Dev.fullStamp (d : Dev) : Nat := d.beat * 2 ^ 48 + d.clk.frac.toNat

/-- A stopped timer's tick (R57): the expected stamp comes nearer at the nominal rate (DESIGN CHOICE, log 63). -/
def Dev.awaitExpected (d : Dev) : Dev := { d with clk := { d.clk with expected := d.clk.expected + rateNominal } }

/-! ### Clock sources (R43 to R49) -/

/-- SELECTED code of a source. -/
def ClkSrc.code : ClkSrc → Nat
  | .xtal => 1
  | .crec => 2

/-- The other source. -/
def ClkSrc.other : ClkSrc → ClkSrc
  | .xtal => .crec
  | .crec => .xtal

/-- QUAL of a source. -/
def ClkSrc.qual : ClkSrc → Fld
  | .xtal => F.BEAT_CLK_STATUS_XTAL_QUAL
  | .crec => F.BEAT_CLK_STATUS_CREC_QUAL

/-- RUN of a source. -/
def ClkSrc.run : ClkSrc → Fld
  | .xtal => F.BEAT_CLK_STATUS_XTAL_RUN
  | .crec => F.BEAT_CLK_STATUS_CREC_RUN

/-- PRESENT of a source. -/
def ClkSrc.present : ClkSrc → Fld
  | .xtal => F.BEAT_CLK_STATUS_XTAL_PRESENT
  | .crec => F.BEAT_CLK_STATUS_CREC_PRESENT

/-- A comparison clock is present for a source (R45). -/
def Dev.hasComparison (d : Dev) (s : ClkSrc) : Bool :=
  d.flag s.other.present || d.flag F.BEAT_CLK_STATUS_HREC_PRESENT

/-- Switch to a qualified source (R47, R49). -/
def Dev.switchSource (d : Dev) (s : ClkSrc) : Dev :=
  ((d.putD F.BEAT_CLK_STATUS_SELECTED s.code).putD F.BEAT_CLK_STATUS_CLK_SWITCHED 1).record .clkSwitch (devSource 15) []

/-- The safe states of Table 03-2 (R48): links idle and out of service, timer stopped, VALID cleared, tables disarmed, the regulator
request held at OP7. HBM contents count as lost. -/
def Dev.clockSafe (d : Dev) : Dev :=
  let d := (d.putD F.BEAT_CLK_STATUS_SELECTED 0).putD F.BEAT_CLK_STATUS_SAFE_SEEN 1
  let d := { d with clk := { d.clk with safe := true, running := false, stopped := false, probes := [], syncs := [], upPending := none
                                        setPending := none, slew := none, good := 0 } }
  let d := (((d.putD F.BEAT_STATUS_LOCKED 0).putD F.BEAT_STATUS_HOLDOVER 0).putD F.BEAT_STATUS_UPSTREAM 0xFF).beatInvalid
  let d := d.each (List.range 16) (fun d n => if d.portState n = 5 then d.pput F.FAB_PORT_STATUS_STATE n 0 else d.portLeave n 0)
  let d := (d.putD F.HL_STATUS_STATE0 0).putD F.HL_STATUS_STATE1 0
  let d := d.each (List.range 128) (fun d c => d.put F.MCH_CH_STATE_STATE (c / 32) (c % 32) 0)
  let d := { d with mem := { d.mem with hbm := [], poison := [], epoch := d.mem.epoch + 1 } }
  { d with pwr := { d.pwr with vid := 0, raising := none } }.emit (.regulator 0)

/-- A source fails (R46, R47, R48): it loses its qualification; if it was selected, the other qualified source takes over, or the safe
states apply. -/
def Dev.sourceFails (d : Dev) (s : ClkSrc) : Dev :=
  let d := (d.putD s.qual 0).putD s.run 0
  if d.get F.BEAT_CLK_STATUS_SELECTED = s.code then
    if d.flag s.other.qual then d.switchSource s.other else d.clockSafe
  else d

/-- Select a source and start the timer at count 0 and fraction 0 (R50). -/
def Dev.selectSource (d : Dev) (s : ClkSrc) : Dev :=
  let d := (d.putD F.BEAT_CLK_STATUS_SELECTED s.code).setTimer 0
  { d with clk := { d.clk with running := true, stopped := false, rate := rateNominal, safe := false } }

/-- Consecutive out-of-window windows of a source. -/
def Dev.badRun (d : Dev) (s : ClkSrc) : Nat := match s with | .xtal => d.clk.xtalBad | .crec => d.clk.crecBad

/-- Set the consecutive out-of-window windows of a source. -/
def Dev.setBadRun (d : Dev) (s : ClkSrc) (n : Nat) : Dev :=
  match s with
  | .xtal => { d with clk := { d.clk with xtalBad := n } }
  | .crec => { d with clk := { d.clk with crecBad := n } }

/-- The end of a qualification window (R44, R45, R46): discarded where the comparison clock stopped or is absent. A candidate without an edge in it is not
receiving edges (Table 03-11). -/
def Dev.windowEnd (d : Dev) (s : ClkSrc) (count : Nat) (stopped : Bool) : Dev :=
  let d := d.putD s.present (b2n (count ≠ 0))
  if stopped || !d.hasComparison s then d
  else if 65530 ≤ count && count ≤ 65542 then
    let r := min 1024 (d.get s.run + 1)
    let d := (d.putD s.run r).setBadRun s 0
    if r = 1024 then d.putD s.qual 1 else d
  else
    let b := d.badRun s + 1
    let d := (d.putD s.run 0).setBadRun s b
    if 2 ≤ b then (d.setBadRun s 0).sourceFails s else d

/-- The port that feeds CREC (R43): the upstream once the beat is locked, else the lowest-numbered locked receiver. -/
def Dev.crecChoice (d : Dev) : Option Nat :=
  if d.flag F.BEAT_STATUS_LOCKED && d.get F.BEAT_STATUS_UPSTREAM < 16 then some (d.get F.BEAT_STATUS_UPSTREAM)
  else (List.range 16).find? (fun n => bitOf d.clk.rxLock n)

/-- CREC is taken from a port, or from none (R43). -/
def Dev.crecFrom (d : Dev) (p : Option Nat) : Dev :=
  { d with clk := { d.clk with crecPort := p, crecPending := none } }.putD F.BEAT_CLK_STATUS_CREC_PRESENT (b2n (p.any (bitOf d.clk.rxLock)))

/-- CREC should move: at the next beat boundary (R43), or at once where no port feeds it or the timer, which makes the boundaries, does not run
(DESIGN CHOICE, log 64). -/
def Dev.crecWants (d : Dev) : Dev :=
  if d.crecChoice = d.clk.crecPort then { d with clk := { d.clk with crecPending := none } }
  else if d.clk.crecPort.isNone || !d.clk.running then d.crecFrom d.crecChoice
  else { d with clk := { d.clk with crecPending := d.crecChoice } }

/-- A receiver gains or loses lock (R42, R43, R46); `inWindow`: the clock of its stream is in window against XTAL or HREC. -/
def Dev.receiverLock (d : Dev) (haune : Bool) (n : Nat) (gained inWindow : Bool) : Dev :=
  if haune then
    let m := setBit d.clk.hlLock n gained
    { d with clk := { d.clk with hlLock := m } }.putD F.BEAT_CLK_STATUS_HREC_PRESENT (b2n (m ≠ 0))
  else
    let d := { d with clk := { d.clk with rxLock := setBit d.clk.rxLock n gained, rxIn := setBit d.clk.rxIn n (gained && inWindow) } }
    if gained then d.crecWants
    else if d.clk.crecPort = some n then ((d.putD F.BEAT_CLK_STATUS_CREC_PRESENT 0).sourceFails .crec).crecWants
    else d.crecWants

end Sys2Proof.Machine
end

