-- ==== Sys2Proof/Machine/FabricOps.lean ====
section
/-!
DEFINITION. Sys2Proof/Machine/FabricOps.lean: the link layer of a Carillon port: port states (R286 to R289), frames, retry and
credits (R290 to R298), packet headers and partner violations (R299, R320, R321), key setup and rekeys (R317 to R319, R322), the table
slots of LCX and LEX (R306 to R309).
-/

namespace Sys2Proof.Machine

/-! ### Port states -/

/-- Set the state of a port. -/
def Dev.setPortState (d : Dev) (n s : Nat) : Dev := d.pput F.FAB_PORT_STATUS_STATE n s

/-- A port goes to FAILED with a REASON, and FAB_PORT_DOWN or FAB_AUTH_FAIL (Table 11-2). -/
def Dev.portFails (d : Dev) (n reason : Nat) (e : Ev) : Dev :=
  let d := (d.pput F.FAB_PORT_STATUS_REASON n reason).portLeave n 5
  d.record e (evSource (n / 4) 10 n) []

/-- A delay measured before the port left UP is never used again (R54), and an upstream without a delay is none (R56). -/
def Dev.dropDelay (d : Dev) (n : Nat) : Dev :=
  let d := d.put F.BEAT_PORT_DELAY_VALID 0 n 0
  { d with clk := { d.clk with probes := d.clk.probes.filter (fun p => p.port ≠ n) } }.reselect

/-- A port in UP retrains (R288): no sequenced frame is sent, the retry buffer stays. -/
def Dev.startRetrain (d : Dev) (n : Nat) : Dev :=
  if d.portUp n then
    let t := d.port n
    ((d.setPort n { t with fails := 0, crcRun := 0, nakRun := 0, lock := none, param := none }).dropDelay n).setPortState n 4
  else d

/-- Receive buffer of each channel, per subclass, in flits (Table 11-6). -/
def vcBuffer (vc : Nat) : Nat := [64, 128, 128, 128, 128, 16, 8, 8].getD vc 0

/-- Sixteen zero counts. -/
def zero16 : List Nat := List.replicate 16 0

/-- The flits of a frame that take a credit of a channel and subclass; a link-local beat flit is not sent again (R295). -/
def creditFlits (fs : List Flit) (i : Nat) : Nat :=
  (fs.filter (fun f => match f with
    | .head p _ => !(p.ptype = 8 && p.isLocal) && vcIndex p.vc p.sub = i
    | .body vc sub _ _ => vcIndex vc sub = i
    | .idle | .link _ | .bad _ => false)).length

/-- A port enters UP (R286): CREDIT messages, the retained frames sent again, FAB_PORT_UP. Credits begin anew (R297): the flits of the retained frames take
theirs, and flits still here from before count in no CREDIT. -/
def Dev.portEntersUp (d : Dev) (n : Nat) : Dev :=
  let t := d.port n
  let again := t.retry.flatMap (·.flits)
  let old := (List.range 16).map (fun i => t.oldFlits.getD i 0 + (t.gotFlits.getD i 0 + 65536 - t.freed.getD i 0) % 65536)
  let d := d.setPort n { t with fails := 0, linkq := t.linkq ++ [.credit zero16], peerFreed := zero16
                                sentFlits := (List.range 16).map (creditFlits again), freed := zero16, gotFlits := zero16, oldFlits := old
                                resend := t.retry, liveFrom := some d.now, crcRun := 0, nakRun := 0 }
  (d.setPortState n 3).record .fabPortUp (evSource (n / 4) 10 n) []

/-! ### Key setup (R318, R319) -/

/-- The PARAM message's bytes as they enter the transcript (Table 11-7). -/
def paramBytes (serial chip port lanes : Nat) : List Byte :=
  leBytes 1 2 ++ List.replicate 7 0 ++ leBytes 8 serial ++ leBytes 4 chip ++ leBytes 1 port ++ leBytes 1 lanes ++ List.replicate 42 0

/-- The chip id that PARAM carries: 0x0001_FFFF where none is assigned (Table 11-7). -/
def Dev.paramChip (d : Dev) : Nat := if d.img.inForce.isSome then d.chip else 0x1FFFF

/-- The receive lane set of a port in training (R287, R288): the lanes that have locked, less those left out. -/
def Port.lanes (t : Port) (retraining : Bool) : Nat :=
  (t.lock.getD 0 % 256) &&& (255 ^^^ (t.outRx ||| (if retraining then t.limitCur ||| t.limitPrev else 0)))

/-- PARAM of this side of port n. -/
def Dev.ownParam (d : Dev) (n : Nat) : List Byte :=
  paramBytes d.serial d.paramChip n (d.pget F.FAB_PORT_STATUS_RX_LANES n)

/-- PARAM of the partner of port n, as it came. -/
def Dev.peerParam (d : Dev) (n : Nat) : List Byte :=
  match (d.port n).param with
  | some (serial, chip, port, lanes) => paramBytes serial chip port lanes
  | none => paramBytes 0 0 0 0

/-- The bytes of an ASCII name, spelled as their codes. -/
def ascii (cs : List Nat) : List Byte := cs.map (BitVec.ofNat 8)

/-- "CRLN-KX1". -/
def labelKx1 : List Byte := ascii [0x43, 0x52, 0x4C, 0x4E, 0x2D, 0x4B, 0x58, 0x31]

/-- "CRLN I2R" or "CRLN R2I". -/
def labelDir (i2r : Bool) : List Byte :=
  ascii (if i2r then [0x43, 0x52, 0x4C, 0x4E, 0x20, 0x49, 0x32, 0x52] else [0x43, 0x52, 0x4C, 0x4E, 0x20, 0x52, 0x32, 0x49])

/-- The transcript hash T (R318). -/
def Dev.transcript (d : Dev) (n : Nat) (k : Keying) : List Byte :=
  let pi := if k.initiator then d.ownParam n else d.peerParam n
  let pr := if k.initiator then d.peerParam n else d.ownParam n
  sha256 (labelKx1 ++ pi ++ pr ++ k.ek ++ k.nI ++ k.ct ++ k.nR)

/-- Both keys are derived and installed (R318 step 5). -/
def Keying.install (k : Keying) (ss t : List Byte) : Keying :=
  { k with installed := true, stage := 3, transcript := t, keyTx := hkdf t ss (labelDir k.initiator) 36
           keyRx := hkdf t ss (labelDir (!k.initiator)) 36, ctrTx := 0, ctrRx := 0, phaseRx := false, rxNew := false, bothPhases := 0, rekey := false
           unanswered := none, rxMsg := [] }

/-- The fragments of a key-exchange message (Table 11-7): 56 bytes each. -/
def kxFragments (msg : Nat) (bs : List Byte) : List LinkMsg :=
  let n := ceilDiv bs.length 56
  (List.range n).map (fun i => .keyx msg i n (slice bs (56 * i) 56))

/-- Queue a key-exchange message; one that awaits an answer is sent again whole if none comes within 1 ms (R318). -/
def Port.sendKx (t : Port) (msg : Nat) (bs : List Byte) (answered : Bool) : Port :=
  { t with linkq := t.linkq ++ kxFragments msg bs, key := { t.key with unanswered := if answered then some msg else t.key.unanswered } }

/-- The bytes of this side's message: KX1, KX2 or KX3 (R318). -/
def Keying.message (k : Keying) (msg : Nat) : List Byte :=
  match msg with
  | 1 => k.ek ++ k.nI
  | 2 => k.ct ++ k.nR ++ Config.ownCert ++ Config.slhSign k.transcript
  | _ => Config.ownCert ++ Config.slhSign k.transcript

/-- 32 bytes of fresh randomness. -/
def Dev.nonce (d : Dev) : List Byte × Dev :=
  let (v, d) := d.fresh 256
  (leBytes 32 v, d)

/-- Key setup begins (R318): the side with the lower part serial is the initiator and sends KX1. Before the identity key is ready the belfry has not taken the
exchange up, and the port waits in KEYING. -/
def Dev.beginKeying (d : Dev) (n : Nat) : Dev :=
  let d := d.pput F.FAB_PORT_STATUS_KEY_PHASE n 0
  if !d.flag F.SEC_ID_STATUS_READY then (d.setPort n { d.port n with key := {}, fails := 0 }).setPortState n 2
  else
    let ini := d.serial < d.pget F.FAB_PORT_PSERIAL_V n
    let (nonce, d) := d.nonce
    let (kemSeed, d) := d.fresh 64
    let k : Keying := { initiator := ini, taken := true, stage := if ini then 1 else 0, ek := if ini then Config.kemKey kemSeed else []
                        nI := if ini then nonce else [] }
    let t := { d.port n with key := k, fails := 0 }
    (d.setPort n (if ini then t.sendKx 1 (k.message 1) true else t)).setPortState n 2

/-- The ports whose key setup awaits the identity key begin it (R318). -/
def Dev.keysReady (d : Dev) : Dev :=
  d.each ((List.range 16).filter (fun n => d.portState n = 2 && !(d.port n).key.taken)) (fun d n => d.beginKeying n)

/-- The identity key of a device certificate (Table 17-5, R470) of a part with a serial, if the certificate verifies to the vendor root. -/
def certKey (c : List Byte) (serial : Nat) : Option (List Byte) :=
  let key := slice c 32 32
  if leAt c 0 4 = 0x5452435A && leAt c 8 8 = serial && sha256 key = slice c 64 32
      && slhVerify slh128s Config.vendorRoot (slice c 0 128) (slice c 128 7856) then some key else none

/-- The partner's certificate and its signature over T verify (R318 step 4). -/
def kxVerified (serial : Nat) (t certSig : List Byte) : Bool :=
  match certKey (slice certSig 0 7984) serial with
  | some pk => slhVerify slh128f pk t (slice certSig 7984 17088)
  | none => false

/-- Authentication failed (R318 step 4, Table 11-2). -/
def Dev.authFails (d : Dev) (n : Nat) : Dev := d.portFails n 4 .fabAuthFail

/-- A whole key-exchange message in KEYING (R318). -/
def Dev.kxInKeying (d : Dev) (n msg : Nat) (bs : List Byte) : Dev :=
  let t := d.port n
  let k := t.key
  match msg with
  | 1 =>
    if k.initiator || !k.taken then d
    else
      let (seed, d) := d.fresh 64
      let (nonce, d) := d.nonce
      let enc := Config.kemEncap (slice bs 0 1184) seed
      let k := { k with ek := slice bs 0 1184, nI := slice bs 1184 32, ct := enc.1, nR := nonce, stage := 2, rxMsg := [] }
      let tr := d.transcript n k
      -- the shared secret is kept where the keys will stand until KX3 verifies
      let k := { k with transcript := tr, keyTx := enc.2 }
      d.setPort n ({ t with key := k }.sendKx 2 (k.message 2) true)
  | 2 =>
    if !k.initiator || k.stage ≠ 1 then d
    else
      let k := { k with ct := slice bs 0 1088, nR := slice bs 1088 32 }
      let tr := d.transcript n k
      if kxVerified (d.pget F.FAB_PORT_PSERIAL_V n) tr (bs.drop 1120) then
        -- KX3 goes in the NULL frames of KEYING; the shared secret is kept where the keys will stand
        let k := { k with transcript := tr, stage := 3, keyTx := Config.kemDecap k.ek k.ct, unanswered := none, rxMsg := [] }
        d.setPort n ({ t with key := k }.sendKx 3 (k.message 3) false)
      else d.authFails n
  | 3 =>
    if k.initiator || k.stage ≠ 2 then d
    else if kxVerified (d.pget F.FAB_PORT_PSERIAL_V n) k.transcript bs then
      (d.setPort n { t with key := k.install k.keyTx k.transcript }).portEntersUp n
    else d.authFails n
  | _ => d

/-- The initiator's KX3 has gone: both its keys are installed (R318 step 5). -/
def Dev.kx3Sent (d : Dev) (n : Nat) : Dev :=
  let t := d.port n
  if d.portState n = 2 && t.key.initiator && t.key.stage = 3 && !t.key.installed
      && !t.linkq.any (fun m => match m with | .keyx _ _ _ _ => true | .credit _ | .param _ _ _ _ | .reserved _ => false) then
    (d.setPort n { t with key := t.key.install t.key.keyTx t.key.transcript }).portEntersUp n
  else d

/-- A whole rekey message in UP: KX1' at the receiver of the direction, KX2' at its sender (R319). -/
def Dev.kxInUp (d : Dev) (n msg : Nat) (bs : List Byte) : Dev :=
  let t := d.port n
  let k := t.key
  match msg with
  | 1 =>
    let (seed, d) := d.fresh 64
    let enc := Config.kemEncap (slice bs 0 1184) seed
    let tr := sha256 (k.transcript ++ slice bs 0 1184 ++ enc.1)
    let k := { k with transcript := tr, keyRx := hkdf tr enc.2 (labelDir (!k.initiator)) 36, rxNew := true, rxMsg := [] }
    d.setPort n ({ t with key := k }.sendKx 2 enc.1 false)
  | 2 =>
    if !k.rekey then d
    else
      let tr := sha256 (k.transcript ++ k.ek ++ slice bs 0 1088)
      let ss := Config.kemDecap k.ek (slice bs 0 1088)
      let k := { k with transcript := tr, keyTx := hkdf tr ss (labelDir k.initiator) 36, ctrTx := 0, rekey := false, unanswered := none, rxMsg := [] }
      let d := d.setPort n { t with key := k }
      (d.pput F.FAB_PORT_STATUS_KEY_PHASE n (1 - d.pget F.FAB_PORT_STATUS_KEY_PHASE n)).pcount F.FAB_REKEYS_V n
  | _ => d

/-- Full key setup again, the retry buffer kept (Table 11-2, R319, R322). -/
def Dev.rekeyFull (d : Dev) (n : Nat) : Dev := (d.dropDelay n).beginKeying n

/-! ### Partner violations and quarantine (R320, R321) -/

/-- The number of the violation window (R321). -/
def Dev.violWindow (d : Dev) : Nat := d.beat / atLeast1 (d.get F.FAB_VIOL_WINDOW_BEATS)

/-- The port with the counts of the present violation window (R321, R322). -/
def Dev.windowed (d : Dev) (n : Nat) : Port :=
  let t := d.port n
  if t.violWin = d.violWindow then t else { t with violWin := d.violWindow, violCnt := 0, tagCnt := 0 }

/-- A partner violation counts and is recorded; the VIOL_LIMIT-th of a window quarantines the port from the next boundary (R320, R321).
During quarantine a refusal or a drop counts in FAB_QUAR_DROP and not as a violation (R321). -/
def Dev.violation (d : Dev) (n code src : Nat) : Dev :=
  if d.pget F.FAB_PORT_STATUS_QUAR n ≠ 0 then d.pcount F.FAB_QUAR_DROP_V n else
  let d := ((d.pcount F.FAB_VIOL_V n).pput F.FAB_VIOL_LAST_CODE n code).pput F.FAB_VIOL_LAST_SRC n src
  let t := d.windowed n
  let c := t.violCnt + 1
  d.setPort n { t with violCnt := c, quarPending := t.quarPending || c = d.get F.FAB_VIOL_CFG_VIOL_LIMIT }

/-- No SRC known. -/
def noSrc : Nat := 0x1FFFF

/-- The answer of Table 11-15 to a packet of port n that breaks its rules: a NACK to its SRC; while quarantine holds, QUARANTINED to a request (R321). DEDUCED:
the table answers a broken response, beat packet or control packet like a request (log 75). -/
def Dev.answerBroken (d : Dev) (n : Nat) (p : Packet) (code : Nat) : Dev :=
  if d.pget F.FAB_PORT_STATUS_QUAR n = 0 then d.sendNack p code else if p.isRequest then d.sendNack p 0x47 else d

/-! ### Frames received -/

/-- The channels a PTYPE may travel on (Table 11-9); a reserved PTYPE has none. -/
def ptypeVcs (p : Nat) : List Nat :=
  match p with
  | 1 => [0] | 2 => [0, 3, 4] | 3 => [0] | 4 => [1] | 5 => [1] | 6 => [1] | 7 => [1] | 8 => [6] | 9 => [7] | 0x0A => [5] | 0x0B => [2]
  | _ => []

/-- Data bytes that a packet carries by its LEN (R299, Table 11-9): a READ carries none. -/
def Packet.dataLen (p : Packet) : Nat := if p.ptype = 1 then 0 else p.len

/-- A frame's flit takes a place of the receive buffer (R297). The flag says that there was a credit for it. -/
def Port.takeCredit (t : Port) (vc sub : Nat) : Bool × Port :=
  let i := vcIndex vc sub
  let used := (t.gotFlits.getD i 0 + 65536 - t.freed.getD i 0) % 65536
  (used < vcBuffer vc, { t with gotFlits := setAt t.gotFlits i ((t.gotFlits.getD i 0 + 1) % 65536) })

/-- Flits of a port's receive buffer are freed (R297). -/
def Dev.freeRx (d : Dev) (n vc sub k : Nat) : Dev := d.setPort n ((d.port n).freeFlits vc sub k)

/-- Quarantine holds at port n (R321). -/
def Dev.quarantined (d : Dev) (n : Nat) : Bool := d.pget F.FAB_PORT_STATUS_QUAR n ≠ 0

/-- Quarantine keeps a packet of port n from passing (R321): a request, a response, a NACK or CONTROL. -/
def Dev.quarStops (d : Dev) (n : Nat) (p : Packet) : Bool := d.quarantined n && (p.isRequest || p.vc = 1 || p.vc = 5)

/-- A packet that quarantine stops is dropped, a request refused with QUARANTINED; either counts (R321). -/
def Dev.quarDrop (d : Dev) (n : Nat) (p : Packet) : Dev :=
  let d := d.pcount F.FAB_QUAR_DROP_V n
  if p.isRequest then d.sendNack p 0x47 else d

/-- A packet for this device has arrived whole by port n: quarantine (R321), then the queue of packets to serve. -/
def Dev.packetArrives (d : Dev) (n : Nat) (p : Packet) : Dev :=
  if d.quarStops n p then (d.quarDrop n p).freeRx n p.vc p.sub p.flits
  else
    let t := d.port n
    let t := { t with rxq := t.rxq ++ [p] }
    d.setPort n (if p.vc = 1 || p.vc = 6 || p.vc = 7 then t.freeFlits p.vc p.sub p.flits else t)

/-- Take a packet from a port's queue as its own command serves it, freeing its flits (R297). -/
def Dev.takeRx (d : Dev) (n : Nat) (p : Packet) : Dev :=
  let t := d.port n
  if t.rxq.contains p then
    let t := { t with rxq := t.rxq.erase p }
    d.setPort n (if p.vc = 1 || p.vc = 6 || p.vc = 7 then t else t.freeFlits p.vc p.sub p.flits)
  else d

/-- The packet in assembly on a channel is dropped to its end (Table 11-15): its flits here leave the buffer. -/
def Dev.dropAssembly (d : Dev) (n : Nat) (a : Assembly) : Dev :=
  let t := d.port n
  let d := d.setPort n { t with asm := t.asm.map (fun x => if x.vc = a.vc then { x with dropping := true } else x) }
  if a.fwd then d.endForwards n (fun vc => vc = a.vc) else d.freeRx n a.pkt.vc a.pkt.sub a.flits

/-- A flit breaks the order of packets on a channel (code 0x01): the packet in progress, if any, is dropped to its end. -/
def Dev.breakOrder (d : Dev) (n vc : Nat) : Dev :=
  match (d.port n).asm.find? (fun a => a.vc = vc) with
  | some a =>
    let d := d.violation n 0x01 a.pkt.src
    if a.dropping then d else (d.dropAssembly n a).answerBroken n a.pkt 0x45
  | none => d.violation n 0x01 noSrc

/-- The assembly on a channel is over. -/
def Dev.closeAssembly (d : Dev) (n vc : Nat) : Dev :=
  let t := d.port n
  d.setPort n { t with asm := t.asm.filter (fun x => x.vc ≠ vc) }

/-- Whether a header is as Tables 11-8 and 11-9 allow: the violation code and the NACK reason otherwise. -/
def headerFault (p : Packet) : Option (Nat × Nat) :=
  if p.reserved || (ptypeVcs p.ptype).isEmpty then some (0x03, 0x43)
  else if !(ptypeVcs p.ptype).contains p.vc then some (0x04, 0x44)
  else if 4096 < p.len then some (0x05, 0x45)
  else none

/-- The packet under assembly on a channel is complete: its flit count must match LEN. -/
def Dev.finishPacket (d : Dev) (n : Nat) (p : Packet) (flits : Nat) : Dev :=
  if flits = ceilDiv (32 + p.dataLen) 64 then d.packetArrives n { p with data := slice p.data 0 p.dataLen }
  else ((d.violation n 0x05 p.src).answerBroken n p 0x45).freeRx n p.vc p.sub flits

/-- The first flit of a packet for another chip moves on (R313, R316). The flag says that the packet goes on. -/
def Dev.forwardHead (d : Dev) (n : Nat) (p : Packet) (last : Bool) : Bool × Dev :=
  if d.quarStops n p then (false, (d.quarDrop n p).freeRx n p.vc p.sub 1)
  else if p.hops = 0 then
    let d := (d.countRefusal nackTtl).freeRx n p.vc p.sub 1
    (false, if p.isRequest then d.sendNack p nackTtl else d)
  else
    let q : TxPkt := { pkt := { p with hops := p.hops - 1 }, avail := 1, ended := last, inPort := some n, inSub := p.sub, buffered := true }
    match d.route p.dst p.sub (some n) with
    | .port _ _ => (true, d.sendTx q)
    | .here | .refuse _ => (false, (d.sendTx q).freeRx n p.vc p.sub 1)

/-- Another flit of a packet that moves on (R316); one whose packet the device has let go leaves the buffer. -/
def Dev.forwardBody (d : Dev) (n vc sub : Nat) (data : List Byte) (last : Bool) : Dev :=
  let of := fun (q : TxPkt) => q.inPort = some n && !q.ended && q.pkt.vc = vc
  match (List.range 16).find? (fun k => (d.port k).txq.any of) with
  | none => d.freeRx n vc sub 1
  | some k =>
    let t := d.port k
    d.setPort k { t with txq := t.txq.map (fun q =>
      if of q then { q with pkt := { q.pkt with data := q.pkt.data ++ data }, avail := q.avail + 1, ended := last } else q) }

/-- A HEAD flit that passes the order and credit checks: the header, the TYPE of a beat payload, then the packet's way. -/
def Dev.acceptHead (d : Dev) (n : Nat) (p : Packet) (last : Bool) : Dev :=
  let open_ := fun (d : Dev) (drop fwd : Bool) =>
    if last then d else d.setPort n { d.port n with asm := (d.port n).asm ++ [{ vc := p.vc, pkt := p, dropping := drop, fwd := fwd }] }
  match headerFault p with
  | some (v, c) => open_ (((d.violation n v p.src).answerBroken n p c).freeRx n p.vc p.sub 1) true false
  | none =>
    if p.ptype = 8 && !(1 ≤ leAt p.data 0 1 && leAt p.data 0 1 ≤ 4) then open_ ((d.violation n 0x07 p.src).freeRx n p.vc p.sub 1) true false
    else if !p.isLocal && p.dst ≠ d.chip then
      let (goes, d) := d.forwardHead n p last
      open_ d (!goes) true
    else if last then d.finishPacket n p 1
    else open_ d false false

/-- A BODY flit of the packet in assembly (R296, R297, R316). -/
def Dev.acceptBody (d : Dev) (n : Nat) (a : Assembly) (credit : Bool) (vc sub : Nat) (data : List Byte) (last : Bool) : Dev :=
  let close := fun (d : Dev) => if last then d.closeAssembly n vc else d
  if a.dropping then close (d.freeRx n vc sub 1)
  else if sub ≠ a.pkt.sub then close ((d.breakOrder n vc).freeRx n vc sub 1)
  else if !credit then
    close ((((d.dropAssembly n a).freeRx n vc sub 1).violation n 0x02 a.pkt.src).answerBroken n a.pkt 0x46)
  else
    let a' := { a with pkt := { a.pkt with data := a.pkt.data ++ (if a.fwd then [] else data) }, flits := a.flits + 1 }
    let d := d.setPort n { d.port n with asm := (d.port n).asm.map (fun x => if x.vc = vc then a' else x) }
    if a.fwd then
      let d := close (d.forwardBody n vc sub data last)
      if last && a'.flits ≠ ceilDiv (32 + a.pkt.dataLen) 64 then (d.violation n 0x05 a.pkt.src).answerBroken n a.pkt 0x45 else d
    else if last then (d.closeAssembly n vc).finishPacket n a'.pkt a'.flits
    else d

/-- A flit of a frame that passed its checks (R296, R297, R320). -/
def Dev.acceptFlit (d : Dev) (n : Nat) (f : Flit) : Dev :=
  match f with
  | .idle => d
  | .link (.credit c) => d.setPort n { d.port n with peerFreed := c }
  | .link (.param serial chip port lanes) =>
    if d.portState n = 1 || d.portState n = 4 then d.setPort n { d.port n with param := some (serial, chip, port, lanes) } else d
  | .link (.keyx msg ..) =>
    if d.portState n = 2 || (d.portUp n && (msg = 1 || (d.port n).key.rekey)) then d else d.violation n 0x09 noSrc
  | .link (.reserved _) => d.violation n 0x09 noSrc
  | .bad vc => d.breakOrder n vc
  | .head p last =>
    let (ok, t) := (d.port n).takeCredit p.vc p.sub
    let d := d.setPort n t
    if t.asm.any (fun a => a.vc = p.vc) then (d.breakOrder n p.vc).freeRx n p.vc p.sub 1
    else if ok then d.acceptHead n p last
    else
      let d := ((d.violation n 0x02 p.src).answerBroken n p 0x46).freeRx n p.vc p.sub 1
      if last then d else d.setPort n { d.port n with asm := (d.port n).asm ++ [{ vc := p.vc, pkt := p, dropping := true }] }
  | .body vc sub data last =>
    let (ok, t) := (d.port n).takeCredit vc sub
    let d := d.setPort n t
    match t.asm.find? (fun a => a.vc = vc) with
    | none => (d.violation n 0x01 noSrc).freeRx n vc sub 1
    | some a => d.acceptBody n a ok vc sub data last

/-- The lane error window (R288). -/
def Dev.laneWindow (d : Dev) : Nat := d.beat / 65536

/-- The lane counts of the present window (R288): of a window that has passed, only the lanes that reached LANE_LIMIT in the one before are kept. -/
def Port.aged (t : Port) (w : Nat) : Port :=
  if t.laneWin = w then t
  else { t with laneWin := w, laneSum := [], limitPrev := if t.laneWin + 1 = w then t.limitCur else 0, limitCur := 0 }

/-- Corrected symbols per lane (R290): FAB_FEC_CE, FAB_LANE_CE of the window, and the retrain cause of LANE_LIMIT (R288). -/
def Dev.countLanes (d : Dev) (n : Nat) (ce : List Nat) : Bool × Dev :=
  let t := (d.port n).aged d.laneWindow
  let sum := (List.range 8).map (fun l => t.laneSum.getD l 0 + ce.getD l 0)
  let shown := (List.range 8).foldl (fun v l => v + min 255 (sum.getD l 0) * 256 ^ l) 0
  let limit := atLeast1 (d.pget F.FAB_PORT_CTL_LANE_LIMIT n)
  let hit := (List.range 8).foldl (fun m l =>
    if bitOf (d.pget F.FAB_PORT_STATUS_RX_LANES n) l && limit ≤ sum.getD l 0 && 0 < ce.getD l 0 then setBit m l true else m) t.limitCur
  let d := d.setPort n { t with laneSum := sum, limitCur := hit }
  (hit ≠ t.limitCur, (d.pput F.FAB_LANE_CE_V n shown).pcount F.FAB_FEC_CE_V n ce.sum)

/-- A new lane error window begins (R288): FAB_LANE_CE starts again. -/
def Dev.laneWindows (d : Dev) : Dev :=
  if d.beat % 65536 ≠ 0 then d
  else d.each (List.range 16) fun d n => (d.setPort n ((d.port n).aged d.laneWindow)).pput F.FAB_LANE_CE_V n 0

/-- Frames retained that an ACK does not cover: those after SEQ `ack` (R293, R294). -/
def afterAck (ack : Nat) (fs : List SentFrame) : List SentFrame :=
  match fs.findIdx? (fun f => f.seq = ack) with
  | some i => fs.drop (i + 1)
  | none => fs

/-- The trailer of a good frame: the ACK releases frames, a NAK sends every retained frame after it again (R293, R294). The flag is the
retrain cause of eight NAKs with one ACK (R288). -/
def Port.takeTrailer (t : Port) (tr : Trailer) : Bool × Port :=
  let kept := afterAck tr.ack t.retry
  let run := if tr.nak then (if t.nakAck = tr.ack then t.nakRun + 1 else 1) else 0
  (8 ≤ run, { t with retry := kept, sentPkts := t.sentPkts.filter (fun e => kept.any (fun f => f.seq = e.1)), resend := if tr.nak then kept else afterAck tr.ack t.resend, nakRun := run, nakAck := tr.ack })

/-- A sequenced frame is discarded: NAK goes in the next trailer, again only after 32 frame periods or an accepted frame (R294). -/
def Port.discard (t : Port) : Port :=
  if !t.nakSent || 32 ≤ t.nakAge then { t with nakNow := true } else t

/-- A frame is under a key that this receiver does not hold (R319): in the old phase after its 64 frame periods. -/
def Keying.stale (k : Keying) (phase : Bool) : Bool := phase ≠ k.phaseRx && !k.rxNew && k.bothPhases = 0

/-- The key phase of a received frame (R319): the first frame of the new phase opens 64 periods in which both are accepted. -/
def Port.takePhase (t : Port) (phase : Bool) : Port :=
  let k := t.key
  if phase ≠ k.phaseRx && k.rxNew then { t with key := { k with phaseRx := phase, rxNew := false, bothPhases := 64, ctrRx := 0 } }
  else { t with key := { k with bothPhases := k.bothPhases - 1, ctrRx := if phase = k.phaseRx then k.ctrRx + 1 else k.ctrRx } }

/-- A flit that a NULL frame may carry (R293): link control, and the link-local beat payloads. -/
def Flit.inNull (f : Flit) : Bool :=
  match f with
  | .link _ => true
  | .head p _ => p.ptype = 8 && p.isLocal
  | .idle | .body _ _ _ _ | .bad _ => false

/-- A frame is received (R290 to R296, R322). -/
def Dev.receiveFrame (d : Dev) (n : Nat) (f : RxFrame) : Dev :=
  let (lanes, d) := d.countLanes n f.laneCe
  let d := d.pcount F.FAB_FEC_UE_V n f.fecUe
  let retrain := fun (c : Bool) (d : Dev) => if c then d.startRetrain n else d
  let t := d.port n
  let tr := f.trailer
  if f.fecUe ≠ 0 || !f.crcOk then
    let d := if f.crcOk then d else d.pcount F.FAB_CRC_ERR_V n
    let run := if f.crcOk then t.crcRun else t.crcRun + 1
    let d := d.setPort n { (if tr.null then t else t.discard) with crcRun := run }
    retrain (lanes || 64 ≤ run) d
  else
    let d := d.setPort n { t with crcRun := 0 }
    let t := d.port n
    if t.key.installed && tr.plain then (retrain lanes d).violation n 0x09 noSrc
    else if t.key.installed && tr.null && (!f.tagOk || t.key.stale tr.keyPhase) then retrain lanes d
    else if t.key.installed && (!f.tagOk || t.key.stale tr.keyPhase) then
      let d := d.pcount F.FAB_GCM_FAIL_V n
      let t := d.windowed n
      let d := d.setPort n { t.discard with tagCnt := t.tagCnt + 1 }
      if 4 ≤ t.tagCnt + 1 && d.portUp n then d.rekeyFull n else retrain lanes d
    else
      let t := if d.portState n = 1 || d.portState n = 4 then { t with lock := some f.lanes } else t
      let (naks, t) := (t.takePhase tr.keyPhase).takeTrailer tr
      if tr.null then
        let d := d.setPort n t
        let d := d.each (f.flits.filter Flit.inNull) (fun d x => d.acceptFlit n x)
        retrain (lanes || naks) d
      else if tr.seq = t.rxSeq && d.portUp n then
        let d := d.setPort n { t with rxSeq := (t.rxSeq + 1) % 4096, nakSent := false, nakNow := false, nakAge := 0 }
        let payload := 64 * (f.flits.filter (· ≠ .idle)).length
        let d := (d.pput F.FAB_RX_BYTES_V n (d.pget F.FAB_RX_BYTES_V n + payload))
        let d := d.each f.flits (fun d x => d.acceptFlit n x)
        retrain (lanes || naks) d
      else retrain (lanes || naks) (d.setPort n t.discard)

/-! ### Frames sent (R293, R295, R298, R316) -/

/-- Where a packet comes to the output port n from (R316): 0 the device's own units, 1 to 4 the ports of the same quarter, 5 or 6 the two bridges of that
quarter. DESIGN CHOICE: the numbers, and that the device's own packets count as from the quarter's local units whichever quarter's they are (log 77). -/
def txSource (out n : Nat) (q : TxPkt) : Nat :=
  match q.inPort with
  | none => 0
  | some k =>
    if k / 4 = n / 4 then 1 + k % 4
    else
      let path := quarterPath out (k / 4) (n / 4)
      let from_ := path.getD (path.length - 2) 0
      if from_ < 3 - n / 4 - from_ then 5 else 6

/-- A packet must cross a bridge whose failure has not yet changed the routes (R13, R316). -/
def Dev.bridgeHolds (d : Dev) (n : Nat) (q : TxPkt) : Bool :=
  match q.inPort with
  | none => false
  | some k => pathMeets d.clk.bridgesPending (quarterPath d.clk.bridgesOut (k / 4) (n / 4))

/-- How a port chooses among packets: their sources, and those that a bridge holds. -/
structure TxRules where
  src : TxPkt → Nat
  held : TxPkt → Bool

/-- The packet of a channel whose flit is next: the one that has begun to go, else the first of the source that R69 chooses (R296, R316). -/
def Port.next (t : Port) (r : TxRules) (vc : Nat) : Option TxPkt :=
  let can := fun (q : TxPkt) => decide (q.sent < q.avail) && !r.held q
  match t.txq.find? (fun q => q.pkt.vc = vc && q.sent ≠ 0) with
  | some q => if can q then some q else none
  | none =>
    let first := fun (s : Nat) => t.txq.find? (fun q => q.pkt.vc = vc && r.src q = s)
    (arbiter 7 (mget 0 t.srcPtr vc) (fun s => (first s).any can)).bind first

/-- A channel has a flit ready and a credit for it (R297, R298). -/
def Port.ready (t : Port) (r : TxRules) (vc : Nat) : Bool :=
  match t.next r vc with
  | none => false
  | some q =>
    let i := vcIndex vc q.pkt.sub
    (t.sentFlits.getD i 0 + 65536 - t.peerFreed.getD i 0) % 65536 < vcBuffer vc

/-- The channel that wins a flit slot (R69, R70, R298), with the pointers moved. -/
def Port.arbitrate (t : Port) (r : TxRules) : Option Nat × Port :=
  if t.ready r 7 then (some 7, { t with ptrKnell := 0 })
  else if t.ready r 6 then (some 6, { t with ptrBeat := 7 })
  else match arbiter 8 t.ptrOrd (fun vc => vc < 6 && t.ready r vc) with
    | some vc => (some vc, { t with ptrOrd := (vc + 1) % 8 })
    | none => (none, t)

/-- The next flit of a channel's packet. With its last the packet leaves the queue, and is kept until its frame is acknowledged (R289). The flit leaves the
receive buffer of the port that brought it: port, channel, subclass. -/
def Port.sendFlit (t : Port) (r : TxRules) (vc : Nat) : Flit × List (Nat × Nat × Nat) × Port :=
  match t.next r vc with
  | none => (.idle, [], t)
  | some q =>
    let k := q.sent + 1
    let last := q.ended && k = q.avail
    let fl := if q.sent = 0 then Flit.head { q.pkt with data := q.pkt.data.take 32 } last
      else .body vc q.pkt.sub ((q.pkt.data.drop (64 * q.sent - 32)).take 64) last
    let i := vcIndex vc q.pkt.sub
    let txq := if last then t.txq.erase q else t.txq.map (fun x => if x = q then { q with sent := k } else x)
    let freed := match q.inPort with
      | some p => if !q.buffered || (last && q.extra) then [] else [(p, vc, q.inSub)]
      | none => []
    (fl, freed, { t with txq := txq, sentFlits := setAt t.sentFlits i ((t.sentFlits.getD i 0 + 1) % 65536)
                         srcPtr := if q.sent = 0 then mset 0 t.srcPtr vc ((r.src q + 1) % 7) else t.srcPtr
                         sentPkts := if last && !q.pkt.isLocal then t.sentPkts ++ [(t.txSeq, q.pkt)] else t.sentPkts })

/-- Fill flit slots until none is ready (R298). -/
def Port.fill (r : TxRules) : Nat → Port → List Flit × List (Nat × Nat × Nat) × Port
  | 0, t => ([], [], t)
  | k + 1, t =>
    match t.arbitrate r with
    | (none, t) => ([], [], t)
    | (some vc, t) =>
      let (f, a, t) := t.sendFlit r vc
      let (fs, b, t) := Port.fill r k t
      (f :: fs, a ++ b, t)

/-- The choice of packets at port n; a NULL frame takes only the link-local beat payloads (R293). -/
def Dev.txRules (d : Dev) (n : Nat) (nullFrame : Bool) : TxRules :=
  { src := txSource d.clk.bridgesOut n
    held := fun q => d.bridgeHolds n q || (nullFrame && !(q.pkt.ptype = 8 && q.pkt.isLocal)) }

/-! ### Link-local beat payloads (R53 to R55) -/

/-- The 32 bytes of a link-local payload (Table 03-3). -/
def BeatMsg.bytes (m : BeatMsg) : List Byte :=
  match m with
  | .sync hops holdover interval beat frac =>
    slice (leBytes 1 1 ++ leBytes 1 hops ++ leBytes 1 (b2n holdover + 2 * interval) ++ List.replicate 5 0 ++ leBytes 8 beat ++ leBytes 2 frac) 0 32
  | .probe id => slice (leBytes 1 2 ++ List.replicate 7 0 ++ leBytes 4 id) 0 32
  | .echo id turn => slice (leBytes 1 3 ++ List.replicate 7 0 ++ leBytes 4 id ++ leBytes 4 turn) 0 32

/-- The link-local payload that bytes spell. -/
def BeatMsg.parse (b : List Byte) : Option BeatMsg :=
  match leAt b 0 1 with
  | 1 => some (.sync (leAt b 1 1) (leAt b 2 1 % 2 = 1) (leAt b 2 1 / 2 % 8) (leAt b 8 8) (leAt b 16 2))
  | 2 => some (.probe (leAt b 8 4))
  | 3 => some (.echo (leAt b 8 4) (leAt b 12 4))
  | _ => none

/-- Queue a link-local payload at a port, on the beat class (R70). -/
def Dev.sendBeat (d : Dev) (n : Nat) (m : BeatMsg) : Dev :=
  d.enqueue n { ptype := 8, isLocal := true, src := d.chip, len := 32, vc := 6, data := m.bytes }

/-- A payload as it is launched (R53 to R55): a SYNC takes the stamp of its launch, an ECHO its TURN since the PROBE's arrival. -/
def Dev.launched (d : Dev) (n : Nat) (m : BeatMsg) : BeatMsg :=
  match m with
  | .sync hops holdover interval _ _ => .sync hops holdover interval d.beat d.frac16
  | .probe id => .probe id
  | .echo id _ =>
    match d.clk.echoes.find? (fun p => p.port = n && p.id = id) with
    | some p => .echo id ((d.now - p.launch) % 2 ^ 32)
    | none => .echo id 0

/-- The link-local payload of a flit. -/
def Flit.beat (f : Flit) : Option BeatMsg :=
  match f with
  | .head p _ => if p.ptype = 8 && p.isLocal then BeatMsg.parse p.data else none
  | .idle | .link _ | .body _ _ _ _ | .bad _ => none

/-- A flit as it is launched. -/
def Dev.launchFlit (d : Dev) (n : Nat) (f : Flit) : Flit :=
  match f, f.beat with
  | .head p last, some m => .head { p with data := (d.launched n m).bytes } last
  | _, _ => f

/-- A payload has been launched: a PROBE waits for its ECHO (R54); an ECHO is owed no more. -/
def Dev.afterLaunch (d : Dev) (n : Nat) (m : BeatMsg) : Dev :=
  match m with
  | .sync _ _ _ _ _ => d
  | .probe id => { d with clk := { d.clk with probes := d.clk.probes ++ [{ port := n, id := id, launch := d.now }] } }
  | .echo id _ => { d with clk := { d.clk with echoes := d.clk.echoes.filter (fun p => !(p.port = n && p.id = id)) } }

/-- A flit of a frame that is sent again: SYNC, PROBE and ECHO give way to IDLE (R295). -/
def Flit.resent (f : Flit) : Flit := if f.beat.isSome then .idle else f

/-! ### One frame period (R293 to R295, R298, R317, R319) -/

/-- The ACK in force and the NAK of the next trailer (Table 11-4). -/
def Dev.trailer (d : Dev) (n : Nat) (t : Port) : Trailer :=
  { ack := (t.rxSeq + 4095) % 4096, plain := !t.key.installed, keyPhase := d.pget F.FAB_PORT_STATUS_KEY_PHASE n ≠ 0, nak := t.nakNow }

/-- After a trailer has gone: NAK is not set again until a frame is accepted or 32 periods pass (R294); the frame counter rises for every
encrypted frame (R317). -/
def Port.sentTrailer (t : Port) : Port :=
  { t with nakSent := t.nakSent || t.nakNow, nakAge := if t.nakNow then 0 else t.nakAge + 1, nakNow := false
           key := { t.key with ctrTx := if t.key.installed then t.key.ctrTx + 1 else 0 } }

/-- A port whose knell has gone is disabled at the end of the frame (R416). -/
def Dev.closeAfterKnell (d : Dev) (n : Nat) : Dev :=
  let t := d.port n
  if t.closing && !t.txq.any (fun q => q.pkt.vc = 7) then d.portLeave n 0 else d

/-- A frame leaves port n, whose state after it is given. -/
def Dev.outFrame (d : Dev) (n : Nat) (t : Port) (tr : Trailer) (fs : List Flit) : Dev :=
  let payload := 64 * (fs.filter (· ≠ .idle)).length
  let d := d.setPort n t.sentTrailer
  ((d.pput F.FAB_TX_BYTES_V n (d.pget F.FAB_TX_BYTES_V n + payload)).emit (.frame n tr fs)).closeAfterKnell n

/-- A new frame of port n: its flits, launched, in their slots after the link-control flits. -/
def Dev.newFrame (d : Dev) (n : Nat) (t : Port) (nullFrame : Bool) (links : List Flit) : Dev :=
  let (fs, freed, t') := Port.fill (d.txRules n nullFrame) (128 - links.length) t
  let flits := links ++ fs.map (d.launchFlit n)
  let t' := if nullFrame then t' else { t' with retry := t'.retry ++ [⟨t.txSeq, flits⟩], txSeq := (t.txSeq + 1) % 4096 }
  let tr := d.trailer n t
  let d := d.each (fs.filterMap Flit.beat) (fun d m => d.afterLaunch n m)
  let d := d.outFrame n t' { tr with null := nullFrame, seq := if nullFrame then 0 else t.txSeq } flits
  d.each freed (fun d x => d.freeRx x.1 x.2.1 x.2.2 1)

/-- One frame period of the sender: in training NULL frames with PARAM, once the receiver has locked (R287); in KEYING NULL frames with the key exchange (R318);
in UP frames to be sent again, then new ones, or NULL frames while the retry buffer is full (R293 to R295). -/
def Dev.sendFrame (d : Dev) (n : Nat) : Dev :=
  let st := d.portState n
  let t := d.port n
  let training := (st = 1 && !t.retryWait) || st = 4
  if !(training || st = 2 || st = 3) || (t.key.installed && 2 ^ 32 - 1 ≤ t.key.ctrTx) then d
  else
    let links := (t.linkq.take 4).map Flit.link
    let rest := { t with linkq := t.linkq.drop 4 }
    if training then
      let flits := if t.lock.isSome then [Flit.link (.param d.serial d.paramChip n (t.lanes (st = 4)))] else []
      d.outFrame n t { d.trailer n t with null := true } flits
    else if st = 2 then (d.outFrame n rest { d.trailer n t with null := true } links).kx3Sent n
    else match t.resend with
      | f :: fs => (d.pcount F.FAB_RETRY_V n).outFrame n { t with resend := fs } { d.trailer n t with seq := f.seq } (f.flits.map Flit.resent)
      | [] => d.newFrame n rest (32 ≤ t.retry.length) links

/-! ### LCX and LEX table slots (R306 to R309) -/

/-- LCX and LEX of quarter q. -/
def Dev.lex (d : Dev) (q : Nat) : Lex := mget {} d.fab.lex q

/-- Replace LCX and LEX of quarter q. -/
def Dev.setLex (d : Dev) (q : Nat) (l : Lex) : Dev := { d with fab := { d.fab with lex := mset {} d.fab.lex q l } }

/-- Slot E mod 2. -/
def Lex.slotOf (l : Lex) (e : Nat) : Option TableSlot := if e % 2 = 0 then l.slot0 else l.slot1

/-- Replace slot E mod 2. -/
def Lex.setSlot (l : Lex) (e : Nat) (t : Option TableSlot) : Lex := if e % 2 = 0 then { l with slot0 := t } else { l with slot1 := t }

/-- How a block of epoch E decodes (R308, R307): with its slot's table, NO_TABLE (0x64) or STALE_EPOCH (0x65). While a load for the slot is
pending or running, blocks of the old epoch and of the new one are answered NO_TABLE. -/
def Dev.epochCheck (d : Dev) (q e : Nat) : TableSlot ⊕ Nat :=
  let l := d.lex q
  let busy := d.flag F.LEX_STATUS_LOAD_BUSY q
  match l.slotOf e with
  | none => .inr 0x64
  | some t =>
    if busy && l.loadEpoch % 2 = e % 2 && (e = t.epoch || e = l.loadEpoch) then .inr 0x64
    else
      let diff := (e + 65536 - t.epoch) % 65536
      if diff = 0 then .inl t else if diff ≤ 32767 then .inr 0x64 else .inr 0x65

end Sys2Proof.Machine
end

