-- ==== Sys2Proof/Machine/Operands.lean ====
section
/-!
DEFINITION. Sys2Proof/Machine/Operands.lean: the number formats of chapter 05 (R103 to R107), rounding and conversion (R108 to R111), the
arithmetic of R108, the weight update and stochastic rounding (R113 to R115), and the merge and finalisation of softmax rows (R124 to R126).
-/

namespace Sys2Proof.Machine

/-! ### Values -/

/-- The value of an element: NaN, an infinity, or (-1)^neg x m x 2^e. -/
inductive FVal where
  | nan
  | inf (neg : Bool)
  | fin (neg : Bool) (m : Nat) (e : Int)
deriving DecidableEq, Repr

/-- Which encodings are special (Table 05-2): those of IEEE 754, the one NaN of E4M3, or none. -/
inductive Special where
  | ieee | e4m3 | none
deriving DecidableEq, Repr

/-- Fields of a floating-point element (Table 05-2). -/
structure Layout where
  eb : Nat
  mb : Nat
  bias : Int
  sp : Special
deriving DecidableEq, Repr

/-- The formats of Table 05-1. -/
inductive Fmt where
  | fp32 | bf16 | fp16 | e4m3 | e5m2 | mxe4m3 | mxe5m2 | mxe2m3 | mxe3m2 | mxe2m1 | mxint8 | int32
deriving DecidableEq, Repr

/-- The format of a code (R103); none for a reserved code. -/
def Fmt.ofCode (c : Nat) : Option Fmt :=
  if c = 1 then some .fp32 else if c = 2 then some .bf16 else if c = 3 then some .fp16 else if c = 4 then some .e4m3
  else if c = 5 then some .e5m2 else if c = 6 then some .mxe4m3 else if c = 7 then some .mxe5m2 else if c = 8 then some .mxe2m3
  else if c = 9 then some .mxe3m2 else if c = 10 then some .mxe2m1 else if c = 11 then some .mxint8 else if c = 12 then some .int32
  else none

/-- Element bits (Table 05-1). -/
def Fmt.bits : Fmt → Nat
  | .fp32 => 32 | .bf16 => 16 | .fp16 => 16 | .e4m3 => 8 | .e5m2 => 8 | .mxe4m3 => 8 | .mxe5m2 => 8 | .mxe2m3 => 6 | .mxe3m2 => 6
  | .mxe2m1 => 4 | .mxint8 => 8 | .int32 => 32

/-- MX formats carry a scale byte for each block of 32 elements (R105). -/
def Fmt.isMx : Fmt → Bool
  | .mxe4m3 | .mxe5m2 | .mxe2m3 | .mxe3m2 | .mxe2m1 | .mxint8 => true
  | .fp32 | .bf16 | .fp16 | .e4m3 | .e5m2 | .int32 => false

/-- The layout of a format's element; the two integer formats have none and are given FP32's, which is not used. -/
def Fmt.layout : Fmt → Layout
  | .fp32 | .int32 | .mxint8 => ⟨8, 23, 127, .ieee⟩
  | .bf16 => ⟨8, 7, 127, .ieee⟩
  | .fp16 => ⟨5, 10, 15, .ieee⟩
  | .e4m3 | .mxe4m3 => ⟨4, 3, 7, .e4m3⟩
  | .e5m2 | .mxe5m2 => ⟨5, 2, 15, .ieee⟩
  | .mxe2m3 => ⟨2, 3, 1, .none⟩
  | .mxe3m2 => ⟨3, 2, 3, .none⟩
  | .mxe2m1 => ⟨2, 1, 1, .none⟩

/-- The FP32 layout. -/
def l32 : Layout := Fmt.fp32.layout

/-- The value of a floating-point element (R104). -/
def Layout.decode (l : Layout) (v : Nat) : FVal :=
  let neg := bitOf v (l.eb + l.mb)
  let e := v / 2 ^ l.mb % 2 ^ l.eb
  let m := v % 2 ^ l.mb
  if l.sp = .ieee && e = 2 ^ l.eb - 1 then (if m = 0 then .inf neg else .nan)
  else if l.sp = .e4m3 && e = 15 && m = 7 then .nan
  else if e = 0 then .fin neg m (1 - l.bias - l.mb)
  else .fin neg (m + 2 ^ l.mb) (e - l.bias - l.mb)

/-- A signed integer as a value. -/
def FVal.ofInt (i : Int) (e : Int) : FVal := .fin (i < 0) i.natAbs e

/-- The value of an element of a format (R104). -/
def Fmt.decode (f : Fmt) (v : Nat) : FVal :=
  match f with
  | .int32 => .ofInt (signed 32 v) 0
  | .mxint8 => .ofInt (signed 8 v) (-6)
  | .fp32 | .bf16 | .fp16 | .e4m3 | .e5m2 | .mxe4m3 | .mxe5m2 | .mxe2m3 | .mxe3m2 | .mxe2m1 => f.layout.decode v

/-- A value times a power of two. -/
def FVal.scale (x : FVal) (k : Int) : FVal :=
  match x with
  | .nan => .nan
  | .inf n => .inf n
  | .fin n m e => .fin n m (e + k)

/-- The block scale (R105): 2^(X - 127), and NaN for X = 0xFF. -/
def FVal.mxScale (x : FVal) (s : Nat) : FVal := if s = 255 then .nan else x.scale ((s : Int) - 127)

/-- NaN or infinite. -/
def FVal.special : FVal → Bool
  | .fin _ _ _ => false
  | .nan | .inf _ => true

/-- Floor of log2 of the magnitude of a nonzero finite value. -/
def FVal.flog2 : FVal → Option Int
  | .fin _ m e => if m = 0 then none else some (e + Nat.log2 m)
  | .nan | .inf _ => none

/-! ### Rounding (R108, R109) -/

/-- m x 2^e to nearest even on p significant bits with no bit below 2^q (R108). -/
def rne (p : Nat) (q : Int) (m : Nat) (e : Int) : Nat × Int :=
  if m = 0 then (0, q)
  else
    let t := max q (e + Nat.log2 m + 1 - p)
    if t ≤ e then (m * 2 ^ (e - t).toNat, t)
    else
      let s := (t - e).toNat
      let k := m / 2 ^ s
      let r := m % 2 ^ s
      (if 2 ^ (s - 1) < r || (r = 2 ^ (s - 1) && k % 2 = 1) then k + 1 else k, t)

/-- The largest finite magnitude's pattern (Table 05-2). -/
def Layout.top (l : Layout) : Nat :=
  match l.sp with
  | .ieee => (2 ^ l.eb - 1) * 2 ^ l.mb - 1
  | .e4m3 => 0x7E
  | .none => 2 ^ (l.eb + l.mb) - 1

/-- The sign bit. -/
def Layout.sgn (l : Layout) (neg : Bool) : Nat := b2n neg * 2 ^ (l.eb + l.mb)

/-- The pattern of an infinity of an IEEE layout. -/
def Layout.infinity (l : Layout) : Nat := (2 ^ l.eb - 1) * 2 ^ l.mb

/-- The canonical NaN (R107). -/
def Layout.cnan (l : Layout) : Nat := if l.sp = .e4m3 then 0x7F else l.infinity + 2 ^ (l.mb - 1)

/-- The magnitude pattern of k x 2^t, k being rounded to the layout; none on overflow (R109). -/
def Layout.pack (l : Layout) (k : Nat) (t : Int) : Option Nat :=
  let (k, t) := if k = 2 ^ (l.mb + 1) then (2 ^ l.mb, t + 1) else (k, t)
  if k < 2 ^ l.mb then some k
  else
    let b := (t + l.bias + l.mb).toNat * 2 ^ l.mb + (k - 2 ^ l.mb)
    if b ≤ l.top then some b else none

/-- The lowest bit a layout holds, as an exponent of two. -/
def Layout.low (l : Layout) : Int := 1 - l.bias - l.mb

/-- A finite magnitude rounded to nearest even (R108); none on overflow. -/
def Layout.round (l : Layout) (m : Nat) (e : Int) : Option Nat :=
  let r := rne (l.mb + 1) l.low m e
  l.pack r.1 r.2

/-- What a conversion answers: the element, and whether it counts a saturation or a flush (R111). -/
structure Conv where
  v : Nat
  sat : Bool := false
  flush : Bool := false
deriving DecidableEq, Repr

/-- Conversion to a floating-point layout that overflows to infinity (FP32, BF16, FP16) (Table 05-4). -/
def Layout.encode (l : Layout) (x : FVal) : Conv :=
  match x with
  | .nan => { v := l.cnan }
  | .inf n => { v := l.sgn n + l.infinity }
  | .fin n m e =>
    match l.round m e with
    | none => { v := l.sgn n + l.infinity }
    | some b => { v := l.sgn n + b, flush := m ≠ 0 && b = 0 }

/-- Conversion to a layout that saturates a finite overflow: FP8 and the MX elements (Table 05-4). -/
def Layout.encodeSat (l : Layout) (x : FVal) : Conv :=
  match x with
  | .nan => { v := l.cnan }
  | .inf n => if l.sp = .ieee then { v := l.sgn n + l.infinity } else { v := l.cnan }
  | .fin n m e =>
    match l.round m e with
    | none => { v := l.sgn n + l.top, sat := true }
    | some b => { v := l.sgn n + b, flush := m ≠ 0 && b = 0 }

/-- Conversion to a signed integer of n bits scaled by 2^k, limited to plus or minus 2^(n-1) - 1 (Table 05-4). -/
def encodeInt (n : Nat) (k : Int) (x : FVal) : Conv :=
  let top := 2 ^ (n - 1) - 1
  let put := fun (neg : Bool) (i : Nat) => unsigned n (if neg then -(i : Int) else i)
  match x with
  | .nan => { v := 0, sat := true }
  | .inf g => { v := put g top, sat := true }
  | .fin g m e =>
    let r := rne (max 1 (e + k + Nat.log2 m + 1).toNat + 1) 0 m (e + k)
    let i := r.1 * 2 ^ r.2.toNat
    if top < i then { v := put g top, sat := true } else { v := put g i, flush := m ≠ 0 && i = 0 }

/-- Conversion of one value to a format (R109); for an MX format, of one scaled value to its element. -/
def Fmt.encode (f : Fmt) (x : FVal) : Conv :=
  match f with
  | .fp32 | .bf16 | .fp16 => f.layout.encode x
  | .e4m3 | .e5m2 | .mxe4m3 | .mxe5m2 | .mxe2m3 | .mxe3m2 | .mxe2m1 => f.layout.encodeSat x
  | .mxint8 => encodeInt 8 6 x
  | .int32 => encodeInt 32 0 x

/-- e_max of R110. -/
def Fmt.emax : Fmt → Int
  | .mxe4m3 => 8 | .mxe5m2 => 15 | .mxe2m3 => 2 | .mxe3m2 => 4 | .mxe2m1 => 2
  | .mxint8 | .fp32 | .bf16 | .fp16 | .e4m3 | .e5m2 | .int32 => 0

/-- A block of values in an MX format: its scale byte and its elements (R110, R111). -/
def mxBlock (f : Fmt) (vs : List FVal) : Nat × List Conv :=
  if vs.any FVal.special then (255, vs.zipIdx.map (fun p => { v := 0, sat := p.2 = 0 }))
  else
    match (vs.filterMap FVal.flog2).max? with
    | none => (0, vs.map (fun _ => { v := 0 }))
    | some l =>
      let x : Nat := (min 254 (max 0 (l - f.emax + 127))).toNat
      (x, vs.map (fun v => f.encode (v.scale (127 - (x : Int)))))

/-- Elements as a contiguous bit string, lowest first (R106). -/
def packBits (w : Nat) : List Nat → Nat
  | [] => 0
  | v :: vs => v % 2 ^ w + 2 ^ w * packBits w vs

/-- Element j of a bit string of w-bit elements (R106). -/
def elemAt (w : Nat) (bs : List Byte) (j : Nat) : Nat :=
  let lo := w * j
  leAt bs (lo / 8) (ceilDiv (lo % 8 + w) 8) / 2 ^ (lo % 8) % 2 ^ w

/-! ### Exact arithmetic on values -/

/-- The signed integer of a finite value on the grid 2^q, q at or below its exponent. -/
def gridInt (n : Bool) (m : Nat) (e q : Int) : Int :=
  let v := m * 2 ^ (e - q).toNat
  if n then -(v : Int) else v

/-- Exact sum; an exact zero is +0 unless both are -0. -/
def FVal.add (x y : FVal) : FVal :=
  match x, y with
  | .nan, _ => .nan
  | _, .nan => .nan
  | .inf a, .inf b => if a = b then .inf a else .nan
  | .inf a, .fin _ _ _ => .inf a
  | .fin _ _ _, .inf b => .inf b
  | .fin a m e, .fin b k f =>
    let q := min e f
    let s := gridInt a m e q + gridInt b k f q
    if s = 0 then .fin (a && b) 0 q else .ofInt s q

/-- Exact product. -/
def FVal.mul (x y : FVal) : FVal :=
  match x, y with
  | .nan, _ => .nan
  | _, .nan => .nan
  | .inf a, .inf b => .inf (a != b)
  | .inf a, .fin b k _ => if k = 0 then .nan else .inf (a != b)
  | .fin a m _, .inf b => if m = 0 then .nan else .inf (a != b)
  | .fin a m e, .fin b k f => .fin (a != b) (m * k) (e + f)

/-- The opposite value. -/
def FVal.neg : FVal → FVal
  | .nan => .nan
  | .inf a => .inf (!a)
  | .fin a m e => .fin (!a) m e

/-- Quotient with a sticky last bit, enough for one rounding to any format of Table 05-1. -/
def FVal.div (x y : FVal) : FVal :=
  match x, y with
  | .nan, _ => .nan
  | _, .nan => .nan
  | .inf _, .inf _ => .nan
  | .inf a, .fin b _ _ => .inf (a != b)
  | .fin a _ _, .inf b => .fin (a != b) 0 0
  | .fin a m e, .fin b k f =>
    if k = 0 then (if m = 0 then .nan else .inf (a != b))
    else
      let s := 30 + Nat.log2 k
      let n := m * 2 ^ s
      .fin (a != b) (2 * (n / k) + b2n (n % k ≠ 0)) (e - f - s - 1)

/-- Integer square root by bits, from bit i downwards. -/
def isqrtFrom (n : Nat) : Nat → Nat → Nat
  | 0, r => r
  | i + 1, r => isqrtFrom n i (if (r + 2 ^ i) * (r + 2 ^ i) ≤ n then r + 2 ^ i else r)

/-- Integer square root. -/
def isqrt (n : Nat) : Nat := isqrtFrom n (Nat.log2 n / 2 + 1) 0

/-- Square root with a sticky last bit; of a negative value NaN, of -0 -0. -/
def FVal.sqrt (x : FVal) : FVal :=
  match x with
  | .nan => .nan
  | .inf a => if a then .nan else .inf false
  | .fin a m e =>
    if m = 0 then .fin a 0 0
    else if a then .nan
    else
      let s : Nat := if (e - 60) % 2 = 0 then 60 else 61
      let n := m * 2 ^ s
      let r := isqrt n
      .fin false (2 * r + b2n (r * r ≠ n)) ((e - s) / 2 - 1)

/-! ### FP32 operations (R108, R136) -/

/-- The value of an FP32 pattern. -/
def F32.val (a : F32) : FVal := l32.decode a.toNat

/-- A value rounded to FP32. -/
def FVal.f32 (x : FVal) : F32 := BitVec.ofNat 32 (l32.encode x).v

/-- The canonical NaN of FP32 (R107). -/
def f32nan : F32 := 0x7FC00000
/-- Plus and minus infinity, and one. -/
def f32inf : F32 := 0x7F800000
def f32ninf : F32 := 0xFF800000
def f32one : F32 := 0x3F800000

/-- FP32 addition. -/
def fadd (a b : F32) : F32 := (a.val.add b.val).f32
/-- FP32 subtraction. -/
def fsub (a b : F32) : F32 := (a.val.add b.val.neg).f32
/-- FP32 multiplication. -/
def fmul (a b : F32) : F32 := (a.val.mul b.val).f32
/-- FP32 fused multiply-add, rounded once. -/
def ffma (a b c : F32) : F32 := ((a.val.mul b.val).add c.val).f32
/-- FP32 division. -/
def fdiv (a b : F32) : F32 := (a.val.div b.val).f32
/-- FP32 square root. -/
def fsqrt (a : F32) : F32 := a.val.sqrt.f32

/-- The pattern is a NaN. -/
def isNan (a : F32) : Bool := a.val = .nan

/-- The pattern is +0 or -0. -/
def isZero (a : F32) : Bool := a.toNat % 2 ^ 31 = 0

/-- Order of patterns that are no NaN, with -0 below +0. -/
def ordKey (a : F32) : Int := if 2 ^ 31 ≤ a.toNat then -((a.toNat - 2 ^ 31 : Nat) : Int) - 1 else a.toNat

/-- Maximum (R136): NaN if either is, -0 below +0. -/
def fmax (a b : F32) : F32 := if isNan a || isNan b then f32nan else if ordKey a < ordKey b then b else a

/-- Minimum (R136). -/
def fmin (a b : F32) : F32 := if isNan a || isNan b then f32nan else if ordKey b < ordKey a then b else a

/-- Less than, for VCMP. -/
def flt (a b : F32) : Bool := !isNan a && !isNan b && !(isZero a && isZero b) && decide (ordKey a < ordKey b)

/-- Equal, for VCMP: the zeros are equal. -/
def feq (a b : F32) : Bool := !isNan a && !isNan b && ((isZero a && isZero b) || a = b)

/-- Biased exponent of FP32. -/
def fexp (a : F32) : Nat := a.toNat / 2 ^ 23 % 256

/-- Pairwise FP32 sum over ascending positions (R93, R139), over n levels. -/
def treeSum : Nat → List F32 → F32
  | 0, l => l.headD 0
  | n + 1, l =>
    let h := 2 ^ n
    fadd (treeSum n (l.take h)) (treeSum n (l.drop h))

/-! ### exp2, log2 and reciprocal square root (R108): a free choice within one unit of the last place -/

/-- m x 2^e truncated to the FP32 grid; the pattern of the magnitude. -/
def truncMag (m : Nat) (e : Int) : Nat :=
  if m = 0 then 0
  else
    let t := max l32.low (e + Nat.log2 m + 1 - 24)
    (l32.pack (if t ≤ e then m * 2 ^ (e - t).toNat else m / 2 ^ (t - e).toNat) t).getD l32.infinity

/-- The result of a fixed function: the unit's own value where it lies within one unit of the last place of the true one, whose magnitude
truncates to `lo`; else that truncation. An exact result may be missed on either side. -/
def within (own lo : F32) (exact : Bool) : F32 :=
  if own = lo + 1 || (exact && lo.toNat % 2 ^ 31 ≠ 0 && own = lo - 1) then own else lo

/-- 2^(bits of f below 1) in units of 2^-80: f holds n more bits, c is 2^(2^-i) for the next. -/
def exp2Frac : Nat → Nat → Nat → Nat → Nat
  | 0, _, _, acc => acc
  | n + 1, f, c, acc => exp2Frac n f (isqrt (c * 2 ^ 80)) (if bitOf f n then acc * c / 2 ^ 80 else acc)

/-- exp2 (R108). Of zero it is one (Table 04-6: a NORMAL row's sum is at least 1); at and above 128 it overflows to infinity (R109); of -Inf it is +0
(R162); of +Inf the manual states no result and the unit's own stands. -/
def fexp2 (a : F32) : F32 :=
  match a.val with
  | .nan => f32nan
  | .inf neg => if neg then 0 else Config.exp2 a
  | .fin neg m e =>
    if m = 0 then f32one
    else
      let s := (e + 48)
      let k := gridInt neg m 0 0
      let g : Int := if 0 ≤ s then k * 2 ^ s.toNat else k.fdiv (2 ^ (-s).toNat)
      let n := g.fdiv (2 ^ 48)
      let f := (g - n * 2 ^ 48).toNat
      if 128 ≤ n then f32inf
      else if n < -151 then within (Config.exp2 a) 0 false
      else
        let y := exp2Frac 48 f (isqrt (2 ^ 161)) (2 ^ 80)
        within (Config.exp2 a) (BitVec.ofNat 32 (truncMag y (n - 80))) (f = 0 && 0 ≤ e + (Nat.log2 m : Int))

/-- n further bits of log2 of x, in units of 2^-80, 1 <= x < 2. -/
def log2Frac : Nat → Nat → Nat
  | 0, _ => 0
  | n + 1, x =>
    let y := x * x / 2 ^ 80
    if 2 ^ 81 ≤ y then 2 ^ n + log2Frac n (y / 2) else log2Frac n y

/-- log2 (R108). Of zero, a negative value or an infinity the manual states no result and the unit's own stands. -/
def flog2 (a : F32) : F32 :=
  match a.val with
  | .nan => f32nan
  | .inf _ => Config.log2 a
  | .fin neg m e =>
    if neg || m = 0 then Config.log2 a
    else
      let k := Nat.log2 m
      let exact : Bool := m = 2 ^ k
      let y := (e + k) * 2 ^ 60 + log2Frac 60 (m * 2 ^ (80 - k))
      let mag := if y < 0 then y.natAbs - b2n (!exact) else y.natAbs
      within (Config.log2 a) (BitVec.ofNat 32 (b2n (y < 0) * 2 ^ 31 + truncMag mag (-60))) exact

/-- Reciprocal square root (R108). Of zero, a negative value or an infinity the manual states no result and the unit's own stands. -/
def frsqrt (a : F32) : F32 :=
  match a.val with
  | .nan => f32nan
  | .inf _ => Config.rsqrt a
  | .fin neg m e =>
    if neg || m = 0 then Config.rsqrt a
    else
      let s : Nat := if (e + 120) % 2 = 0 then 120 else 121
      let q := 2 ^ s / m
      let r := isqrt q
      within (Config.rsqrt a) (BitVec.ofNat 32 (truncMag r (-(e + s) / 2))) (r * r * m = 2 ^ s)

/-! ### The MXE column sum (R80 to R82) -/

/-- The sum of exact products (R81). -/
def columnSum (ps : List FVal) : F32 :=
  if ps.any (· = .nan) || (ps.any (· = .inf false) && ps.any (· = .inf true)) then f32nan
  else if ps.any (· = .inf false) then f32inf
  else if ps.any (· = .inf true) then f32ninf
  else
    match (ps.filterMap FVal.flog2).max? with
    | none => if ps.all (fun p => match p with | .fin n _ _ => n | .nan | .inf _ => false) then 0x80000000 else 0
    | some l =>
      let q := l - 48
      let term := fun (p : FVal) =>
        match p with
        | .fin n m e => let k := if q ≤ e then m * 2 ^ (e - q).toNat else m / 2 ^ (q - e).toNat; if n then -(k : Int) else (k : Int)
        | .nan | .inf _ => 0
      let s := ps.foldl (fun a p => a + term p) 0
      if s = 0 then 0 else (FVal.ofInt s q).f32

/-- The three BF16 pieces of an FP32 operand (R82), as values: hi, mid, lo. -/
def pieces (v : FVal) : FVal × FVal × FVal :=
  let l := Fmt.bf16.layout
  let bf := fun (x : FVal) =>
    match x with
    | .fin n m e => l.decode (l.sgn n + (l.round m e).getD l.top)
    | .nan => .nan
    | .inf n => .inf n
  match v with
  | .fin _ _ _ =>
    let hi := bf v
    let r := v.add hi.neg
    let mid := bf r
    (hi, mid, bf (r.add mid.neg))
  | .nan | .inf _ => (v, .fin false 0 0, .fin false 0 0)

/-- Add a column sum (R83). -/
def Acc.add (a : Acc) (comp : Bool) (p : F32) : Acc :=
  let sn := fadd a.s p
  if !comp then { a with s := sn }
  else if p.val.special || sn.val.special then ⟨sn, 0⟩
  else
    let e := (a.s.val.add p.val).add sn.val.neg
    ⟨sn, (a.c.val.add e).f32⟩

/-- The drained value (R85). -/
def Acc.drain (a : Acc) (comp : Bool) : F32 := if a.s.val.special || !comp then a.s else fadd a.s a.c

/-! ### Softmax rows (R92 to R94, R124 to R126) -/

/-- Row classes (Table 04-6). -/
def clsNormal : Nat := 0
def clsMasked : Nat := 1
def clsInf : Nat := 2
def clsNan : Nat := 3

/-- The largest of a row's values; of none, -Inf. -/
def rowMax (xs : List F32) : F32 := xs.foldl fmax f32ninf

/-- The exponential of one element of a row whose maximum is m (R93). -/
def rowExp (m scale x : F32) : F32 :=
  if isNan m then f32nan
  else if x = f32ninf then 0
  else if m = f32inf then (if x = f32inf then f32one else 0)
  else
    let t := fmul (fsub x m) scale
    if flt t 0xC3160000 then 0 else fexp2 t

/-- The class of a row (Table 04-6). -/
def rowClass (xs : List F32) : Nat :=
  if xs.any isNan then clsNan else if xs.any (· = f32inf) then clsInf else if xs.all (· = f32ninf) then clsMasked else clsNormal

/-- The statistics of a drained row (R93): maximum, pairwise sum of the exponentials over 64 columns, class. -/
def rowStat (scale : F32) (xs : List F32) : RowStat :=
  let m := rowMax xs
  let ys := xs.map (rowExp m scale)
  { m := m, l := treeSum 6 (ys ++ List.replicate (64 - ys.length) 0), cls := rowClass xs }

/-- A factor of R124: exp2(round(x - m) x SCALE), with an argument of -Inf giving +0. -/
def mergeFactor (x m scale : F32) : F32 :=
  let t := fmul (fsub x m) scale
  if t = f32ninf then 0 else fexp2 t

/-- Merge a tile state B into a running state A (R124, Tables 05-9 and 06-5). -/
def mergeRow (scale : F32) (a b : RowStat) : RowStat × Factor :=
  let out := fun (cls : Nat) (m l : F32) => { a with m := m, l := l, cls := cls }
  if a.cls = clsNan || b.cls = clsNan then (out clsNan f32nan f32nan, { act := .nan })
  else if a.cls = clsInf && b.cls = clsInf then (out clsInf f32inf (fadd a.l b.l), { act := .sum })
  else if a.cls = clsInf then (out clsInf f32inf a.l, { act := .keepA })
  else if b.cls = clsInf then (out clsInf f32inf b.l, { act := .takeB })
  else if a.cls = clsMasked && b.cls = clsMasked then (out clsMasked f32ninf 0, { act := .zero })
  else if b.cls = clsMasked then (out clsNormal a.m a.l, { act := .keepA })
  else if a.cls = clsMasked then (out clsNormal b.m b.l, { act := .takeB })
  else
    let m := fmax a.m b.m
    let fA := mergeFactor a.m m scale
    let fB := mergeFactor b.m m scale
    (out clsNormal m (fadd (fmul a.l fA) (fmul b.l fB)), { fA := fA, fB := fB, act := .scale })

/-- The updated output of one element (Table 06-5, last column). -/
def Factor.apply (f : Factor) (oa ob : F32) : F32 :=
  match f.act with
  | .nan => f32nan
  | .sum => fadd oa ob
  | .keepA => oa
  | .takeB => ob
  | .zero => 0
  | .scale => fadd (fmul oa f.fA) (fmul ob f.fB)

/-- A finalised element (Table 05-10). -/
def finishElem (r : RowStat) (o : F32) : F32 :=
  if r.cls = clsMasked then 0 else if r.cls = clsNan then f32nan else fdiv o r.l

/-- The saved row log-sum-exp (R126, Table 05-10). -/
def finishLse (scale : F32) (r : RowStat) : F32 :=
  if r.cls = clsNormal then fadd (fmul r.m scale) (flog2 r.l)
  else if r.cls = clsMasked then f32ninf
  else if r.cls = clsInf then f32inf
  else f32nan

/-! ### The weight update (R113 to R115) -/

/-- The constants of one AdamW update (R113). -/
structure AdamW where
  lr : F32
  beta1 : F32
  beta2 : F32
  c1 : F32
  c2 : F32
  b1 : F32
  b2 : F32
  eps : F32
  lambda : F32
deriving DecidableEq, Repr

/-- One parameter's moments and master after the update (R113): m, v, p. -/
def AdamW.step (k : AdamW) (e : Nat) (g m v p : F32) : F32 × F32 × F32 :=
  let g := (g.val.scale (-(e : Int))).f32
  let m := fadd (fmul k.beta1 m) (fmul k.c1 g)
  let v := fadd (fmul k.beta2 v) (fmul k.c2 (fmul g g))
  let q := fadd (fsqrt (fdiv v k.b2)) k.eps
  let d := fdiv (fdiv m k.b1) q
  let u := fadd d (fmul k.lambda p)
  (m, v, fsub p (fmul k.lr u))

/-- One round of Philox-4x32 (R115). -/
def philoxRound (c : Nat × Nat × Nat × Nat) (k0 k1 : Nat) : Nat × Nat × Nat × Nat :=
  let (c0, c1, c2, c3) := c
  let p0 := 0xD2511F53 * c0
  let p1 := 0xCD9E8D57 * c2
  ((p1 / 2 ^ 32) ^^^ c1 ^^^ k0, p1 % 2 ^ 32, (p0 / 2 ^ 32) ^^^ c3 ^^^ k1, p0 % 2 ^ 32)

/-- n rounds of Philox-4x32 with the key increments of R115. -/
def philoxRounds : Nat → Nat × Nat × Nat × Nat → Nat → Nat → Nat × Nat × Nat × Nat
  | 0, c, _, _ => c
  | n + 1, c, k0, k1 => philoxRounds n (philoxRound c k0 k1) ((k0 + 0x9E3779B9) % 2 ^ 32) ((k1 + 0xBB67AE85) % 2 ^ 32)

/-- The random value of element i of group g in step s of a job (R115). -/
def philoxR (s job g i : Nat) : Nat :=
  let c := philoxRounds 10 (i / 4 % 2 ^ 32, i / 2 ^ 34 % 64 + g * 2 ^ 16, 0, 0) s job
  [c.1, c.2.1, c.2.2.1, c.2.2.2].getD (i % 4) 0 / 2 ^ 16

/-- Stochastic rounding of an FP32 master to BF16 (R114). -/
def stochastic (p : F32) (r : Nat) : Conv :=
  let b := p.toNat
  let sgn := b / 2 ^ 31 * 2 ^ 15
  if isNan p then { v := 0x7FC0 }
  else if p.val.special then { v := b / 2 ^ 16 }
  else
    let a := (b % 2 ^ 31 + r) / 2 ^ 16
    if 0x7F80 ≤ a then { v := sgn + 0x7F7F, sat := true } else { v := sgn + a, flush := b % 2 ^ 31 ≠ 0 && a = 0 }

/-- The BF16 working copy of a master (R113, R114). -/
def workingCopy (sr : Bool) (p : F32) (r : Nat) : Conv := if sr then stochastic p r else Fmt.bf16.encode p.val

end Sys2Proof.Machine
end

