-- ==== Sys2Proof/Machine/MemOps.lean ====
section
/-!
DEFINITION. Sys2Proof/Machine/MemOps.lean: what every mover of data uses: core-local stores and their checks (R145, R227 to R229), tap counters
(R150, R151), the HBM interleave and pinned scratch (R233, R257 to R261), translation (R185 to R188), the home slice with its snoop filter
(R231 to R239, R435 to R438), and accesses to other tiers (R240, R241).
-/

namespace Sys2Proof.Machine

/-- Enter a number in a rising list. -/
def insertUp : List Nat → Nat → List Nat
  | [], n => [n]
  | x :: l, n => if n < x then n :: x :: l else if n = x then x :: l else x :: insertUp l n

/-! ### Core-local stores -/

/-- Change core c. -/
def Dev.updCore (d : Dev) (c : Nat) (f : Core → Core) : Dev := d.setCore c (f (d.core c))

/-- Bytes of the addressable part of core c's NS: the sum of its SECT_MEM regions (R145, R226); none before any image. -/
def Dev.nsSize (d : Dev) (c : Nat) : Nat :=
  match d.img.inForce with
  | none => 0
  | some s => 65536 * ((s.mem.getD (c / 68) {}).regions.foldl (· + ·) 0)

/-- A byte of a core's local stores: its store and offset. -/
inductive LocalAt where
  | stg (o : Nat)
  | ns (o : Nat)
deriving DecidableEq, Repr

/-- Where a core-local address lies (R145). -/
def Dev.localAt (d : Dev) (c a : Nat) : Option LocalAt :=
  if a / 2 ^ 63 ≠ 1 then none
  else
    let o := a % 2 ^ 63
    if o < 0x200000 then some (.stg o)
    else if 0x1000000 ≤ o && o < 0x1000000 + d.nsSize c then some (.ns (o - 0x1000000))
    else none

/-- Every one of n bytes from an address lies in one store (R145). -/
def Dev.localOk (d : Dev) (c a n : Nat) : Bool :=
  n = 0 || match d.localAt c a, d.localAt c (a + n - 1) with
    | some (.stg _), some (.stg _) => true
    | some (.ns _), some (.ns _) => true
    | _, _ => false

/-- n bytes of a store. -/
def Dev.storeRead (d : Dev) (c : Nat) (l : LocalAt) (n : Nat) : List Byte :=
  match l with
  | .stg o => breadN (4 * c + 2) (d.core c).stg o n
  | .ns o => breadN (4 * c + 3) (d.core c).ns o n

/-- The words that an access of n bytes meets whose check bits are inverted (R229). -/
def Dev.badWords (d : Dev) (c : Nat) (l : LocalAt) (n : Nat) : List Nat :=
  match l with
  | .stg _ => []
  | .ns o => (d.core c).nsBad.filter (fun w => 8 * w < o + n && o < 8 * w + 8)

/-- A read of n bytes meets a word whose check bits are inverted (R229). -/
def Dev.storeBad (d : Dev) (c : Nat) (l : LocalAt) (n : Nat) : Bool := !(d.badWords c l n).isEmpty

/-- Another unit writes operand bytes of a matrix command that the MXE has accepted (R79). -/
def Mxe.touch (m : Mxe) (ns : Bool) (o n : Nat) : Mxe :=
  if m.queue.isEmpty && m.run.isNone then m
  else
    let t := (List.range n).map (fun i => b2n ns * 2 ^ 23 + o + i)
    { m with queue := m.queue.map (fun q => { q with touched := q.touched ++ t })
             run := m.run.map (fun r => { r with cmd := { r.cmd with touched := r.cmd.touched ++ t } }) }

/-- Another unit writes bytes of a store that the DMA engine or an SXU WRITE reads (R177): those of the descriptor in hand, and those of the lines whose
local bytes have not been read yet. -/
def Core.touch (k : Core) (ns : Bool) (o n : Nat) : Core :=
  let t := (List.range n).map (fun i => b2n ns * 2 ^ 23 + o + i)
  { k with
    mxe := k.mxe.touch ns o n
    dma := if k.dma.job.isNone then k.dma else { k.dma with job := k.dma.job.map (fun j => { j with touched := j.touched ++ t }) }
    sxu := if k.sxu.tags.any (·.reading) then
        { k.sxu with tags := k.sxu.tags.map (fun g => if g.reading then { g with touched := g.touched ++ t } else g) }
      else k.sxu }

/-- An uncorrectable word of NS is read (R227). -/
def Dev.nsUe (d : Dev) (c o : Nat) : Dev :=
  (((d.count F.NS_UE_CNT_V c).put F.MEM_STATUS_NS_UE c 0 1).put F.MEM_ERR_ADDR_NS c 0 1).put F.MEM_ERR_ADDR_OFFSET c 0 o

/-- The error that the outside reports on a read of n bytes (R227): 1 corrected (NS), 2 uncorrectable or a parity error. Which byte or word of the access
it lies in is a free value. -/
def Dev.storeError (d : Dev) (c : Nat) (l : LocalAt) (n err : Nat) : Dev :=
  match l with
  | .stg o =>
    if err = 2 then
      let (v, d) := d.fresh 32
      (((d.count F.STG_PAR_CNT_V c).put F.MEM_STATUS_STG_PAR c 0 1).put F.MEM_ERR_ADDR_NS c 0 0).put F.MEM_ERR_ADDR_OFFSET c 0 (o + v % atLeast1 n)
    else d
  | .ns o =>
    if err = 1 then (d.count F.NS_CE_CNT_V c).put F.MEM_STATUS_NS_CE c 0 1
    else if err = 2 then
      let (v, d) := d.fresh 32
      d.nsUe c (8 * (o / 8 + v % ((o + atLeast1 n + 7) / 8 - o / 8)))
    else d

/-- The errors of a read of n bytes of a store: each word whose check bits are inverted, and what the outside reports (R227, R229). True where one is
uncorrectable. -/
def Dev.storeErrors (d : Dev) (c : Nat) (l : LocalAt) (n err : Nat) : Bool × Dev :=
  let ws := d.badWords c l n
  let d := d.each ws (fun d w => d.nsUe c (8 * w))
  (!ws.isEmpty || err = 2, if err = 2 && !ws.isEmpty then d else d.storeError c l n err)

/-- The words of NS that a write of n bytes at an offset covers in part (R229). -/
def partWords (o n : Nat) : List Nat :=
  if n = 0 then []
  else
    let first := o / 8
    let last := (o + n - 1) / 8
    let part := fun (w : Nat) => !(o ≤ 8 * w && 8 * w + 8 ≤ o + n)
    (if first = last then [first] else [first, last]).filter part

/-- A narrow write of NS reads the words that it covers in part, and `err` is what the check of the first of them finds: an uncorrectable one is written back
with its check bits inverted (R229). -/
def Dev.mergeErrors (d : Dev) (c o n err : Nat) : Dev :=
  let d := d.each ((partWords o n).filter (fun w => (d.core c).nsBad.contains w)) (fun d w => d.nsUe c (8 * w))
  match partWords o n with
  | [] => d
  | w :: _ =>
    if (d.core c).nsBad.contains w then d
    else if err = 1 then (d.count F.NS_CE_CNT_V c).put F.MEM_STATUS_NS_CE c 0 1
    else if err = 2 then (d.nsUe c (8 * w)).updCore c fun k => { k with nsBad := insertUp k.nsBad w }
    else d

/-- Write bytes to a store. A write of less than a word leaves an uncorrectable word uncorrectable; a write of the whole word clears it (R229). -/
def Dev.storeWrite (d : Dev) (c : Nat) (l : LocalAt) (bs : List Byte) (err : Nat := 0) : Dev :=
  match l with
  | .stg o => d.updCore c fun k => { k.touch false o bs.length with stg := bwriteN (4 * c + 2) k.stg o bs }
  | .ns o => (d.mergeErrors c o bs.length err).updCore c fun k =>
      { k.touch true o bs.length with
        ns := bwriteN (4 * c + 3) k.ns o bs, nsBad := k.nsBad.filter (fun w => !(o ≤ 8 * w && 8 * w + 8 ≤ o + bs.length)) }

/-- Read n bytes at a core-local address; none where it lies in no store. -/
def Dev.localRead (d : Dev) (c a n : Nat) : List Byte := ((d.localAt c a).map (fun l => d.storeRead c l n)).getD []

/-- A core-local read meets an uncorrectable word. -/
def Dev.localBad (d : Dev) (c a n : Nat) : Bool := ((d.localAt c a).map (fun l => d.storeBad c l n)).getD false

/-- Write bytes at a core-local address; `err` as in `Dev.mergeErrors`. -/
def Dev.localWrite (d : Dev) (c a : Nat) (bs : List Byte) (err : Nat := 0) : Dev :=
  ((d.localAt c a).map (fun l => d.storeWrite c l bs err)).getD d

/-- The errors of a local read (R227, R229). True where one is uncorrectable. -/
def Dev.readError (d : Dev) (c a n err : Nat) : Bool × Dev :=
  match d.localAt c a with
  | none => (false, d)
  | some l => d.storeErrors c l n err

/-- The key of a core-local byte in `touched`: bit 23 tells NS from STG. -/
def Dev.touchKey (d : Dev) (c a : Nat) : Option Nat :=
  (d.localAt c a).map (fun l => match l with | .stg o => o | .ns o => 2 ^ 23 + o)

/-- Bytes read, in which those at the places given have become free values (R79, R177). -/
def Dev.spoil (d : Dev) (bs : List Byte) (hit : Nat → Bool) : List Byte × Dev :=
  (List.range bs.length).foldl (fun r i =>
    if hit i then
      let (v, d) := r.2.fresh 8
      (setAt r.1 i (BitVec.ofNat 8 v), d)
    else r) (bs, d)

/-- n core-local bytes as DMA or SXU reads them: those that another unit has written meanwhile are free values (R177). -/
def Dev.localSpoilt (d : Dev) (c a n : Nat) (touched : List Nat) : List Byte × Dev :=
  d.spoil (d.localRead c a n) (fun i => (d.touchKey c (a + i)).any touched.contains)

/-! ### Tap counters (R150, R151) -/

/-- The value of a tap counter. -/
def Dev.tap (d : Dev) (c t : Nat) : Int := signed 32 (d.get F.TAP_VALUE_V c t)

/-- Threads of core c that wait on a tap counter whose value is now v become ready in the next cycle (R151). -/
def Dev.wakeTaps (d : Dev) (c t : Nat) (v : Int) : Dev :=
  let hit := fun (b : Option Block) => match b with
    | some (.twait t' w) => t' = t && decide (v ≤ w)
    | _ => false
  if (d.core c).ctc.threads.any (fun e => hit e.2.block) then
    d.updCore c fun k =>
      { k with ctc := { k.ctc with threads := k.ctc.threads.map (fun e => if hit e.2.block then (e.1, { e.2 with block := some .due }) else e) } }
  else d

/-- Set a tap counter, saturating; a counter that comes to zero or less meets its deadlines (R66). -/
def Dev.setTap (d : Dev) (c t : Nat) (v : Int) : Dev :=
  let w := if v < -(2 ^ 31) then -(2 ^ 31) else if 2 ^ 31 - 1 < v then 2 ^ 31 - 1 else v
  let old := d.tap c t
  let d := d.put F.TAP_VALUE_V c t (unsigned 32 w)
  let d := if w = v then d else d.put F.TAP_OVF_V c 0 (setBit (d.get F.TAP_OVF_V c) t true)
  let d := d.wakeTaps c t w
  if w ≤ 0 && 0 < old then d.tapReachesZero c t else d

/-- Add to a tap counter (Table 06-11). -/
def Dev.tapAdd (d : Dev) (c t : Nat) (v : Int) : Dev := d.setTap c t (d.tap c t + v)

/-- A completion pulse. -/
def Dev.pulse (d : Dev) (c t : Nat) : Dev := d.tapAdd c t (-1)

/-! ### The HBM interleave and pinned scratch -/

/-- Bytes of one channel: 2.25 GiB. -/
def chBytes : Nat := 2415919104

/-- The top of local HBM (R257). -/
def Dev.hbmTop (d : Dev) : Nat := d.sys.slots.length * chBytes

/-- A place in local HBM (R257, R259). -/
structure Place where
  chan : Nat
  pc : Nat
  chunk : Nat
  bank : Nat
  row : Nat
  unit : Nat
deriving DecidableEq, Repr

/-- Where physical address a lies in local HBM (R257 to R259). -/
def Dev.place (d : Dev) (a : Nat) : Option Place :=
  let c := d.sys.slots.length
  if a < c * chBytes then
    let u := a / 256
    let w := u / c
    let k := (u % c + w) % c
    some { chan := d.sys.slots.getD k 0, pc := w % 2, chunk := w / 2 % 4, bank := w / 8 % 48, row := w / 384, unit := w }
  else none

/-- The physical address of a unit of a channel: the inverse of R257; none for a channel out of the map. -/
def Dev.unitAddr (d : Dev) (ch w : Nat) : Option Nat :=
  let c := d.sys.slots.length
  match d.sys.slots.findIdx? (· = ch) with
  | none => none
  | some k => some (256 * (w * c + (k + c - w % c) % c))

/-- The bank encoding of R261. -/
def Place.code (p : Place) : Nat := p.chan * 256 + p.pc * 128 + p.bank

/-- The home of a physical address: a channel's slice, scratch of a quarter at an offset, or nothing (R16, R233, R260). -/
inductive Home where
  | hbm (p : Place)
  | scratch (q o : Nat)
  | none
deriving DecidableEq, Repr

/-- The home of a physical address. An offset beyond the quarter's pinned scratch has none (R233). -/
def Dev.home (d : Dev) (a : Nat) : Home :=
  match d.place a with
  | some p => .hbm p
  | none =>
    if 0xE000000000 ≤ a && a < 0xE010000000 then
      let q := (a - 0xE000000000) / 0x4000000
      let o := (a - 0xE000000000) % 0x4000000
      if o < d.get F.SHC_STATUS_PINNED q * 6291456 then .scratch q o else .none
    else .none

/-- The quarter of a home; for a request of quarter q that has none, q itself (R16). -/
def Home.quarter (h : Home) (q : Nat) : Nat :=
  match h with
  | .hbm p => p.chan / 32
  | .scratch q' _ => q'
  | .none => q

/-! ### Bridges on the way to a home (R12, R13) -/

/-- Traffic between two quarters meets a failed bridge on its way there or back: one whose failure has not yet changed the routes, or, with more than
one bridge out, one that no route avoids. -/
def Dev.bridgeStops (d : Dev) (a b : Nat) : Bool :=
  let bad := d.clk.bridgesPending ||| d.clk.bridgesOut
  pathMeets bad (quarterPath d.clk.bridgesOut a b) || pathMeets bad (quarterPath d.clk.bridgesOut b a)

/-- The slice (32 x quarter + slice) of a home. -/
def Home.slice : Home → Nat
  | .hbm p => p.chan
  | .scratch q o => 32 * q + o / 64 % 32
  | .none => 0

/-- The state of a channel (Table 10-14). -/
def Dev.chanState (d : Dev) (ch : Nat) : Nat := d.get F.MCH_CH_STATE_STATE (ch / 32) (ch % 32)

/-- A channel is FAILED. -/
def Dev.chanFailed (d : Dev) (ch : Nat) : Bool := d.chanState ch = 4

/-- The 64 bytes that local HBM holds of a line. -/
def Dev.hbmLine (d : Dev) (line : Nat) : List Byte := breadN (4 * d.mem.epoch) d.mem.hbm (64 * line) 64

/-- Store a line in HBM; a poisoned one in the poison encoding, with zero data (R269). -/
def Dev.hbmStore (d : Dev) (line : Nat) (data : List Byte) (poison : Bool) : Dev :=
  let bs := if poison then List.replicate 64 0 else data
  { d with mem := { d.mem with hbm := bwriteN (4 * d.mem.epoch) d.mem.hbm (64 * line) bs
                               poison := if poison then insertUp d.mem.poison line else d.mem.poison.filter (· ≠ line) } }

/-! ### Channel queues (R262, R263) -/

/-- Channel ch. -/
def Dev.chanOf (d : Dev) (ch : Nat) : Channel := mget {} d.sys.chans ch

/-- Replace channel ch. -/
def Dev.setChan (d : Dev) (ch : Nat) (v : Channel) : Dev := { d with sys := { d.sys with chans := mset {} d.sys.chans ch v } }

/-- Pseudo-channel k of a channel. -/
def Channel.pc (c : Channel) (k : Nat) : PseudoCh := if k = 0 then c.pc0 else c.pc1

/-- Replace pseudo-channel k. -/
def Channel.setPc (c : Channel) (k : Nat) (p : PseudoCh) : Channel := if k = 0 then { c with pc0 := p } else { c with pc1 := p }

/-- A queue takes one more request, where it has room (R263): where the slice and the scrubber both wait, R69 decides (R262). -/
def PseudoCh.acceptOne (now : Nat) (p : PseudoCh) : PseudoCh :=
  let waits := fun (n : Nat) => p.queue.find? (fun r => r.accepted = 0 && r.scrub = decide (n = 1))
  if 64 ≤ (p.queue.filter (·.accepted ≠ 0)).length then p
  else
    match (arbiter 2 p.reqPtr (fun n => (waits n).isSome)).bind (fun n => (waits n).map (fun r => (n, r))) with
    | none => p
    | some (n, r) =>
      { p with queue := p.queue.filter (·.accepted ≠ 0) ++ [{ r with accepted := now + 1 }] ++ p.queue.filter (fun x => x.accepted = 0 && x.id ≠ r.id)
               reqPtr := (n + 1) % 2 }

/-- A queue takes what it has room for. -/
def PseudoCh.accept (now : Nat) (p : PseudoCh) : PseudoCh := p.queue.foldl (fun p _ => p.acceptOne now) p

/-- Hand a line request to its pseudo-channel. A line already being read is not read twice. A channel that trains accepts nothing (R274). -/
def Dev.mchRequest (d : Dev) (p : Place) (line : Nat) (write : Bool) : Dev :=
  let c := d.chanOf p.chan
  let k := c.pc p.pc
  if !write && (k.queue ++ k.bursts).any (fun r => r.line = line && !r.write && !r.scrub) then d
  else
    let r : MchReq := { id := d.sys.nextReq, line := line, bank := p.bank, row := p.row, write := write }
    let d := { d with sys := { d.sys with nextReq := d.sys.nextReq + 1 } }
    let k := { k with queue := k.queue ++ [r] }
    d.setChan p.chan (c.setPc p.pc (if d.chanState p.chan = 1 then k else k.accept d.now))

/-! ### Lines of the shared cache (R231) -/

/-- The line that a slice holds. -/
def Dev.findLine (d : Dev) (line : Nat) : Option ShcLine := d.sys.shc.find? (fun l => l.line = line)

/-- Drop a line. -/
def Dev.dropLine (d : Dev) (line : Nat) : Dev := { d with sys := { d.sys with shc := d.sys.shc.filter (fun l => l.line ≠ line) } }

/-- Hold a line as the most recently used. -/
def Dev.putLine (d : Dev) (l : ShcLine) : Dev :=
  { d with sys := { d.sys with shc := d.sys.shc.filter (fun x => x.line ≠ l.line) ++ [l] } }

/-- Write a dirty line back to HBM; to a FAILED channel it is dropped and counted (R275). -/
def Dev.writeBack (d : Dev) (l : ShcLine) : Dev :=
  match d.place (64 * l.line) with
  | none => d
  | some p =>
    if d.chanFailed p.chan then d.count F.MCH_UE_V (p.chan / 32) (p.chan % 32)
    else (d.hbmStore l.line l.data l.poison).mchRequest p l.line true

/-- Change the stream unit of a core. -/
def Dev.updSxu (d : Dev) (c : Nat) (f : Sxu → Sxu) : Dev := d.updCore c fun k => { k with sxu := f k.sxu }

/-- Evict a line: written back if dirty; a marked line nobody demanded counts as unused (R203). -/
def Dev.evictLine (d : Dev) (l : ShcLine) : Dev :=
  let d := d.dropLine l.line
  let d := match l.mark with
    | some c => (d.count F.SXU_PF_UNUSED_V c).updSxu c fun x => { x with ivUnused := x.ivUnused + 1 }
    | none => d
  if l.dirty then d.writeBack l else d

/-- Two lines share a set of a slice. -/
def Dev.sameSet (d : Dev) (a b : Nat) : Bool :=
  (d.home (64 * a)).slice = (d.home (64 * b)).slice && Config.shcSet a % 3072 = Config.shcSet b % 3072

/-- Ways of a slice that cache lines: neither pinned nor retired (R231, R233, R235). -/
def Dev.cacheWays (d : Dev) (slice : Nat) : List Nat :=
  (List.range (16 - d.get F.SHC_STATUS_PINNED (slice / 32))).filter
    (fun w => !bitOf (d.get F.SHC_WAY_RETIRED_WAYS (slice / 32) (slice % 32)) w)

/-- A way for a line that is absent: the lowest one that holds no line, else that of the least recently used line, which is evicted (R231). DESIGN CHOICE: which
free way, and, in a set whose ways are all pinned or retired, one more way (number 16), since the manual does not say how such a slice serves a line (log 67). -/
def Dev.makeRoom (d : Dev) (line : Nat) : Nat × Dev :=
  let set := d.sys.shc.filter (fun l => d.sameSet l.line line)
  let ways := match d.cacheWays (d.home (64 * line)).slice with | [] => [16] | ws => ws
  match ways.find? (fun w => !set.any (fun l => l.way = w)) with
  | some w => (w, d)
  | none =>
    match set.find? (fun l => ways.contains l.way) with
    | some v => (v.way, d.evictLine v)
    | none => (16, d)

/-- Bring a line into its slice. -/
def Dev.allocLine (d : Dev) (l : ShcLine) : Dev :=
  let (w, d) := d.makeRoom l.line
  d.putLine { l with way := w }

/-- Bytes written over a part of a list. -/
def overlay (data : List Byte) (off : Nat) (bs : List Byte) : List Byte := data.take off ++ bs ++ data.drop (off + bs.length)

/-- The writes of the pool and of FRE that wait for a line's fill, oldest first: offset in the line, and bytes (R231). -/
def Dev.waitingWrites (d : Dev) (line : Nat) : List (Nat × List Byte) :=
  d.sys.accs.filterMap (fun a => match a.who, a.st, a.op with
    | .other, .fill pa, .write bs => if pa / 64 = line then some (pa % 64, bs) else none
    | _, _, _ => none)

/-- The bytes of a line as the device sees them, for walks and the pool's own copies; none where reading it is uncorrectable (Table 10-8). -/
def Dev.physLine (d : Dev) (line : Nat) : Option (List Byte) :=
  match d.findLine line with
  | some l => if l.poison then none else some l.data
  | none =>
    match d.place (64 * line) with
    | none => none
    | some p =>
      if d.chanFailed p.chan || d.mem.poison.contains line then none
      else some ((d.waitingWrites line).foldl (fun data w => overlay data w.1 w.2) (d.hbmLine line))

/-- An access waits for the fill of a line. -/
def Dev.filling (d : Dev) (line : Nat) : Bool := d.sys.accs.any (fun a => match a.st with | .fill pa => pa / 64 = line | _ => false)

/-- A write within one line of local HBM by the pool, FRE or the companion takes effect at its home slice (R231, R262): on the line that it holds; behind the
accesses that wait for the line's fill; or on a line that it allocates, read from HBM first where the write is narrower. One that would read a FAILED channel
ends (R275). -/
def Dev.physWrite (d : Dev) (a : Nat) (bs : List Byte) : Dev :=
  let line := a / 64
  let whole : Bool := bs.length = 64
  match d.findLine line with
  | some l => d.putLine { l with data := overlay l.data (a % 64) bs, dirty := true, poison := l.poison && !whole }
  | none =>
    match d.place a with
    | none => d
    | some p =>
      if d.filling line then
        let w : MemAcc := { id := d.sys.nextAcc, who := .other, addr := a, op := .write bs, st := .fill a }
        { d with sys := { d.sys with accs := d.sys.accs ++ [w], nextAcc := d.sys.nextAcc + 1 } }
      else if d.chanFailed p.chan && !whole then d
      else
        let old := if whole then bs else overlay (d.hbmLine line) (a % 64) bs
        d.allocLine { line := line, data := old, dirty := true, poison := d.mem.poison.contains line && !whole }

/-- n bytes of local HBM within one line, as the device sees them. -/
def Dev.physRead (d : Dev) (a n : Nat) : Option (List Byte) := (d.physLine (a / 64)).map (fun l => slice l (a % 64) n)

/-- A line that the walker or FRE reads is brought into its home slice (R231, R262). -/
def Dev.bringLine (d : Dev) (line : Nat) : Dev :=
  match d.home (64 * line) with
  | .hbm p =>
    if (d.findLine line).isSome then d.count F.SHC_HITS_V (p.chan / 32)
    else
      let d := d.count F.SHC_MISSES_V (p.chan / 32)
      if d.chanFailed p.chan || d.filling line then d
      else
        let bad := d.mem.poison.contains line
        d.allocLine { line := line, data := d.hbmLine line, dirty := bad, poison := bad, at_ := d.now }
  | _ => d

/-! ### Companion violations and snoops (R435 to R438, R455, R456) -/

/-- A companion violation (R455, R456). -/
def Dev.hlViolation (d : Dev) (code : Nat) : Dev :=
  let d := (d.count F.HL_VIOL_V).putD F.HL_VIOL_LAST_CODE code
  let win := d.beat / atLeast1 (d.get F.HL_VIOL_WINDOW_BEATS)
  let n := (if d.hl.violWin = win then d.hl.violCnt else 0) + 1
  { d with hl := { d.hl with violWin := win, violCnt := n
                             quarPending := d.hl.quarPending || decide (n = atLeast1 (d.get F.HL_VIOL_CFG_VIOL_LIMIT)) } }

/-- The slice of a physical line. -/
def Dev.sliceOf (d : Dev) (line : Nat) : Nat := (d.home (64 * line)).slice

/-- The filter entry of a line. -/
def Dev.sfFind (d : Dev) (line : Nat) : Option SfEntry := (mget [] d.hl.filter (d.sliceOf line)).find? (fun e => e.line = line)

/-- Remove a filter entry. -/
def Dev.sfDrop (d : Dev) (line : Nat) : Dev :=
  let s := d.sliceOf line
  { d with hl := { d.hl with filter := mset [] d.hl.filter s ((mget [] d.hl.filter s).filter (fun e => e.line ≠ line)) } }

/-- Mark a line poisoned in its slice or its scratch (R234). -/
def Dev.poisonLine (d : Dev) (line : Nat) : Dev :=
  match d.home (64 * line) with
  | .hbm _ =>
    match d.findLine line with
    | some l => d.putLine { l with poison := true, dirty := true }
    | none => d.allocLine { line := line, data := d.hbmLine line, dirty := true, poison := true }
  | .scratch _ _ => { d with sys := { d.sys with scratchBad := insertUp d.sys.scratchBad line } }
  | .none => d

/-- The memory space of pinned scratch at an address: each time a quarter's contents became undefined they are other free values (R233). -/
def Dev.scratchSpace (d : Dev) (pa : Nat) : Nat := 4 * mget 0 d.mem.scratchEpoch ((pa - 0xE000000000) / 0x4000000) + 1

/-- A whole line of data from the companion is written at home: its slice's line, HBM, or pinned scratch (R436, R437). -/
def Dev.homeWrite (d : Dev) (line : Nat) (data : List Byte) : Dev :=
  match d.home (64 * line) with
  | .hbm _ => d.physWrite (64 * line) data
  | .scratch _ _ =>
    { d with mem := { d.mem with scratch := bwriteN (d.scratchSpace (64 * line)) d.mem.scratch (64 * line) data }
             sys := { d.sys with scratchBad := d.sys.scratchBad.filter (· ≠ line) } }
  | .none => d

/-- A snoop completes unanswered (R438): an OWNED line is poisoned, a SHARED entry goes. True where the waiting request sees MEM_ERROR. -/
def Dev.snoopLost (d : Dev) (line : Nat) (owned : Bool) : Bool × Dev :=
  let d := (d.count F.HL_SNP_TIMEOUT_V).hlViolation 0x06
  (owned, if owned then (d.sfDrop line).poisonLine line else d.sfDrop line)

/-- Send a snoop of a line. False: no half is up, so that it ends unanswered (R432). -/
def Dev.sendSnoop (d : Dev) (line addr : Nat) (inv owned : Bool) : Bool × Dev :=
  match d.hlHalfFor addr with
  | none => (false, d)
  | some h =>
    let s : Snoop := { tag := d.hl.nextTag, line := line, addr := addr, half := h, inv := inv, owned := owned, issued := d.now }
    (true, { d with hl := { d.hl with snoops := d.hl.snoops ++ [s], nextTag := (d.hl.nextTag + 1) % 65536 } }.hlSend h (if inv then 0x10 else 0x11)
      s.tag addr 0 [])

/-- A snoop of the line is outstanding. -/
def Dev.snooping (d : Dev) (line : Nat) : Bool := d.hl.snoops.any (fun s => s.line = line)

/-- The snoop filter takes an entry as the most recently used; a full set first gives up its least recently used entry (R435). -/
def Dev.sfPut (d : Dev) (e : SfEntry) : Dev :=
  let d := d.sfDrop e.line
  let s := d.sliceOf e.line
  let set := (mget [] d.hl.filter s).filter (fun x => Config.sfSet x.line % 512 = Config.sfSet e.line % 512)
  let d := match (if 16 ≤ set.length then set.head? else none) with
    | some v =>
      let (ok, d) := ((d.sfDrop v.line).count F.HL_SF_BACKINV_V).sendSnoop v.line v.addr true v.owned
      if ok then d else (d.snoopLost v.line v.owned).2
    | none => d
  { d with hl := { d.hl with filter := mset [] d.hl.filter s (mget [] d.hl.filter s ++ [e]) } }

/-! ### Translation (R185 to R188) -/

/-- The entry held for a granule. -/
def xltFind (l : List XltHeld) (g : Nat) : Option Nat := (l.find? (fun h => h.granule = g)).map (·.entry)

/-- Hold an entry as the most recently used of at most cap. -/
def xltHold (cap : Nat) (l : List XltHeld) (g e : Nat) : List XltHeld :=
  let l := l.filter (fun h => h.granule ≠ g) ++ [⟨g, e⟩]
  l.drop (l.length - cap)

/-- Hold an entry in the STC of a core and the QTC of a quarter (R187). -/
def Dev.xltInstall (d : Dev) (core : Option Nat) (q g e : Nat) : Dev :=
  let d := { d with sys := { d.sys with qtc := mset [] d.sys.qtc q (xltHold 4096 (mget [] d.sys.qtc q) g e) } }
  match core with
  | some c => d.updCore c fun k => { k with stc := xltHold 64 k.stc g e }
  | none => d

/-- Look a granule up in the STC, then in the QTC (R187). -/
def Dev.xltLook (d : Dev) (core : Option Nat) (q g : Nat) : Option Nat × Dev :=
  match core.bind (fun c => xltFind (d.core c).stc g) with
  | some e =>
    (some e, match core with
      | some c => d.updCore c fun k => { k with stc := xltHold 64 k.stc g e }
      | none => d)
  | none =>
    match xltFind (mget [] d.sys.qtc q) g with
    | some e => (some e, d.xltInstall core q g e)
    | none => (none, d)

/-- Granules mapped; a larger value is taken as 0xF0_0000 (Table 08-9). -/
def Dev.granules (d : Dev) : Nat := min 0xF00000 (d.get F.XLT_GRANULES_N)

/-- The physical address of an entry of the translation table (R186). -/
def Dev.entryAddr (d : Dev) (g : Nat) : Nat := d.get F.XLT_BASE_BASE * 65536 + 8 * g

/-- The table entry of a granule; none where its read is uncorrectable. -/
def Dev.tableEntry (d : Dev) (g : Nat) : Option Nat := (d.physRead (d.entryAddr g) 8).map leNat

/-- Fields of a translation entry (Table 08-2). -/
def xltValid (e : Nat) : Bool := bitOf e 63 && (bits e 61 59 = 3 || bits e 61 59 = 4 || bits e 61 59 = 5)
def xltMotion (e : Nat) : Bool := bitOf e 62
def xltTier (e : Nat) : Nat := bits e 61 59
def xltTarget (e : Nat) : Nat := bits e 56 16 * 65536
def xltPooled (e : Nat) : Bool := bitOf e 7

/-- The caches of the device without the entries of some granules (R189). -/
def Dev.dropXlt (d : Dev) (hit : Nat → Bool) : Dev :=
  let keep := fun (l : List XltHeld) => l.filter (fun h => !hit h.granule)
  let cores : List (Nat × Core) := (d.cores.map (fun e => (e.1, { e.2 with stc := keep e.2.stc }))).filter (fun e => e.2 ≠ {})
  let qtc : List (Nat × List XltHeld) := (d.sys.qtc.map (fun e => (e.1, keep e.2))).filter (fun e => e.2 ≠ [])
  { d with cores := cores, sys := { d.sys with qtc := qtc } }

/-- The 16 bytes of a page record (Table 09-4). -/
def PageRec.bytes (r : PageRec) : List Byte :=
  leBytes 8 (b2n r.pooled * 2 ^ 63 + r.state * 2 ^ 60 + r.tier * 2 ^ 57 + r.frame + r.client * 2 ^ 15 + r.fails) ++ leBytes 8 r.touch

/-- The record of a page. -/
def Dev.page (d : Dev) (dp : Nat) : PageRec := mget {} d.pool.recs dp

/-- Keep a page record, in the engine and in its place in HBM (R243). -/
def Dev.setPage (d : Dev) (dp : Nat) (r : PageRec) : Dev :=
  { d with pool := { d.pool with recs := mset {} d.pool.recs dp r } }.physWrite (d.get F.POOL_META_BASE_V + 16 * dp) r.bytes

/-- A demand touch of a pooled page by an access of quarter q (R244). -/
def Dev.touchPage (d : Dev) (q dp : Nat) : Dev :=
  let r := d.page dp
  let old := match r.touched.find? (fun t => t.1 = q) with
    | some t => decide (t.2 + 16 ≤ d.beat)
    | none => true
  if old then d.setPage dp { r with touch := d.beat, touched := r.touched.filter (fun t => t.1 ≠ q) ++ [(q, d.beat)] } else d

/-! ### Accesses -/

/-- Status codes of Table 08-4 that an access can end with. -/
def stTranslation : Nat := 0x05
def stMemError : Nat := 0x06
def stCoreWindow : Nat := 0x08
def stLinkError : Nat := 0x09

/-- A companion request whose translation leaves the device (R434); no code of Table 08-4. -/
def stNotLocal : Nat := 0x20

/-- A WB_DIRTY of a line that is not OWNED (Table 16-3). -/
def stNotOwner : Nat := 0x21

/-- The access of a number. -/
def Dev.acc (d : Dev) (id : Nat) : Option MemAcc := d.sys.accs.find? (fun a => a.id = id)

/-- Change an access. -/
def Dev.updAcc (d : Dev) (id : Nat) (f : MemAcc → MemAcc) : Dev :=
  { d with sys := { d.sys with accs := d.sys.accs.map (fun a => if a.id = id then f a else a) } }

/-- Remove an access. -/
def Dev.dropAcc (d : Dev) (id : Nat) : Dev :=
  { d with sys := { d.sys with accs := d.sys.accs.filter (fun a => a.id ≠ id)
                               draining := d.sys.draining.filter (· ≠ id), staleWalks := d.sys.staleWalks.filter (· ≠ id) } }

/-- Bytes an access covers. -/
def AtomOp.float : AtomOp → Bool
  | .addF | .minF | .maxF => true
  | _ => false

def AccOp.len : AccOp → Nat
  | .read n => n
  | .write bs => bs.length
  | .masked _ _ => 64
  | .atomic op _ _ => if op.float then 4 else 8

/-- The part of an access that lies in the line of its next byte: its address and operation. -/
def MemAcc.at_ (a : MemAcc) : Nat := a.addr + a.pos

/-- Bytes of the access in the line of its next byte. -/
def MemAcc.span (a : MemAcc) : Nat := min (a.op.len - a.pos) (64 - a.at_ % 64)

def MemAcc.piece (a : MemAcc) : AccOp :=
  match a.op with
  | .read _ => .read a.span
  | .write bs => .write ((bs.drop a.pos).take a.span)
  | o => o

/-- A request of a quarter for a physical address goes towards its home slice over the bridges of its route; where one has failed it ends with a link error
and its unit issues it again later (R12, R13, R16). DESIGN CHOICE: a request that its home slice has not yet accepted, and whose route there or back crosses the
bridge, counts as being on it (log 62). -/
def Dev.towards (d : Dev) (q pa : Nat) : AccState := if d.bridgeStops q ((d.home pa).quarter q) then .bridge pa else .slice pa

/-- A bridge fails under the requests on it (R13). -/
def Dev.bridgeBreaks (d : Dev) : Dev :=
  { d with sys := { d.sys with accs := d.sys.accs.map (fun a => match a.st with
    | .slice pa => { a with st := d.towards a.q pa }
    | _ => a) } }

/-- The requests that ended on a failed bridge are issued again under the new routes (R13). -/
def Dev.bridgeAgain (d : Dev) : Dev :=
  { d with sys := { d.sys with accs := d.sys.accs.map (fun a => match a.st with
    | .bridge pa => { a with st := d.towards a.q pa }
    | _ => a) } }

/-- An access ends. -/
def Dev.endAcc (d : Dev) (id code : Nat) : Dev := d.updAcc id fun a => { a with st := .done code a.got, code := code }

/-- The part of an access in one line ends: the access ends with it, or goes on to its next line. -/
def Dev.pieceDone (d : Dev) (id code : Nat) (bs : List Byte) : Dev :=
  d.updAcc id fun a =>
    let n := a.span
    let got := a.got ++ bs
    if code ≠ 0 then { a with got := got, code := code, st := .done code got }
    else if a.op.len ≤ a.pos + n then { a with got := got, pos := a.pos + n, st := .done 0 got }
    else
      let st := match a.st with
        | .slice pa | .fill pa | .snoop pa => if (a.at_ + n) % 65536 = 0 then .walk else d.towards a.q (pa + n)
        | _ => .walk
      { a with got := got, pos := a.pos + n, st := st }

/-- Bytes written under a byte mask over a line. -/
def overlayMask (data : List Byte) (mask : Nat) (bs : List Byte) : List Byte :=
  (List.range data.length).map (fun i => if bitOf mask i then bs.getD i 0 else data.getD i 0)

/-- OPC of an atomic (Table 09-2). -/
def AtomOp.opc : AtomOp → Nat
  | .addI => 0x40 | .addF => 0x41 | .minI => 0x42 | .maxI => 0x43 | .minF => 0x44 | .maxF => 0x45 | .swap => 0x46 | .cas => 0x47

/-- The atomic of an OPC. -/
def AtomOp.ofOpc (n : Nat) : Option AtomOp :=
  [(0x40, AtomOp.addI), (0x41, .addF), (0x42, .minI), (0x43, .maxI), (0x44, .minF), (0x45, .maxF), (0x46, .swap), (0x47, .cas)].find?
    (fun x => x.1 = n) |>.map (·.2)

/-- The value that an atomic leaves in memory (Table 09-2). -/
def AtomOp.result (op : AtomOp) (m v old : BitVec 64) : BitVec 64 :=
  let f := fun (g : F32 → F32 → F32) => (g (m.setWidth 32) (v.setWidth 32)).setWidth 64
  match op with
  | .addI => m + v
  | .minI => if v.slt m then v else m
  | .maxI => if m.slt v then v else m
  | .addF => f fadd
  | .minF => f fmin
  | .maxF => f fmax
  | .swap => v
  | .cas => if m = v then old else m

/-- The reduction of one 4-byte element (R238): OP and FMT of the region. -/
def reduceElem (op fmt : Nat) (m x : BitVec 32) : BitVec 32 :=
  if fmt = 1 then (if op = 1 then fadd m x else if op = 2 then fmax m x else if op = 3 then fmin m x else m)
  else if fmt = 2 then (if op = 1 then m + x else if op = 2 then (if m.slt x then x else m) else if op = 3 then (if x.slt m then x else m) else m)
  else m

/-- Reduce the 4-byte elements of a write into a line. -/
def reduceInto (op fmt : Nat) (data : List Byte) (off : Nat) : List Byte → List Byte
  | b0 :: b1 :: b2 :: b3 :: bs =>
    let m := BitVec.ofNat 32 (leAt data off 4)
    let x := BitVec.ofNat 32 (leNat [b0, b1, b2, b3])
    reduceInto op fmt (overlay data off (leBytes 4 (reduceElem op fmt m x).toNat)) (off + 4) bs
  | _ => data

/-- The reduction region of a physical address: its OP and FMT; the lowest-numbered one (R238, R239). -/
def Dev.redRegion (d : Dev) (pa : Nat) : Option (Nat × Nat) :=
  if !d.flag F.SHC_ATOM_CTL_RED_EN then none
  else
    let page := pa / 2097152
    ((List.range 16).find? (fun n => d.flag F.SHC_RED_BASE_ENABLE 0 n && d.get F.SHC_RED_BASE_BASE 0 n ≤ page
      && page < d.get F.SHC_RED_BASE_BASE 0 n + d.get F.SHC_RED_LIM_PAGES 0 n)).map
        (fun n => (d.get F.SHC_RED_BASE_OP 0 n, d.get F.SHC_RED_BASE_FMT 0 n))

/-- What an operation makes of a line from an offset: the new line, and the bytes it returns. -/
def AccOp.apply (o : AccOp) (red : Option (Nat × Nat)) (data : List Byte) (off : Nat) : List Byte × List Byte :=
  match o with
  | .read n => (data, slice data off n)
  | .write bs =>
    match red with
    | some (op, fmt) => (reduceInto op fmt data off bs, [])
    | none => (overlay data off bs, [])
  | .masked mask bs =>
    match red with
    | some (op, fmt) =>
      ((List.range 16).foldl (fun l i => if bitOf mask (4 * i) then reduceInto op fmt l (4 * i) (slice bs (4 * i) 4) else l) data, [])
    | none => (overlayMask data mask bs, [])
  | .atomic op v old =>
    let n := if op.float then 4 else 8
    let m := leAt data off n
    (overlay data off (leBytes n (op.result (BitVec.ofNat 64 m) v old).toNat), leBytes 8 m)

/-- The operation changes memory. -/
def AccOp.writes : AccOp → Bool
  | .read _ => false
  | _ => true

/-- A run-ahead fetch ends before its line has arrived: its access goes and its tag is free (R201, R202). -/
def Dev.aheadOver (d : Dev) (a : MemAcc) : Dev :=
  match a.who with
  | .stream c tag => (d.dropAcc a.id).updSxu c fun x => { x with tags := x.tags.filter (fun t => t.tag ≠ tag), freed := true }
  | _ => d.dropAcc a.id

/-- A run-ahead fetch that is neither redundant nor snared counts as issued (R203, R204). -/
def Dev.aheadIssued (d : Dev) (a : MemAcc) : Dev :=
  match a.who with
  | .stream c _ => (d.count F.SXU_PF_ISSUED_V c).updSxu c fun x => { x with ivIssued := x.ivIssued + 1 }
  | _ => d

/-- The line of a run-ahead fetch is in its slice already (R201). -/
def Dev.aheadRedundant (d : Dev) (a : MemAcc) : Dev :=
  match a.who with
  | .stream c _ => (d.count F.SXU_PF_REDUNDANT_V c).aheadOver a
  | _ => d.aheadOver a

/-- A run-ahead fetch is dropped as a snared fetch (R202): its tag is freed and its context passes over the rest of the granule. -/
def Dev.snare (d : Dev) (a : MemAcc) : Dev :=
  match a.who with
  | .stream c tag =>
    ((d.count F.SXU_PF_SNARED_V c).updSxu c fun x =>
      match x.tags.find? (fun t => t.tag = tag) with
      | none => x
      | some t => { x with ctx := x.ctx.map (fun e =>
          if e.1 = t.ctx && e.2.id = t.sid then (e.1, { e.2 with snared := e.2.snared ++ [a.at_ / 65536] }) else e) }).aheadOver a
  | _ => d.aheadOver a

/-- A run-ahead fetch whose translation was found fails, or another access ends with a code. -/
def Dev.failPiece (d : Dev) (a : MemAcc) (code : Nat) : Dev :=
  if a.ahead then (d.aheadIssued a).aheadOver a else d.updAcc a.id fun a => { a with st := .done code a.got, code := code }

/-- A run-ahead fetch whose translation fails is snared (R202); another access ends with a code. -/
def Dev.failAcc (d : Dev) (a : MemAcc) (code : Nat) : Dev := if a.ahead then d.snare a else d.endAcc a.id code

/-- The runs of set bits of a mask below bit n: first bit and length, lowest first. -/
def bitRuns (mask : Nat) : Nat → List (Nat × Nat)
  | 0 => []
  | n + 1 =>
    let rs := bitRuns mask n
    if !bitOf mask n then rs
    else match rs.getLast? with
      | some (o, k) => if o + k = n then rs.dropLast ++ [(o, k + 1)] else rs ++ [(n, 1)]
      | none => [(n, 1)]

/-- Write the bytes of a line of a store whose mask bit is set, in runs (R229, R433). -/
def Dev.maskedWrite (d : Dev) (c : Nat) (l : LocalAt) (mask : Nat) (bs : List Byte) (err : Nat) : Dev :=
  let at_ := fun (i : Nat) => match l with | .stg o => LocalAt.stg (o + i) | .ns o => LocalAt.ns (o + i)
  d.each (bitRuns mask 64) (fun d r => d.storeWrite c (at_ r.1) ((bs.drop r.1).take r.2) err)

/-- A core window access of this chip (R185): the status and the bytes read. `err` is what the check of the store finds (R227 to R229). -/
def Dev.coreWindow (d : Dev) (a : Nat) (o : AccOp) (err : Nat := 0) : (Nat × List Byte) × Dev :=
  let n := o.len
  let off := a % 2 ^ 23
  match d.lciCore (bits a 35 34) (bits a 33 28) with
  | none => ((stCoreWindow, []), d)
  | some c =>
    let ns := bitOf a 27
    let top := if ns then d.nsSize c else 0x200000
    if bits a 26 23 ≠ 0 || top < off + n then ((stCoreWindow, []), d)
    else
      let l := if ns then LocalAt.ns off else .stg off
      match o with
      | .read n =>
        let (bad, d) := d.storeErrors c l n err
        (if bad then (stMemError, []) else (0, d.storeRead c l n), d)
      | .write bs => ((0, []), d.storeWrite c l bs err)
      | .masked mask bs => ((0, []), d.maskedWrite c l mask bs err)
      | .atomic _ _ _ => ((stCoreWindow, []), d)

/-- The packet of an access sent to another chip (Table 11-9). -/
def accPacket (o : AccOp) (chip addr : Nat) : Packet :=
  match o with
  | .read n => { ptype := 1, dst := chip, addr := addr, len := n }
  | .write bs => { ptype := 2, dst := chip, addr := addr, len := bs.length, data := bs }
  | .masked _ bs => { ptype := 2, dst := chip, addr := addr, len := bs.length, data := bs }
  | .atomic op v old =>
    let data := if op = .cas then leBytes 8 old.toNat ++ leBytes 8 v.toNat else leBytes 8 v.toNat
    { ptype := 3, dst := chip, addr := addr, aop := op.opc, len := data.length, data := data }

/-- Send the next piece of an access to another chip (R188, T4 and addresses that name the chip). -/
def Dev.sendRemote (d : Dev) (a : MemAcc) (chip addr : Nat) : Dev :=
  let tag := d.fab.nextTag
  (d.updAcc a.id fun a => { a with st := .remote tag, issued := d.now }).request (accPacket a.piece chip addr) (.access a.id)

/-- Send the next piece of an access to the companion (T5): a read of its line, or a masked write (R433). -/
def Dev.sendCompanion (d : Dev) (a : MemAcc) (addr : Nat) : Dev :=
  let off := addr % 64
  let (ok, d) := match a.piece with
    | .read _ => d.hlRequest 0x03 (addr - off) [] (.access a.id)
    | .write bs =>
      if off = 0 && bs.length = 64 then d.hlRequest 0x04 addr bs (.access a.id)
      else d.hlRequest 0x05 (addr - off) (leBytes 8 ((2 ^ bs.length - 1) * 2 ^ off) ++ slice (List.replicate off 0 ++ bs) 0 64) (.access a.id)
    | .masked m bs => d.hlRequest 0x05 (addr - off) (leBytes 8 m ++ bs) (.access a.id)
    | .atomic _ _ _ => (false, d)
  if ok then d.updAcc a.id fun a => { a with st := .remote 0, issued := d.now } else d.endAcc a.id stLinkError

/-- Misses of a core on one bank (R210). -/
def Ctc.onBank (t : Ctc) (bank : Nat) : Nat := (t.slots.filter (fun s => s.2.bank = some bank)).length

/-- A miss slot counts against a bank. -/
def Dev.setSlotBank (d : Dev) (c slot : Nat) (bank : Option Nat) : Dev :=
  d.updCore c fun k => { k with ctc := { k.ctc with slots := k.ctc.slots.map (fun s => if s.1 = slot then (s.1, { s.2 with bank := bank }) else s) } }

/-- A CTC miss that its walk shows to be the ninth on its bank (R210): a load or atomic gives its slot back, and its thread blocks on the bank, to issue it
again. A store, whose thread has gone on, waits in its slot, which counts against no bank meanwhile. -/
def Dev.capAcc (d : Dev) (a : MemAcc) (c slot bank pa : Nat) : Dev :=
  let x := (d.core c).ctc
  match x.slots.find? (fun s => s.1 = slot) with
  | some (_, m) =>
    if (mget {} x.threads m.thread).block = some (.load slot) then
      (d.dropAcc a.id).updCore c fun k => { k with ctc := { k.ctc with
        slots := k.ctc.slots.filter (fun s => s.1 ≠ slot)
        threads := k.ctc.threads.map (fun e => if e.1 = m.thread then (e.1, { e.2 with block := some (.slot (some bank)) }) else e) } }
    else d.updAcc a.id fun a => { a with st := .capped pa }
  | none => d.updAcc a.id fun a => { a with st := .capped pa }

/-- A translated access goes on to its tier (R188). A CTC miss counts against its HBM bank; where eight do already it waits (R210). A run-ahead fetch goes to its
home slice, here or on a peer's chip (R201); DESIGN CHOICE: one whose held translation leads to T5, which has no slice, is snared (log 30). -/
def Dev.routeAcc (d : Dev) (a : MemAcc) (e : Nat) : Dev :=
  let g := a.at_ % 2 ^ 40 / 65536
  let d := if xltPooled e && !a.ahead then d.touchPage a.q (g / 32) else d
  let pa := xltTarget e + a.at_ % 65536
  if xltTier e = 3 then
    match a.who, d.place pa with
    | .ctc c slot, some p =>
      if 8 ≤ (d.core c).ctc.onBank p.code then d.capAcc a c slot p.code pa
      else (d.setSlotBank c slot (some p.code)).updAcc a.id fun a => { a with st := d.towards a.q pa }
    | _, _ => d.updAcc a.id fun a => { a with st := d.towards a.q pa }
  else
    match a.who with
    | .companion _ _ _ => d.endAcc a.id stNotLocal
    | _ =>
      if xltTier e = 4 then d.sendRemote a (xltTarget e / 2 ^ 40) (pa % 2 ^ 40)
      else if a.ahead then d.snare a
      else match a.op with
        | .atomic _ _ _ => d.endAcc a.id stMemError
        | _ => d.sendCompanion a pa

/-- Injection into the mesh of quarter q is stopped for an image switch (R34). -/
def Dev.meshHeld (d : Dev) (q : Nat) : Bool := bitOf d.img.quiesced q

/-- The injection of an access is stopped (R34): that of a core of the quarter, or one into a core window there. -/
def Dev.meshStopped (d : Dev) (a : MemAcc) : Bool :=
  a.core.any (fun c => d.meshHeld (c / 68)) || (a.at_ / 2 ^ 40 = d.chip && bits a.at_ 39 36 = 0xF && d.meshHeld (bits a.at_ 35 34))

/-- A run-ahead fetch of the same core for the line of a stream's demand read is in flight (R203). -/
def Dev.ownAhead (d : Dev) (a : MemAcc) : Bool :=
  match a.who, a.op with
  | .stream c _, .read _ => !a.ahead && d.sys.accs.any (fun b => b.ahead && b.addr / 64 = a.at_ / 64
      && (match b.who with | .stream c' _ => c' = c | _ => false) && (match b.st with | .done _ _ => false | _ => true))
  | _, _ => false

/-- A demand fetch has met its core's own run-ahead fetch in flight: it counts once (R203, R204). -/
def Dev.countLate (d : Dev) (a : MemAcc) : Dev :=
  match a.who with
  | .stream c _ =>
    if a.late then d
    else ((d.count F.SXU_PF_LATE_V c).updSxu c fun x => { x with ivLate := x.ivLate + 1 }).updAcc a.id fun a => { a with late := true }
  | _ => d

/-- The lookup of a run-ahead fetch (R202): the entry held in the STC; one that the probe finds in the QTC, if it leads to T3; `snared` for another. -/
inductive AheadLook where
  | found (e : Nat)
  | walk
  | snared
deriving DecidableEq, Repr

/-- The lookup of a run-ahead fetch (R202). -/
def Dev.aheadLook (d : Dev) (core : Option Nat) (q g : Nat) : AheadLook × Dev :=
  match core.bind (fun c => xltFind (d.core c).stc g), xltFind (mget [] d.sys.qtc q) g with
  | some e, _ => (.found e, d.xltInstall core q g e)
  | none, some e => if xltTier e = 3 then (.found e, d.xltInstall core q g e) else (.snared, d)
  | none, none => (.walk, d)

/-- An access begins, or resumes, at its next byte: another chip, a core window, or translation (R185 to R188). -/
def Dev.beginAcc (d : Dev) (a : MemAcc) : Dev :=
  let g := a.at_ % 2 ^ 40 / 65536
  if 2 ^ 57 ≤ a.at_ then d.failAcc a stTranslation
  else if d.meshStopped a then d.updAcc a.id fun a => { a with st := .mesh }
  else if d.ownAhead a then (d.countLate a).updAcc a.id fun a => { a with st := .behind }
  else if a.at_ / 2 ^ 40 ≠ d.chip then d.sendRemote a (a.at_ / 2 ^ 40) (a.at_ % 2 ^ 40)
  else if bits a.at_ 39 36 = 0xF then
    let o : AccOp := match a.op with | .read n => .read (n - a.pos) | .write bs => .write (bs.drop a.pos) | o => o
    let (r, d) := d.coreWindow (a.at_ % 2 ^ 40) o a.werr
    d.updAcc a.id fun a => { a with got := a.got ++ r.2, code := r.1, st := .done r.1 (a.got ++ r.2) }
  else if d.granules ≤ g then d.failAcc a stTranslation
  else if a.ahead then
    match d.aheadLook a.core a.q g with
    | (.found e, d) => d.routeAcc a e
    | (.snared, d) => d.snare a
    | (.walk, d) => (d.count F.XLT_WALKS_V).updAcc a.id fun a => { a with st := .walk }
  else
    match d.xltLook a.core a.q g with
    | (some e, d) => d.routeAcc a e
    | (none, d) => (d.count F.XLT_WALKS_V).updAcc a.id fun a => { a with st := .walk }

/-- Make an access; its number. `werr`: what the check of the store finds, if it is a core window of this chip. -/
def Dev.access (d : Dev) (who : Origin) (core : Option Nat) (q addr : Nat) (op : AccOp) (ahead : Bool := false) (werr : Nat := 0) : Nat × Dev :=
  let id := d.sys.nextAcc
  let a : MemAcc := { id := id, who := who, core := core, q := q, addr := addr, op := op, st := .walk, ahead := ahead, werr := werr }
  let d := { d with sys := { d.sys with accs := d.sys.accs ++ [a], nextAcc := id + 1 } }
  (id, d.beginAcc a)

/-- A walk returns (R187, R188, R202). A result read before an invalidation is discarded and the access walks again (R189). -/
def Dev.walkDone (d : Dev) (a : MemAcc) (err : Bool) : Dev :=
  let g := a.at_ % 2 ^ 40 / 65536
  if d.sys.staleWalks.contains a.id then
    ({ d with sys := { d.sys with staleWalks := d.sys.staleWalks.filter (· ≠ a.id) } }).count F.XLT_WALKS_V
  else if a.at_ / 2 ^ 40 ≠ d.chip || bits a.at_ 39 36 = 0xF || d.granules ≤ g then d.beginAcc a
  else
    let d := if err then d else d.bringLine (d.entryAddr g / 64)
    match (if err then none else d.tableEntry g) with
    | none => d.failAcc a stMemError
    | some e =>
      if !xltValid e then d.failAcc a stTranslation
      else if xltMotion e then (if a.ahead then d.snare a else d.updAcc a.id fun a => { a with st := .motion })
      else if a.ahead && xltTier e ≠ 3 then d.snare a
      else (d.xltInstall a.core a.q g e).routeAcc a e

/-! ### The home slice -/

/-- The quarter and slice numbers of a slice index, for counting. -/
def Dev.countSlice (d : Dev) (f : Fld) (slice : Nat) : Dev := d.count f (slice / 32)

/-- A demand read of a marked line (R203); one that had met the run-ahead fetch in flight has been counted as late. -/
def Dev.readMark (d : Dev) (l : ShcLine) (a : MemAcc) : Dev :=
  match l.mark, a.who with
  | some c, .stream c' _ => if c = c' && !a.late then (d.count F.SXU_PF_USED_V c).count F.SXU_PF_SLACK_V c 0 a.slack else d
  | _, _ => d

/-- The write of an access overlaps reads of streams and DMA that are in progress: what they return of its bytes is unspecified (R177). -/
def Dev.touchReads (d : Dev) (a : MemAcc) : Dev :=
  let reads := fun (r : MemAcc) => !r.ahead && r.addr < a.at_ + a.span && a.at_ < r.addr + r.op.len && (match r.who, r.op with
    | .stream _ _, .read _ => true
    | .dmaRead _ _ _ _, _ => true
    | _, _ => false)
  if a.piece.writes && d.sys.accs.any reads then
    { d with sys := { d.sys with accs := d.sys.accs.map (fun r => if reads r then
        { r with touched := r.touched ++ (List.range r.op.len).filter (fun i => a.at_ ≤ r.addr + i && r.addr + i < a.at_ + a.span) }
      else r) } }
  else d

/-- Filter changes of a companion request served at its slice (Table 16-3). -/
def Dev.companionServed (d : Dev) (a : MemAcc) (line : Nat) : Dev :=
  match a.who with
  | .companion _ _ op =>
    if op = 1 then d.sfPut { line := line, addr := a.at_ / 64 * 64, owned := false }
    else if op = 2 then d.sfPut { line := line, addr := a.at_ / 64 * 64, owned := true }
    else if op = 4 || op = 5 || op = 6 then d.sfDrop line
    else d
  | _ => d

/-- The reduction region that an access's write at a physical address meets (R238). -/
def Dev.redOf (d : Dev) (a : MemAcc) (pa : Nat) : Option (Nat × Nat) :=
  match a.op with
  | .write _ | .masked _ _ => d.redRegion pa
  | _ => none

/-- The operation replaces a whole line. -/
def AccOp.wholeLine : AccOp → Bool
  | .write bs => bs.length = 64
  | .masked m _ => m = 2 ^ 64 - 1
  | _ => false

/-- An access takes effect on a line its slice holds. A poisoned line fails reads and atomics until a whole-line write (R234). -/
def Dev.serveLine (d : Dev) (a : MemAcc) (l : ShcLine) (pa : Nat) : Dev :=
  let red := d.redOf a pa
  let o := a.piece
  let whole := o.wholeLine && red.isNone
  let atomic := match o with | .atomic _ _ _ => true | _ => false
  if l.poison && (!o.writes || atomic) then (d.putLine l).pieceDone a.id stMemError []
  else
    let r := o.apply red l.data (pa % 64)
    let d := if o.writes then d.touchReads a else d.readMark l a
    let d := if atomic then d.countSlice F.SHC_ATOM_CNT_V (d.sliceOf (pa / 64)) else d
    let d := d.putLine { l with data := r.1, dirty := l.dirty || o.writes, poison := l.poison && !whole
                                mark := if o.writes then l.mark else none }
    (d.companionServed a (pa / 64)).pieceDone a.id 0 r.2

/-- Bytes of scratch (R233). -/
def Dev.scratchRead (d : Dev) (pa n : Nat) : List Byte := breadN (d.scratchSpace pa) d.mem.scratch pa n

/-- An access takes effect in pinned scratch (R233). -/
def Dev.serveScratch (d : Dev) (a : MemAcc) (q o pa err : Nat) : Dev :=
  let line := pa / 64
  let slice := 32 * q + o / 64 % 32
  if bitOf (d.get F.SHC_WAY_RETIRED_WAYS q (o / 64 % 32)) (15 - o / 6291456) then d.pieceDone a.id stMemError []
  else
    let d := if err = 1 then (d.countSlice F.SHC_CE_CNT_V slice).put F.SHC_STATUS_CE q 0 1 else d
    let d := if err = 2 then ((d.countSlice F.SHC_UE_CNT_V slice).put F.SHC_STATUS_UE q 0 1).poisonLine line else d
    let red := d.redOf a pa
    let op := a.piece
    let whole := op.wholeLine && red.isNone
    let atomic := match op with | .atomic _ _ _ => true | _ => false
    if err = 2 || (d.sys.scratchBad.contains line && (!op.writes || atomic)) then d.pieceDone a.id stMemError []
    else
      let r := op.apply red (d.scratchRead (64 * line) 64) (pa % 64)
      let d := if atomic then d.countSlice F.SHC_ATOM_CNT_V slice else d
      let d := if op.writes then
          { d.touchReads a with mem := { d.mem with scratch := bwriteN (d.scratchSpace (64 * line)) d.mem.scratch (64 * line) r.1 } }
        else d
      let d := if whole then { d with sys := { d.sys with scratchBad := d.sys.scratchBad.filter (· ≠ line) } } else d
      (d.companionServed a line).pieceDone a.id 0 r.2

/-- A tag parity error of way w (R235): the line that the way held is dropped, whatever its state; the others of its set have good tags. -/
def Dev.tagError (d : Dev) (line w : Nat) : Dev :=
  let sl := d.sliceOf line
  let q := sl / 32
  let set := d.sys.shc.filter (fun l => d.sameSet l.line line)
  let d := d.put F.SHC_WAY_RETIRED_WAYS q (sl % 32) (setBit (d.get F.SHC_WAY_RETIRED_WAYS q (sl % 32)) w true)
  let d := d.each set (fun d l => d.evictLine (if l.way = w then { l with dirty := false } else l))
  ((d.count F.SHC_UE_CNT_V q).put F.SHC_STATUS_TAG_ERR q 0 1).record .shcTagError (evSource q 8 (sl % 32)) []

/-- An access that its slice accepts is served, or waits for its line (R231, R234 to R239). `err` is what the checks of the slice find: 0 nothing,
1 corrected, 2 uncorrectable, 3 + w a tag parity error of way w. -/
def Dev.serve (d : Dev) (a : MemAcc) (pa err : Nat) : Dev :=
  let line := pa / 64
  let notOwner : Bool := match a.who with | .companion _ _ 6 => (d.sfFind line).all (fun e => !e.owned) | _ => false
  if notOwner then (d.hlViolation 0x04).pieceDone a.id stNotOwner []
  else
    match d.home pa with
    | .none => d.failPiece a stMemError
    | .scratch q off => if a.ahead then d.aheadRedundant a else d.serveScratch a q off pa err
    | .hbm p =>
      let q := p.chan / 32
      if 3 ≤ err then (d.tagError line (err - 3)).failPiece a stMemError
      else
        match d.findLine line with
        | some l =>
          let d := d.count F.SHC_HITS_V q
          if a.ahead then d.aheadRedundant a
          else if err = 2 then
            let d := (d.count F.SHC_UE_CNT_V q).put F.SHC_STATUS_UE q 0 1
            (d.putLine { l with poison := true, dirty := true }).pieceDone a.id stMemError []
          else
            let d := if err = 1 then (d.count F.SHC_CE_CNT_V q).put F.SHC_STATUS_CE q 0 1 else d
            d.serveLine a l pa
        | none =>
          let d := d.count F.SHC_MISSES_V q
          if a.piece.wholeLine && (d.redOf a pa).isNone then
            let (w, d) := d.makeRoom line
            d.serveLine a { line := line, way := w, data := List.replicate 64 0 } pa
          else if d.chanFailed p.chan then d.failPiece a stMemError
          else (d.updAcc a.id fun a => { a with st := .fill pa }).mchRequest p line false

/-- An earlier access to a line waits for its fill or its snoop. -/
def Dev.lineBusy (d : Dev) (line : Nat) : Option Bool :=
  (d.sys.accs.find? (fun a => match a.st with | .fill pa => pa / 64 = line | .snoop pa => pa / 64 = line | _ => false)).map
    (fun a => match a.st with | .fill _ => true | _ => false)

/-- The request comes from the companion. -/
def MemAcc.companion (a : MemAcc) : Bool := match a.who with | .companion _ _ _ => true | _ => false

/-- A write to a reduction region that is not aligned to 4 bytes, or whose length is not a multiple of 4 (R239); of a masked one, the bytes of each run. -/
def MemAcc.misreduces (a : MemAcc) : Bool :=
  match a.op with
  | .write bs => a.addr % 4 ≠ 0 || bs.length % 4 ≠ 0
  | .masked m _ => (List.range 16).any (fun i => bits m (4 * i + 3) (4 * i) ≠ 0 && bits m (4 * i + 3) (4 * i) ≠ 15)
  | _ => false

/-- A demand fetch joins the fill of a line that its core's own run-ahead fetch has asked for under another address (R203). -/
def Dev.joinsAhead (d : Dev) (a : MemAcc) (line : Nat) : Bool :=
  match a.who, a.op with
  | .stream c _, .read _ => !a.ahead && d.sys.accs.any (fun b => b.ahead && (match b.st with | .fill pa => pa / 64 = line | _ => false)
      && (match b.who with | .stream c' _ => c' = c | _ => false))
  | _, _ => false

/-- A home slice accepts an access (R231): behind an earlier access to the line that waits, after the snoop that Table 16-3 asks for, or now. A reduction that
R239 refuses ends before any of its lines is reduced. -/
def Dev.sliceAccept (d : Dev) (a : MemAcc) (pa err : Nat) : Dev :=
  let line := pa / 64
  let snooped := d.hl.snoops.any (fun (x : Snoop) => x.line = line && x.owned && !x.supplied)
  let back : Bool := match a.who with | .companion _ _ 6 => snooped | _ => false
  if back then
    -- R437: a WB_DIRTY supplies the data of the snoop of its line
    let data := match a.op with | .write bs => bs | _ => []
    let d := d.homeWrite line data
    let d := { d with hl := { d.hl with snoops := d.hl.snoops.map (fun (x : Snoop) => if x.line = line then { x with supplied := true } else x) } }
    (d.sfDrop line).pieceDone a.id 0 []
  else if (d.redOf a pa).isSome && a.misreduces then (d.countSlice F.SHC_RED_ERR_V (d.sliceOf line)).pieceDone a.id stMemError []
  else
  match d.lineBusy line with
  | some true =>
    let d := d.countSlice F.SHC_MISSES_V (d.sliceOf line)
    (if d.joinsAhead a line then d.countLate a else d).updAcc a.id fun a => { a with st := .fill pa }
  | some false => d.updAcc a.id fun a => { a with st := .snoop pa }
  | none =>
    if d.snooping line then d.updAcc a.id fun a => { a with st := .snoop pa }
    else
      let clean : Bool := match a.who with | .companion _ _ 7 => true | _ => false
      if clean then (d.sfDrop line).pieceDone a.id 0 [] else
      match (if a.companion then none else d.sfFind line) with
      | none => d.serve a pa err
      | some e =>
        if e.owned || a.op.writes then
          let (ok, d) := d.sendSnoop line e.addr a.op.writes e.owned
          if ok then d.updAcc a.id fun a => { a with st := .snoop pa }
          else
            let (bad, d) := d.snoopLost line e.owned
            if bad then d.failPiece a stMemError else d.serve a pa err
        else d.serve a pa err

/-- A write of FRE within one line takes effect at its home slice, as a reduction in a reduction region (R233, R238 to R240): false where it fails. -/
def Dev.slicePut (d : Dev) (pa : Nat) (bs : List Byte) : Bool × Dev :=
  let a : MemAcc := { id := 0, who := .other, addr := pa, op := .write bs, st := .slice pa }
  match d.home pa with
  | .none => (false, d)
  | .scratch q o =>
    if bitOf (d.get F.SHC_WAY_RETIRED_WAYS q (o / 64 % 32)) (15 - o / 6291456) then (false, d)
    else if (d.redOf a pa).isSome && a.misreduces then (false, d.countSlice F.SHC_RED_ERR_V (32 * q + o / 64 % 32))
    else
      let l := (a.op.apply (d.redOf a pa) (d.scratchRead (64 * (pa / 64)) 64) (pa % 64)).1
      let whole := a.op.wholeLine && (d.redOf a pa).isNone
      (true, { d with mem := { d.mem with scratch := bwriteN (d.scratchSpace (64 * (pa / 64))) d.mem.scratch (64 * (pa / 64)) l }
                      sys := { d.sys with scratchBad := if whole then d.sys.scratchBad.filter (· ≠ pa / 64) else d.sys.scratchBad } })
  | .hbm p =>
    match d.redOf a pa with
    | none => if d.chanFailed p.chan && (d.findLine (pa / 64)).isNone && bs.length ≠ 64 then (false, d) else (true, d.physWrite pa bs)
    | some _ =>
      if a.misreduces then (false, d.countSlice F.SHC_RED_ERR_V p.chan)
      else
        match d.physLine (pa / 64) with
        | none => (false, d)
        | some old => (true, d.physWrite pa (slice (a.op.apply (d.redOf a pa) old (pa % 64)).1 (pa % 64) bs.length))

/-- A read of FRE within one line at its home slice (R233, R240); none where it fails. -/
def Dev.sliceGet (d : Dev) (pa n : Nat) : Option (List Byte) × Dev :=
  match d.home pa with
  | .none => (none, d)
  | .scratch q o =>
    (if bitOf (d.get F.SHC_WAY_RETIRED_WAYS q (o / 64 % 32)) (15 - o / 6291456) || d.sys.scratchBad.contains (pa / 64) then none
     else some (d.scratchRead pa n), d)
  | .hbm _ =>
    let d := d.bringLine (pa / 64)
    (d.physRead pa n, d)

/-- Accesses waiting on a line, oldest first. -/
def Dev.waitingOn (d : Dev) (line : Nat) (fill : Bool) : List Nat :=
  (d.sys.accs.filter (fun a => match a.st with
    | .fill pa => fill && pa / 64 = line
    | .snoop pa => !fill && pa / 64 = line
    | _ => false)).map (·.id)

/-- A line arrives from HBM: it enters its slice, poisoned where it was uncorrectable, and the accesses that waited are served in their order
(R231, Table 10-8). The run-ahead fetch that brought it marks it (R203). -/
def Dev.fillDone (d : Dev) (line : Nat) (data : List Byte) (bad : Bool) : Dev :=
  let ids := d.waitingOn line true
  let d := if (d.findLine line).isSome then d
    else d.allocLine { line := line, data := data, dirty := bad, poison := bad, at_ := d.now }
  d.each ids fun d id =>
    match d.acc id, d.findLine line with
    | some a, some l =>
      match a.st with
      | .fill pa =>
        if a.ahead then
          let d := match a.who with
            | .stream c _ => if ids.head? = some id then d.putLine { l with mark := some c } else d
            | _ => d
          (d.aheadIssued a).pieceDone id 0 []
        else if bad && l.poison && a.op.writes && a.span ≠ 64 then d.pieceDone id stMemError []
        else d.serveLine { a with late := true } l pa
      | _ => d
    | _, _ => d

/-- Every access waiting for a line's fill ends with MEM_ERROR: its channel failed (R275). -/
def Dev.fillFails (d : Dev) (line : Nat) : Dev :=
  d.each (d.waitingOn line true) fun d id =>
    match d.acc id with
    | some a => d.failPiece a stMemError
    | none => d

/-- A snoop of a line has completed: the accesses that waited go on, in order; the first fails where the snoop was lost (R436 to R438). -/
def Dev.snoopResume (d : Dev) (line : Nat) (bad : Bool) : Dev :=
  let ids := d.waitingOn line false
  let d := match ids.head?.bind d.acc with
    | some a => if bad then d.failPiece a stMemError else d
    | none => d
  let d := d.each ids (fun d id => d.updAcc id fun a => match a.st with | .snoop pa => { a with st := .slice pa } | _ => a)
  d.each ids fun d id =>
    match d.acc id with
    | some a => (match a.st with | .slice pa => d.sliceAccept a pa 0 | _ => d)
    | none => d

/-- Accesses that waited for a page in motion, or for their bank, go on (R188, R210). -/
def Dev.resumeMotion (d : Dev) (dp : Nat) : Dev :=
  d.each (d.sys.accs.filter (fun a => a.st = .motion && a.at_ % 2 ^ 40 / 2097152 = dp)) (fun d a => d.beginAcc a)

/-- Injection into the meshes that an image switch stopped resumes (R34). -/
def Dev.resumeMesh (d : Dev) : Dev := d.each (d.sys.accs.filter (fun a => a.st = .mesh)) (fun d a => d.beginAcc a)

/-- Demand fetches whose core's own run-ahead fetch has ended go on (R203). -/
def Dev.resumeBehind (d : Dev) : Dev :=
  d.each (d.sys.accs.filter (fun a => a.st = .behind && !d.ownAhead a)) (fun d a => d.beginAcc a)

/-- An access translated under an entry of the granules named is still open (R189). -/
def MemAcc.under (a : MemAcc) (chip : Nat) (g : Nat → Bool) : Bool :=
  a.addr / 2 ^ 40 = chip && bits a.at_ 39 36 ≠ 0xF && g (a.at_ % 2 ^ 40 / 65536)
    && (match a.st with | .slice _ | .fill _ | .snoop _ | .capped _ | .bridge _ | .remote _ => true | .walk | .motion | .mesh | .behind | .done _ _ => false)

end Sys2Proof.Machine
end

