-- ==== Sys2Proof/Machine/StreamOps.lean ====
section
/-!
DEFINITION. Sys2Proof/Machine/StreamOps.lean: the stream unit SXU (R190 to R209): descriptors, gates, lines, the weight relay chain and
hardware prefetch.
-/

namespace Sys2Proof.Machine

/-! ### Descriptors (Table 08-3) -/

/-- Word i of a list of words. -/
def wordOf (ws : List Nat) (i : Nat) : Nat := ws.getD i 0

def Stream.kind (s : Stream) : Nat := bits (wordOf s.words 0) 7 0
def Stream.pfDepth (s : Stream) : Nat := bits (wordOf s.words 0) 15 8
def Stream.doneTap (s : Stream) : Nat := bits (wordOf s.words 0) 21 16
def Stream.doneEn (s : Stream) : Bool := bitOf (wordOf s.words 0) 22
def Stream.relEn (s : Stream) : Bool := bitOf (wordOf s.words 0) 23
def Stream.relTap (s : Stream) : Nat := bits (wordOf s.words 0) 29 24
def Stream.chain (s : Stream) : Nat := bits (wordOf s.words 0) 31 30
def Stream.chainEn (s : Stream) : Bool := bitOf (wordOf s.words 0) 32
def Stream.group (s : Stream) : Nat := bits (wordOf s.words 0) 42 33
def Stream.conv (s : Stream) : Nat := bits (wordOf s.words 0) 50 43
def Stream.src (s : Stream) : Nat := wordOf s.words 1
def Stream.dst (s : Stream) : Nat := wordOf s.words 2
def Stream.rowBytes (s : Stream) : Nat := bits (wordOf s.words 3) 31 0
def Stream.rows (s : Stream) : Nat := bits (wordOf s.words 3) 63 32
def Stream.srcStride (s : Stream) : Nat := bits (wordOf s.words 4) 31 0
def Stream.dstStride (s : Stream) : Nat := bits (wordOf s.words 4) 63 32
def Stream.bufRows (s : Stream) : Nat := bits (wordOf s.words 5) 15 0
def Stream.nbuf (s : Stream) : Nat := bits (wordOf s.words 5) 23 16
def Stream.tableRows (s : Stream) : Nat := bits (wordOf s.words 5) 63 32
def Stream.idx (s : Stream) : Nat := wordOf s.words 6

def kRead : Nat := 1
def kGather : Nat := 2
def kWrite : Nat := 3
def kRelay : Nat := 4

/-- The format a landed element is converted to (CONV of Table 08-3). -/
def Stream.fmt (s : Stream) : Option Fmt :=
  if s.conv = 2 then some .bf16 else if s.conv = 3 then some .fp16 else if s.conv = 4 then some .e4m3 else if s.conv = 5 then some .e5m2
  else none

/-- By how much a conversion narrows a row. -/
def Stream.narrow (s : Stream) : Nat := if s.conv = 2 || s.conv = 3 then 2 else if s.conv = 4 || s.conv = 5 then 4 else 1

/-- W: the width of a landed row. -/
def Stream.width (s : Stream) : Nat := s.rowBytes / s.narrow

/-- The local base and stride. -/
def Stream.localBase (s : Stream) : Nat := if s.kind = kWrite then s.src else s.dst
def Stream.localStride (s : Stream) : Nat := if s.kind = kWrite then s.srcStride else s.dstStride

/-- Buffers of a stream (R192). -/
def Stream.buffers (s : Stream) : Nat := if s.bufRows = 0 then 0 else ceilDiv s.rows s.bufRows

/-- The buffer of a row. -/
def Stream.bufOf (s : Stream) (r : Nat) : Nat := r / atLeast1 s.bufRows

/-- The rows of a buffer. -/
def Stream.rowsIn (s : Stream) (j : Nat) : Nat := min s.bufRows (s.rows - j * s.bufRows)

/-- The core-local address of row r (R192). -/
def Stream.rowLocal (s : Stream) (r : Nat) : Nat :=
  let j := s.bufOf r
  let k := if s.nbuf = 0 then j else j % s.nbuf
  s.localBase + k * s.bufRows * s.localStride + r % atLeast1 s.bufRows * s.localStride

/-- Local bytes of a stream's buffer slots: from its base to the end of the last row of the last slot, whether or not a row uses it (R192, R197). -/
def Stream.extent (s : Stream) : Nat :=
  let rows := (if s.nbuf = 0 then s.buffers else s.nbuf) * s.bufRows
  if rows = 0 then 0 else (rows - 1) * s.localStride + (if s.kind = kWrite then s.rowBytes else s.width)

/-- The chain list of a core's quarter (SECT_CHAIN): LCIs in order. -/
def Dev.chainList (d : Dev) (c n : Nat) : List Nat := ((d.img.inForce.map (·.chains)).getD []).getD (4 * (c / 68) + n) []

/-- The LCI of a core in force. -/
def Dev.lciOf (d : Dev) (c : Nat) : Option Nat := if (d.bindOf c).role = 1 then some (d.bindOf c).lci else none

/-- The place of a core in a chain: 0 is its head (R206). -/
def Dev.chainPos (d : Dev) (c n : Nat) : Option Nat :=
  match d.lciOf c with
  | some l => (d.chainList c n).findIdx? (· = l)
  | none => none

/-- The LCI of the next member; none for the last one, and for a core that is no member (R209). -/
def Dev.chainNext (d : Dev) (c n : Nat) : Option Nat := (d.chainPos c n).bind (fun p => (d.chainList c n)[p + 1]?)

/-- The checks of a descriptor at acceptance (R197, R206): the code of Table 08-4, 0 where it passes. -/
def Dev.streamCheck (d : Dev) (c : Nat) (s : Stream) : Nat :=
  let w0 := wordOf s.words 0
  let inbound := s.kind = kRead || s.kind = kGather || s.kind = kRelay
  let glob := fun (a : Nat) => a / 2 ^ 57 = 0
  let bad :=
    !(1 ≤ s.kind && s.kind ≤ 4) || 64 < s.pfDepth || ((s.kind = kWrite || s.kind = kRelay) && s.pfDepth ≠ 0)
    || (s.chainEn && s.kind ≠ kRead) || d.groups ≤ s.group
    || !(s.conv = 0 || ((s.conv = 2 || s.conv = 3 || s.conv = 4 || s.conv = 5) && (s.kind = kRead || s.kind = kGather)))
    || bits w0 63 51 ≠ 0 || bits (wordOf s.words 5) 31 24 ≠ 0
    || (s.kind = kRelay && s.src ≠ 0) || (s.kind ≠ kGather && (s.tableRows ≠ 0 || s.idx ≠ 0))
    || ((s.kind = kRead || s.kind = kGather) && !glob s.src) || (s.kind = kWrite && !glob s.dst)
    || s.src % 4 ≠ 0 || s.dst % 4 ≠ 0 || s.srcStride % 4 ≠ 0 || s.dstStride % 4 ≠ 0 || s.rowBytes % 4 ≠ 0
    || s.rowBytes = 0 || 16777216 < s.rowBytes || s.rows = 0 || s.bufRows = 0
    || (inbound && s.dstStride < s.width) || (s.kind = kWrite && s.dstStride < s.rowBytes)
    || (s.kind = kGather && (s.tableRows = 0 || s.idx % 4 ≠ 0))
  if bad then 0x01
  else if !d.localOk c s.localBase s.extent || (s.kind = kGather && !d.localOk c s.idx (4 * s.rows)) then 0x02
  else
    let pos := d.chainPos c s.chain
    let head := pos = some 0
    let member := pos.isSome && !head
    if (s.kind = kRead && s.chainEn && !head) || (s.kind = kRelay && !member) then 0x03 else 0

/-! ### Contexts -/

/-- An empty context. -/
def noStream : Stream := { words := [], desc := 0, id := 0 }

/-- Context k of a core. -/
def Dev.ctx (d : Dev) (c k : Nat) : Option Stream := ((d.core c).sxu.ctx.find? (fun e => e.1 = k)).map (·.2)

/-- The stream of a tag; none once it has been discarded (R199). -/
def Dev.tagCtx (d : Dev) (c : Nat) (t : SxuTag) : Option Stream := (d.ctx c t.ctx).filter (fun s => s.id = t.sid)

/-- Replace context k of a core. -/
def Dev.setCtx (d : Dev) (c k : Nat) (s : Stream) : Dev := d.updSxu c fun x => { x with ctx := mset noStream x.ctx k s }

/-- SXU_STATUS shows contexts and tags. -/
def Dev.showSxu (d : Dev) (c : Nat) : Dev :=
  let x := (d.core c).sxu
  ((d.put F.SXU_STATUS_CONTEXTS c 0 x.ctx.length).put F.SXU_STATUS_TAGS c 0 x.tags.length).put F.SXU_STATUS_BUSY c 0
    (b2n (!x.ctx.isEmpty || !x.tags.isEmpty))

/-- Keep the lowest failing row, with its lowest code (R198). -/
def worse (e : Option (Nat × Nat)) (row code : Nat) : Option (Nat × Nat) :=
  match e with
  | none => some (row, code)
  | some (r, k) => if row < r then some (row, code) else if row = r then some (r, min k code) else some (r, k)

/-- A stream ends (R194, R198): word 7 is written back, and the pulses not yet sent are sent. -/
def Dev.endStream (d : Dev) (c k : Nat) (s : Stream) : Dev :=
  let (row, code) := s.err.getD (0, 0)
  let d := d.localWrite c (s.desc + 56) (leBytes 8 (code + 256 + row * 2 ^ 32))
  let left := s.buffers - s.pulsed
  let d := if s.doneEn && left ≠ 0 then d.tapAdd c s.doneTap (-(left : Int)) else d
  let d := if code ≠ 0 then (d.count F.SXU_ERR_CNT_V c).record .streamError (coreSource c 5) [] else d
  d.updSxu c fun x => { x with ctx := x.ctx.filter (fun e => e.1 ≠ k) }

/-- Pulse the buffers that are complete, in ascending order, and end the stream with its last one (R194). `n` bounds the buffers looked at. -/
def Dev.pulseBuffers (c k : Nat) : Nat → Dev → Dev
  | 0, d => d
  | n + 1, d =>
    match d.ctx c k with
    | none => d
    | some s =>
      let j := s.pulsed
      if s.buffers ≤ j || mget 0 s.doneBytes j < s.rowsIn j * s.rowBytes then d
      else if j + 1 = s.buffers then d.endStream c k s
      else
        let d := d.setCtx c k { s with pulsed := j + 1, doneBytes := s.doneBytes.filter (fun e => e.1 ≠ j) }
        Dev.pulseBuffers c k n (if s.doneEn then d.pulse c s.doneTap else d)

/-- Bytes of a row have landed, been acknowledged or failed (R194, R198). -/
def Dev.rowBytesDone (d : Dev) (c k row n code : Nat) : Dev :=
  match d.ctx c k with
  | none => d
  | some s =>
    let j := s.bufOf row
    let s := { s with doneBytes := mset 0 s.doneBytes j (mget 0 s.doneBytes j + n), err := if code = 0 then s.err else worse s.err row code }
    Dev.pulseBuffers c k s.buffers (d.setCtx c k s)

/-! ### Demand lines (R193, R195) -/

/-- The table row that GATHER row r names, or the code of a failed row (R192, R198). -/
def Dev.gatherRow (d : Dev) (c : Nat) (s : Stream) (r : Nat) : Nat ⊕ Nat :=
  if d.localBad c (s.idx + 4 * r) 4 then .inr stMemError
  else
    let i := signed 32 (leNat (d.localRead c (s.idx + 4 * r) 4))
    if i < 0 || (s.tableRows : Int) ≤ i then .inr 0x07 else .inl i.toNat

/-- The global address of row r (R192). -/
def Dev.rowGlobal (d : Dev) (c : Nat) (s : Stream) (r : Nat) : Nat ⊕ Nat :=
  if s.kind = kGather then (match d.gatherRow c s r with | .inl i => .inl (s.src + i * s.srcStride) | .inr e => .inr e)
  else if s.kind = kWrite then .inl (s.dst + r * s.dstStride)
  else .inl (s.src + r * s.srcStride)

/-- A context can issue its next demand line: it has one, and its buffer has passed the gate. -/
def Stream.wantsTag (s : Stream) : Bool :=
  s.kind ≠ kRelay && s.kind ≠ 0 && s.row < s.rows && (!s.relEn || s.bufOf s.row < s.gated)

/-- A tag that no line holds. -/
def Sxu.freeTag (x : Sxu) : Option Nat := (List.range 256).find? (fun t => !x.tags.any (fun u => u.tag = t))

/-- Issue the next demand line of a context (R195, R198). A row whose index is out of range fails whole. -/
def Dev.issueLine (d : Dev) (c k tag : Nat) : Dev :=
  match d.ctx c k with
  | none => d
  | some s =>
    match d.rowGlobal c s s.row with
    | .inr code => (d.setCtx c k { s with row := s.row + 1, off := 0 }).rowBytesDone c k s.row s.rowBytes code
    | .inl g =>
      let a := g + s.off
      let n := min (s.rowBytes - s.off) (64 - a % 64)
      let s := { s with top := s.row + 1 }
      let s' := if s.off + n = s.rowBytes then { s with row := s.row + 1, off := 0 } else { s with off := s.off + n }
      let d := d.setCtx c k s'
      let t : SxuTag := { tag := tag, ctx := k, sid := s.id, row := s.row, off := s.off, len := n, access := 0 }
      if s.kind = kWrite then d.updSxu c fun x => { x with tags := x.tags ++ [{ t with reading := true }] }
      else
        let (id, d) := d.access (.stream c tag) (some c) (c / 68) a (.read n)
        d.updSxu c fun x => { x with tags := x.tags ++ [{ t with access := id }] }

/-- Give free tags to contexts in turn (R69, R195), at most n lines. -/
def Dev.pump (c : Nat) : Nat → Dev → Dev
  | 0, d => d
  | n + 1, d =>
    let x := (d.core c).sxu
    if d.flag F.SXU_CTL_PAUSE c then d
    else
      match x.freeTag with
      | none => d
      | some tag =>
        let ready := fun k => ((d.ctx c k).map Stream.wantsTag).getD false
        match ((List.range 16).map (fun i => (x.ptr + i) % 16)).find? ready with
        | none => d
        | some k => Dev.pump c n ((d.updSxu c fun x => { x with ptr := (k + 1) % 16 }).issueLine c k tag)

/-- Issue demand lines while tags are free, and show the unit's state. -/
def Dev.pumpAll (d : Dev) (c : Nat) : Dev := (Dev.pump c 256 d).showSxu c

/-- SXU accepts a descriptor at a core-local address (R190, R197, R204); false where all 16 contexts are busy. -/
def Dev.acceptStream (d : Dev) (c a : Nat) : Bool × Dev :=
  let x := (d.core c).sxu
  match (List.range 16).find? (fun k => !x.ctx.any (fun e => e.1 = k)) with
  | none => (false, d)
  | some k =>
    let bs := d.localRead c a 64
    let s : Stream := { words := (List.range 7).map (fun i => leAt bs (8 * i) 8), desc := a, id := x.nextId }
    let code := d.streamCheck c s
    let s := { s with depth := s.pfDepth, gated := 0, err := if code = 0 then none else some (0, code) }
    let d := d.updSxu c fun x => { x with nextId := x.nextId + 1 }
    if code ≠ 0 then (true, ((d.setCtx c k s).endStream c k s).showSxu c)
    else (true, (d.setCtx c k { s with serves := if s.chainEn then some (272 * s.id + c) else none }).pumpAll c)

/-- A buffer passes its gate where REL_TAP is at zero; SXU adds 1 to the counter (R193). -/
def Dev.passGate (d : Dev) (c k : Nat) : Dev :=
  match d.ctx c k with
  | none => d
  | some s =>
    if s.relEn && s.gated < s.buffers && d.tap c s.relTap ≤ 0 then
      ((d.setCtx c k { s with gated := s.gated + 1 }).tapAdd c s.relTap 1).pumpAll c
    else d

/-! ### Landing -/

/-- Count the flushes and saturations of conversions against a group (R111). -/
def Dev.countConv (d : Dev) (g flushes sats : Nat) : Dev :=
  let d := if flushes = 0 then d else d.count F.NUM_GFLUSH_V 0 g flushes
  if sats = 0 then d else d.count F.NUM_GSAT_V 0 g sats

/-- Bytes of a line as they land: each FP32 element converted under CONV (R196). -/
def Dev.convertLine (d : Dev) (s : Stream) (bs : List Byte) : List Byte × Dev :=
  match s.fmt with
  | none => (bs, d)
  | some f =>
    let cs := (List.range (bs.length / 4)).map (fun i => f.encode (F32.val (BitVec.ofNat 32 (leAt bs (4 * i) 4))))
    (cs.flatMap (fun k => leBytes (4 / s.narrow) k.v),
      d.countConv s.group (cs.filter (·.flush)).length (cs.filter (·.sat)).length)

/-- A landed row's lines become ready to move on once the whole row has landed; a row with a failed line travels as a failed row, with the lowest of its codes,
which is the one the head reports (R198, R207, R208). -/
def Sxu.readyRow (x : Sxu) (chain ord row rowBytes width : Nat) : Sxu :=
  let mine := fun (l : RelayLine) => l.chain = chain && l.ord = ord && l.row = row && !l.ready
  let ls := x.relay.filter mine
  let got := (ls.map (fun l => if l.fail = 0 then l.data.length else l.off)).foldl (· + ·) 0
  if got < width then x
  else
    match ls.filter (fun l => l.fail ≠ 0) with
    | [] => { x with relay := x.relay.map (fun l => if mine l then { l with ready := true } else l) }
    | f :: fs =>
      let code := fs.foldl (fun n l => min n l.fail) f.fail
      { x with relay := x.relay.filter (fun l => !mine l) ++
          [{ f with off := 0, rowBytes := rowBytes, data := [], fail := code, ready := true }] }

/-- Keep a landed line of a chain for the next member (R206 to R208); for a failed line its length stands in `off`. The last member keeps nothing (R209). -/
def Dev.relayKeep (d : Dev) (c : Nat) (s : Stream) (row off : Nat) (data : List Byte) (n fail : Nat) : Dev :=
  if (d.chainNext c s.chain).isNone then d
  else
    d.updSxu c fun x =>
      let ord := s.serves.getD 0
      let l : RelayLine := { chain := s.chain, ord := ord, rowBytes := s.rowBytes, rows := s.rows, conv := s.conv, row := row
                             off := if fail = 0 then off else n, data := data, fail := fail }
      { x with relay := x.relay ++ [l] }.readyRow s.chain ord row s.rowBytes s.width

/-- The hop buffer of a chain holds its 16 lines (R208). DESIGN CHOICE: while it does, no further line of the chain lands at this core, since the manual says only
that the sending member waits and that the chain runs at the pace of its slowest member (log 68). -/
def Sxu.hopFull (x : Sxu) (chain : Nat) : Bool := 16 ≤ (x.relay.filter (fun l => l.chain = chain && l.ready)).length

/-- A tag's line is finished: the tag and its access go (R195). -/
def Dev.freeTagOf (d : Dev) (c : Nat) (t : SxuTag) : Dev :=
  (if t.reading then d else d.dropAcc t.access).updSxu c fun x => { x with tags := x.tags.filter (fun u => u.tag ≠ t.tag) }

/-- The line of a tag lies in a core window of this chip. -/
def Dev.windowLine (d : Dev) (t : SxuTag) : Bool := (d.acc t.access).any (fun a => a.addr / 2 ^ 40 = d.chip && bits a.addr 39 36 = 0xF)

/-- What the check of a core window's store found when a line was read there (R227, R228): the line's status. -/
def Dev.windowRead (d : Dev) (t : SxuTag) (code err : Nat) : Nat × Dev :=
  match (if d.windowLine t then d.acc t.access else none) with
  | none => (code, d)
  | some a =>
    match d.lciCore (bits a.addr 35 34) (bits a.addr 33 28) with
    | none => (code, d)
    | some k =>
      let off := a.addr % 2 ^ 23
      let d := d.storeError k (if bitOf a.addr 27 then .ns off else .stg off) a.op.len err
      (if err = 2 then stMemError else code, d)

/-- A line's data land, or its write is acknowledged (R194 to R198). A WRITE line first reads its local bytes. `err` is what a store's check finds (R227 to R229,
Table 09-1): of the local bytes that a WRITE line reads, of the core window that a line was read from, or of the word that a narrow landing in NS merges into.
A line of a chain waits for room in the hop buffer (R208). -/
def Dev.landLine (d : Dev) (c tag err : Nat) : Dev :=
  match (d.core c).sxu.tags.find? (fun t => t.tag = tag && !t.ahead) with
  | none => d
  | some t =>
    match d.tagCtx c t with
    | none =>
      if t.reading || ((d.acc t.access).map (fun a => match a.st with | .done _ _ => true | _ => false)).getD true then
        (d.freeTagOf c t).pumpAll c
      else d
    | some s =>
      if t.reading then
        let a := s.rowLocal t.row + t.off
        let (bad, d) := d.readError c a t.len err
        let (bs, d) := d.localSpoilt c a t.len t.touched
        if bad then ((d.freeTagOf c t).rowBytesDone c t.ctx t.row t.len stMemError).pumpAll c
        else
          match d.rowGlobal c s t.row with
          | .inr code => ((d.freeTagOf c t).rowBytesDone c t.ctx t.row t.len code).pumpAll c
          | .inl g =>
            let (id, d) := d.access (.stream c tag) (some c) (c / 68) (g + t.off) (.write bs)
            d.updSxu c fun x => { x with tags := x.tags.map (fun u => if u.tag = tag then { u with reading := false, access := id } else u) }
      else
        match (d.acc t.access).map (fun a => (a.st, a.touched)) with
        | some (AccState.done code bs, touched) =>
          if s.chainEn && (d.core c).sxu.hopFull s.chain then d else
          let (code, d) := if s.kind = kWrite || code ≠ 0 then (code, d) else d.windowRead t code err
          let werr := if d.windowLine t then 0 else err
          let d := d.freeTagOf c t
          let d := if s.kind = kWrite then d
            else if code = 0 then
              let (bs, d) := d.spoil bs touched.contains
              let (out, d) := d.convertLine s bs
              let d := d.localWrite c (s.rowLocal t.row + t.off / s.narrow) out werr
              if s.chainEn then d.relayKeep c s t.row (t.off / s.narrow) out 0 0 else d
            else if s.chainEn then d.relayKeep c s t.row 0 [] (t.len / s.narrow) code
            else d
          (d.rowBytesDone c t.ctx t.row t.len code).pumpAll c
        | _ => d

/-! ### The weight relay chain (R206 to R209) -/

/-- A line of a chain arrives at a member that has a RELAY for it (R207, R208): it lands, or its row fails. -/
def Dev.relayLand (d : Dev) (m k : Nat) (s : Stream) (l : RelayLine) : Dev :=
  if l.fail = 0 then
    let d := d.localWrite m (s.rowLocal l.row + l.off) l.data
    (d.relayKeep m s l.row l.off l.data 0 0).rowBytesDone m k l.row l.data.length 0
  else (d.relayKeep m s l.row 0 [] s.width l.fail).rowBytesDone m k l.row s.rowBytes l.fail

/-- The RELAY of a chain that takes the lines of a head's stream: the one that carries it, or else the oldest one that carries none yet, since members take the
head's streams and their own RELAYs in issue order (R206). -/
def Sxu.relayFor (x : Sxu) (chain ord : Nat) : Option (Nat × Stream) :=
  let mine := x.ctx.filter (fun e => e.2.kind = kRelay && e.2.chain = chain)
  match mine.find? (fun e => e.2.serves = some ord) with
  | some e => some e
  | none => (mine.filter (fun e => e.2.serves.isNone)).foldl (fun b e => match b with
      | some o => if e.2.id < o.2.id then some e else b
      | none => some e) none

/-- Member m takes a line of a chain, or cannot (none): its own hop buffer is full, it has no RELAY for the line, or its gate holds the row back (R207 to R209).
A RELAY of another geometry ends, and the rows of that stream pass through. -/
def Dev.relayTake (d : Dev) (m n : Nat) (l : RelayLine) : Option Dev :=
  let x := (d.core m).sxu
  let pass := fun (d : Dev) => d.updSxu m fun x => if (d.chainNext m n).isNone then x else { x with relay := x.relay ++ [l] }
  if x.hopFull n then none
  else if x.passing.contains (n, l.ord) then some (pass d)
  else
    match x.relayFor n l.ord with
    | none => none
    | some (k, s) =>
      if s.rowBytes ≠ l.rowBytes || s.rows ≠ l.rows || s.conv ≠ l.conv then
        let d := (d.endStream m k { s with err := some (0, 0x04) }).updSxu m fun x => { x with passing := x.passing ++ [(n, l.ord)] }
        some ((pass d).showSxu m)
      else if s.relEn && s.gated ≤ s.bufOf l.row then none
      else
        let s := { s with serves := some l.ord }
        some (((d.setCtx m k s).relayLand m k s l).showSxu m)

/-- The oldest ready line of a chain moves from a core to the next member, by the binding in force, once that can take it (R207 to R209). A core that is not, or no
longer, followed by a member forwards nothing. -/
def Dev.relayHop (d : Dev) (c n : Nat) : Dev :=
  if d.meshHeld (c / 68) then d else
  match (d.core c).sxu.relay.find? (fun l => l.chain = n && l.ready) with
  | none => d
  | some l =>
    let gone := fun (d : Dev) => d.updSxu c fun x => { x with relay := x.relay.erase l }
    match d.chainNext c n with
    | none => gone d
    | some lci =>
      match (d.lciCore (c / 68) lci).bind (fun m => (gone d).relayTake m n l) with
      | some d => d
      | none => d.count F.SXU_RELAY_WAIT_V c

/-! ### Prefetch (R200 to R204) -/

/-- The first row and the end of a context's window (R200). -/
def Stream.window (s : Stream) : Nat × Nat :=
  (s.top, min s.rows (s.top + ceilDiv (4096 * s.depth) (atLeast1 s.rowBytes)))

/-- The next line of the window to run ahead for: its row, offset and line address; none where the window is exhausted. At most n places are
looked at. -/
def Dev.nextAhead (d : Dev) (c : Nat) (s : Stream) : Nat → Nat → Nat → Option (Nat × Nat × Nat)
  | 0, _, _ => none
  | n + 1, row, off =>
    let w := s.window
    let (row, off) := if row < w.1 then (w.1, 0) else (row, off)
    if w.2 ≤ row then none
    else
      match d.rowGlobal c s row with
      | .inr _ => Dev.nextAhead d c s n (row + 1) 0
      | .inl g =>
        if s.rowBytes ≤ off then Dev.nextAhead d c s n (row + 1) 0
        else
          let a := g + off
          let len := 64 - a % 64
          let skip := s.ahead.contains (a / 64) || s.snared.contains (a / 65536) || bits a 39 36 = 0xF
          if skip then Dev.nextAhead d c s n row (off + len) else some (row, off, a / 64)

/-- SXU issues a run-ahead fetch of a context (R200 to R202). -/
def Dev.issueAhead (d : Dev) (c k : Nat) : Dev :=
  let x := (d.core c).sxu
  let held := (x.tags.filter (·.ahead)).length
  match d.ctx c k, x.freeTag with
  | some s, some tag =>
    if d.flag F.SXU_CTL_PAUSE c || s.depth = 0 || !(s.kind = kRead || s.kind = kGather) || min 256 (d.get F.SXU_PF_CTL_MAX_TAGS c) ≤ held then d
    else
      let w := s.window
      let n := (w.2 - w.1) * (s.rowBytes / 64 + 2) + 1
      match d.nextAhead c s n s.pfRow s.pfOff with
      | none => d
      | some (row, off, line) =>
        let d := d.setCtx c k { s with pfRow := row, pfOff := off, ahead := s.ahead ++ [line] }
        let t : SxuTag := { tag := tag, ctx := k, sid := s.id, row := row, off := off, len := 64, access := d.sys.nextAcc, ahead := true }
        let d := d.updSxu c fun x => { x with tags := x.tags ++ [t] }
        ((d.access (.stream c tag) (some c) (c / 68) (64 * line) (.read 64) true).2).showSxu c
  | _, _ => d

/-- A run-ahead line has arrived in its home slice; its tag is freed (R201). -/
def Dev.aheadFilled (d : Dev) (c tag : Nat) : Dev :=
  match (d.core c).sxu.tags.find? (fun t => t.tag = tag && t.ahead) with
  | none => d
  | some t =>
    match (d.acc t.access).map MemAcc.st with
    | none | some (.done _ _) => (d.freeTagOf c t).pumpAll c
    | _ => d

/-- Tags that run-ahead fetches have freed are offered to the contexts (R195). -/
def Dev.offerTags (d : Dev) : Dev :=
  d.each (d.cores.filter (fun e => e.2.sxu.freed)) (fun d e => (d.updSxu e.1 fun x => { x with freed := false }).pumpAll e.1)

/-- The tuning of effective depths after 1,024 run-ahead fetches (R204). -/
def Dev.tuneAhead (d : Dev) (c : Nat) : Dev :=
  let x := (d.core c).sxu
  if x.ivIssued < 1024 then d
  else
    let auto := d.flag F.SXU_PF_CTL_AUTO c
    let change := fun (s : Stream) =>
      if !auto || s.pfDepth = 0 then s
      else if 128 < x.ivLate then { s with depth := min 64 (2 * s.depth) }
      else if 256 < x.ivUnused then { s with depth := max 1 (s.depth / 2) }
      else s
    d.updSxu c fun x => { x with ctx := x.ctx.map (fun e => (e.1, change e.2)), ivIssued := 0, ivLate := 0, ivUnused := 0 }

/-- Write n free bytes at a core-local address. -/
def Dev.freeLocal (d : Dev) (c a : Nat) : Nat → Dev
  | 0 => d
  | n + 1 => let (v, d) := d.fresh 8; Dev.freeLocal (d.localWrite c a [BitVec.ofNat 8 v]) c (a + 1) n

/-- ABORT (R199): every context goes without pulse or write-back, and the local bytes of its unfinished buffers become undefined. Tags whose
lines are in flight are held until they return. -/
def Dev.abortStreams (d : Dev) (c : Nat) : Dev :=
  let x := (d.core c).sxu
  let d := d.each x.ctx fun d e =>
    let s := e.2
    if s.kind = kWrite then d
    else
      let open_ := if s.relEn then s.gated else s.buffers
      let rows := (List.range s.rows).filter (fun r => s.pulsed ≤ s.bufOf r && s.bufOf r < open_)
      d.each rows (fun d r => d.freeLocal c (s.rowLocal r) s.width)
  let d := d.updSxu c fun x =>
    { x with ctx := [], relay := x.relay.filter (fun l => x.passing.contains (l.chain, l.ord)), tags := x.tags.filter (fun t => !t.reading) }
  d.showSxu c

end Sys2Proof.Machine
end

