-- ==== Sys2Proof/Machine/DmaOps.lean ====
section
/-!
DEFINITION. Sys2Proof/Machine/DmaOps.lean: the DMA engine of a core (R212 to R223) with the sending side of the KV roll (R166, R171, R220), and
MXFP8 blocks (R166, R302).
-/

namespace Sys2Proof.Machine

/-! ### MXFP8 blocks -/

/-- 32 BF16 elements as one MX block of a KV roll (R166): its scale, its elements and the flushes and saturations counted. A block whose largest
magnitude is nonzero and below 2^-116 is all zeros. -/
def kvBlock (vs : List FVal) : Nat × List Nat × Nat × Nat :=
  let small := !vs.any FVal.special && (match (vs.filterMap FVal.flog2).max? with | some l => decide (l < -116) | none => false)
  if small then (0, vs.map (fun _ => 0), (vs.filterMap FVal.flog2).length, 0)
  else
    let b := mxBlock .mxe4m3 vs
    (b.1, b.2.map (·.v), (b.2.filter (·.flush)).length, (b.2.filter (·.sat)).length)

/-- The BF16 values of landed bytes. -/
def bf16Vals (bs : List Byte) : List FVal := (List.range (bs.length / 2)).map (fun i => Fmt.bf16.decode (leAt bs (2 * i) 2))

/-- A block header (Table 11-10) with its CRC over the packet data, computed with the field zero. -/
def blockData (fcode elem epoch rank basis row0 count group : Nat) (body : List Byte) : List Byte :=
  let h := leBytes 1 fcode ++ leBytes 1 elem ++ leBytes 2 epoch ++ leBytes 1 rank ++ leBytes 1 basis ++ leBytes 1 row0 ++ leBytes 1 count
    ++ leBytes 2 body.length ++ leBytes 2 group
  h ++ leBytes 4 (crc32 (h ++ leBytes 4 0 ++ body)).toNat ++ body

/-- Landed BF16 bytes as an MXFP8 packet's data, with the flushes and saturations counted (R166, R302). -/
def kvEncode (group : Nat) (bs : List Byte) : List Byte × Nat × Nat :=
  let vs := bf16Vals bs
  let blocks := (List.range (vs.length / 32)).map (fun i => kvBlock ((vs.drop (32 * i)).take 32))
  let body := blocks.flatMap (fun b => b.2.1.flatMap (leBytes 1)) ++ blocks.flatMap (fun b => leBytes 1 b.1)
  let pad := (4 - body.length % 4) % 4
  (blockData 0x06 0 0 0 0 0 blocks.length group (body ++ List.replicate pad 0),
    (blocks.map (fun b => b.2.2.1)).foldl (· + ·) 0, (blocks.map (fun b => b.2.2.2)).foldl (· + ·) 0)

/-- The BF16 bytes that an MXFP8 body of count blocks expands to (R166). -/
def kvExpand (count : Nat) (body : List Byte) : List Byte :=
  (List.range (32 * count)).flatMap (fun i =>
    leBytes 2 (Fmt.bf16.encode ((Fmt.mxe4m3.decode (leAt body i 1)).mxScale (leAt body (32 * count + i / 32) 1))).v)

/-! ### Descriptors (Table 08-6) -/

def DmaJob.opc (j : DmaJob) : Nat := bits (wordOf j.words 0) 7 0
def DmaJob.tap (j : DmaJob) : Nat := bits (wordOf j.words 0) 21 16
def DmaJob.tapEn (j : DmaJob) : Bool := bitOf (wordOf j.words 0) 22
def DmaJob.path (j : DmaJob) : Nat := bits (wordOf j.words 0) 25 24
def DmaJob.wire (j : DmaJob) : Nat := bits (wordOf j.words 0) 33 26
def DmaJob.group (j : DmaJob) : Nat := bits (wordOf j.words 0) 43 34
def DmaJob.src (j : DmaJob) : Nat := wordOf j.words 1
def DmaJob.dst (j : DmaJob) : Nat := wordOf j.words 2
def DmaJob.len (j : DmaJob) : Nat := bits (wordOf j.words 3) 31 0

/-- The KV roll path. -/
def DmaJob.kv (j : DmaJob) : Bool := j.opc = 1 && j.path = 1

/-- A core-local address. -/
def isLocalAddr (a : Nat) : Bool := a / 2 ^ 63 = 1

/-- The checks of R213, R219 and R220 (R221): the code of Table 08-4, 0 where the descriptor passes. -/
def Dev.dmaCheck (d : Dev) (c : Nat) (j : DmaJob) : Nat :=
  let w0 := wordOf j.words 0
  let addrOk := fun (a : Nat) => isLocalAddr a || a / 2 ^ 57 = 0
  let bad :=
    !(j.opc = 1 || j.opc = 2) || bitOf w0 23 || 2 ≤ j.path || !(j.wire = 0 || (j.wire = 6 && j.path = 1)) || bits w0 62 44 ≠ 0
    || d.groups ≤ j.group
    || (j.opc = 2 && (j.src ≠ 0 || j.dst ≠ 0 || j.len ≠ 0))
    || (j.opc = 1 && (!addrOk j.src || !addrOk j.dst))
    || (j.kv && (isLocalAddr j.dst || bits j.dst 39 36 ≠ 0xF || j.dst / 2 ^ 40 = d.chip || j.len < 64))
    || (j.kv && j.wire = 6 && ((j.len - 64) % 64 ≠ 0 || j.src % 64 ≠ 0 || j.dst % 64 ≠ 0))
  if bad then 0x01
  else if j.opc = 1 && ((isLocalAddr j.src && !d.localOk c j.src j.len) || (isLocalAddr j.dst && !d.localOk c j.dst j.len)) then 0x02
  else 0

/-- Bytes from a core-local address to the end of its store; 0 where it lies in none (R145). -/
def Dev.localRoom (d : Dev) (c a : Nat) : Nat :=
  match d.localAt c a with
  | none => 0
  | some (.stg o) => 0x200000 - o
  | some (.ns o) => d.nsSize c - o

/-- The lowest offset of a byte of a COPY that lies outside R145, at its source or its destination (R221). -/
def Dev.dmaOutside (d : Dev) (c : Nat) (j : DmaJob) : Nat :=
  let room := fun (a : Nat) => if isLocalAddr a then min (d.localRoom c a) j.len else j.len
  min (room j.src) (room j.dst)

/-! ### Channels (Table 08-7) -/

/-- Change the DMA engine of a core. -/
def Dev.updDma (d : Dev) (c : Nat) (f : Dma → Dma) : Dev := d.updCore c fun k => { k with dma := f k.dma }

/-- The channel that the engine of a core serves; 0x1F for none. -/
def Dev.dmaActive (d : Dev) (c : Nat) : Nat := d.get F.DMA_STATUS_ACTIVE c

/-- BUSY of DMA_STATUS (Table 08-14). -/
def Dev.showDma (d : Dev) (c : Nat) : Dev :=
  d.put F.DMA_STATUS_BUSY c 0 (b2n (d.dmaActive c ≠ 0x1F || (d.core c).dma.unacked.any (fun u => u.2 ≠ 0)))

/-- The address of the descriptor at HEAD of a channel (R212). -/
def Dev.dmaDescAt (d : Dev) (c ch : Nat) : Nat := d.get F.DMA_RING_BASE_V c ch + 32 * d.get F.DMA_RING_HEAD_HEAD c ch

/-- The engine becomes free (Table 08-7). -/
def Dev.dmaFree (d : Dev) (c : Nat) : Dev :=
  ((d.updDma c fun m => { m with reading := false, rung := false, job := none, backs := 0, backBad := false }).put
    F.DMA_STATUS_ACTIVE c 0 0x1F).showDma c

/-- The read or write-back of a descriptor failed (R222). -/
def Dev.dmaRingError (d : Dev) (c ch : Nat) : Dev :=
  let d := d.put F.DMA_RING_ERR_CH c 0 (setBit (d.get F.DMA_RING_ERR_CH c) ch true)
  (d.record .dmaRingError (coreSource c 6) []).dmaFree c

/-- Read the descriptor at HEAD (R214, R216); one in global memory is fetched. -/
def Dev.dmaFetch (d : Dev) (c ch : Nat) : Dev :=
  let d := d.updDma c fun m => { m with reading := true, rung := false, job := none, backs := 0, backBad := false }
  let a := d.dmaDescAt c ch
  if isLocalAddr a then d else (d.access (.dmaDesc c ch) (some c) (c / 68) a (.read 32)).2

/-- A doorbell for a channel (R215, Table 08-7). -/
def Dev.dmaRing (d : Dev) (c ch : Nat) : Dev :=
  if d.flag F.DMA_CTL_DISABLE c || bitOf (d.get F.DMA_RING_ERR_CH c) ch then d
  else if d.dmaActive c = ch then d.updDma c fun m => { m with rung := true }
  else d.put F.DMA_STATUS_PENDING c 0 (setBit (d.get F.DMA_STATUS_PENDING c) ch true)

/-- The free engine takes the next PENDING channel (R216). -/
def Dev.dmaSelect (d : Dev) (c : Nat) : Dev :=
  let pend := d.get F.DMA_STATUS_PENDING c
  if d.dmaActive c ≠ 0x1F then d
  else
    match arbiter 16 (d.core c).dma.ptr (fun ch => bitOf pend ch) with
    | none => d
    | some ch =>
      let d := (d.put F.DMA_STATUS_PENDING c 0 (setBit pend ch false)).put F.DMA_STATUS_ACTIVE c 0 ch
      ((d.updDma c fun m => { m with ptr := (ch + 1) % 16 }).dmaFetch c ch).showDma c

/-- HEAD moves on and the next descriptor is read (R212, Table 08-7). -/
def Dev.dmaNext (d : Dev) (c ch : Nat) : Dev :=
  let n := 2 ^ d.get F.DMA_RING_CTL_LOG2SIZE c ch
  (d.put F.DMA_RING_HEAD_HEAD c ch ((d.get F.DMA_RING_HEAD_HEAD c ch + 1) % n)).dmaFetch c ch

/-- A descriptor completes (R218, R221): DETAIL, then STATUS and OWN = 0, are written back, then the tap pulses. -/
def Dev.dmaComplete (d : Dev) (c ch : Nat) (j : DmaJob) (status detail : Nat) : Dev :=
  let w3 := j.len + detail % 2 ^ 32 * 2 ^ 32
  let w0 := wordOf j.words 0 % 2 ^ 63 / 2 ^ 16 * 2 ^ 16 + status * 256 + j.opc
  let a := d.dmaDescAt c ch
  let d := if status = 0 then d else (d.count F.DMA_ERR_CNT_V c).record .dmaError (coreSource c 6) []
  let pulse := fun (d : Dev) => if j.tapEn then d.pulse c j.tap else d
  if isLocalAddr a then
    (pulse ((d.localWrite c (a + 24) (leBytes 8 w3)).localWrite c a (leBytes 8 w0))).dmaNext c ch
  else
    let d := (d.access (.dmaBack c ch) (some c) (c / 68) (a + 24) (.write (leBytes 8 w3))).2
    let d := (d.access (.dmaBack c ch) (some c) (c / 68) a (.write (leBytes 8 w0))).2
    pulse (d.updDma c fun m => { m with job := none, backs := 2 })

/-- The descriptor at HEAD has been read (R214, R216, R221, R222). `err` is what the check of a local store finds (R227). -/
def Dev.dmaDescRead (d : Dev) (c err : Nat) : Dev :=
  let ch := d.dmaActive c
  if !(d.core c).dma.reading || ch = 0x1F then d
  else
    let a := d.dmaDescAt c ch
    let taken : Option (Option (List Byte) × Dev) :=
      if isLocalAddr a then
        let ok := d.localOk c a 32
        let (bad, d) := d.readError c a 32 err
        some (if ok && !bad then some (d.localRead c a 32) else none, d)
      else
        match d.sys.accs.find? (fun x => x.who = .dmaDesc c ch) with
        | none => some (none, d)
        | some x =>
          match x.st with
          | .done code bs => some (if code = 0 then some bs else none, d.dropAcc x.id)
          | _ => none
    match taken with
    | none => d
    | some (none, d) => d.dmaRingError c ch
    | some (some bs, d) =>
      let ws := (List.range 4).map (fun i => leAt bs (8 * i) 8)
      if !bitOf (wordOf ws 0) 63 then
        (if (d.core c).dma.rung then d.dmaFetch c ch else d.dmaFree c)
      else
        let j : DmaJob := { words := ws }
        let d := d.updDma c fun m => { m with reading := false, job := some j }
        let code := d.dmaCheck c j
        if code ≠ 0 then d.dmaComplete c ch j code (if code = 0x02 then d.dmaOutside c j else 0) else d

/-- The size of the write at a destination address: the largest of 1 to 64 that the address is a multiple of and that does not pass the end, `left` bytes on
(R217). -/
def dmaSize (a left : Nat) : Nat := ([64, 32, 16, 8, 4, 2].find? (fun k => a % k = 0 && k ≤ left)).getD 1

/-- A run of bytes as writes of R217: sizes in order. `n` bounds the pieces. -/
def dmaSizes : Nat → Nat → Nat → List Nat
  | 0, _, _ => []
  | n + 1, a, len => if len = 0 then [] else dmaSize a len :: dmaSizes n (a + dmaSize a len) (len - dmaSize a len)

/-- A failing write of a channel: the first since its last DRAIN, in the order in which the writes left, is kept (R219). -/
def Dma.failWrite (m : Dma) (ch index seq code : Nat) : Dma :=
  let f := mget (0, 0, 0) m.failed ch
  if f.2.2 = 0 || seq < f.1 then { m with failed := mset (0, 0, 0) m.failed ch (seq, index, code) } else m

/-- One write of a COPY leaves the engine (R217, R219): to the core's own stores at once, otherwise to be acknowledged. `werr` is what the check of the store
finds that it lands in (R229). The engine's own writes overlap no read of its descriptor. -/
def Dev.dmaWrite (d : Dev) (c ch a : Nat) (bs : List Byte) (werr : Nat) : Dev :=
  let d := d.count F.DMA_BYTES_V c 0 bs.length
  if isLocalAddr a then
    let old := ((d.core c).dma.job.map DmaJob.touched).getD []
    (d.localWrite c a bs werr).updDma c fun m => { m with job := m.job.map (fun j => { j with touched := old }) }
  else
    let idx := d.get F.DMA_RING_HEAD_HEAD c ch
    let seq := (d.core c).dma.wseq
    let d := d.updDma c fun m => { m with wseq := seq + 1, unacked := mset 0 m.unacked ch (mget 0 m.unacked ch + 1) }
    ((d.access (.dmaWrite c ch idx seq) (some c) (c / 68) a (.write bs) false werr).2).showDma c

/-- Byte k of the transfer as it has landed: none while it has not, and none within for a byte of a line that failed (R217, R221). -/
def DmaJob.byteAt (j : DmaJob) (k : Nat) : Option (Option Byte) :=
  (j.landed.find? (fun x => x.1 ≤ k && k < x.1 + x.2.1)).map (fun x => x.2.2.bind (fun bs => bs[k - x.1]?))

/-- The runs of bytes that did not fail: offset and bytes, from an offset upwards. -/
def goodRuns : Nat → List (Option Byte) → List (Nat × List Byte)
  | _, [] => []
  | o, none :: l => goodRuns (o + 1) l
  | o, some b :: l =>
    match goodRuns (o + 1) l with
    | (p, bs) :: rs => if p = o + 1 then (o, b :: bs) :: rs else (o, [b]) :: (p, bs) :: rs
    | [] => [(o, [b])]

/-- The next write of a COPY, once all its bytes have landed: none while they have not. Bytes of a line that failed stay unwritten (R221): a write that holds
some is made for its other bytes, as writes of R217 of their own. -/
def Dev.dmaPiece (d : Dev) (c ch werr : Nat) (j : DmaJob) : Option Dev :=
  let a := j.dst + j.wnext
  let n := dmaSize a (j.len - j.wnext)
  let got := (List.range n).map (fun i => j.byteAt (j.wnext + i))
  if j.len ≤ j.wnext || got.any Option.isNone then none
  else
    let next := j.wnext + n
    let d := d.updDma c fun m => { m with job := m.job.map (fun j => { j with
      wnext := next, landed := j.landed.filter (fun x => next < x.1 + x.2.1) }) }
    some (d.each (goodRuns 0 (got.filterMap id)) fun d r =>
      ((dmaSizes r.2.length (a + r.1) r.2.length).foldl (fun (x : Nat × Dev) k =>
        (x.1 + k, x.2.dmaWrite c ch (a + r.1 + x.1) ((r.2.drop x.1).take k) werr)) (0, d)).2)

/-- The writes of a COPY whose bytes have landed leave in ascending order (R217). `n` bounds them. -/
def Dev.dmaFlush (c ch werr : Nat) : Nat → Dev → Dev
  | 0, d => d
  | n + 1, d =>
    match (d.core c).dma.job.bind (fun j => d.dmaPiece c ch werr j) with
    | some d => Dev.dmaFlush c ch werr n d
    | none => d

/-! ### The KV roll, sending side (R166, R171, R220) -/

/-- Landed payload bytes that travel in the wire format: keys and values (R166, R173). -/
def DmaJob.kvWireEnd (j : DmaJob) : Nat :=
  if j.wire ≠ 6 then 64
  else if leAt j.hdr 0 1 = 2 then min j.len (64 + leAt j.hdr 32 4 * 256 * leAt j.hdr 3 1) else j.len

/-- Bytes of the next write of a stripe: the header, then at most 4,096 landed bytes, those that are encoded apart from those that are not. -/
def DmaJob.kvChunk (j : DmaJob) : Nat :=
  if j.next < 64 then 64
  else if j.next < j.kvWireEnd then min 4096 (j.kvWireEnd - j.next)
  else min 4096 (j.len - j.next)

/-- Send n bytes of a stripe on the KV roll channel (VC 4). -/
def Dev.kvSend (d : Dev) (c ch : Nat) (j : DmaJob) (off : Nat) (bs : List Byte) : Dev :=
  let enc := 64 ≤ off && off < j.kvWireEnd
  let (data, d) := if enc then
      let e := kvEncode j.group bs
      (e.1, d.countConv j.group e.2.1 e.2.2)
    else (bs, d)
  let p : Packet := { ptype := 2, block := enc, dst := j.dst / 2 ^ 40, addr := (j.dst + off) % 2 ^ 40, len := data.length, vc := 4, data := data }
  (d.count F.DMA_BYTES_V c 0 bs.length).request p (.kvStripe c ch bs.length) (c / 68)

/-- Forget the writes of a stripe that are still unanswered. -/
def Dev.dropKv (d : Dev) (c ch : Nat) : Dev :=
  { d with fab := { d.fab with reqs := d.fab.reqs.filter (fun r => match r.waiter with | .kvStripe c' ch' _ => !(c' = c && ch' = ch) | _ => true) } }

/-- Change the job of a core's engine. -/
def Dev.updJob (d : Dev) (c : Nat) (f : DmaJob → DmaJob) : Dev := d.updDma c fun m => { m with job := m.job.map f }

/-- The receiver answers a write of a stripe (R171, R220): accepted, BUSY, or a final code. `code` is of Table 07-2, 0 for accepted, or 0x100 + a
status of Table 08-4. -/
def Dev.kvAnswer (d : Dev) (c ch len code : Nat) : Dev :=
  match (d.core c).dma.job with
  | none => d
  | some j =>
    if d.dmaActive c ≠ ch || !j.kv then d
    else if code = 0 then d.updJob c fun j => { j with kvSent := j.kvSent + len }
    else if code = 1 then (d.updJob c fun j => { j with kvWait := some (d.beat + 4) }).dropKv c ch
    else
      let d := (d.updJob c fun j => { j with kvCode := code }).dropKv c ch
      if code < 0x100 then
        (d.count F.KVR_REJECTS_TX_V (c / 68)).record .kvRollRejected (coreSource c 6)
          [(1, code), (2, leAt j.hdr 14 2), (4, leAt j.hdr 8 4), (2, leAt j.hdr 12 2), (2, leAt j.hdr 6 2)]
      else d

/-- Four beats after BUSY the stripe is sent again from its header (R171). -/
def Dev.kvResend (d : Dev) (c : Nat) : Dev :=
  match (d.core c).dma.job with
  | some j =>
    (match j.kvWait with
      | some b => if b ≤ d.beat && j.kv then
          (d.updJob c fun j => { j with next := 0, kvSent := 0, kvWait := none, reading := 0 }).count F.KVR_RETRIES_V (c / 68)
        else d
      | none => d)
  | none => d

/-! ### Moving lines (R217) -/

/-- Read data of a COPY return, as whole lines of the source (R217, R221): kept until the writes that they belong to can leave, sent on the KV roll, or a failed
line. -/
def Dev.dmaLanded (d : Dev) (c ch off len code : Nat) (lines : List Byte) (werr : Nat := 0) : Dev :=
  match (d.core c).dma.job with
  | none => d
  | some j =>
    if d.dmaActive c ≠ ch then d
    else
      let bs := slice lines ((j.src + off) % 64) len
      let d := d.updJob c fun j => { j with reading := j.reading - 1 }
      if j.kv && code ≠ 0 then d.updJob c fun j => { j with err := worse j.err off code, kvCode := 0x100 + code }
      else if j.kv then
        let d := if off = 0 then d.updJob c fun j => { j with hdr := bs } else d
        d.kvSend c ch (if off = 0 then { j with hdr := bs } else j) off bs
      else
        let d := d.updJob c fun j => { j with err := if code = 0 then j.err else worse j.err off code
                                              landed := j.landed ++ [(off, len, if code = 0 then some bs else none)] }
        Dev.dmaFlush c ch werr (16 * (j.landed.length + 1)) d

/-- The engine moves the next line of its COPY, or the next part of its stripe (R217, R220): it reads whole, naturally aligned lines. `err` is what the check of
the store finds that it reads from, `werr` that of the store that the line's bytes land in. -/
def Dev.dmaCopyStep (d : Dev) (c err werr : Nat) : Dev :=
  let ch := d.dmaActive c
  match (d.core c).dma.job with
  | none => d
  | some j =>
    let hold := j.kv && (j.kvWait.isSome || j.kvCode ≠ 0 || (j.next ≠ 0 && j.kvSent < 64))
    if j.opc ≠ 1 || j.len ≤ j.next || hold then d
    else
      let a := j.src + j.next
      let n := if j.kv then j.kvChunk else min (j.len - j.next) (64 - a % 64)
      let base := a / 64 * 64
      let whole := (a + n - base + 63) / 64 * 64
      let d := d.updJob c fun j => { j with next := j.next + n, reading := j.reading + 1 }
      if isLocalAddr a then
        let (bad, d) := d.readError c base whole err
        let (bs, d) := d.localSpoilt c base whole j.touched
        d.dmaLanded c ch j.next n (if bad then stMemError else 0) bs werr
      else (d.access (.dmaRead c ch j.next n) (some c) (c / 68) base (.read whole) false err).2

/-- The COPY of a core is complete: every byte has left (R218), or its stripe is answered or refused (R220). -/
def Dev.dmaCopyDone (d : Dev) (c : Nat) : Dev :=
  let ch := d.dmaActive c
  match (d.core c).dma.job with
  | none => d
  | some j =>
    if j.opc ≠ 1 then d
    else if j.kv then
      if j.kvCode ≠ 0 then
        (if j.kvCode < 0x100 then d.dmaComplete c ch j 0x0A j.kvCode
         else d.dmaComplete c ch j (j.kvCode - 0x100) (j.err.getD (0, 0)).1)
      else if j.kvSent = j.len then d.dmaComplete c ch j 0 0 else d
    else if j.next = j.len && j.reading = 0 then
      let e := j.err.getD (0, 0)
      d.dmaComplete c ch j e.2 e.1
    else d

/-- A DRAIN begins to wait (R219). -/
def Dev.dmaDrain (d : Dev) (c : Nat) : Dev :=
  match (d.core c).dma.job with
  | some j => if j.opc = 2 then d.updJob c fun j => { j with draining := true } else d
  | none => d

/-- Every write of the channel since its last DRAIN is acknowledged (R219). -/
def Dev.dmaDrained (d : Dev) (c : Nat) : Dev :=
  let ch := d.dmaActive c
  match (d.core c).dma.job with
  | some j =>
    let m := (d.core c).dma
    if j.opc = 2 && j.draining && mget 0 m.unacked ch = 0 then
      let f := mget (0, 0, 0) m.failed ch
      (d.updDma c fun m => { m with failed := mset (0, 0, 0) m.failed ch (0, 0, 0) }).dmaComplete c ch j f.2.2 f.2.1
    else d
  | none => d

/-- A write of a COPY is acknowledged (R219); one from before DISABLE counts for nothing (R223). -/
def Dev.dmaAcked (d : Dev) (c ch index seq code : Nat) : Dev :=
  if seq < (d.core c).dma.wbase then d
  else
    (d.updDma c fun m =>
      let m := { m with unacked := mset 0 m.unacked ch (mget 0 m.unacked ch - 1) }
      if code = 0 then m else m.failWrite ch index seq code).showDma c

/-- A write-back to a ring in global memory is acknowledged (R218, R222). -/
def Dev.dmaBacked (d : Dev) (c ch code : Nat) : Dev :=
  let m := (d.core c).dma
  if m.backs = 0 || d.dmaActive c ≠ ch then d
  else
    let bad := m.backBad || code ≠ 0
    if m.backs = 1 then (if bad then d.dmaRingError c ch else d.dmaNext c ch)
    else d.updDma c fun m => { m with backs := m.backs - 1, backBad := bad }

/-- A byte at an address that a descriptor names becomes a free value (R223): a core-local one, one in a core window of this chip, or one that the table maps to
local HBM or pinned scratch. Memory of another chip or of the companion is not the device's. -/
def Dev.freeByteAt (d : Dev) (c a : Nat) : Dev :=
  let (v, d) := d.fresh 8
  let b : List Byte := [BitVec.ofNat 8 v]
  if isLocalAddr a then d.localWrite c a b
  else if a / 2 ^ 40 ≠ d.chip then d
  else if bits a 39 36 = 0xF then (d.coreWindow (a % 2 ^ 40) (.write b)).2
  else if d.granules ≤ a % 2 ^ 40 / 65536 then d
  else
    match d.tableEntry (a % 2 ^ 40 / 65536) with
    | some e =>
      let pa := xltTarget e + a % 65536
      if !(xltValid e && xltTier e = 3) then d
      else
        match d.home pa with
        | .scratch _ _ => { d with mem := { d.mem with scratch := bwriteN (d.scratchSpace pa) d.mem.scratch pa b } }
        | .hbm _ => d.physWrite pa b
        | .none => d
    | none => d

/-- n bytes from an address that a descriptor names become free values. -/
def Dev.freeAt (d : Dev) (c a n : Nat) : Dev := d.each (List.range n) (fun d i => d.freeByteAt c (a + i))

/-- DISABLE written 1 (R223): all work dropped, every channel IDLE; the bytes of the descriptor in hand, the counters and every HEAD are undefined. -/
def Dev.dmaDisable (d : Dev) (c : Nat) : Dev :=
  let ch := d.dmaActive c
  let d := match (d.core c).dma.job with
    | some j => if j.opc = 1 && !j.kv then d.freeAt c j.dst j.len else d
    | none => d
  let d := (d.dropKv c ch).put F.DMA_CTL_DISABLE c 0 1
  let d := { d with sys := { d.sys with accs := d.sys.accs.filter (fun a => match a.who with
    | .dmaRead c' _ _ _ => c' ≠ c
    | .dmaDesc c' _ => c' ≠ c
    | _ => true) } }
  let d := (d.updDma c fun m => { m with unacked := [], failed := [], wbase := m.wseq }).dmaFree c
  let d := d.put F.DMA_STATUS_PENDING c 0 0
  let (v, d) := d.fresh 64
  let (w, d) := d.fresh 32
  let d := (d.put F.DMA_BYTES_V c 0 v).put F.DMA_ERR_CNT_V c 0 w
  d.each (List.range 16) fun d ch => let (h, d) := d.fresh 12; d.put F.DMA_RING_HEAD_HEAD c ch h

end Sys2Proof.Machine
end

