-- ==== Sys2Proof/Machine/PoolOps.lean ====
section
/-!
DEFINITION. Sys2Proof/Machine/PoolOps.lean: the shared pool of 2 MiB pages (R242 to R253): frames, quotas, eligibility, commands and moves.
-/

namespace Sys2Proof.Machine

/-- Bytes of a pool page. -/
def pageBytes : Nat := 2097152

/-! ### Frames (R242) -/

/-- The frames that the registers name: tier, location of the first frame, number of frames. -/
def Dev.readSegs (d : Dev) : List (Nat × Nat × Nat) :=
  [(3, d.get F.POOL_T3_BASE_V, min 147456 (d.get F.POOL_T3_FRAMES_T3))]
    ++ ((List.range 8).filter (fun n => d.flag F.POOL_T4_REGION_ENABLE 0 n)).map (fun n =>
      (4, d.get F.POOL_T4_REGION_CHIP 0 n * 2 ^ 40 + d.get F.POOL_T4_REGION_PAGE 0 n * pageBytes, d.get F.POOL_T4_FRAMES_N 0 n))
    ++ ((List.range 4).filter (fun n => d.flag F.POOL_T5_REGION_ENABLE 0 n)).map (fun n =>
      (5, d.get F.POOL_T5_REGION_PAGE 0 n * pageBytes, d.get F.POOL_T5_FRAMES_N 0 n))

/-- The frames of a tier that the pool knows, in register order: locations in the TARGET form. -/
def Dev.frameLocs (d : Dev) (tier : Nat) : List Nat :=
  (d.pool.segs.filter (fun s => s.1 = tier)).flatMap (fun s => (List.range s.2.2).map (fun k => s.2.1 + k * pageBytes))

/-- The location of frame n of a tier. -/
def Dev.frameLoc (d : Dev) (tier n : Nat) : Nat := (d.frameLocs tier).getD n 0

/-- The frame is in use. -/
def Dev.frameTaken (d : Dev) (tier n : Nat) : Bool := d.pool.used.contains (tier * 2 ^ 20 + n)

/-- The free frames of a tier. -/
def Dev.freeFrames (d : Dev) (tier : Nat) : List Nat :=
  (List.range (d.frameLocs tier).length).filter (fun n => !d.frameTaken tier n)

/-- The bit of a frame in the bitmaps that follow the records: one bit per frame of T3, then of T4, then of T5 (R243). -/
def Dev.frameBit (d : Dev) (tier n : Nat) : Nat :=
  (if tier = 3 then 0 else if tier = 4 then (d.frameLocs 3).length else (d.frameLocs 3).length + (d.frameLocs 4).length) + n

/-- Show a frame free or taken in the bitmap in HBM. -/
def Dev.showFrame (d : Dev) (tier n : Nat) (free : Bool) : Dev :=
  let b := d.frameBit tier n
  let a := d.get F.POOL_META_BASE_V + 16 * (d.granules / 32) + b / 8
  let old := ((d.physRead a 1).map leNat).getD 0
  d.physWrite a (leBytes 1 (setBit old (b % 8) free))

/-- Take a free frame of a tier; which one the manual leaves open. -/
def Dev.takeFrame (d : Dev) (tier : Nat) : Option (Nat × Dev) :=
  let fs := d.freeFrames tier
  let (v, d) := d.fresh 32
  match fs[v % atLeast1 fs.length]? with
  | none => none
  | some n => some (n, { d with pool := { d.pool with used := insertUp d.pool.used (tier * 2 ^ 20 + n) } }.showFrame tier n false)

/-- Return a frame. -/
def Dev.returnFrame (d : Dev) (tier n : Nat) : Dev :=
  { d with pool := { d.pool with used := d.pool.used.filter (· ≠ tier * 2 ^ 20 + n) } }.showFrame tier n true

/-- The number of the frame at a location. -/
def Dev.frameNo (d : Dev) (tier loc : Nat) : Nat := ((d.frameLocs tier).findIdx? (· = loc)).getD 0

/-! ### Entries (Table 08-2) -/

/-- The translation entry of granule i of a page. -/
def poolEntry (valid motion : Bool) (tier loc client i : Nat) : Nat :=
  b2n valid * 2 ^ 63 + b2n motion * 2 ^ 62 + tier * 2 ^ 59 + (loc + i * 65536) + client * 256 + 128

/-- Write the 32 entries of a page, and drop them from the caches (R189, R250). -/
def Dev.writeEntries (d : Dev) (dp : Nat) (f : Nat → Nat) : Dev :=
  let d := d.each (List.range 4) fun d k =>
    d.physWrite (d.entryAddr (32 * dp) + 64 * k) ((List.range 8).flatMap (fun i => leBytes 8 (f (8 * k + i))))
  d.dropXlt (fun g => g / 32 = dp)

/-! ### Quotas and eligibility (R245, R246) -/

def stAbsent : Nat := 0
def stResident : Nat := 1
def stEvicting : Nat := 2
def stPromoting : Nat := 3

/-- Pages of the pool. -/
def Dev.pooled (d : Dev) : List (Nat × PageRec) := d.pool.recs.filter (fun e => e.2.pooled)

/-- A client's T3 count (R245). -/
def Dev.t3Count (d : Dev) (client : Nat) : Nat :=
  (d.pooled.filter (fun e => e.2.client = client
    && ((e.2.tier = 3 && (e.2.state = stResident || e.2.state = stEvicting)) || e.2.state = stPromoting))).length

/-- Pages of a client that are leaving T3. -/
def Dev.t3Leaving (d : Dev) (client : Nat) : Nat :=
  (d.pooled.filter (fun e => e.2.client = client && e.2.tier = 3 && e.2.state = stEvicting)).length

/-- A page is eligible for eviction from tier t (R246). For t = 3 the pages already leaving count as gone, since no eviction that the pool chooses may take the
client's T3 count below MIN_PAGES (R245): DEDUCED (log 70). -/
def Dev.eligiblePage (d : Dev) (t : Nat) (r : PageRec) : Bool :=
  r.state = stResident && r.tier = t && t < d.get F.POOL_CLIENT_INFO_LOW_TIER 0 r.client
    && (t ≠ 3 || d.get F.POOL_CLIENT_MIN_PAGES 0 r.client < d.t3Count r.client - d.t3Leaving r.client)
    && !(d.freeFrames (t + 1)).isEmpty
    && (match r.failedAt with | none => true | some b => decide (b + 1024 ≤ d.beat))

/-- Older: an earlier touch, or the lower page among equals (R246). -/
def olderPage (a b : Nat × PageRec) : Bool := a.2.touch < b.2.touch || (a.2.touch = b.2.touch && a.1 < b.1)

/-- The oldest eligible page of tier t that meets a condition, and the pages in motion that were passed over (R246). -/
def Dev.choosePage (d : Dev) (t : Nat) (p : PageRec → Bool) : Option Nat × Nat :=
  let best := (d.pooled.filter (fun e => p e.2 && d.eligiblePage t e.2)).foldl (fun (b : Option (Nat × PageRec)) e => match b with
    | none => some e
    | some x => if olderPage e x then some e else b) none
  let moving := d.pooled.filter (fun e => p e.2 && e.2.tier = t && (e.2.state = stEvicting || e.2.state = stPromoting)
    && (match best with | none => true | some b => olderPage e b))
  (best.map (·.1), moving.length)

/-! ### Moves (R250, R251) -/

/-- Lines of the shared cache that lie in a T3 frame. -/
def Dev.frameLines (d : Dev) (loc : Nat) : List ShcLine := d.sys.shc.filter (fun l => loc / 64 ≤ l.line && l.line < loc / 64 + 32768)

/-- Snoop-invalidate every companion copy of the lines of a frame (R436). A snoop that cannot be sent ends unanswered (R432). -/
def Dev.snoopFrame (d : Dev) (loc : Nat) : Dev :=
  let es := (d.hl.filter.flatMap (·.2)).filter (fun e => loc / 64 ≤ e.line && e.line < loc / 64 + 32768)
  d.each es fun d e =>
    let (ok, d) := d.sendSnoop e.line e.addr true e.owned
    if ok then d else (d.snoopLost e.line e.owned).2

/-- A move begins (R250 steps 1 and 2): its page is in motion, its entries carry MOTION. -/
def Dev.startMove (d : Dev) (m : PoolMove) : Dev :=
  let r := d.page m.dp
  let d := { d with pool := { d.pool with moves := d.pool.moves ++ [m] } }
  let d := d.setPage m.dp { r with state := if m.promote then stPromoting else stEvicting }
  let d := d.writeEntries m.dp (poolEntry true true m.fromTier r.frame r.client)
  if m.fromTier = 3 then d.snoopFrame r.frame else d

/-- Decide a move to a tier (R247, R250); it waits where eight are in progress. False where the tier has no free frame. -/
def Dev.decideMove (d : Dev) (dp dest : Nat) (promote sel : Bool) : Bool × Dev :=
  let r := d.page dp
  match d.takeFrame dest with
  | none => (false, d)
  | some (g, d) =>
    let m : PoolMove := { dp := dp, fromTier := r.tier, fromFrame := d.frameNo r.tier r.frame, toTier := dest, toFrame := g, promote := promote, sel := sel }
    if d.pool.moves.length < 8 then (true, d.startMove m)
    else
      let d := d.setPage dp { r with state := if promote then stPromoting else stEvicting }
      (true, { d with pool := { d.pool with later := d.pool.later ++ [m] } })

/-- Evict the oldest eligible page of T3 that meets a condition (R248): the page; none where there is none. -/
def Dev.evictFor (d : Dev) (p : PageRec → Bool) : Option Nat × Dev :=
  let (v, skips) := d.choosePage 3 p
  let d := if skips = 0 then d else d.count F.POOL_SKIPS_V 0 0 skips
  match v with
  | none => (none, d)
  | some dp =>
    let (ok, d) := d.decideMove dp 4 false false
    (if ok then some dp else none, d)

/-- Begin waiting moves while fewer than eight are in progress (R247). `n` bounds them. -/
def Dev.startLater : Nat → Dev → Dev
  | 0, d => d
  | n + 1, d =>
    match d.pool.later with
    | [] => d
    | m :: ms => if d.pool.moves.length < 8 then Dev.startLater n ({ d with pool := { d.pool with later := ms } }.startMove m) else d

/-! ### Commands (R248, R249, Table 09-5) -/

def poolOk : Nat := 0
def poolBadPage : Nat := 1
def poolBadClient : Nat := 2
def poolNoFrame : Nat := 3
def poolNoQuota : Nat := 4
def poolLowTier : Nat := 5
def poolMoveFailed : Nat := 6
def poolDisabled : Nat := 7

/-- A command that evicts a page first waits for it, or ends (R248). -/
def PoolCmd.after (k : PoolCmd) (v : Option Nat) (code : Nat) : PoolCmd :=
  match v with
  | some dp => { k with st := 3, victim := dp }
  | none => { k with st := 5, code := code }

/-- The quota and frame rules of ALLOC and PROMOTE (R248): none where a frame can be taken now, else the command as it then stands. -/
def Dev.wantFrame (d : Dev) (k : PoolCmd) (client : Nat) : Option PoolCmd × Dev :=
  if d.get F.POOL_CLIENT_MAX_PAGES 0 client ≤ d.t3Count client then
    let (v, d) := d.evictFor (fun r => r.client = client)
    (some (k.after v poolNoQuota), d)
  else if (d.freeFrames 3).isEmpty then
    let (v, d) := d.evictFor (fun _ => true)
    (some (k.after v poolNoFrame), d)
  else (none, d)

/-- Snoops of the lines of a T3 frame are open (R436). -/
def Dev.frameSnooped (d : Dev) (tier loc : Nat) : Bool :=
  tier = 3 && d.hl.snoops.any (fun s => loc / 64 ≤ s.line && s.line < loc / 64 + 32768)

/-- Requests on a page's lines are still open, or snoops of its T3 frame (R189, R436). -/
def Dev.pageBusy (d : Dev) (dp : Nat) : Bool :=
  d.sys.accs.any (fun a => a.under d.chip (fun g => g / 32 = dp)) || d.frameSnooped (d.page dp).tier (d.page dp).frame

/-- A command acts under the state its page then has; the command with its new state (Table 09-5). -/
def Dev.poolAct (d : Dev) (k : PoolCmd) : PoolCmd × Dev :=
  let r := d.page k.dp
  let ends := fun (c : Nat) => { k with st := 5, code := c }
  let moving := r.state = stEvicting || r.state = stPromoting
  if d.granules / 32 ≤ k.dp then (ends poolBadPage, d)
  else if k.op = 0 then
    if r.state ≠ stAbsent then (ends poolBadPage, d)
    else if !d.flag F.POOL_CLIENT_INFO_VALID 0 k.client then (ends poolBadClient, d)
    else
      match d.wantFrame k k.client with
      | (some k, d) => (k, d)
      | (none, d) =>
        match d.takeFrame 3 with
        | none => (ends poolNoFrame, d)
        | some (g, d) =>
          let loc := d.frameLoc 3 g
          let d := d.writeEntries k.dp (poolEntry true false 3 loc k.client)
          (ends poolOk, d.setPage k.dp { pooled := true, state := stResident, tier := 3, frame := loc, client := k.client, touch := d.beat })
  else if r.state = stAbsent then (ends poolBadPage, d)
  else if k.op = 1 then
    if moving then ({ k with st := 2 }, d)
    else
      let d := (d.writeEntries k.dp (fun _ => 0)).setPage k.dp { state := stAbsent }
      let ids := (d.sys.accs.filter (fun a => a.under d.chip (fun g => g / 32 = k.dp))).map (·.id)
      ({ k with st := 4, tier := r.tier, frame := r.frame, opened := ids }, if r.tier = 3 then d.snoopFrame r.frame else d)
  else if k.op = 2 then
    if r.state = stEvicting then ({ k with st := 2 }, d)
    else if r.state = stPromoting then ({ k with st := 1 }, d)
    else if r.tier = 3 then (ends poolOk, d.setPage k.dp { r with touch := d.beat })
    else
      match d.wantFrame k r.client with
      | (some k, d) => (k, d)
      | (none, d) =>
        let (ok, d) := d.decideMove k.dp 3 true false
        (if ok then { k with st := 1 } else ends poolNoFrame, d)
  else if moving then ({ k with st := 2 }, d)
  else if d.get F.POOL_CLIENT_INFO_LOW_TIER 0 r.client ≤ r.tier then (ends poolLowTier, d)
  else
    let (ok, d) := d.decideMove k.dp (r.tier + 1) false false
    (if ok then { k with st := 1 } else ends poolNoFrame, d)

/-- The frame of a page that FREE gives up goes back once no request under its old entries is open (R248, R189). -/
def Dev.poolFree (d : Dev) (k : PoolCmd) : PoolCmd × Dev :=
  let open_ := d.sys.accs.any (fun a => k.opened.contains a.id && (match a.st with | .done _ _ => false | _ => true))
  if open_ || d.frameSnooped k.tier k.frame then (k, d)
  else
    let d := if k.tier = 3 then d.each (d.frameLines k.frame) (fun d l => d.dropLine l.line) else d
    ({ k with st := 5, code := poolOk }, d.returnFrame k.tier (d.frameNo k.tier k.frame))

/-- Commands that have not begun act in their order, while the engine is enabled; those that can go on do, a FREE that has begun in any case (R253). -/
def Dev.poolRun (d : Dev) : Dev :=
  let r := d.pool.queue.foldl (fun (x : List PoolCmd × Dev) k =>
    let (k', d) := if k.st = 0 && d.flag F.POOL_CTL_ENABLE then x.2.poolAct k else (k, x.2)
    let (k', d) := if k'.st = 4 then d.poolFree k' else (k', d)
    (x.1 ++ [k'], d)) ([], d)
  { r.2 with pool := { r.2.pool with queue := r.1 } }

/-- Commands that have ended complete in order (R248). `n` bounds them. -/
def Dev.poolRetire : Nat → Dev → Dev
  | 0, d => d
  | n + 1, d =>
    match d.pool.queue with
    | k :: ks =>
      if k.st = 5 then
        let d := { d with pool := { d.pool with queue := ks } }
        let d := d.putD F.POOL_DONE_SEQ_V (d.get F.POOL_DONE_SEQ_V + 1)
        let d := if k.code = poolOk then d
          else ((d.putD F.POOL_LAST_ERR_STATUS k.code).putD F.POOL_LAST_ERR_DP k.dp).record .poolCmdFailed (evSource 0 13 0x7F) []
        Dev.poolRetire n d
      else d
    | [] => d

/-- A client whose T3 count exceeds its MAX_PAGES loses its oldest eligible pages until the count fits (R245). -/
def Dev.quotaEvict (d : Dev) : Dev :=
  d.each (List.range 64) fun d k =>
    let excess := d.t3Count k - d.t3Leaving k - d.get F.POOL_CLIENT_MAX_PAGES 0 k
    if d.flag F.POOL_CLIENT_INFO_VALID 0 k then d.each (List.range excess) (fun d _ => (d.evictFor (fun r => r.client = k)).2) else d

/-- A tier is below its low water (R247). -/
def Dev.poolShort (d : Dev) (t : Nat) : Bool :=
  (d.freeFrames t).length < (if t = 3 then d.get F.POOL_LOW_WATER_LOW_WATER_T3 else d.get F.POOL_LOW_WATER_LOW_WATER_T4)

/-- A tier is short and no page of it is eligible (R247). -/
def Dev.poolStuck (d : Dev) (t : Nat) : Bool := d.poolShort t && (d.choosePage t (fun _ => true)).1.isNone

/-- The pool's status registers (Tables 09-7 and 09-11). -/
def Dev.showPool (d : Dev) : Dev :=
  let run := d.flag F.POOL_CTL_ENABLE || !d.pool.moves.isEmpty
  let d := ((((d.putD F.POOL_STATUS_MOVES d.pool.moves.length).putD F.POOL_STATUS_QDEPTH d.pool.queue.length).putD F.POOL_STATUS_ENABLED
    (b2n run)).putD F.POOL_STATUS_BUSY (b2n (!d.pool.moves.isEmpty || !d.pool.queue.isEmpty || !d.pool.later.isEmpty)))
  let d := if d.pool.known then
      ((d.putD F.POOL_FREE_T3 (d.freeFrames 3).length).putD F.POOL_FREE_T4 (d.freeFrames 4).length).putD F.POOL_FREE_T5 (d.freeFrames 5).length
    else d
  let d := if d.flag F.POOL_STATUS_STUCK && !d.poolStuck 3 && !d.poolStuck 4 then d.putD F.POOL_STATUS_STUCK 0 else d
  d.each (List.range 64) (fun d k => if d.get F.POOL_CLIENT_INFO_T3 0 k = d.t3Count k then d else d.put F.POOL_CLIENT_INFO_T3 0 k (d.t3Count k))

/-- The engine goes on with what it can (R247, R248). Nothing moves in a pool that was never enabled. -/
def Dev.poolPump (d : Dev) : Dev :=
  if !d.pool.known then d
  else
    let d := Dev.startLater 8 d
    let d := d.poolRun
    let d := if d.flag F.POOL_CTL_ENABLE then d.quotaEvict else d
    (Dev.poolRetire 32 d).showPool

/-- A command is written to POOL_CMD (R248). -/
def Dev.poolCommand (d : Dev) (op client dp : Nat) : Dev :=
  if !d.flag F.POOL_CTL_ENABLE || 32 ≤ d.pool.queue.length then d.putD F.POOL_STATUS_REFUSED 1
  else { d with pool := { d.pool with queue := d.pool.queue ++ [({ op := op, client := client, dp := dp } : PoolCmd)] } }.poolPump

/-- A move has ended: the commands that waited for it end or act again, and waiting accesses go on (R250 to R252). -/
def Dev.moveOver (d : Dev) (m : PoolMove) (code : Nat) : Dev :=
  let again := fun (k : PoolCmd) =>
    if k.dp = m.dp && k.st = 1 then { k with st := 5, code := code }
    else if k.dp = m.dp && k.st = 2 then { k with st := 0 }
    else if k.st = 3 && k.victim = m.dp then { k with st := 0 }
    else k
  let d := { d with pool := { d.pool with moves := d.pool.moves.filter (fun x => x.dp ≠ m.dp), later := d.pool.later.filter (fun x => x.dp ≠ m.dp), queue := d.pool.queue.map again } }
  (d.resumeMotion m.dp).poolPump

/-- A move fails (R251): the entries and the record are as before, the target frame is free again. -/
def Dev.moveFails (d : Dev) (m : PoolMove) : Dev :=
  let r := d.page m.dp
  let d := d.writeEntries m.dp (poolEntry true false m.fromTier r.frame r.client)
  let d := d.setPage m.dp { r with state := stResident, fails := min 255 (r.fails + 1), failedAt := some d.beat }
  let d := (d.returnFrame m.toTier m.toFrame).count F.POOL_MOVE_FAILS_V
  let d := d.record .poolMoveFailed (evSource 0 13 0x7F) [(4, m.dp), (1, m.fromTier), (1, m.toTier)]
  d.moveOver m poolMoveFailed

/-- The 2 MiB of a T3 frame after step 3; none where a line of it is uncorrectable (R251). -/
def Dev.frameData (d : Dev) (loc : Nat) : Option (List Byte) :=
  (List.range 32768).foldl (fun acc i => match acc, d.physLine (loc / 64 + i) with
    | some bs, some l => some (bs ++ l)
    | _, _ => none) (some [])

/-- Every line of a T3 frame can be written: it lies within capacity, on a channel that has not FAILED (Table 10-8). -/
def Dev.frameOk (d : Dev) (loc : Nat) : Bool :=
  (List.range 32768).all (fun i => (d.place (loc + 64 * i)).any (fun p => !d.chanFailed p.chan))

/-- Write a T3 frame, line by line through the home slices (R250, R262). -/
def Dev.fillFrame (d : Dev) (loc : Nat) (bs : List Byte) : Dev :=
  d.each (List.range 32768) fun d i => d.physWrite (loc + 64 * i) ((bs.drop (64 * i)).take 64)

/-- A move's copy ends (R250 steps 3 to 5). `data` are the bytes of a source frame in T4 or T5; those of a T3 frame are the device's own. It waits
until no request or snoop of the page is open. -/
def Dev.moveDone (d : Dev) (m : PoolMove) (data : List Byte) : Dev :=
  let r := d.page m.dp
  let bytes := if m.fromTier = 3 then d.frameData r.frame else if data.length = pageBytes then some data else none
  if d.pageBusy m.dp then d
  else
    let loc := d.frameLoc m.toTier m.toFrame
    match bytes with
    | none => if m.fromTier = 3 then d.moveFails m else d
    | some bs =>
      if m.toTier = 3 && !d.frameOk loc then d.moveFails m else
      let d := if m.fromTier = 3 then d.each (d.frameLines r.frame) (fun d l => d.evictLine l) else d
      let d := if m.toTier = 3 then d.fillFrame loc bs else d.emit (.poolCopy m.toTier loc bs)
      let d := d.writeEntries m.dp (poolEntry true false m.toTier loc r.client)
      let d := d.setPage m.dp { r with state := stResident, tier := m.toTier, frame := loc }
      let d := (d.returnFrame m.fromTier m.fromFrame).count F.POOL_MOVES_V
      d.moveOver m poolOk

end Sys2Proof.Machine
end

