-- ==== Sys2Proof/Machine/Settle.lean ====
section
/-!
DEFINITION. Sys2Proof/Machine/Settle.lean: what becomes of accesses that have ended and whose requester takes their outcome at once: DMA
lines and rings (R217 to R222), packets from other chips (R300) and companion requests (R433, R434).
-/

namespace Sys2Proof.Machine

/-- The response of a packet request (R300). -/
def Dev.respond (d : Dev) (p : Packet) (code : Nat) (data : List Byte) : Dev :=
  d.sendAnswer { ptype := p.ptype + 3, dst := p.src, src := d.chip, tag := p.tag, addr := p.addr, hops := atLeast1 (d.get F.FAB_CFG_TTL)
                 code := code, len := data.length, vc := 1, data := data }

/-- The response CODE of a status (R300). -/
def respCode (st : Nat) : Nat := if st = 0 then 0 else if st = stTranslation then 2 else if st = stCoreWindow then 3 else 1

/-- Answer a companion request, which closes its TAG (R433). -/
def Dev.hlAnswer (d : Dev) (half tag op addr reason : Nat) (data : List Byte) : Dev :=
  { d with hl := { d.hl with open_ := d.hl.open_.filter (fun o => o.2 ≠ tag || o.1 ≠ half) } }.hlSend half op tag addr reason data

/-- The NACK reason of a status (Table 16-8). -/
def hlReason (st : Nat) : Nat :=
  if st = stNotLocal then 0x03 else if st = stNotOwner then 0x06 else if st = stMemError || st = stLinkError then 0x05 else 0x04

/-- Answer a companion line request with its outcome (Table 16-2, R434). -/
def Dev.companionAnswer (d : Dev) (half tag op addr st : Nat) (bs : List Byte) : Dev :=
  if st ≠ 0 then d.hlAnswer half tag 0x23 addr (hlReason st) []
  else if op ≤ 3 then d.hlAnswer half tag 0x20 addr 0 bs
  else d.hlAnswer half tag 0x21 addr 0 []

/-- An ended access is taken by its requester, where that needs no command of its own. -/
def Dev.settleOne (d : Dev) (a : MemAcc) : Dev :=
  match a.st with
  | .done code bs =>
    (match a.who with
      | .dmaRead c ch off len =>
        let (bs, d) := (d.dropAcc a.id).spoil bs a.touched.contains
        d.dmaLanded c ch off len code bs
      | .dmaWrite c ch index seq => (d.dropAcc a.id).dmaAcked c ch index seq code
      | .dmaBack c ch => (d.dropAcc a.id).dmaBacked c ch code
      | .packet p => (d.dropAcc a.id).respond p (respCode code) (if code = 0 then bs else [])
      | .companion half tag op => (d.dropAcc a.id).companionAnswer half tag op a.addr code bs
      | .other => d.dropAcc a.id
      | .ctc _ _ | .stream _ _ | .dmaDesc _ _ | .fre _ | .freOut _ => d)
  | _ => d

/-- Ended accesses are taken, oldest first; a DMA read's writes, if they end at once, in a second round. What the pool held back for open
accesses goes on, then what a run-ahead fetch that has ended held back: demand fetches of its line, and its tag (R195, R203). -/
def Dev.settle (d : Dev) : Dev :=
  let d := d.each d.sys.accs (fun d a => d.settleOne a)
  (d.each d.sys.accs (fun d a => d.settleOne a)).poolPump.resumeBehind.offerTags

end Sys2Proof.Machine
end

