-- ==== Sys2Proof/Machine/LexOps.lean ====
section
/-!
DEFINITION. Sys2Proof/Machine/LexOps.lean: blocks at the link expander and compressor (R302 to R308): their checks in the order of Table 11-11,
their expansion, and the encoding of FACTOR blocks.
-/

namespace Sys2Proof.Machine

/-- What a block expands to: bytes in BF16 (MXFP8), or FP32 rows of a tile from a first row (FACTOR). -/
inductive Expanded where
  | mx (bytes : List Byte)
  | rows (row0 count group : Nat) (vals : List F32)
deriving DecidableEq, Repr

/-- NACK reasons of block checks (Table 11-13). -/
def nackDamaged : Nat := 0x60
def nackBadCode : Nat := 0x61
def nackBadHeader : Nat := 0x62
def nackBadLength : Nat := 0x63

/-- Value k of row j of a basis of a table (R305). -/
def TableSlot.at_ (t : TableSlot) (basis j k : Nat) : F32 := t.values.getD (4096 * basis + 64 * j + k) 0

/-- The factors of a FACTOR body: FP32, or BF16 widened. -/
def factorAt (elem : Nat) (body : List Byte) (i : Nat) : FVal :=
  if elem = 1 then F32.val (BitVec.ofNat 32 (leAt body (4 * i) 4)) else Fmt.bf16.decode (leAt body (2 * i) 2)

/-- The rows that a FACTOR block expands to (R305). -/
def factorExpand (t : TableSlot) (elem rank basis count : Nat) (body : List Byte) : List F32 :=
  (List.range count).flatMap (fun i =>
    (List.range 64).map (fun j =>
      columnSum ((List.range rank).map (fun k => (factorAt elem body (rank * i + k)).mul (t.at_ basis j k).val))))

/-- LEX checks a block in the order of Table 11-11 and expands it; or the NACK reason. -/
def Dev.lexBlock (d : Dev) (q : Nat) (p : Packet) : Expanded ⊕ Nat :=
  let b := p.data
  let fcode := leAt b 0 1
  let elem := leAt b 1 1
  let epoch := leAt b 2 2
  let rank := leAt b 4 1
  let basis := leAt b 5 1
  let row0 := leAt b 6 1
  let count := leAt b 7 1
  let length := leAt b 8 2
  let grp := leAt b 10 2
  let body := b.drop 16
  let zeroed := b.take 12 ++ leBytes 4 0 ++ body
  -- BASIS is below the BASES of the table that the epoch names, where the slot holds it
  let table := ((d.lex q).slotOf epoch).filter (fun t => t.epoch = epoch)
  let bases := (table.map (·.bases)).getD 256
  let okHead := if fcode = 0x06 then
      elem = 0 && epoch = 0 && rank = 0 && basis = 0 && row0 = 0 && 1 ≤ count && count ≤ 64
    else (elem = 1 || elem = 2) && 1 ≤ rank && rank ≤ 64 && decide (basis < bases) && decide (row0 ≤ 63) && 1 ≤ count && decide (count ≤ 64 - row0)
  let expected := if fcode = 0x06 then (33 * count + 3) / 4 * 4 else count * rank * (if elem = 1 then 4 else 2)
  if b.length < 16 || (crc32 zeroed).toNat ≠ leAt b 12 4 then .inr nackDamaged
  else if !((fcode = 0x06 && p.ptype = 2 && p.vc = 4) || (fcode = 0x20 && p.ptype = 0x0B)) then .inr nackBadCode
  else if !okHead || grp / 1024 ≠ 0 then .inr nackBadHeader
  else if length ≠ expected || length + 16 ≠ p.len then .inr nackBadLength
  else if fcode = 0x06 then .inl (.mx (kvExpand count body))
  else
    match d.epochCheck q epoch with
    | .inr code => .inr code
    | .inl t => .inl (.rows row0 count (grp % 1024) (factorExpand t elem rank basis count body))

/-- LCX encodes rows of a 64 x 64 tile as one FACTOR block (R305): the packet data, with the flushes and saturations of the conversion. -/
def lcxBlock (t : TableSlot) (elem epoch rank basis row0 count group : Nat) (tile : List F32) : List Byte × Nat × Nat :=
  let us := (List.range count).flatMap (fun i => (List.range rank).map (fun k =>
    columnSum ((List.range 64).map (fun j => (tile.getD (64 * (row0 + i) + j) 0).val.mul (t.at_ basis j k).val))))
  if elem = 1 then (blockData 0x20 1 epoch rank basis row0 count group (us.flatMap (fun u => leBytes 4 u.toNat)), 0, 0)
  else
    let cs := us.map (fun u => Fmt.bf16.encode u.val)
    (blockData 0x20 2 epoch rank basis row0 count group (cs.flatMap (fun c => leBytes 2 c.v)), (cs.filter (·.flush)).length,
      (cs.filter (·.sat)).length)

/-- A block that fails its checks is answered (Table 11-11) and counted; checks 2 to 4 and STALE_EPOCH are violations of the port (Table 11-15). -/
def Dev.blockFails (d : Dev) (n q : Nat) (p : Packet) (code : Nat) : Dev :=
  let d := d.sendNack p code
  if code = nackDamaged then d.count F.LEX_DAMAGED_V q
  else if code = 0x64 then d.count F.LEX_NO_TABLE_V q
  else d.violation n 0x08 p.src

/-! ### The KV roll, receiving side (R168 to R172) -/

/-- The key of a receive slot. -/
def kvKey (q s : Nat) : Nat := 128 * q + s

/-- Receive slot s of quarter q. -/
def Dev.kvSlot (d : Dev) (q s : Nat) : KvSlot := mget {} d.sys.kv (kvKey q s)

/-- Replace a receive slot. -/
def Dev.setKvSlot (d : Dev) (q s : Nat) (k : KvSlot) : Dev := { d with sys := { d.sys with kv := mset {} d.sys.kv (kvKey q s) k } }

/-- The slot whose range contains an NS offset of an LCI: an armed one before others, the lowest-numbered among equals (R168, R184). -/
def Dev.kvFind (d : Dev) (q lci off : Nat) : Option Nat :=
  let hit := fun s => d.get F.KVR_ADDR_LCI q s = lci && d.get F.KVR_ADDR_OFFSET q s ≤ off
    && off < d.get F.KVR_ADDR_OFFSET q s + 64 + d.get F.KVR_LEN_LEN q s
  match (List.range 128).find? (fun s => hit s && d.get F.KVR_STATE_STATE q s ≠ 0) with
  | some s => some s
  | none => (List.range 128).find? hit

/-- The checks of a stripe header in the order of Table 07-2, 0 where it passes (R167, R169). -/
def Dev.kvHeaderCheck (d : Dev) (q s : Nat) (h : List Byte) : Nat :=
  let k := d.kvSlot q s
  let htype := leAt h 0 1
  let kfmt := leAt h 1 1
  let gfmt := leAt h 2 1
  let dim := leAt h 3 1
  let step := leAt h 8 4
  let attempt := leAt h 12 2
  let tokens := leAt h 32 4
  let len := leAt h 36 4
  let bad := !(htype = 1 || htype = 2) || !(kfmt = 2 || kfmt = 6) || gfmt ≠ htype - 1 || !(1 ≤ dim && dim ≤ 4)
    || tokens < 64 || 65536 < tokens || tokens % 64 ≠ 0 || len ≠ tokens * (if htype = 2 then 768 else 256) * dim
    || d.get F.KVR_LEN_LEN q s < len || !(slice h 40 24).all (· = 0) || !(slice h 29 3).all (· = 0)
  if bad then 0x03
  else if step < k.step || (step = k.step && attempt < k.attempt) then 0x04
  else if step ≠ k.step || attempt ≠ k.attempt || leAt h 4 2 ≠ k.layer || leAt h 6 2 ≠ k.round then 0x05
  else 0

/-- A write is rejected at a slot with a final code (Table 07-3); `count`: the stripe is counted in KVR_REJECTS, once (R184). -/
def Dev.kvReject (d : Dev) (n q s code : Nat) (count : Bool) (p : Packet) : Dev :=
  let d := d.put F.KVR_STATE_REASON q s code
  ((if count then d.count F.KVR_REJECTS_V q else d).sendNack p code true).violation n 0x0A p.src

/-- A write that lies in no slot's range (R168): NO_SLOT. Its stripe is counted once; a stripe's writes follow one another upwards (R168, R184). -/
def Dev.kvNoSlot (d : Dev) (n : Nat) (p : Packet) : Dev :=
  let q := bits p.addr 35 34
  let off := bits p.addr 22 0
  let key := 256 * p.src + 64 * q + bits p.addr 33 28
  let last := mget 0 d.sys.kvLost key
  let d := { d with sys := { d.sys with kvLost := mset 0 d.sys.kvLost key (off + 1) } }
  ((if last = 0 || off < last then d.count F.KVR_REJECTS_V q else d).sendNack p 0x02 true).violation n 0x0A p.src

/-- The bytes of a stripe already landed become undefined (Table 07-3). -/
def Dev.kvSpoil (d : Dev) (q s : Nat) : Dev :=
  match d.lciCore q (d.get F.KVR_ADDR_LCI q s) with
  | some c =>
    let base := d.get F.KVR_ADDR_OFFSET q s
    d.freeLocal c (2 ^ 63 + 0x1000000 + base) ((d.kvSlot q s).next - base)
  | none => d

/-- The bytes of a write on the KV roll channel, expanded where it is a block, at slot s of core c (R169, R170, Table 07-3). -/
def Dev.kvTake (d : Dev) (n q s c : Nat) (p : Packet) (bs : List Byte) : Dev :=
  let off := bits p.addr 22 0
  let st := d.get F.KVR_STATE_STATE q s
  let base := d.get F.KVR_ADDR_OFFSET q s
  let k := d.kvSlot q s
  let header := off = base && !p.block
  if k.aborted && !header then (d.setKvSlot q s { k with counted := true }).kvReject n q s 0x07 (!k.counted) p
  else if st = 0 || st = 3 then ((d.put F.KVR_STATE_REASON q s 0x01).count F.KVR_BUSY_V q).sendNack p 0x01 false
  else if st = 1 then
    if !header || bs.length ≠ 64 then d.kvReject n q s 0x06 false p
    else
      let code := d.kvHeaderCheck q s bs
      if code ≠ 0 then d.kvReject n q s code true p
      else
        let d := d.storeWrite c (.ns base) bs
        let d := d.setKvSlot q s { k with next := base + 64, len := leAt bs 36 4, got := 0, aborted := false, counted := false }
        (d.put F.KVR_STATE_STATE q s 2).respond p 0 []
  else if off ≠ k.next || k.len < k.got + bs.length then ((d.kvSpoil q s).put F.KVR_STATE_STATE q s 1).kvReject n q s 0x06 true p
  else
    let d := d.storeWrite c (.ns off) bs
    let d := d.setKvSlot q s { k with next := off + bs.length, got := k.got + bs.length }
    let d := if k.got + bs.length = k.len then
        let d := d.put F.KVR_STATE_STATE q s 3
        match d.lciCore q (d.get F.KVR_SEL_TAP_LCI q s) with
        | some t => d.pulse t (d.get F.KVR_SEL_TAP q s)
        | none => d
      else d
    d.respond p 0 []

/-- A write on the KV roll channel reaches its quarter (R168 to R170, R303): LEX checks a block first, then the slot is found. -/
def Dev.kvArrive (d : Dev) (n : Nat) (p : Packet) : Dev :=
  let q := bits p.addr 35 34
  let lci := bits p.addr 33 28
  match (if p.block then d.lexBlock q p else .inl (.mx p.data)) with
  | .inr code => d.blockFails n q p code
  | .inl (.rows _ _ _ _) => d.blockFails n q p nackBadCode
  | .inl (.mx bs) =>
    let d := if p.block then d.count F.LEX_BLOCKS_V q else d
    match (if bitOf p.addr 27 && bits p.addr 26 23 = 0 then d.kvFind q lci (bits p.addr 22 0) else none), d.lciCore q lci with
    | some s, some c => d.kvTake n q s c p bs
    | _, _ => d.kvNoSlot n p

end Sys2Proof.Machine
end

