-- ==== Sys2Proof/Machine/Outcome.lean ====
section
/-!
DEFINITION. Sys2Proof/Machine/Outcome.lean: how a meaning answers: a change of the device as a next state, and the fault of an operand that
names no unit of the device.
-/

namespace Sys2Proof.Machine

/-- What a meaning answers. -/
abbrev Out := Host.Outcome State Fault Refusal

/-- A meaning that changes the device and leaves the queue. -/
def State.run (s : State) (f : Dev → Dev) : Out := .next { s with dev := f s.dev }

/-- A meaning whose operands name a unit only under a condition; otherwise the fault. -/
def State.runOn (s : State) (ok : Bool) (f : Dev → Dev) : Out := if ok then s.run f else .fault .noSuchUnit

/-- A beat is idle under the duty in force (R392). -/
def Dev.idleBeat (d : Dev) : Bool := d.get F.PWR_STATUS_DUTY + 1 ≤ d.beat % 8

/-- Core c is a spare, which is clocked and idle (R15). -/
def Dev.spare (d : Dev) (c : Nat) : Bool := (d.bindOf c).role = 2

/-- The clocks of core c are stopped: it failed or did not pass its start-up test, the device is in the clock safe state (Table 03-2), or the beat is
idle (R392). -/
def Dev.clockStopped (d : Dev) (c : Nat) : Bool := d.gated c || d.clk.safe || d.idleBeat

/-- The units of core c do nothing: its clocks are stopped, or it is a spare, which runs nothing and sends no request to memory until a partial
reload makes it active (R15, R17). -/
def Dev.clockGated (d : Dev) (c : Nat) : Bool := d.clockStopped c || d.spare c

/-- A meaning that a unit of core c carries out; nothing happens while the core's clocks are gated. -/
def State.runCore (s : State) (ok : Bool) (c : Nat) (f : Dev → Dev) : Out :=
  s.runOn (decide (c < 272) && ok) fun d => if d.clockGated c then d else f d

/-- A meaning that the fabric's units carry out (ports, LCX, LEX, FRE, packets in the device); nothing happens while their clocks are gated (R48, Table 03-2). -/
def State.runFab (s : State) (ok : Bool) (f : Dev → Dev) : Out := s.runOn ok fun d => if d.clk.safe then d else f d

end Sys2Proof.Machine
end

