-- ==== Sys2Proof/Machine/Numerics.lean ====
section
/-!
DEFINITION. Sys2Proof/Machine/Numerics.lean: dynamic loss scaling and the silent-gradient watchdog (R116 to R123): what a step close does to them, the
snapshot that undoes it, and the two writes that wait for a close.
-/

namespace Sys2Proof.Machine

/-- NUM_LS_SET (R120): with HOLD set the exponent is held until the next close; a value above 24 is taken as 24. -/
def execNumLsSet (value : Nat) (s : State) : Out := s.run fun d =>
  if bitOf value 31 then
    ({ d with num := { d.num with held := some (min 24 (bits value 4 0)) } }).putD F.NUM_STEP_STATUS_HOLD_PENDING 1
  else d

/-- NUM_LS_CLEAN (R120): taken between 1 and 1,048,576; in force from the next close. -/
def execNumLsClean (value : Nat) (s : State) : Out := s.run fun d =>
  d.putD F.NUM_LS_CLEAN_CLEAN_STEPS (min 1048576 (atLeast1 (bits value 20 0)))

/-- Table 05-7 at the close of a step, CLEAN_STEPS as written taking effect first (R119, R120). -/
def Dev.lossScale (d : Dev) (skipped : Bool) : Dev :=
  let clean := d.get F.NUM_LS_CLEAN_CLEAN_STEPS
  let d := { d with num := { d.num with clean := clean } }
  let e := d.get F.NUM_LS_EXP
  let n := d.get F.NUM_LS_RUN
  let set := fun (d : Dev) (e n : Nat) => (d.putD F.NUM_LS_EXP e).putD F.NUM_LS_RUN n
  match d.num.held with
  | some h => (set { d with num := { d.num with held := none } } h 0).putD F.NUM_STEP_STATUS_HOLD_PENDING 0
  | none =>
    if skipped then
      if e = 0 then (set (d.putD F.NUM_STEP_STATUS_FLOOR 1) 0 0).record .lsFloor (devSource 0) []
      else set d (e - 1) 0
    else if n + 1 < clean then set d e (n + 1)
    else if e < 24 then set d (e + 1) 0
    else set d e 0

/-- The figures of group g at a step close (R122, R123). -/
def Dev.watchGroup (d : Dev) (step g : Nat) : Dev :=
  let nz := mget 0 d.num.gnz g
  let d := (d.put F.NUM_GNZ_V 0 g nz).put F.NUM_GEXP_EXP 0 g (mget 0 d.num.gexp g)
  let watch := d.get F.NUM_GWATCH_WATCH_STEPS 0 g
  let d := { d with num := { d.num with watch := mset 0 d.num.watch g watch } }
  if nz ≠ 0 then { d.put F.NUM_GWATCH_ZERO_RUN 0 g 0 with num := { d.num with told := d.num.told.filter (· ≠ g) } }
  else
    let run := min 65535 (d.get F.NUM_GWATCH_ZERO_RUN 0 g + 1)
    let d := d.put F.NUM_GWATCH_ZERO_RUN 0 g run
    if watch ≠ 0 && watch ≤ run && !d.num.told.contains g then
      { d with num := { d.num with told := d.num.told ++ [g] } }.record .silentGradient (devSource 0) [(2, g), (4, step), (2, run)]
    else d

/-- The watchdog at the close of a step (R123): every group of SECT_NUM. -/
def Dev.watchdog (d : Dev) (step groups : Nat) : Dev :=
  let d := d.each (List.range groups) (fun d g => d.watchGroup step g)
  { d with num := { d.num with gnz := [], gexp := [] } }

/-- FP32 values that this device places into a gradient bucket of group g (R122). -/
def Dev.countGradient (d : Dev) (g : Nat) (vals : List F32) : Dev :=
  let nz := vals.filter (fun x => x.toNat % 2 ^ 31 ≠ 0)
  let top := nz.foldl (fun m x => max m (x.toNat / 2 ^ 23 % 256)) 0
  { d with num := { d.num with gnz := mset 0 d.num.gnz g (min (2 ^ 32 - 1) (mget 0 d.num.gnz g + nz.length))
                               gexp := mset 0 d.num.gexp g (max (mget 0 d.num.gexp g) top) } }

/-- The registers of the step in hand that a close changes, kept for UNDO_CLOSE (R375, R376). -/
def Dev.numSnapshot (d : Dev) (groups step attempt : Nat) : NumSnapshot :=
  { exp := d.get F.NUM_LS_EXP, run := d.get F.NUM_LS_RUN, clean := d.num.clean, held := d.num.held, step := d.get F.NUM_STEP_V
    status := b2n (d.flag F.NUM_STEP_STATUS_LAST_SKIPPED) + 2 * b2n (d.flag F.NUM_STEP_STATUS_FLOOR)
    groups := (List.range groups).map (fun g =>
      (d.get F.NUM_GWATCH_ZERO_RUN 0 g, d.get F.NUM_GNZ_V 0 g, d.get F.NUM_GEXP_EXP 0 g, d.num.told.contains g))
    atStep := step, atAttempt := attempt }

/-- A full image load (R116): e is LS_INIT, n is 0, a held write is dropped, and every group's figures are cleared. -/
def Dev.loadNumerics (d : Dev) (lsInit clean : Nat) (groups : List GroupCfg) : Dev :=
  let d := (((d.putD F.NUM_LS_EXP lsInit).putD F.NUM_LS_RUN 0).putD F.NUM_STEP_STATUS_HOLD_PENDING 0).putD F.NUM_LS_CLEAN_CLEAN_STEPS clean
  let d := { d with num := { d.num with held := none, clean := clean, gnz := [], gexp := [], told := []
                                        watch := groups.zipIdx.foldl (fun m (x : GroupCfg × Nat) => mset 0 m x.2 x.1.watch) [] } }
  d.each (List.range 1024) fun d g =>
    (((d.put F.NUM_GWATCH_ZERO_RUN 0 g 0).put F.NUM_GNZ_V 0 g 0).put F.NUM_GEXP_EXP 0 g 0).put F.NUM_GWATCH_WATCH_STEPS 0 g
      (groups.getD g {}).watch

end Sys2Proof.Machine
end

