-- ==== Sys2Proof/Machine/ShardOps.lean ====
section
/-!
DEFINITION. Sys2Proof/Machine/ShardOps.lean: version banks and the gather ledger (R366 to R369), as the commands and the SEAL of a publication share
them.
-/

namespace Sys2Proof.Machine

/-- A bank is READY. -/
def Dev.bankReady (d : Dev) (b : Nat) : Bool := d.get F.SHD_BANK_STATE_STATE 0 b = 2

/-- The version of a bank. -/
def Dev.bankVer (d : Dev) (b : Nat) : Nat := d.get F.SHD_BANK_VER_V 0 b

/-- The current bank (R366): the READY bank with the higher version, bank 0 if both hold the same. -/
def Dev.currentBank (d : Dev) : Option Nat :=
  if d.bankReady 0 && d.bankReady 1 then some (if d.bankVer 0 < d.bankVer 1 then 1 else 0)
  else if d.bankReady 0 then some 0
  else if d.bankReady 1 then some 1
  else none

/-- SHD_STATUS shows the current bank. -/
def Dev.showShd (d : Dev) : Dev :=
  match d.currentBank with
  | some b => (d.putD F.SHD_STATUS_CUR_VALID 1).putD F.SHD_STATUS_CUR b
  | none => (d.putD F.SHD_STATUS_CUR_VALID 0).putD F.SHD_STATUS_CUR 0

/-- A SHD_CMD command is ignored (Table 13-4). -/
def Dev.shdRefuse (d : Dev) : Dev := d.putD F.SHD_STATUS_REFUSED 1

/-- A global address lies in bank b (R367). -/
def Dev.inBank (d : Dev) (b a : Nat) : Bool :=
  let lo := d.get F.SHD_BANK_BASE_BASE 0 b * 2097152
  bits a 56 40 = d.chip && a < 2 ^ 57 && lo ≤ a % 2 ^ 40 && a % 2 ^ 40 < lo + 2097152 * d.get F.SHD_BANK_SIZE_PAGES 0 b

/-- A publication's SEAL is consumed (Table 13-4): a FILLING bank that holds the slot's DST and was opened for another version takes MISMATCH. -/
def Dev.publishSeal (d : Dev) (dst step : Nat) : Dev :=
  d.each [0, 1] fun d b =>
    if d.get F.SHD_BANK_STATE_STATE 0 b = 1 && d.inBank b dst && d.bankVer b ≠ step then
      (d.put F.SHD_BANK_STATE_MISMATCH 0 b 1).record .bankVersionMismatch (devSource 0) []
    else d

/-- DROP (Table 13-4): the bank is EMPTY; MISMATCH stands until the next OPEN. -/
def Dev.dropBank (d : Dev) (b : Nat) : Dev := (d.put F.SHD_BANK_STATE_STATE 0 b 0).showShd

/-- CLEAR_LEDGER (R369): every entry is cleared. -/
def Dev.clearLedger (d : Dev) : Dev := d.each (List.range 1024) fun d g => d.setReg .shdLedger 0 g 0

/-- The outcome of a gather goes to SHD_GRESULT of core c (Table 13-11). -/
def Dev.gatherResult (d : Dev) (c status bank version : Nat) : Dev :=
  ((d.put F.SHD_GRESULT_STATUS c 0 status).put F.SHD_GRESULT_BANK c 0 bank).put F.SHD_GRESULT_VERSION c 0 version

/-- One gather of group g (R368, Table 13-5). -/
def Dev.gather (d : Dev) (c : Nat) (backward : Bool) (g : Nat) : Dev :=
  let cur := d.currentBank
  let ver := (cur.map d.bankVer).getD 0
  let fwd := d.get F.SHD_LEDGER_FWD_VER 0 g
  if d.groups ≤ g then d.gatherResult c 3 0 0
  else if !d.flag F.SHD_LEDGER_FWD_VALID 0 g then
    if backward then d.gatherResult c 4 0 0
    else
      match cur with
      | none => d.gatherResult c 3 0 0
      | some b =>
        (((d.put F.SHD_LEDGER_FWD_VER 0 g ver).put F.SHD_LEDGER_FWD_BANK 0 g b).put F.SHD_LEDGER_FWD_VALID 0 g 1).gatherResult c 0 b ver
  else
    match cur with
    | some b =>
      if ver = fwd then d.gatherResult c 0 b ver
      else if d.bankReady (1 - b) && d.bankVer (1 - b) = fwd then
        (((d.put F.SHD_LEDGER_CHANGED 0 g 1).count F.SHD_MISMATCH_V).record .shardVersion (coreSource c 4)
          [(2, g), (4, fwd), (4, ver), (1, 1 - b)]).gatherResult c 1 (1 - b) fwd
      else gone d fwd ver
    | none => gone d fwd 0
where
  /-- no READY bank holds the version that forward used -/
  gone (d : Dev) (fwd ver : Nat) : Dev :=
    (((d.put F.SHD_LEDGER_GONE 0 g 1).count F.SHD_GONE_V).record .shardGone (coreSource c 4) [(2, g), (4, fwd), (4, ver)]).gatherResult c 2 0 0

/-- The snapshot of the last close is discarded (R375). -/
def Dev.dropSnapshot (d : Dev) : Dev := { d with num := { d.num with snapshot := none } }.putD F.SHD_STATUS_SNAPSHOT 0

/-- UNDO_CLOSE (R377). -/
def Dev.undoClose (d : Dev) : Dev :=
  match d.num.snapshot with
  | none => d.shdRefuse
  | some p =>
    let d := ((d.putD F.NUM_LS_EXP p.exp).putD F.NUM_LS_RUN p.run).putD F.NUM_STEP_V p.step
    let d := ((d.putD F.NUM_STEP_STATUS_LAST_SKIPPED (p.status % 2)).putD F.NUM_STEP_STATUS_FLOOR (p.status / 2)).putD
      F.NUM_STEP_STATUS_HOLD_PENDING (b2n p.held.isSome)
    let d := d.each p.groups.zipIdx fun d (x : (Nat × Nat × Nat × Bool) × Nat) =>
      ((d.put F.NUM_GWATCH_ZERO_RUN 0 x.2 x.1.1).put F.NUM_GNZ_V 0 x.2 x.1.2.1).put F.NUM_GEXP_EXP 0 x.2 x.1.2.2.1
    let told := (p.groups.zipIdx.filter (fun (x : (Nat × Nat × Nat × Bool) × Nat) => x.1.2.2.2)).map (·.2)
    { d with num := { d.num with held := p.held, clean := p.clean, told := told } }.dropSnapshot

end Sys2Proof.Machine
end

