-- ==== Sys2Proof/Machine/ColOps.lean ====
section
/-!
DEFINITION. Sys2Proof/Machine/ColOps.lean: collective slots (chapter 12): descriptors, FRE's reads and writes of memory, sending and windows, completion
and failure, the vote and the close of a step.
-/

namespace Sys2Proof.Machine

/-! ### Descriptors (R326, Tables 12-10 and 12-11) -/

def ColSlot.kind (c : ColSlot) : Nat := bits c.desc0 3 0
def ColSlot.quarter (c : ColSlot) : Nat := bits c.desc0 5 4
def ColSlot.treeId (c : ColSlot) : Nat := bits c.desc0 23 8
def ColSlot.factor (c : ColSlot) : Bool := bitOf c.desc0 24
def ColSlot.elem (c : ColSlot) : Nat := bits c.desc0 26 25
def ColSlot.rank (c : ColSlot) : Nat := bits c.desc0 33 27
def ColSlot.basis (c : ColSlot) : Nat := bits c.desc0 39 34
def ColSlot.epoch (c : ColSlot) : Nat := bits c.desc0 55 40
def ColSlot.bucket (c : ColSlot) : Nat := bits c.desc1 63 48
def ColSlot.attempt (c : ColSlot) : Nat := bits c.desc1 47 32
def ColSlot.step (c : ColSlot) : Nat := bits c.desc1 31 0
def ColSlot.group (c : ColSlot) : Nat := bits c.aux 9 0
def ColSlot.tap (c : ColSlot) : Nat := bits c.aux 21 16
def ColSlot.tapLci (c : ColSlot) : Nat := bits c.aux 27 22
def ColSlot.tapEn (c : ColSlot) : Bool := bitOf c.aux 28
def ColSlot.tiles (c : ColSlot) : Nat := c.bytes / 16384

/-- KIND codes of Table 12-1. -/
def kReduce : Nat := 1
def kBcast : Nat := 2
def kVote : Nat := 3
def kUpdate : Nat := 4

/-- Slot states of Table 12-13. -/
def csPosted : Nat := 1
def csWait : Nat := 2
def csRunning : Nat := 3
def csDone : Nat := 4
def csFailed : Nat := 5
def csSkipped : Nat := 6

/-- A slot. -/
def Dev.colSlot (d : Dev) (s : Nat) : ColSlot := mget {} d.col.slots s

/-- Replace a slot. -/
def Dev.setCol (d : Dev) (s : Nat) (c : ColSlot) : Dev := { d with col := { d.col with slots := mset {} d.col.slots s c } }

/-- Change a slot. -/
def Dev.updCol (d : Dev) (s : Nat) (f : ColSlot → ColSlot) : Dev := d.setCol s (f (d.colSlot s))

/-- State of a slot. -/
def Dev.colState (d : Dev) (s : Nat) : Nat := d.get F.COL_STATE_STATE 0 s

/-- Set the state of a slot. -/
def Dev.setColState (d : Dev) (s st : Nat) : Dev := d.put F.COL_STATE_STATE 0 s st

/-- The tree that a slot names. -/
def Dev.colTree (d : Dev) (c : ColSlot) : TreeRec :=
  (((d.img.inForce.map (·.trees)).getD []).find? (fun t => t.treeId = c.treeId)).getD {}

/-- The children of this device in a tree, with their levels (Table 02-11). -/
def TreeRec.kids (t : TreeRec) : List (Nat × Nat) := (t.children.zipIdx.filter (fun (x : Nat × Nat) => x.1 ≠ noChip)).map (fun (x : Nat × Nat) => (x.2, x.1))

/-- A slot as its descriptor registers stand. -/
def Dev.colRegs (d : Dev) (s : Nat) : ColSlot :=
  { desc0 := (d.reg .colDesc0 0 s).toNat, desc1 := (d.reg .colDesc1 0 s).toNat, src := d.get F.COL_SRC_V 0 s, dst := d.get F.COL_DST_V 0 s
    bytes := d.get F.COL_BYTES_BYTES 0 s, aux := (d.reg .colAux 0 s).toNat
    upd := [F.COL_UPD0_V, F.COL_UPD1_V, F.COL_UPD2_V, F.COL_UPD3_V, F.COL_UPD4_V, F.COL_UPD5_V, F.COL_UPD6_V, F.COL_UPD7_V, F.COL_UPD8_V].map
      (fun f => d.get f 0 s) }

/-- The checks of Table 12-2. -/
def Dev.colDescOk (d : Dev) (c : ColSlot) : Bool :=
  let qmask := (d.img.inForce.map (·.qmask)).getD 0
  let tree := ((d.img.inForce.map (·.trees)).getD []).any (fun t => t.treeId = c.treeId)
  let global := bits c.src 62 57 = 0 && bits c.dst 62 57 = 0
  let all := bitOf qmask c.quarter && c.elem ≠ 3
  if c.kind = kReduce then
    all && tree && global && c.bytes % 16384 = 0 && 4194304 ≤ c.bytes && c.bytes ≤ 67108864 && c.src % 16384 = 0 && c.dst % 16384 = 0
      && c.group < d.groups && (!c.factor || ((c.elem = 1 || c.elem = 2) && 1 ≤ c.rank && c.rank ≤ 64))
  else if c.kind = kBcast then
    all && tree && global && c.bytes % 256 = 0 && 256 ≤ c.bytes && c.bytes ≤ 67108864 && c.src % 256 = 0 && c.dst % 256 = 0
  else if c.kind = kVote then all && tree && c.bytes = 0
  else if c.kind = kUpdate then all && global && c.bytes = 0 && c.dst % 64 = 0 && c.group < d.groups
  else false

/-! ### FRE's reads and writes (R330, R334, R343) -/

/-- Where a global address leads FRE. -/
inductive FreAt where
  | phys (pa : Nat)
  | window
  /-- another chip, T4 or T5 -/
  | away
  | bad
deriving DecidableEq, Repr

/-- The translation of an address by the table as it stands (R187). -/
def Dev.freAt (d : Dev) (a : Nat) : FreAt :=
  if 2 ^ 57 ≤ a then .bad
  else if a / 2 ^ 40 ≠ d.chip then .away
  else if bits a 39 36 = 0xF then .window
  else if d.granules ≤ a % 2 ^ 40 / 65536 then .bad
  else
    match d.tableEntry (a % 2 ^ 40 / 65536) with
    | none => .bad
    | some e => if !xltValid e then .bad else if xltTier e = 3 then .phys (xltTarget e + a % 65536) else .away

/-- The page of an address is in motion: FRE waits as other requests do (R188). -/
def Dev.freBusy (d : Dev) (a : Nat) : Bool :=
  if 2 ^ 57 ≤ a || a / 2 ^ 40 ≠ d.chip || bits a 39 36 = 0xF || d.granules ≤ a % 2 ^ 40 / 65536 then false
  else
    match d.tableEntry (a % 2 ^ 40 / 65536) with
    | none => false
    | some e => xltValid e && xltMotion e

/-- Free bytes. -/
def Dev.freeBytes (d : Dev) (n : Nat) : List Byte × Dev :=
  ((List.range n).map (fun i => BitVec.ofNat 8 (Config.freeNat (d.free + i))), { d with free := d.free + n })

/-- The demand touch of a pooled page by FRE of quarter q (R244). -/
def Dev.freTouch (d : Dev) (q a : Nat) : Dev :=
  match d.tableEntry (a % 2 ^ 40 / 65536) with
  | some e => if xltPooled e then d.touchPage q (a % 2 ^ 40 / 2097152) else d
  | none => d

/-- FRE's read of a line of T4, T5 or another chip for a slot. -/
def Dev.freAccess (d : Dev) (s a : Nat) : Option MemAcc := d.sys.accs.find? (fun x => x.who = .fre s && x.addr = a)

/-- Of n lines from an address, those of T4, T5 and other chips are asked for (R240, R241); true once all of them are here. -/
def Dev.freFetch (d : Dev) (s q a n : Nat) : Bool × Dev :=
  let far := ((List.range n).map (fun i => a + 64 * i)).filter (fun x => d.freAt x = .away)
  let d := d.each (far.filter (fun x => (d.freAccess s x).isNone)) (fun d x => (d.access (.fre s) none q x (.read 64)).2)
  (far.all (fun x => (d.freAccess s x).any (fun r => match r.st with | .done _ _ => true | _ => false)), d)

/-- A slot that ends or is reset no longer waits for its writes, which go on. -/
def Dev.leaveOuts (d : Dev) (s : Nat) : Dev :=
  { d with sys := { d.sys with accs := d.sys.accs.map (fun x => if x.who = .freOut s then { x with who := .other } else x) } }

/-- FRE's reads for a slot are forgotten. -/
def Dev.dropFre (d : Dev) (s : Nat) : Dev := { d with sys := { d.sys with accs := d.sys.accs.filter (fun x => x.who ≠ .fre s) } }

/-- One line of 64 bytes for a slot of quarter q: its bytes, or the status of its failure. A line of T4, T5 or another chip has been fetched (`Dev.freFetch`).
DESIGN CHOICE: one whose request ended with LINK_ERROR is taken as R343 takes one read with MEM_ERROR (log 69). -/
def Dev.freLine (d : Dev) (s q a : Nat) : (Nat × List Byte) × Dev :=
  match d.freAt a with
  | .phys pa =>
    let (r, d) := (d.freTouch q a).sliceGet pa 64
    ((match r with | some bs => (0, bs) | none => (stMemError, [])), d)
  | .window =>
    let r := d.coreWindow (a % 2 ^ 40) (.read 64)
    (if r.1.1 = 0 || r.1.1 = stMemError then r.1 else (stTranslation, []), r.2)
  | .away =>
    match d.freAccess s a with
    | some x =>
      (match x.st with
        | .done code bs => (if code = 0 then (0, bs) else if code = stTranslation || code = stCoreWindow then (stTranslation, []) else (stMemError, []))
        | _ => (stMemError, []), d.dropAcc x.id)
    | none => ((stMemError, []), d)
  | .bad => ((stTranslation, []), d)

/-- n lines from an address. -/
def Dev.freLines (d : Dev) (s q a : Nat) : Nat → List (Nat × List Byte) × Dev
  | 0 => ([], d)
  | n + 1 =>
    let (l, d) := d.freLine s q a
    let (ls, d) := d.freLines s q (a + 64) n
    (l :: ls, d)

/-- Writes of a slot to T4, T5 or another chip are on their way. -/
def Dev.freOuts (d : Dev) (s : Nat) : Bool := d.sys.accs.any (fun x => x.who = .freOut s)

/-- Write one line or less at an address, for a slot of quarter q: false where it fails at once. A write to T4, T5 or another chip is on its way then; if it fails,
the slot does (`Dev.freWake`), and what needs the write done waits for it (`Dev.freOuts`). -/
def Dev.freWrite (d : Dev) (s q a : Nat) (bs : List Byte) : Bool × Dev :=
  match d.freAt a with
  | .phys pa => (d.freTouch q a).slicePut pa bs
  | .window =>
    let r := d.coreWindow (a % 2 ^ 40) (.write bs)
    (r.1.1 = 0, r.2)
  | .away => (true, (d.access (.freOut s) none q a (.write bs)).2)
  | .bad => (false, d)

/-- Write bytes from an address upwards, line by line; `fuel` is the number of lines. -/
def Dev.freWriteN (s q : Nat) (fuel : Nat) (a : Nat) (bs : List Byte) (r : Bool × Dev) : Bool × Dev :=
  match fuel with
  | 0 => r
  | n + 1 =>
    let k := 64 - a % 64
    let (ok, d) := r.2.freWrite s q a (bs.take k)
    Dev.freWriteN s q n (a + k) (bs.drop k) (r.1 && ok, d)

/-- The 16 FP32 values of a line; a line read with MEM_ERROR is 16 canonical quiet NaNs (R343). -/
def lineVals (l : Nat × List Byte) : List F32 :=
  if l.1 = stMemError then List.replicate 16 f32nan else (List.range 16).map (fun i => BitVec.ofNat 32 (leAt l.2 (4 * i) 4))

/-- An Inf or NaN among values (R342). -/
def anySpecial (vs : List F32) : Bool := vs.any (fun v => v.val.special)

/-! ### What is outstanding -/

/-- The outstanding packets of a slot. -/
def Dev.colOpen (d : Dev) (s : Nat) : List Req := d.fab.reqs.filter (fun r => r.waiter = .collective s)

/-- LEN bytes of a slot's unanswered packets to a chip (R336). -/
def Dev.colUnanswered (d : Dev) (s dst : Nat) : Nat :=
  ((d.colOpen s).filter (fun r => r.dst = dst)).foldl (fun n r => n + ((r.copy.map (·.len)).getD 0)) 0

/-- A slot forgets its unanswered packets and FRE's reads for it; late answers are discarded (R352). -/
def Dev.colForget (d : Dev) (s : Nat) : Dev :=
  { d.dropFre s with fab := { d.fab with reqs := d.fab.reqs.map (fun (r : Req) =>
      if r.waiter = .collective s then { r with waiter := .other, copy := none, resendAt := 0 } else r) } }

/-- WINDOW in bytes (Table 12-14). -/
def Dev.colWindow (d : Dev) : Nat := 1024 * max 16 (min 4096 (d.get F.COL_CFG_WINDOW))

/-- Bytes of the buffer that a held piece takes, in the form in which it arrived (R336). -/
def HeldPiece.bytes (h : HeldPiece) : Nat := if h.pkt.block || h.vals.isEmpty then h.pkt.len else 4 * h.vals.length

/-- FRE_BUF of a quarter shows the KiB reserved and those of held pieces. -/
def Dev.showFre (d : Dev) (q : Nat) : Dev :=
  let mine := d.col.slots.filter (fun (e : Nat × ColSlot) => e.2.quarter = q)
  let kib := mine.foldl (fun n (e : Nat × ColSlot) => n + e.2.kib) 0
  let held := mine.foldl (fun n (e : Nat × ColSlot) => n + e.2.held.foldl (fun m h => m + h.bytes) 0) 0
  (d.put F.FRE_BUF_RESERVED q 0 kib).put F.FRE_BUF_HELD q 0 (ceilDiv held 1024)

/-! ### Packets (Tables 12-4 and 12-5) -/

/-- The address of a collective packet. -/
def colAddr (c : ColSlot) (s row : Nat) : Nat :=
  0xD * 2 ^ 36 + c.quarter * 2 ^ 34 + s * 2 ^ 26 + c.step % 16 * 2 ^ 22 + c.attempt % 16 * 2 ^ 18 + row

/-- Send a packet of a slot. -/
def Dev.colSend (d : Dev) (s dst row : Nat) (block : Bool) (data : List Byte) : Dev :=
  let c := d.colSlot s
  d.request { ptype := 0x0B, block := block, dst := dst, addr := colAddr c s row, len := data.length, vc := 2, data := data } (.collective s) c.quarter

/-- MTYPE codes of Table 12-5. -/
def mtSeal : Nat := 1
def mtRestart : Nat := 2
def mtReplay : Nat := 3
def mtVoteUp : Nat := 4
def mtVoteDown : Nat := 5

/-- Send a control message of a slot with a STEP. -/
def Dev.colMessage (d : Dev) (s dst mtype : Nat) (flag : Bool) (step : Nat) : Dev :=
  let c := d.colSlot s
  let vote : Bool := c.kind = kVote
  d.colSend s dst 0 false (leBytes 1 mtype ++ leBytes 1 c.kind ++ leBytes 1 (b2n flag) ++ leBytes 1 0 ++ leBytes 4 step ++ leBytes 2 c.attempt
    ++ leBytes 2 (if vote then 0 else c.bucket) ++ leBytes 2 c.treeId ++ leBytes 2 0 ++ leBytes 4 (d.colTree c).rank
    ++ leBytes 4 (if vote then 0 else c.bytes) ++ List.replicate 40 0)

/-- Send a control message of a slot. -/
def Dev.colControl (d : Dev) (s dst mtype : Nat) (flag : Bool) : Dev := d.colMessage s dst mtype flag (d.colSlot s).step

/-- The answer OK of a collective packet (R300). -/
def Dev.colOk (d : Dev) (p : Packet) : Dev :=
  d.sendAnswer { ptype := 5, dst := p.src, src := d.chip, tag := p.tag, addr := p.addr, hops := atLeast1 (d.get F.FAB_CFG_TTL), vc := 1 }

/-! ### Leaving RUNNING -/

/-- Held packets are answered ABORTED (Table 12-6), and their blocks leave LEX's queue. -/
def Dev.abortHeld (d : Dev) (s : Nat) : Dev :=
  let c := d.colSlot s
  let open_ := (if c.kind = kReduce then (c.held.map (·.pkt)).eraseDups ++ c.sealWait.map (·.2) else []) ++ c.landing
  let d := d.each open_ fun d p => d.sendNack p 0x07 true
  let gone := c.held.filterMap (fun h => if h.pkt.block then some (leAt h.pkt.data 2 2) else none)
  let l := d.lex c.quarter
  let d := if gone.isEmpty then d else d.setLex c.quarter { l with queued := gone.foldl (fun q e => q.erase e) l.queued }
  d.updCol s fun c => { c with held := [], sealWait := [], landing := [] }

/-- A slot's reservation is freed (R336). -/
def Dev.colFree (d : Dev) (s : Nat) : Dev := (d.updCol s fun c => { c with kib := 0 }).showFre (d.colSlot s).quarter

/-- A slot fails (Table 12-3): REASON, the counter and COLL_FAILED; it sends nothing more. -/
def Dev.colFail (d : Dev) (s reason : Nat) : Dev :=
  let c := d.colSlot s
  let d := (((d.abortHeld s).colForget s).leaveOuts s).colFree s
  (((d.setColState s csFailed).put F.COL_STATE_REASON 0 s reason).count F.COL_FAILS_V).record .collFailed (evSource c.quarter 11 0x7F)
    [(1, s), (1, reason), (4, c.step), (2, c.attempt)]

/-- The tap of a slot is pulsed (Table 12-11). -/
def Dev.colPulse (d : Dev) (c : ColSlot) : Dev :=
  if c.tapEn then
    match d.lciCore c.quarter c.tapLci with
    | some k => d.pulse k c.tap
    | none => d
  else d

/-- All work of a slot is complete (Table 12-3, R329). -/
def Dev.colDone (d : Dev) (s : Nat) : Dev :=
  (((d.colFree s).setColState s csDone).colPulse (d.colSlot s)).collectiveEnds s

/-! ### REDUCE: sending S to the parent (R333, R335, R336, R339) -/

/-- Parts in which a tile is sent: four plain pieces, or one or two FACTOR blocks. -/
def ColSlot.parts (c : ColSlot) : Nat :=
  if !c.factor then 4 else if 64 * c.rank * (if c.elem = 1 then 4 else 2) ≤ 4080 then 1 else 2

/-- The tile that DST holds, as values; none where it cannot be read. A line read with MEM_ERROR sets the flag (R343). -/
def Dev.colTile (d : Dev) (s : Nat) (c : ColSlot) (k : Nat) : Option (List F32) × Bool × Dev :=
  let (ls, d) := d.freLines s c.quarter (c.dst + 16384 * k) 256
  let lost : Bool := ls.any (fun l => l.1 = stMemError)
  (if ls.any (fun l => l.1 = stTranslation) then none else some (ls.flatMap lineVals), lost, d)

/-- The table under which LCX may form a FACTOR block of a slot now (R309, R339): its EPOCH is CUR, but in a replay, and no advance is asked for. -/
def Dev.lcxTable (d : Dev) (s : Nat) (c : ColSlot) : Option TableSlot :=
  if d.flag F.LEX_STATUS_ADV_PENDING c.quarter || (c.epoch ≠ d.get F.LCX_EPOCH_CUR c.quarter && d.get F.COL_STATE_REPLAYS 0 s = 0) then none
  else ((d.lex c.quarter).slotOf c.epoch).filter (fun t => t.epoch = c.epoch)

/-- The next piece to the parent: whether one was sent. A FACTOR block waits until LCX may form it. -/
def Dev.reduceSend (d : Dev) (s : Nat) : Bool × Dev :=
  let c := d.colSlot s
  let parent := (d.colTree c).parent
  let k := c.nextSend
  let rows := 64 / c.parts
  let row := rows * c.nextPart
  let len := if c.factor then 16 + rows * c.rank * (if c.elem = 1 then 4 else 2) else 4096
  let table := d.lcxTable s c
  if !c.finished.contains k || d.freOuts s || d.freBusy (c.dst + 16384 * k) || d.colWindow < d.colUnanswered s parent + len || (c.factor && table.isNone) then (false, d)
  else
    match d.freFetch s c.quarter (c.dst + 16384 * k) 256 with
    | (false, d) => (false, d)
    | (true, d) =>
    match d.colTile s c k with
    | (none, _, d) => (false, d.colFail s 0x83)
    | (some vs, lost, d) =>
      let last := c.nextPart + 1 = c.parts
      let next := fun (c : ColSlot) => { c with ovf := c.ovf || lost, nextSend := if last then k + 1 else k, nextPart := if last then 0 else c.nextPart + 1 }
      match (if c.factor then table else none) with
      | some t =>
        let (data, fl, sa) := lcxBlock t c.elem c.epoch c.rank c.basis row rows c.group vs
        (true, (((d.countConv c.group fl sa).colSend s parent (64 * k + row) true data).updCol s next))
      | none =>
        let data := ((vs.drop (64 * row)).take (64 * rows)).flatMap (fun v => leBytes 4 v.toNat)
        (true, (d.colSend s parent (64 * k + row) false data).updCol s next)

/-- Send while the window allows. -/
def Dev.reduceSends (s : Nat) : Nat → Dev → Dev
  | 0, d => d
  | n + 1, d => match d.reduceSend s with | (true, d) => Dev.reduceSends s n d | (false, d) => d

/-- Every child's SEAL has been consumed. -/
def Dev.colSealed (d : Dev) (c : ColSlot) : Bool := (d.colTree c).kids.all (fun k => c.sealed_.contains k.1)

/-- Every row of every tile has been added for the child of level l. -/
def ColSlot.allAdded (c : ColSlot) (l : Nat) : Bool := (List.range c.tiles).all (fun k => mget 0 c.added (32 * k + l) = 2 ^ 64 - 1)

/-- A child's SEAL is consumed (R335, R342). -/
def Dev.sealTake (d : Dev) (s l : Nat) (p : Packet) : Dev :=
  let c := d.colSlot s
  (d.setCol s { c with sealed_ := c.sealed_ ++ [l], ovf := c.ovf || leAt p.data 2 1 = 1 }).colOk p

/-- SEALs whose pieces have all been added by now are consumed (R335, R337). -/
def Dev.sealsGo (d : Dev) (s : Nat) : Dev :=
  let c := d.colSlot s
  let ready := c.sealWait.filter (fun x => c.allAdded x.1)
  if ready.isEmpty then d
  else
    (d.updCol s fun c => { c with sealWait := c.sealWait.filter (fun x => !c.allAdded x.1) }).each ready fun d x => d.sealTake s x.1 x.2

/-- A REDUCE slot goes on: pieces, its SEAL, its completion (R335). -/
def Dev.reduceGo (d : Dev) (s : Nat) : Dev :=
  let d := d.sealsGo s
  let root : Bool := (d.colTree (d.colSlot s)).rank = 0
  let d := if root then d else Dev.reduceSends s (4 * (d.colSlot s).tiles + 1) d
  let c := d.colSlot s
  if d.colState s ≠ csRunning then d
  else if root then
    if c.finished.length = c.tiles && !d.freOuts s && d.colSealed c then (d.put F.COL_STATE_OVF 0 s (b2n c.ovf)).colDone s else d
  else if c.sealSent then (if (d.colOpen s).isEmpty then d.colDone s else d)
  else if c.nextSend = c.tiles && (d.colOpen s).isEmpty && d.colSealed c then
    ((d.colControl s (d.colTree c).parent mtSeal c.ovf).updCol s fun c => { c with sealSent := true }).put F.COL_STATE_OVF 0 s (b2n c.ovf)
  else d

/-! ### BCAST (R348) -/

/-- A piece may go to every child. -/
def Dev.bcastRoom (d : Dev) (s len : Nat) : Bool :=
  (d.colTree (d.colSlot s)).kids.all (fun k => d.colUnanswered s k.2 + len ≤ d.colWindow)

/-- Send a piece to every child. -/
def Dev.bcastOut (d : Dev) (s row : Nat) (data : List Byte) : Dev :=
  d.each (d.colTree (d.colSlot s)).kids fun d k => d.colSend s k.2 row false data

/-- The next piece: from SRC at rank 0, else the oldest that landed here. -/
def Dev.bcastSend (d : Dev) (s : Nat) : Bool × Dev :=
  let c := d.colSlot s
  if (d.colTree c).rank = 0 then
    let len := min 4096 (c.bytes - c.bcNext)
    if len = 0 || !d.bcastRoom s len || d.freBusy (c.src + c.bcNext) || d.freBusy (c.src + c.bcNext + len - 1) then (false, d)
    else
      match d.freFetch s c.quarter (c.src + c.bcNext) (len / 64) with
      | (false, d) => (false, d)
      | (true, d) =>
      let (ls, d) := d.freLines s c.quarter (c.src + c.bcNext) (len / 64)
      if ls.any (fun l => l.1 ≠ 0) then (false, d.colFail s 0x83)
      else (true, (d.bcastOut s (c.bcNext / 256) (ls.flatMap (·.2))).updCol s fun c => { c with bcNext := c.bcNext + len })
  else
    match c.held with
    | [] => (false, d)
    | h :: rest =>
      if !d.bcastRoom s h.pkt.len then (false, d)
      else (true, (d.bcastOut s h.row h.pkt.data).updCol s fun c => { c with held := rest })

/-- Send while the windows allow. -/
def Dev.bcastSends (s : Nat) : Nat → Dev → Dev
  | 0, d => d
  | n + 1, d => match d.bcastSend s with | (true, d) => Dev.bcastSends s n d | (false, d) => d

/-- Bytes landed. -/
def ColSlot.landedBytes (c : ColSlot) : Nat := c.landed.foldl (fun n x => n + x.2) 0

/-- A BCAST slot goes on: pieces, SEALs, completion (R348). -/
def Dev.bcastGo (d : Dev) (s : Nat) : Dev :=
  let d := Dev.bcastSends s (d.colWindow / 256 + 1) d
  let c := d.colSlot s
  let t := d.colTree c
  let sentAll : Bool := if t.rank = 0 then c.bcNext = c.bytes else c.landedBytes = c.bytes && c.held.isEmpty && c.bcSeal
  let d := d.showFre c.quarter
  if d.colState s ≠ csRunning || !sentAll || !(d.colOpen s).isEmpty then d
  else if c.sealSent || t.kids.isEmpty then d.colDone s
  else
    -- the version tag of rank 0 is the slot's STEP (R367); a member passes on the one that it received
    let tag := if t.rank = 0 then c.step else d.get F.COL_INFO_V 0 s
    (d.each t.kids fun d k => d.colMessage s k.2 mtSeal false tag).updCol s fun c => { c with sealSent := true }

/-! ### The close of a step (R346, R347) -/

/-- The command of an UPDATE slot has been written: DONE with vote 0, SKIPPED with vote 1 (R347). -/
def Dev.updateEnd (d : Dev) (s : Nat) : Dev :=
  let c := d.colSlot s
  ((d.setColState s (if c.ovf then csSkipped else csDone)).colPulse c).collectiveEnds s

/-- The write of its command failed: the pulse is still sent (R347). -/
def Dev.updateFails (d : Dev) (s : Nat) : Dev := (d.colPulse (d.colSlot s)).colFail s 0x83

/-- An UPDATE slot starts (R347): the command of Table 12-8 goes to DST and the tap is pulsed, once the command is there. -/
def Dev.updateStart (d : Dev) (s step e : Nat) (vote : Bool) : Dev :=
  let c := d.colSlot s
  let rec_ := leBytes 4 step ++ leBytes 1 (b2n vote) ++ leBytes 1 e ++ leBytes 2 c.bucket ++ leBytes 2 c.group ++ List.replicate 6 0
    ++ c.upd.flatMap (leBytes 4) ++ List.replicate 4 0 ++ leBytes 8 c.src
  let (ok, d) := (d.setCol s { c with ovf := vote }).freWrite s c.quarter c.dst rec_
  if !ok then d.updateFails s else if d.freOuts s then d.setColState s csRunning else d.updateEnd s

/-- The close of step (step, attempt) with its vote (R346): R118 to R123, the snapshot, and the slots of the step. -/
def Dev.stepClose (d : Dev) (step attempt : Nat) (vote : Bool) : Dev :=
  let e := d.get F.NUM_LS_EXP
  let d := { d with num := { d.num with snapshot := some (d.numSnapshot d.groups step attempt) } }.putD F.SHD_STATUS_SNAPSHOT 1
  let d := { d with col := { d.col with closed := d.col.closed ++ [(step, attempt)] } }
  let d := (d.putD F.NUM_STEP_STATUS_LAST_SKIPPED (b2n vote)).putD F.NUM_STEP_V step
  let d := if vote then (d.count F.NUM_SKIPS_V).record .stepSkipped (devSource 0) [] else d
  let d := (d.lossScale vote).watchdog step d.groups
  d.each d.col.slots fun d (x : Nat × ColSlot) =>
    let c := x.2
    let st := d.colState x.1
    if c.step ≠ step || c.attempt ≠ attempt then d
    else if c.kind = kReduce && st = csDone then d.setColState x.1 0
    else if c.kind = kUpdate && st = csPosted then d.updateStart x.1 step e vote
    else if c.kind = kBcast && st = csPosted && vote then (d.setColState x.1 csSkipped).collectiveEnds x.1
    else d

/-! ### VOTE (R344, R345) -/

/-- The member's part of the vote can be formed: no REDUCE of the step is under way or FAILED, every child has voted, and votes of the step
are not withheld (R344, R405). -/
def Dev.voteReady (d : Dev) (c : ColSlot) : Bool :=
  !d.col.slots.any (fun (x : Nat × ColSlot) => x.2.kind = kReduce && x.2.step = c.step && x.2.attempt = c.attempt
      && [csPosted, csWait, csRunning, csFailed].contains (d.colState x.1))
    && (d.colTree c).kids.all (fun k => c.voted.contains k.1) && d.flt.withheld ≠ some c.step

/-- The OR of the OVF of every REDUCE slot of the step on this device (R344). -/
def Dev.ownVote (d : Dev) (c : ColSlot) : Bool :=
  d.col.slots.any (fun (x : Nat × ColSlot) => x.2.kind = kReduce && x.2.step = c.step && x.2.attempt = c.attempt && d.colState x.1 ≠ 0
    && d.flag F.COL_STATE_OVF 0 x.1)

/-- A VOTE slot is complete once the vote is taken and every child has answered its VOTE_DOWN (R345). -/
def Dev.voteEnd (d : Dev) (s : Nat) : Dev := if (d.colSlot s).voteTaken && (d.colOpen s).isEmpty then d.colDone s else d

/-- The step of a slot is being rewound: a vote of it that has arrived and not closed it is discarded (R116, R121). -/
def Dev.rewound (d : Dev) (c : ColSlot) : Bool := decide (d.fltState = 1 ∧ c.step ≤ d.get F.FLT_PROGRESS_STEP)

/-- The vote is taken (R344): it closes its step if it is the first for its STEP and ATTEMPT (R346), and goes down the tree in descending order of
level. A vote of a step that is being rewound is discarded (R121). -/
def Dev.voteTake (d : Dev) (s : Nat) (vote : Bool) : Dev :=
  let c := d.colSlot s
  if d.rewound c then d
  else
    let d := (d.setCol s { c with voteTaken := true }).put F.COL_STATE_OVF 0 s (b2n vote)
    let d := if !d.col.closed.contains (c.step, c.attempt) then d.stepClose c.step c.attempt vote else d
    (d.each (d.colTree c).kids.reverse fun d k => d.colControl s k.2 mtVoteDown vote).voteEnd s

/-- A RUNNING VOTE slot goes on. -/
def Dev.voteGo (d : Dev) (s : Nat) : Dev :=
  let c := d.colSlot s
  if c.voteTaken then d.voteEnd s
  else if c.voteSent || d.rewound c || !d.voteReady c then d
  else
    let v := d.ownVote c || c.voteOr
    if (d.colTree c).rank = 0 then d.voteTake s v
    else (d.setCol s { c with voteSent := true }).colControl s (d.colTree c).parent mtVoteUp v

/-- VOTE slots whose condition may have come go on. -/
def Dev.votesGo (d : Dev) : Dev :=
  d.each d.col.slots fun d (x : Nat × ColSlot) => if (d.colSlot x.1).kind = kVote && d.colState x.1 = csRunning then d.voteGo x.1 else d

/-- A slot goes on, and with it the VOTE slots that wait for it. -/
def Dev.colGo (d : Dev) (s : Nat) : Dev :=
  let d := if d.colState s ≠ csRunning then d
    else
      let k := (d.colSlot s).kind
      if k = kReduce then d.reduceGo s else if k = kBcast then d.bcastGo s else d
  d.votesGo

/-! ### Release and buffer space (R327, R328, R336) -/

/-- KiB that a slot reserves. -/
def Dev.colKib (d : Dev) (c : ColSlot) : Nat :=
  d.colWindow / 1024 * (if c.kind = kReduce then (d.colTree c).kids.length else 1)

/-- KiB reserved at a quarter's FRE, of 16 MiB. -/
def Dev.freReserved (d : Dev) (q : Nat) : Nat :=
  (d.col.slots.filter (fun (x : Nat × ColSlot) => x.2.quarter = q)).foldl (fun n (x : Nat × ColSlot) => n + x.2.kib) 0

/-- Slots that wait at a quarter's FRE. -/
def Dev.colWaiting (d : Dev) (q : Nat) : List (Nat × ColSlot) :=
  d.col.slots.filter (fun (x : Nat × ColSlot) => x.2.quarter = q && d.colState x.1 = csWait)

/-- A slot takes its reservation and runs. -/
def Dev.colRun (d : Dev) (s : Nat) : Dev :=
  let c := d.colSlot s
  let k := d.colKib c
  ((((d.setCol s { c with kib := k }).setColState s csRunning).showFre c.quarter)).colGo s

/-- A release is ignored (R327). -/
def Dev.releaseMissed (d : Dev) (s : Nat) : Dev :=
  ((d.count F.COL_RELEASE_MISSED_V).putD F.COL_STATUS_RELEASE_MISSED 1).record .collReleaseMissed (evSource (d.colSlot s).quarter 11 0x7F)
    [(1, s), (1, d.colState s)]

/-- A release (R327, R328), by a write or by the pattern table. -/
def Dev.colRelease (d : Dev) (s : Nat) : Dev :=
  let c := d.colSlot s
  if d.colState s ≠ csPosted || c.kind = kUpdate then d.releaseMissed s
  else if c.kind = kVote then ((d.setColState s csRunning).votesGo)
  else
    -- a BCAST of the step that was closed last and skipped (R348)
    if c.kind = kBcast && d.flag F.NUM_STEP_STATUS_LAST_SKIPPED && d.get F.NUM_STEP_V = c.step then (d.setColState s csSkipped).collectiveEnds s
    else if c.kind = kReduce && c.factor && c.epoch ≠ d.get F.LCX_EPOCH_CUR c.quarter then d.colFail s 0x81
    else
      let d := { d with col := { d.col with nextRel := d.col.nextRel + 1 } }.setCol s { c with rel := d.col.nextRel }
      if (d.colWaiting c.quarter).isEmpty && d.freReserved c.quarter + d.colKib c ≤ 16384 then d.colRun s
      else d.setColState s csWait

/-- The slot released first of those waiting at an FRE is granted, if its space is free (R328). -/
def Dev.colGrant (d : Dev) (q : Nat) : Dev :=
  match (d.colWaiting q).foldl (fun (m : Option (Nat × ColSlot)) x => match m with
      | none => some x
      | some y => if x.2.rel < y.2.rel then some x else some y) none with
  | some (s, c) => if d.freReserved q + d.colKib c ≤ 16384 then d.colRun s else d
  | none => d

/-- Each beat of waiting counts (R328). -/
def Dev.countWaits (d : Dev) : Dev :=
  d.each (List.range 4) fun d q =>
    let n := (d.colWaiting q).length
    if n = 0 then d else d.count F.FRE_BUF_WAIT_V q 0 n

/-- RESET of a slot (R356). -/
def Dev.colReset (d : Dev) (s : Nat) : Dev :=
  ((((d.abortHeld s).colForget s).leaveOuts s).colFree s |>.updCol s fun c => { desc0 := c.desc0, desc1 := c.desc1 }).setColState s 0 |>.votesGo

/-! ### Replay (R351, R352) -/

/-- The slot forms S again from tile 0: the children in `ask` are asked to send again, and those in `wait` are discarded until they do. -/
def Dev.colAgain (d : Dev) (s : Nat) (ask wait : List (Nat × Nat)) : Dev :=
  let c := d.colSlot s
  let gone := c.held.filterMap (fun h => if h.pkt.block then some (leAt h.pkt.data 2 2) else none)
  let l := d.lex c.quarter
  let d := if gone.isEmpty then d else d.setLex c.quarter { l with queued := gone.foldl (fun q e => q.erase e) l.queued }
  let d := (d.colForget s).setCol s { c with part := [], added := [], held := [], finished := [], nextSend := 0, nextPart := 0, sealed_ := [], sealWait := []
                                             sealSent := false, ovf := false, await := wait.map (·.1) }
  let d := (d.count F.COL_STATE_REPLAYS 0 s).showFre c.quarter
  let t := d.colTree c
  let d := d.each ask fun d k => d.colControl s k.2 mtReplay false
  if t.rank = 0 then d else d.colControl s t.parent mtRestart false

/-- A mismatch of the second adder (R351, R353). -/
def Dev.colMismatch (d : Dev) (s line level : Nat) : Dev :=
  let c := d.colSlot s
  let src := evSource c.quarter 11 0x7F
  let d := (d.count F.FRE_DP_MISMATCH_V c.quarter).record .dualPathMismatch src [(1, s), (4, line), (1, level)]
  if 1 ≤ c.mism then (d.colFail s 0x82).record .freCheckFailed src []
  else
    let kids := (d.colTree c).kids
    (d.updCol s fun c => { c with mism := c.mism + 1 }).colAgain s kids kids

/-- A REPLAY from the parent (R352): S is sent again from tile 0. -/
def Dev.colReplay (d : Dev) (s : Nat) : Dev :=
  let c := d.colSlot s
  let d := (d.colForget s).setCol s { c with nextSend := 0, nextPart := 0, sealSent := false }
  let d := (d.setColState s csRunning).count F.COL_STATE_REPLAYS 0 s
  (d.colControl s (d.colTree c).parent mtRestart false).colGo s

/-! ### REDUCE: the additions (R332, R333, R342, R343, R350) -/

/-- Rows of 256 bytes of a tile that level l has received, as a mask. -/
def ColSlot.rowsAt (c : ColSlot) (tile l : Nat) : Nat := mget 0 c.added (32 * tile + l)

/-- The level whose turn it is in a tile; none once every child's term has been added. -/
def Dev.turnOf (d : Dev) (c : ColSlot) (tile : Nat) : Option Nat :=
  ((d.colTree c).kids.find? (fun k => c.rowsAt tile k.1 ≠ 2 ^ 64 - 1)).map (·.1)

/-- The tile's partial sum so far, beginning with this device's own contribution from SRC (R330, R332). None: SRC has no translation. -/
def Dev.colPart (d : Dev) (s tile : Nat) : Option (List F32) × Dev :=
  let c := d.colSlot s
  match c.part.find? (fun e => e.1 = tile) with
  | some e => (some e.2, d)
  | none =>
    let (ls, d) := d.freLines s c.quarter (c.src + 16384 * tile) 256
    if ls.any (fun l => l.1 = stTranslation) then (none, d)
    else
      let vs := ls.flatMap lineVals
      let d := if c.counted.contains tile then d else d.countGradient c.group vs
      (some vs, d.updCol s fun c => { c with part := c.part ++ [(tile, vs)], ovf := c.ovf || anySpecial vs
                                             counted := if c.counted.contains tile then c.counted else c.counted ++ [tile] })

/-- SRC of a tile can be read: its part has begun, or its lines of T4, T5 or another chip are here. -/
def Dev.colReady (d : Dev) (s tile : Nat) : Bool × Dev :=
  let c := d.colSlot s
  if c.part.any (fun e => e.1 = tile) then (true, d) else d.freFetch s c.quarter (c.src + 16384 * tile) 256

/-- A line is checked by the second adder (R350). -/
def Dev.dpChecked (d : Dev) (c : ColSlot) (line : Nat) : Bool := (line + c.step) % 2 ^ (d.get F.COL_CFG_DP_LOG2) = 0

/-- Add a child's rows to a tile at the child's turn, and answer OK (R333, R337). -/
def Dev.addRows (d : Dev) (s : Nat) (h : HeldPiece) : Dev :=
  let c := d.colSlot s
  let tile := h.row / 64
  let r0 := h.row % 64
  let n := h.vals.length / 64
  match d.colPart s tile with
  | (none, d) => (d.updCol s fun c => { c with held := h :: c.held }).colFail s 0x83
  | (some vs, d) =>
    let old := (vs.drop (64 * r0)).take (64 * n)
    let sum := old.zipWith fadd h.vals
    let vs' := vs.take (64 * r0) ++ sum ++ vs.drop (64 * (r0 + n))
    let lines := (List.range (4 * n)).map (fun i => 4 * h.row + i)
    let d := d.updCol s fun c =>
      { c with part := c.part.map (fun e => if e.1 = tile then (tile, vs') else e), ovf := c.ovf || anySpecial h.vals || anySpecial sum
               added := mset 0 c.added (32 * tile + h.level) (c.rowsAt tile h.level ||| ((2 ^ n - 1) * 2 ^ r0)) }
    let d := d.count F.FRE_ADDS_V c.quarter 0 (4 * n)
    let chk := (lines.filter (fun j => d.dpChecked c j)).length
    let d := if chk = 0 then d else d.count F.FRE_DP_CHECKS_V c.quarter 0 chk
    -- a packet whose rows lie in two tiles is answered once both have been added (R337)
    if (d.colSlot s).held.any (fun x => x.pkt = h.pkt) then d else d.colOk h.pkt

/-- Held pieces whose level's turn has come are added, oldest first. -/
def Dev.addHeld (s : Nat) : Nat → Dev → Dev
  | 0, d => d
  | n + 1, d =>
    let c := d.colSlot s
    match c.held.find? (fun h => d.turnOf c (h.row / 64) = some h.level) with
    | none => d
    | some h =>
      match d.colReady s (h.row / 64) with
      | (false, d) => d
      | (true, d) =>
      let d := d.updCol s fun c => { c with held := c.held.erase h }
      let l := d.lex c.quarter
      let d := if h.pkt.block then d.setLex c.quarter { l with queued := l.queued.erase (leAt h.pkt.data 2 2) } else d
      Dev.addHeld s n (d.addRows s h)

/-- FACTOR slots of a quarter go on once LCX can form their blocks (R309). -/
def Dev.lcxWake (d : Dev) (q : Nat) : Dev :=
  d.each (d.col.slots.filter (fun e => e.2.quarter = q && e.2.kind = kReduce && e.2.factor && d.colState e.1 = csRunning)) (fun d e => d.colGo e.1)

/-! ### FRE's accesses that have ended elsewhere (R240, R241, R343) -/

/-- A write of a RUNNING slot to T4, T5 or another chip failed: its pieces under way are answered ABORTED, and the slot fails (R343, R347, R348). -/
def Dev.freOutFails (d : Dev) (s : Nat) : Dev :=
  if d.colState s ≠ csRunning then d
  else if (d.colSlot s).kind = kUpdate then d.updateFails s
  else (d.colFail s 0x83).votesGo

/-- The writes of a RUNNING slot to T4, T5 or another chip have all arrived: pieces under way have landed (R337), and the slot goes on. -/
def Dev.freOutDone (d : Dev) (s : Nat) : Dev :=
  let c := d.colSlot s
  if d.colState s ≠ csRunning || d.freOuts s then d
  else if c.kind = kUpdate then d.updateEnd s
  else
    let d := d.setCol s { c with landing := [], held := if c.kind = kReduce || (d.colTree c).kids.isEmpty then c.held
                                   else c.held ++ c.landing.map (fun p => { level := 0, row := bits p.addr 17 0, pkt := p }) }
    (d.each c.landing fun d p => d.colOk p).colGo s

/-- Accesses of FRE have ended: slots whose lines have arrived go on, and those of which a write failed end. -/
def Dev.freWake (d : Dev) : Dev :=
  let ended := d.sys.accs.filter (fun a => match a.who, a.st with
    | .fre _, .done _ _ => true
    | .freOut _, .done _ _ => true
    | _, _ => false)
  if ended.isEmpty then d
  else
    let failed := (ended.filterMap (fun a => match a.who, a.st with
      | .freOut s, .done code _ => if code = 0 then none else some s
      | _, _ => none)).eraseDups
    let wrote := (ended.filterMap (fun a => match a.who with | .freOut s => some s | _ => none)).eraseDups
    let slots := (ended.filterMap (fun a => match a.who with | .fre s => if s < 256 then some s else none | _ => none)).eraseDups
    let d := { d with sys := { d.sys with accs := d.sys.accs.filter (fun a => match a.who, a.st with | .freOut _, .done _ _ => false | _, _ => true) } }
    let d := (d.each failed (fun d s => d.freOutFails s)).each wrote (fun d s => d.freOutDone s)
    d.each slots (fun d s => (Dev.addHeld s ((d.colSlot s).held.length + 1) d).colGo s)

/-- An access is settled when the outside has done its part in it (R241): an answer that comes after the window of a request to T4 or T5 is discarded, and the
request fails. -/
def Dev.accDone (d : Dev) (id code : Nat) (bs : List Byte) : Dev :=
  match d.acc id with
  | none => d
  | some a =>
    match a.st with
    | .remote _ =>
      let late := a.addr / 2 ^ 40 = d.chip && a.issued + 65536 * atLeast1 (d.get F.POOL_TIMEOUT_BEATS) ≤ d.now
      let code := if late then stLinkError else code
      (if !a.ahead then d.pieceDone id code (if late then [] else bs)
       else if code = 0 then (d.aheadIssued a).pieceDone id 0 []
       else if code = stTranslation then d.snare a
       else d.failPiece a code).settle.freWake
    | _ => d

end Sys2Proof.Machine
end

