-- ==== Sys2Proof/Machine/Answers.lean ====
section
/-!
DEFINITION. Sys2Proof/Machine/Answers.lean: packet requests from other chips (R300, R311), the answers to this device's own, and the loads of factor
tables (R307).
-/

namespace Sys2Proof.Machine

/-- Take a packet from a port's receive queue, or from those raised inside the device (16). -/
def Dev.takeFrom (d : Dev) (n : Nat) (p : Packet) : Dev :=
  if n = 16 then { d with fab := { d.fab with localq := d.fab.localq.erase p } } else d.takeRx n p

/-- A request ends. -/
def Dev.dropReq (d : Dev) (tag : Nat) : Dev := { d with fab := { d.fab with reqs := d.fab.reqs.filter (fun r => r.tag ≠ tag) } }

/-- Change a request. -/
def Dev.updReq (d : Dev) (tag : Nat) (f : Req → Req) : Dev :=
  { d with fab := { d.fab with reqs := d.fab.reqs.map (fun r => if r.tag = tag then f r else r) } }

/-- A block answered DAMAGED or NO_TABLE (R304). True: the request has ended with LINK_ERROR. -/
def Dev.blockAnswer (d : Dev) (r : Req) (code : Nat) : Bool × Dev :=
  match r.copy with
  | none => (true, d.dropReq r.tag)
  | some p =>
    if code = nackDamaged then
      if r.damaged < 4 then
        (false, ((d.updReq r.tag fun r => { r with damaged := r.damaged + 1 }).count F.LCX_RESENDS_V r.quarter).originate p)
      else (true, (d.dropReq r.tag).record .fabBlockFailed (evSource r.quarter 12 0x7F) [])
    else if r.noTable < 1024 then (false, d.updReq r.tag fun r => { r with noTable := r.noTable + 1, resendAt := d.beat + 2, busy := false })
    else (true, d.dropReq r.tag)

/-- A NACK that R304 answers by sending the block again. -/
def Packet.blockNack (p : Packet) : Bool := p.ptype = 7 && !p.final && (p.code = 0x60 || p.code = 0x64)

/-- An answer to a packet of a collective slot (R341). -/
def Dev.colAnswer (d : Dev) (s : Nat) (r : Req) (p : Packet) : Dev :=
  if p.ptype ≠ 7 then (d.dropReq r.tag).colGo s
  else if p.blockNack then
    let (ended, d) := d.blockAnswer r p.code
    if ended then (d.colFail s 0x84).votesGo else d
  else if p.code = 1 && !p.final then d.updReq r.tag fun r => { r with resendAt := d.beat + 1, busy := true }
  else ((d.dropReq r.tag).colFail s p.code).votesGo

/-- The status that an answer gives an access (R241, Table 08-4): a request to T4 knows only LINK_ERROR and MEM_ERROR. -/
def answerStatus (direct : Bool) (p : Packet) : Nat :=
  if p.ptype = 7 then stLinkError
  else if p.code = 0 then 0
  else if p.code = 1 then stMemError
  else if !direct then stLinkError
  else if p.code = 2 then stTranslation
  else if p.code = 3 then stCoreWindow
  else stLinkError

/-- An answer to a request of this device (R300). One whose TAG matches no outstanding request is a violation of the port that brought it. -/
def Dev.takeAnswer (d : Dev) (n : Nat) (p : Packet) : Dev :=
  let d := d.takeFrom n p
  let fits := fun (r : Req) => r.tag = p.tag && (p.ptype = 7 || p.ptype = (if r.ptype = 0x0B then 5 else r.ptype + 3))
  match d.fab.reqs.find? fits with
  | none => if n < 16 then d.violation n 0x06 p.src else d
  | some r =>
    match r.waiter with
    | .access id =>
      let direct := match d.acc id with | some a => a.addr / 2 ^ 40 ≠ d.chip | none => false
      (d.dropReq r.tag).accDone id (answerStatus direct p) p.data
    | .kvStripe c ch len =>
      if p.blockNack then
        let (ended, d) := d.blockAnswer r p.code
        if ended then (d.kvAnswer c ch len (0x100 + stLinkError)).settle else d
      else
        let d := d.dropReq r.tag
        let code := if p.ptype = 7 && p.code < 0x40 then p.code
          else if p.ptype ≠ 7 && p.code = 0 then 0
          else 0x100 + answerStatus true p
        (d.kvAnswer c ch len code).settle
    | .collective s => d.colAnswer s r p
    | _ => d.dropReq r.tag

/-- The answers come from a port or from inside the device. -/
def answerPort (n : Nat) : Bool := n ≤ 16

/-- FAB_READ_RESP (R300). -/
def execFabReadResp (n : Nat) (p : Packet) (s : State) : Out := s.runFab (answerPort n) fun d => if p.ptype = 4 then d.takeAnswer n p else d

/-- FAB_WRITE_ACK (R300). -/
def execFabWriteAck (n : Nat) (p : Packet) (s : State) : Out := s.runFab (answerPort n) fun d => if p.ptype = 5 then d.takeAnswer n p else d

/-- FAB_ATOMIC_RESP (R300). -/
def execFabAtomicResp (n : Nat) (p : Packet) (s : State) : Out := s.runFab (answerPort n) fun d => if p.ptype = 6 then d.takeAnswer n p else d

/-- FAB_NACK (R300, R304). -/
def execFabNack (n : Nat) (p : Packet) (s : State) : Out := s.runFab (answerPort n) fun d => if p.ptype = 7 then d.takeAnswer n p else d

/-- COLLECTIVE_ANSWER (R341): an answer to a packet that a slot has outstanding. -/
def execCollectiveAnswer (n : Nat) (p : Packet) (s : State) : Out := s.runFab (answerPort n) fun d =>
  let mine := d.fab.reqs.any (fun r => r.tag = p.tag && (match r.waiter with | .collective _ => true | _ => false))
  if (p.ptype = 5 || p.ptype = 7) && mine then d.takeAnswer n p else d

/-- COLLECTIVE_RESEND (R341): a packet answered BUSY goes again 1 beat later. -/
def execCollectiveResend (tag : Nat) (s : State) : Out := s.runFab true fun d =>
  match d.fab.reqs.find? (fun r => r.tag = tag) with
  | some r =>
    match r.copy with
    | some p =>
      if r.busy && r.resendAt ≠ 0 && r.resendAt ≤ d.beat then
        ((d.updReq tag fun r => { r with resendAt := 0, busy := false }).count F.COL_RESENDS_V).originate p
      else d
    | none => d
  | none => d

/-! ### Requests from other chips -/

/-- A request packet is served here, or forwarded (R311, R313). -/
def Dev.takeRequest (d : Dev) (n : Nat) (p : Packet) (f : Dev → Dev) : Dev :=
  let d := d.takeRx n p
  if p.dst ≠ d.chip then
    if p.hops = 0 then (d.countRefusal nackTtl).sendNack p nackTtl else d.sendPacket { p with hops := p.hops - 1 } (some n)
  else f d

/-- The access that a packet asks for. `err` is what the check of the store finds, if it names a core window. -/
def Dev.packetAccess (d : Dev) (n : Nat) (p : Packet) (o : AccOp) (err : Nat) : Dev :=
  (d.access (.packet p) none (n / 4) (d.chip * 2 ^ 40 + p.addr % 2 ^ 40) o false err).2.settle

/-- FAB_READ (R228, R300). -/
def execFabRead (n : Nat) (p : Packet) (err : Nat) (s : State) : Out := s.runFab (n < 16) fun d =>
  if p.ptype ≠ 1 then d
  else d.takeRequest n p fun d => if p.len = 0 then d.respond p 0 [] else d.packetAccess n p (.read p.len) err

/-- FAB_WRITE (R300, R302): a plain write is applied; a block on another channel than the KV roll's is refused. -/
def execFabWrite (n : Nat) (p : Packet) (err : Nat) (s : State) : Out := s.runFab (n < 16) fun d =>
  if p.ptype ≠ 2 || p.vc = 4 then d
  else d.takeRequest n p fun d =>
    if p.block then
      match d.lexBlock (bits p.addr 35 34) p with
      | .inr code => d.blockFails n (bits p.addr 35 34) p code
      | .inl _ => d.blockFails n (bits p.addr 35 34) p nackBadCode
    else if p.len = 0 then d.respond p 0 []
    else d.packetAccess n p (.write (slice p.data 0 p.len)) err

/-- FAB_ATOMIC (R300): at its home slice. -/
def execFabAtomic (n : Nat) (p : Packet) (s : State) : Out := s.runFab (n < 16) fun d =>
  if p.ptype ≠ 3 then d
  else d.takeRequest n p fun d =>
    match AtomOp.ofOpc p.aop with
    | none => (d.violation n 0x03 p.src).sendNack p 0x43
    | some op =>
      if p.len ≠ (if op = .cas then 16 else 8) then d.sendNack p 0x45
      else if p.addr % (if op.float then 4 else 8) ≠ 0 then d.respond p 1 []
      else
        let a := BitVec.ofNat 64 (leAt p.data 0 8)
        d.packetAccess n p (.atomic op (if op = .cas then BitVec.ofNat 64 (leAt p.data 8 8) else a) (if op = .cas then a else 0)) 0

/-- LEX_LOAD_DONE (R186, R307): the table of BASES bases is read from the device address in LEX_LOAD_ADDR into its slot; a read that fails leaves the slot empty. -/
def execLexLoadDone (q : Nat) (err : Bool) (s : State) : Out := s.runFab (q < 4) fun d =>
  let l := d.lex q
  let odd : Bool := l.loadEpoch % 2 = 1
  let a := d.chip * 2 ^ 40 + l.loadAddr % 2 ^ 40
  if !l.loadRunning then d
  else
    match d.freFetch (256 + q) q a (256 * l.loadBases) with
    | (false, d) => d
    | (true, d) =>
    let (ls, d) := d.freLines (256 + q) q a (256 * l.loadBases)
    let ok := !err && ls.all (fun x => x.1 = 0)
    let t : TableSlot := { epoch := l.loadEpoch, bases := l.loadBases, values := ls.flatMap lineVals }
    let d := d.setLex q ({ l with loadRunning := false }.setSlot l.loadEpoch (if ok then some t else none))
    let d := d.put F.LEX_STATUS_LOAD_BUSY q 0 0
    let d := if odd then d.put F.LEX_STATUS_SLOT1_VALID q 0 (b2n ok) else d.put F.LEX_STATUS_SLOT0_VALID q 0 (b2n ok)
    if ok then (if odd then d.put F.LEX_EPOCH_SLOT1 q 0 l.loadEpoch else d.put F.LEX_EPOCH_SLOT0 q 0 l.loadEpoch).lcxWake q
    else (d.put F.LEX_STATUS_LOAD_ERR q 0 1).record .lexLoadFailed (evSource q 12 0x7F) []

end Sys2Proof.Machine
end

