-- ==== Sys2Proof/Machine/RegOps.lean ====
section
/-!
DEFINITION. Sys2Proof/Machine/RegOps.lean: the register an address names (R481 to R485), its read and its write under the access codes (R5 to R8),
and the attestation log that records what changes the device (R473, R474).
-/

namespace Sys2Proof.Machine

/-! ### Addresses (R481 to R485) -/

/-- A place in the register file: register, unit, index, and byte offset in the register. -/
structure RegAt where
  reg : Reg
  unit : Nat := 0
  index : Nat := 0
  off : Nat := 0
deriving DecidableEq, Repr

/-- Where an offset in a block falls in a register's family: index and byte offset. -/
def RegInfo.within (f : RegInfo) (o : Nat) : Option (Nat × Nat) :=
  if o < f.base then none
  else
    let k := o - f.base
    let i := if f.stride = 0 then 0 else k / f.stride
    let r := if f.stride = 0 then k else k % f.stride
    if i < f.cnt && r < f.width / 8 then some (i, r) else none

/-- Where an address falls in a register. -/
def Reg.place (r : Reg) (addr : Nat) : Option RegAt :=
  let f := r.info
  let q := addr / 0x4000000
  let o := addr % 0x4000000
  match f.scope with
  | .dev => if q = 0 then (f.within o).map (fun x => ⟨r, 0, x.1, x.2⟩) else none
  | .quarterD => if 1 ≤ q && q ≤ 4 then (f.within o).map (fun x => ⟨r, 0, x.1, x.2⟩) else none
  | .quarter => if 1 ≤ q && q ≤ 4 then (f.within o).map (fun x => ⟨r, q - 1, x.1, x.2⟩) else none
  | .core =>
    if 1 ≤ q && q ≤ 4 && o < 68 * 0x40000 then (f.within (o % 0x40000)).map (fun x => ⟨r, 68 * (q - 1) + o / 0x40000, x.1, x.2⟩)
    else none

/-- The blocks that answer while the device waits for a clock, or in damped mode: BELFRY and SEC (R440, R477). -/
def alwaysAnswers (addr : Nat) : Bool := (0x100000 ≤ addr && addr < 0x200000) || (0x400000 ≤ addr && addr < 0x500000)

/-- The register that answers at an address (R439, R440, R477, R484). -/
def Dev.regAt (d : Dev) (addr : Nat) : Option RegAt :=
  if (d.clk.safe || d.flag F.BOOT_STATUS_DAMPED) && !alwaysAnswers addr then none
  else
    match Reg.all.findSome? (fun r => r.place addr) with
    | none => none
    | some a => if a.reg.info.scope = .core && d.gated a.unit then none else some a

/-! ### Access codes (R6 to R8) -/

/-- A field with an encoding table takes this value; any other is a reserved encoding (R8). -/
def encodingOk (r : Reg) (lo v : Nat) : Bool :=
  match r, lo with
  | .beatCtl, 0 => v ≤ 6
  | .hlCmdCtl, 0 => v ≤ 12
  | .hlEvtCtl, 0 => v ≤ 12
  | .dmaRingCtl, 0 => v ≤ 12
  | .shcRedBase, 60 => v ≤ 3
  | .shcRedBase, 57 => v ≤ 2
  | .mchTgCtl, 4 => v ≤ 5
  | .fabCfg, 0 => v ≤ 5
  | .fabRoute, 61 => v ≤ 1
  | .fabTorusPorts, _ => v ≤ 15 || v = 31
  | _, _ => true

/-- One field of a register as a write of `new` under the mask `win` leaves it. -/
def FieldInfo.write (f : FieldInfo) (r : Reg) (locked : Bool) (win new cur : RegVal) : RegVal :=
  let m := maskOf f.hi f.lo
  let merged := (cur &&& ~~~win) ||| (new &&& win)
  let v := bits merged.toNat f.hi f.lo
  let set := (cur &&& ~~~m) ||| (if encodingOk r f.lo v then merged &&& m else (BitVec.ofNat 256 f.rst <<< f.lo) &&& m)
  match f.acc with
  | .rw => set
  | .rwl => if locked then cur else set
  | .w1c => cur &&& ~~~(new &&& win &&& m)
  | .ro | .wo | .rc => cur

/-- The bits that an access of n bytes at byte `off` covers. -/
def window (off n : Nat) : RegVal := BitVec.ofNat 256 ((2 ^ (8 * n) - 1) * 2 ^ (8 * off))

/-- The registers of a tensor group at or above GROUPS, which read as zero and ignore writes (R127). -/
def Dev.vacant (d : Dev) (a : RegAt) : Bool :=
  [Reg.numGwatch, .numGnz, .numGexp, .numGflush, .numGsat].contains a.reg && decide (d.groups ≤ a.index)

/-- A write of n bytes at a place sets its fields under their access codes (R6 to R8). -/
def Dev.regWrite (d : Dev) (a : RegAt) (n value : Nat) : Dev :=
  let win := window a.off n
  let new := BitVec.ofNat 256 (value % 2 ^ (8 * n) * 2 ^ (8 * a.off))
  if d.vacant a then d
  else d.setReg a.reg a.unit a.index (a.reg.info.fields.foldl (fun v f => f.write a.reg d.img.locked win new v) (d.reg a.reg a.unit a.index))

/-- The register is cleared by its read. -/
def RegInfo.rc (f : RegInfo) : Bool := f.fields.any (fun x => x.acc = .rc)

/-- The bits of a register that its RC fields hold. -/
def RegInfo.rcMask (f : RegInfo) : RegVal := (f.fields.filter (fun x => x.acc = .rc)).foldl (fun v x => v ||| maskOf x.hi x.lo) 0

/-- The upper half latched for a register by a 32-bit read of its lower half (R5). -/
def Dev.latched (d : Dev) (a : RegAt) : Option Nat := (d.hl.latch.find? (fun e => e.1 = a.reg.addr a.unit a.index)).map (·.2)

/-- A read of n bytes at a place (R5, R6): its value, the clearing of an RC register, and the latching of an upper half. A read of BEAT_NOW,
or of its lower half, latches the fraction of the tick (R51). -/
def Dev.regRead (d : Dev) (a : RegAt) (n : Nat) : Nat × Dev :=
  let v := d.reg a.reg a.unit a.index
  let all := v.toNat
  let key := a.reg.addr a.unit a.index
  let wide := a.reg.info.width = 64
  let drop := d.hl.latch.filter (fun e => e.1 ≠ key)
  let d := if a.reg = .beatNow && a.off = 0 then d.putD F.BEAT_FRAC_FRAC d.frac16 else d
  let clear := fun (d : Dev) => if a.reg.info.rc then d.setReg a.reg a.unit a.index (v &&& ~~~a.reg.info.rcMask) else d
  if d.vacant a then (0, d)
  else if wide && n = 4 && a.off = 4 then
    match d.latched a with
    | some u => (u, { d with hl := { d.hl with latch := drop } })
    | none => (all / 2 ^ 32, d)
  else if wide && n = 4 && a.off = 0 then
    (all % 2 ^ 32, clear { d with hl := { d.hl with latch := drop ++ [(key, all / 2 ^ 32)] } })
  else (all / 2 ^ (8 * a.off) % 2 ^ (8 * n), clear d)

/-! ### The attestation log (R473, R474) -/

/-- Show bytes in a family of 32-bit registers, bytes 0 to 3 in the first. -/
def Dev.putWords (d : Dev) (f : Fld) (n : Nat) (bs : List Byte) : Dev := d.each (List.range n) (fun d i => d.put f 0 i (leAt bs (4 * i) 4))

/-- Append an entry to the attestation log and advance the chain (R473). -/
def Dev.logAppend (d : Dev) (type : Nat) (digest data : List Byte) : Dev :=
  let n := d.boot.count + 1
  let stamp := if d.flag F.BEAT_STATUS_VALID then leBytes 8 d.beat ++ leBytes 2 d.frac16 else List.replicate 10 0
  let e := leBytes 8 n ++ stamp ++ leBytes 2 type ++ List.replicate 4 0 ++ slice digest 0 32 ++ slice data 0 72
  let chain := sha256 (d.boot.chain ++ e)
  let log := d.boot.log ++ [e]
  ({ d with boot := { d.boot with log := log.drop (log.length - 4096), count := n, chain := chain } }.putD F.SEC_LOG_COUNT_V n).putWords
    F.SEC_LOG_CHAIN_V 8 chain

/-- An index is written to SEC_LOG_INDEX (R474): the entry is shown, or zero with GONE where it is not retained. -/
def Dev.showLog (d : Dev) (index : Nat) : Dev :=
  let d := d.putD F.SEC_LOG_INDEX_V index
  let first := d.boot.count - d.boot.log.length + 1
  match (if first ≤ index then d.boot.log[index - first]? else none) with
  | some e => d.putWords F.SEC_LOG_ENTRY_V 32 e
  | none => (d.putWords F.SEC_LOG_ENTRY_V 32 []).putD F.SEC_QUOTE_CTL_GONE 1

end Sys2Proof.Machine
end

