-- ==== Sys2Proof/Machine/FaultOps.lean ====
section
/-!
DEFINITION. Sys2Proof/Machine/FaultOps.lean: fault messages as they arrive (R410), the loss of a peer (R415, R417), the host of a lost device (R418, R419),
its standby (R420 to R422), and the repair of a core (R412).
-/

namespace Sys2Proof.Machine

/-! ### Fault messages (R410) -/

/-- The fault message of a packet. -/
def faultMsg (p : Packet) : FaultMsg := FaultMsg.parse p.data

/-- Take a packet from the port that brought it, or from those raised inside the device (16). -/
def Dev.takeMsg (d : Dev) (n : Nat) (p : Packet) : Dev :=
  if n < 16 then d.takeRx n p else { d with fab := { d.fab with localq := d.fab.localq.erase p } }

/-- A flooded message arrives: acted on if its key is new and its JOB is this device's, entered, and forwarded by the other UP ports. -/
def Dev.floodIn (d : Dev) (n : Nat) (p : Packet) (act : Dev → FaultMsg → Dev) : Dev :=
  let d := d.takeMsg n p
  let m := faultMsg p
  if d.keySeen m then d
  else
    let d := d.noteKey m
    let d := if m.job = d.job then act d m else d
    if p.hops = 0 then d
    else d.each (d.upPorts.filter (· ≠ n)) (fun d k => d.enqueue k { p with hops := p.hops - 1 })

/-- A routed message arrives: forwarded to its chip, or acted on here. -/
def Dev.routedIn (d : Dev) (n : Nat) (p : Packet) (act : Dev → FaultMsg → Dev) : Dev :=
  let d := d.takeMsg n p
  if p.dst ≠ d.chip then
    if p.hops = 0 then d.countRefusal nackTtl else d.sendPacket { p with hops := p.hops - 1 } (if n < 16 then some n else none)
  else act d (faultMsg p)

/-! ### Chips lost (R417) -/

/-- FLT_LOST names a chip, the oldest entry replaced first. -/
def Dev.noteLost (d : Dev) (chip inc : Nat) : Dev :=
  let same := (List.range 8).find? (fun i => d.flag F.FLT_LOST_VALID 0 i && d.get F.FLT_LOST_CHIP 0 i = chip)
  let free := (List.range 8).find? (fun i => !d.flag F.FLT_LOST_VALID 0 i)
  let i := same.getD (free.getD (d.flt.lostAge.headD 0))
  let d := ((d.put F.FLT_LOST_VALID 0 i 1).put F.FLT_LOST_INC 0 i inc).put F.FLT_LOST_CHIP 0 i chip
  { d with flt := { d.flt with lostAge := d.flt.lostAge.filter (· ≠ i) ++ [i] } }

/-- L leaves FLT_LOST and the refusal of R417 ends (R421). -/
def Dev.clearLost (d : Dev) (chip : Nat) : Dev :=
  let at_ := (List.range 8).filter (fun i => d.flag F.FLT_LOST_VALID 0 i && d.get F.FLT_LOST_CHIP 0 i = chip)
  let d := d.each at_ (fun d i => d.setReg .fltLost 0 i 0)
  { d with flt := { d.flt with lostAge := d.flt.lostAge.filter (fun i => !at_.contains i), refused := d.flt.refused.filter (· ≠ chip)
                               holdSince := d.flt.holdSince.filter (fun e => e.1 ≠ chip) } }

/-- The pool loses the T4 frames on a chip (R417 step 5): moves to or from it fail, and its pages become ABSENT. -/
def Dev.poolLoses (d : Dev) (chip : Nat) : Dev :=
  let on := fun (tier loc : Nat) => tier = 4 && loc / 2 ^ 40 = chip
  let hit := (d.pool.moves ++ d.pool.later).filter (fun m =>
    on m.fromTier (d.frameLoc m.fromTier m.fromFrame) || on m.toTier (d.frameLoc m.toTier m.toFrame))
  let d := d.each hit (fun d m => d.moveFails m)
  d.each (d.pooled.filter (fun e => e.2.state ≠ stAbsent && on e.2.tier e.2.frame)) fun d e =>
    let d := d.writeEntries e.1 (fun _ => 0)
    let d := (d.setPage e.1 { state := stAbsent }).returnFrame 4 (d.frameNo 4 e.2.frame)
    d.record .poolPageLost (evSource 0 13 0x7F) []

/-! ### The host of a lost device (R418, R419) -/

/-- 64 bytes of this device's memory at a line-aligned device address in T3. -/
def Dev.devLine (d : Dev) (a : Nat) : Option (List Byte) :=
  let a := a % 2 ^ 40
  match d.tableEntry (a / 65536) with
  | some e => if xltValid e && xltTier e = 3 then d.physRead (xltTarget e + a % 65536) 64 else none
  | none => none

/-- The valid entries of the hosting directory with their numbers (Table 15-8). -/
def Dev.hostDir (d : Dev) : List (Nat × List Byte) :=
  (List.range 4).filterMap (fun i =>
    match d.devLine (d.get F.FLT_MIRROR_BASE_V + 64 * i) with
    | some b => if leAt b 4 1 = 0 then none else some (i, b)
    | none => none)

/-- The standbys of a directory entry, in order. -/
def standbys (b : List Byte) : List Nat := ((List.range 4).map (fun i => leAt b (40 + 4 * i) 4)).filter (· ≠ 0xFFFFFFFF)

/-- Send ASSIGN to the first standby left, or flood TAKEOVER_FAILED where none is. -/
def Dev.directAssign (d : Dev) (a : Assign) : Dev :=
  let rest := d.flt.assigns.filter (fun (x : Assign) => x.lost ≠ a.lost)
  let m := { d.message 0x20 a.lost a.inc a.serial with host := d.chip, index := a.index }
  match a.standbys with
  | [] => { d with flt := { d.flt with assigns := rest } }.flood { m with ctype := 0x14, host := 0, index := 0 }
  | s :: _ =>
    { d with flt := { d.flt with assigns := rest ++ [{ a with sentAt := d.beat, acceptedAt := none }] } }.sendRouted m s

/-- The host moves to the next standby. -/
def Dev.nextStandby (d : Dev) (a : Assign) : Dev := d.directAssign { a with standbys := a.standbys.drop 1 }

/-- The assignment directed for a chip. -/
def Dev.assignOf (d : Dev) (lost : Nat) : Option Assign := d.flt.assigns.find? (fun (a : Assign) => a.lost = lost)

/-! ### A knell (R415, R417) -/

/-- The device acts on a knell for another chip (R417), and as its host (R419). -/
def Dev.losePeer (d : Dev) (m : FaultMsg) : Dev :=
  let d := d.recordOnly .peerLost (devSource 0) [(4, m.chip), (2, m.inc), (2, m.cause), (4, m.origin)]
  let d := (d.noteLost m.chip m.inc).addHold ⟨m.chip, false⟩
  let d := if d.rewindStates then d else d.withholdVotes.originateOrder false
  let d := if d.flt.refused.contains m.chip then d else { d with flt := { d.flt with refused := d.flt.refused ++ [m.chip] } }
  let d := d.poolLoses m.chip
  let d := d.each (d.flt.assigns.filter (fun (a : Assign) => a.standbys.head? = some m.chip)) (fun d a => d.nextStandby a)
  match d.hostDir.find? (fun e => leAt e.2 0 4 = m.chip) with
  | some e => d.directAssign { lost := m.chip, inc := m.inc, serial := m.serial, index := e.1, standbys := standbys e.2 }
  | none => d

/-- The device acts on a knell (R415, R417): one that names a later owner of its own chip id, or itself, fences it. -/
def Dev.actKnell (d : Dev) (m : FaultMsg) : Dev :=
  let own := d.get F.FLT_INCARNATION_INC
  let d := d.putD F.FLT_STATUS_LAST_CAUSE m.cause
  if m.chip ≠ d.chip then d.losePeer m
  else if own < m.inc || (m.inc = own && m.serial = d.serial) then d.fence
  else d

/-- The chip a port's partner has: that of its last HEARTBEAT, or of its PARAM. -/
def Dev.partner (d : Dev) (n : Nat) : Nat :=
  if (d.port n).hbChip = 0x1FFFF then d.pget F.FAB_PORT_PCHIP_CHIP n else (d.port n).hbChip

/-- A PING went unanswered (R414, R415): a second distinct partner within 256 beats fences the device; otherwise a knell for the partner goes out
with cause PROXY, and this device acts on it too. -/
def Dev.unanswered (d : Dev) (n : Nat) : Dev :=
  let c := d.partner n
  let l := d.flt.unanswered.filter (fun e => d.beat < e.2 + 256) ++ [(c, d.beat)]
  let d := { d with flt := { d.flt with unanswered := l } }
  if l.any (fun e => e.1 ≠ c) then d.fence
  else
    let m := { d.message 0x30 c (d.port n).hbInc (d.port n).hbSerial with cause := 0x10, step := d.get F.FLT_PROGRESS_STEP }
    (d.flood m).actKnell m

/-! ### Repair (R412) and the standby (R420 to R422) -/

/-- REPAIR_DONE is flooded once no failed core remains bound to an LCI (R412). -/
def Dev.repairCheck (d : Dev) : Dev :=
  if d.failedBound || !d.flt.holds.contains ⟨d.chip, true⟩ then d
  else (d.flood (d.message 0x13 d.chip (d.get F.FLT_INCARNATION_INC) d.serial)).removeHold ⟨d.chip, true⟩

/-- Run the script entries for a lost chip (R421). -/
def Dev.runScript (d : Dev) (lost : Nat) : Dev :=
  let es := ((d.img.inForce.map (·.script)).getD []).filter (fun (e : ScriptEntry) => e.lost = lost)
  d.each es fun d e => d.regWrite ⟨.fabRoute, 0, e.region, 0⟩ 8 (if e.op = 1 then e.value else 0)

/-- A standby answers its host (R420). -/
def Dev.answerHost (d : Dev) (t : Takeover) (ctype cause : Nat) : Dev :=
  d.sendRouted { d.message ctype t.lost t.inc d.serial with cause := cause, host := t.host, index := t.index } t.host

/-- The load of a takeover image was refused (Table 15-9). -/
def Dev.takeoverRefused (d : Dev) : Dev :=
  match d.flt.takeover with
  | some t => (({ d with flt := { d.flt with takeover := none } }).putD F.FLT_STATUS_STATE 4).answerHost t 0x22 3
  | none => d

/-- The load of a takeover image is complete (Table 15-9): INC of L plus one, its own script, CLAIMED, TAKEOVER_IMAGE. -/
def Dev.takeoverLoaded (d : Dev) : Dev :=
  match d.flt.takeover with
  | some t =>
    let d := ((d.putD F.FLT_INCARNATION_INC (t.inc + 1)).runScript t.lost).clearLost t.lost
    let d := ({ d with flt := { d.flt with claimed := some t.lost } }).flood (d.message 0x11 t.lost ((t.inc + 1) % 65536) d.serial)
    (d.recordOnly .takeoverImage (devSource 0) []).putD F.FLT_STATUS_STATE 6
  | none => d

/-- The restore is done and every REMIRRORED is in (Table 15-9): TAKEOVER_DONE is flooded and the standby is HELD. -/
def Dev.takeoverCheck (d : Dev) : Dev :=
  match d.flt.takeover with
  | some t =>
    let owners := d.hostDir.map (fun e => leAt e.2 0 4)
    if d.fltState = 6 && t.restore = 3 && owners.all (fun o => t.remirrored.contains o) then
      let d := d.flood (d.message 0x12 d.chip (d.get F.FLT_INCARNATION_INC) d.serial)
      let d := ({ d with flt := { d.flt with takeover := none } }).recordOnly .takeoverDone (devSource 0) []
      ((d.putD F.FLT_STATUS_STATE 2).removeHold ⟨d.chip, false⟩).maybeReady
    else d
  | none => d

/-- Bytes are written to local physical addresses, line by line. `n` bounds the lines. -/
def Dev.physWriteAll : Nat → Dev → Nat → List Byte → Dev
  | 0, d, _, _ => d
  | n + 1, d, a, bs =>
    if bs.isEmpty then d
    else
      let k := 64 - a % 64
      Dev.physWriteAll n (d.physWrite a (bs.take k)) (a + k) (bs.drop k)

/-- A mirror header counts, and its version (Table 15-8, R422). -/
def mirrorOk (h : List Byte) (step : Nat) : Bool := leAt h 0 4 = 0x524D4C42 && leAt h 12 4 < step

/-- The mirror copy of a restore ends (R422). -/
def Dev.restoreEnds (d : Dev) (ok : Bool) (a b data : List Byte) : Dev :=
  match d.flt.takeover with
  | none => d
  | some t =>
    if d.fltState ≠ 6 || !(t.restore = 1 || t.restore = 2) then d
    else
      let step := d.get F.FLT_PROGRESS_STEP
      let best := match mirrorOk a step, mirrorOk b step with
        | true, true => if leAt a 12 4 < leAt b 12 4 then some b else some a
        | true, false => some a
        | false, true => some b
        | false, false => none
      match (if ok then best else none) with
      | some h =>
        if data.length = leAt h 24 8 then
          let d := Dev.physWriteAll (data.length / 64 + 2) d (leAt h 32 8) data
          ({ d with flt := { d.flt with takeover := some { t with restore := 3 } } }).takeoverCheck
        else d
      | none =>
        if t.restore = 1 then { d with flt := { d.flt with takeover := some { t with restore := 2 } } } else d.knell 0x05

end Sys2Proof.Machine
end

