-- ==== Sys2Proof/Machine/PowerOps.lean ====
section
/-!
DEFINITION. Sys2Proof/Machine/PowerOps.lean: power management (chapter 14): the window average, predictions and constrained windows, operating points
and the regulator, core frequencies, hints and telemetry.
-/

namespace Sys2Proof.Machine

/-! ### Operating points (Table 14-1, R385, R496) -/

/-- Core clock of an operating point in MHz. -/
def opMhz (op : Nat) : Nat := [1500, 1375, 1250, 1125, 1000, 875, 750, 600].getD op 600

/-- Relative dynamic power in thousandths. -/
def opPower (op : Nat) : Nat := [1000, 832, 684, 553, 452, 362, 283, 199].getD op 199

/-- The VC_VID code of an operating point. -/
def opCode (op : Nat) : Nat := [50, 42, 34, 26, 20, 14, 8, 0].getD op 0

/-- PWR_CAP in mW; values outside 900 to 2,300 W are taken as the nearer limit. -/
def Dev.capMw (d : Dev) : Nat := 1000 * max 900 (min 2300 (d.get F.PWR_CAP_CAP_W))

/-- The bins of a window, W (R380). -/
def Dev.winBins (d : Dev) : Nat := 1000 * max 1 (min 32 (d.get F.PWR_WINDOW_WINDOW_S))

/-- The operating point in force. -/
def Dev.op (d : Dev) : Nat := d.get F.PWR_STATUS_OP

/-- The duty chosen, in eighths. -/
def Dev.duty (d : Dev) : Nat := d.pwr.dutyNext

/-- The code that a VDD_C request drives (R385, R496). -/
def Dev.vidFor (d : Dev) (op : Nat) : Nat :=
  if d.get F.PWR_STATUS_FREQ_MODE = 1 then opCode op - d.get F.PWR_TRIM_TRIM else opCode op

/-- Drive a request to the regulator; the safe states hold it (Table 03-2). -/
def Dev.driveVid (d : Dev) (op : Nat) : Dev := if d.clk.safe then d else { d with pwr := { d.pwr with vid := d.vidFor op } }.emit (.regulator (d.vidFor op))

/-- The operating point whose voltage is asked for: that of a raise under way, else the one in force (R384). -/
def Dev.vidOp (d : Dev) : Nat := (d.pwr.raising.map (·.1)).getD d.op

/-- PWR_CORE_FREQ of core c shows its clock in force (R385 to R387). -/
def Dev.showFreq (d : Dev) (c : Nat) : Dev :=
  let op := d.op
  let steps := d.get F.PWR_CORE_FREQ_STEPS c
  let own := (d.pwr.fmax.map (fun n => n * 625 / 100)).getD (8 * c + op) (opMhz op)
  let f := if d.get F.PWR_STATUS_FREQ_MODE = 0 then min (opMhz op) own else opMhz op * (32 - steps) / 32
  d.put F.PWR_CORE_FREQ_MHZ c 0 (if d.pwr.stretched.contains c then f / 2 else f)

/-- Every core's frequency follows a change of operating point. -/
def Dev.showFreqs (d : Dev) : Dev := d.each (List.range 272) fun d c => d.showFreq c

/-- Frequencies change to an operating point. -/
def Dev.setOp (d : Dev) (op : Nat) : Dev := (d.putD F.PWR_STATUS_OP op).showFreqs

/-- A change of operating point begins (R384): lowering steps the frequencies at once and then requests the voltage; raising requests it first. -/
def Dev.changeOp (d : Dev) (op : Nat) : Dev :=
  if op = d.op then
    if d.pwr.raising.isSome then { d.driveVid op with pwr := { (d.driveVid op).pwr with raising := none } } else d
  else if d.op < op then { (d.setOp op).driveVid op with pwr := { ((d.setOp op).driveVid op).pwr with raising := none } }
  else
    match d.pwr.raising with
    | some (o, _) => if o = op then d else { d.driveVid op with pwr := { (d.driveVid op).pwr with raising := some (op, d.beat) } }
    | none => { d.driveVid op with pwr := { (d.driveVid op).pwr with raising := some (op, d.beat) } }

/-- A raise takes effect. -/
def Dev.raised (d : Dev) (op : Nat) : Dev := { d with pwr := { d.pwr with raising := none } }.setOp op

/-! ### Predictions and constrained windows (R382, R390) -/

/-- The next bin's power at a candidate (R382): the VDD_C share scaled, the other rails unchanged. -/
def Dev.predict (d : Dev) (op eighths : Nat) : Nat :=
  ceilDiv (d.pwr.coreShare * opPower op * eighths) (opPower d.op * (d.get F.PWR_STATUS_DUTY + 1)) + d.pwr.otherShare

/-- The largest level planned for a bin; none outside every phase (R389). -/
def planned (ps : List Plan) (bin : Nat) : Option Nat :=
  (ps.filter (fun p => p.start < 1000 * (bin + 1) && 1000 * bin < p.stop)).foldl (fun m p => some (max (m.getD 0) p.level)) none

/-- The predicted energy of bins from..to-1, each at x or at its planned level. -/
def planEnergy (ps : List Plan) (x from_ to_ : Nat) : Nat :=
  (List.range (to_ - from_)).foldl (fun e i => e + (planned ps (from_ + i)).getD x) 0

/-- The window that ends at the next boundary keeps the cap (R382): `n` is the number of the next bin. -/
def Dev.nextFits (d : Dev) (x : Nat) : Bool :=
  let past := d.pwr.bins.take (d.winBins - 1)
  past.foldl (· + ·) 0 + x ≤ d.capMw * (past.length + 1)

/-- The window that ends at boundary e keeps the cap: measured bins, and predicted ones from bin n (R390). -/
def Dev.windowFits (d : Dev) (ps : List Plan) (n x e : Nat) : Bool :=
  let w := d.winBins
  let past := d.pwr.bins.take (w - (e - n))
  let first := max n (e - w)
  past.foldl (· + ·) 0 + planEnergy ps x first e ≤ d.capMw * (past.length + (e - first))

/-- The windows of a plan: those that end at the bin boundaries from its phase's start to its end. -/
def Plan.ends (p : Plan) (n : Nat) : List Nat :=
  (List.range (p.stop / 1000 + 1 - ceilDiv p.start 1000)).map (fun i => ceilDiv p.start 1000 + i) |>.filter (fun e => n < e)

/-- A candidate's power keeps every constrained window: a plan shapes the bins before its phase only (R391). -/
def Dev.fits (d : Dev) (n x : Nat) : Bool :=
  let ps := d.pwr.plans.filter (fun p => !p.short && 1000 * n < p.start)
  d.nextFits x && ps.all (fun p => (p.ends n).all (fun e => d.windowFits ps n x e))

/-- Plans that no choice can meet any more are short (R390): HINT_SHORT and one record each. -/
def Dev.markShort (d : Dev) (n : Nat) : Dev :=
  let least := d.predict 7 1
  let bad := fun (p : Plan) => !p.short && 1000 * n < p.start && !(p.ends n).all (fun e => d.windowFits [p] n least e)
  if d.pwr.plans.any bad then
    let k := (d.pwr.plans.filter bad).length
    let d := { d with pwr := { d.pwr with plans := d.pwr.plans.map (fun p => if bad p then { p with short := true } else p) } }
    d.each (List.range k) fun d _ => (d.putD F.PWR_STATUS_HINT_SHORT 1).record .pwrHintShort (devSource 14) []
  else d

/-- PWR_CREDIT: what the bins since the entry of the earliest plan have left below the cap, in J (R390). -/
def Dev.showCredit (d : Dev) (n : Nat) : Dev :=
  match d.pwr.plans.foldl (fun (m : Option Plan) p => match m with
      | none => some p
      | some q => if p.start < q.start then some p else some q) none with
  | none => d.putD F.PWR_CREDIT_V 0
  | some p =>
    if p.start < 1000 * n then d
    else
      let k := n - p.entered / 1000
      let past := d.pwr.bins.take k
      let slack : Int := (d.capMw * past.length : Nat) - (past.foldl (· + ·) 0 : Nat)
      d.putD F.PWR_CREDIT_V (unsigned 32 (slack.fdiv 1000000))

/-! ### The choice at a bin boundary (R382, R392 to R394, R396, R398) -/

/-- The operating point and duty that R382 chooses, and whether the cap is met: n is the number of the next bin. -/
def Dev.chooseOp (d : Dev) (n : Nat) : Nat × Nat × Bool :=
  let hot := d.flag F.PWR_STATUS_DIE_HOT
  let low := max (d.get F.PWR_STATUS_OP_CEIL) (if hot then d.op + 1 else d.op - 1)
  match ((List.range 8).filter (fun o => low ≤ o)).find? (fun o => d.fits n (d.predict o 8)) with
  | some o => (o, 8, true)
  | none =>
    -- a hot device raises nothing (R394)
    let most := if hot && d.op = 7 then d.duty else 8
    match ((List.range 8).map (fun i => 8 - i)).find? (fun e => e ≤ most && d.fits n (d.predict 7 e)) with
    | some e => (7, e, true)
    | none => (7, 1, false)

/-- The duty in force changes at a group boundary (R392). -/
def Dev.takeDuty (d : Dev) : Dev := d.putD F.PWR_STATUS_DUTY (d.pwr.dutyNext - 1)

/-- What the manager chose takes effect; LATE is owed where k rises (R396). -/
def Dev.applyChoice (d : Dev) (op eighths : Nat) (hot : Bool) : Dev :=
  let d := { d.changeOp op with pwr := { (d.changeOp op).pwr with dutyNext := eighths } }
  let d := if d.beat % 8 = 0 then d.takeDuty else d
  let k := op - d.get F.PWR_STATUS_OP_CEIL + (8 - eighths)
  let owed := if d.pwr.k < k && d.get F.PWR_THERM_LATE_PWR ≠ 0 then some (if hot then 3 else 2, k) else d.pwr.lateOwed
  { d with pwr := { d.pwr with k := k, lateOwed := owed } }

/-- The floor case (R393). -/
def Dev.floorCase (d : Dev) (met : Bool) (eighths : Nat) : Dev :=
  if met then (if 1 < eighths then d.putD F.PWR_STATUS_CAP_UNMET 0 else d)
  else if d.flag F.PWR_STATUS_CAP_UNMET then d
  else ((d.putD F.PWR_STATUS_CAP_UNMET 1).putD F.PWR_STATUS_CAP_UNMET_SEEN 1).record .pwrCapUnmet (devSource 14) []

/-- Telemetry is refreshed (R450, Table 16-6). -/
def Dev.telemetry (d : Dev) : Dev :=
  let halves := (List.range 8).map (fun st => (st / 2, st % 2))
  let anyBit := fun (f : Fld) => halves.any (fun x => d.flag f x.1 x.2)
  let flags := b2n (d.flag F.PWR_STATUS_CAP_UNMET) + 2 * b2n (d.flag F.PWR_STATUS_DIE_HOT) + 4 * b2n d.pwr.fastBin
    + 8 * b2n (anyBit F.MCH_TEMP_SENSOR_FAIL) + 16 * b2n (anyBit F.MCH_TEMP_EMERGENCY)
  let up := (List.range 16).foldl (fun m n => m + b2n (d.portUp n) * 2 ^ n) 0
  let bytes := leBytes 1 1 ++ leBytes 1 d.fltState ++ leBytes 1 d.op ++ leBytes 1 (d.get F.PWR_STATUS_DUTY) ++ leBytes 2 (d.get F.PWR_NOW_W)
    ++ leBytes 2 (d.get F.PWR_AVG_W) ++ leBytes 2 (d.get F.PWR_CAP_CAP_W) ++ leBytes 1 (d.get F.PWR_DIE_TEMP_TEMP) ++ leBytes 1 flags
    ++ halves.flatMap (fun x => leBytes 1 (d.get F.MCH_TEMP_TEMP x.1 x.2)) ++ leBytes 8 d.beat ++ leBytes 4 d.chip
    ++ leBytes 4 (d.get F.FLT_PROGRESS_STEP) ++ leBytes 1 (d.get F.IMG_STATUS_STATE) ++ leBytes 1 (d.hlState 0 + 16 * d.hlState 1)
    ++ leBytes 2 up ++ List.replicate 24 0
  { d with hl := { d.hl with telemetry := bytes } }

/-- A bin ends and the next is chosen (R379 to R382, R389, R393, R394, R398). -/
def Dev.binBoundary (d : Dev) : Dev :=
  let n := d.beat / 1000
  let p : Power := { d.pwr with bin := n }
  let mean := if p.beats = 0 then 0 else p.sum / p.beats
  let core := if p.beats = 0 then 0 else p.coreSum / p.beats
  let bins := if p.restart then [] else (mean :: p.bins).take d.winBins
  let d := { d with pwr := { p with bins := bins, coreShare := core, otherShare := mean - core, sum := 0, coreSum := 0, beats := 0, restart := false
                                    plans := p.plans.filter (fun x => d.beat < x.stop) } }
  let d := d.putD F.PWR_NOW_W (mean / 1000)
  let avg := bins.foldl (· + ·) 0 / bins.length
  let d := if bins.isEmpty then d else d.putD F.PWR_AVG_W (avg / 1000)
  let d := (d.markShort n).showCredit n
  let d := if d.flag F.PWR_CTL_MANUAL then
      let above : Bool := decide (d.capMw < avg)
      let d := if above then (d.putD F.PWR_STATUS_CAP_UNMET 1).putD F.PWR_STATUS_CAP_UNMET_SEEN 1 else d.putD F.PWR_STATUS_CAP_UNMET 0
      d.applyChoice (max (d.get F.PWR_OP_REQ_OP_REQ) (d.get F.PWR_STATUS_OP_CEIL)) (d.get F.PWR_OP_REQ_DUTY_REQ + 1) false
    else if !p.loaded then d
    else
      let c := d.chooseOp n
      (d.floorCase c.2.2 c.2.1).applyChoice c.1 c.2.1 (d.flag F.PWR_STATUS_DIE_HOT)
  let d := d.telemetry
  { d with pwr := { d.pwr with fastBin := d.pwr.fast } }

/-- A beat's power is measured and the fast limiter judged (R379, R388). -/
def Dev.samplePower (d : Dev) (core other : Nat) : Dev :=
  let x := core + other
  let p : Power := { d.pwr with sampled := some d.beat }
  let last := (x :: p.last).take 1000
  let total := last.foldl (· + ·) 0
  let calm := if 2500000 < x then 0 else p.calm + 1
  let hit : Bool := 2250000 * last.length ≤ total || 2500000 < x
  let clear : Bool := total < 2150000 * last.length && 100 ≤ calm
  let d := if p.fast then d.count F.PWR_FAST_BEATS_V else d
  let d := if hit && !p.fast then d.putD F.PWR_STATUS_FAST_SEEN 1 else d
  let fast := if p.fast then !clear else hit
  let d := { d with pwr := { p with sum := p.sum + x, coreSum := p.coreSum + core, beats := p.beats + 1, energy := p.energy + x, last := last
                                    fast := fast, fastBin := p.fastBin || fast, calm := calm
                                    plans := p.plans.filter (fun y => d.beat < y.stop) } }
  d.putD F.PWR_ENERGY_V (d.pwr.energy / 1000000)

/-- A power-hint entry issues at stamp s (R389). -/
def Dev.powerHint (d : Dev) (s start dur level : Nat) : Dev :=
  if !d.flag F.PWR_CTL_HINTS then d.count F.PWR_HINT_IGN_V
  else if 16 ≤ d.pwr.plans.length then d.count F.PWR_HINT_DROP_V
  else
    let b := s / 65536
    { d with pwr := { d.pwr with plans := d.pwr.plans ++ [{ entered := b, start := b + start, stop := b + start + dur, level := 10000 * level }] } }

/-- SECT_POWER takes effect at a full load (R39, R381, R384). -/
def Dev.loadPower (d : Dev) (s : Settings) : Dev :=
  let d := ((((d.putD F.PWR_CAP_CAP_W s.capW).putD F.PWR_WINDOW_WINDOW_S s.windowS).putD F.PWR_STATUS_FREQ_MODE s.freqMode).putD
    F.PWR_STATUS_OP_CEIL s.opCeil).putD F.PWR_CTL_HINTS s.hints
  { d with pwr := { d.pwr with restart := true, loaded := true } }.showFreqs

/-! ### Temperature (R394, R395) -/

/-- The safe states of Table 03-2 but for the Carillon ports, which close behind the knell (R395, R416). -/
def Dev.thermalSafe (d : Dev) : Dev :=
  let d := { d with clk := { d.clk with safe := true, running := false } }.beatInvalid
  let d := (d.putD F.HL_STATUS_STATE0 0).putD F.HL_STATUS_STATE1 0
  let d := d.each (List.range 128) (fun d c => d.put F.MCH_CH_STATE_STATE (c / 32) (c % 32) 0)
  let d := { d with mem := { d.mem with hbm := [], poison := [], epoch := d.mem.epoch + 1 } }
  { d with pwr := { d.pwr with vid := 0, raising := none } }.emit (.regulator 0)

/-- The die sensors are read (R394, R395). -/
def Dev.dieTemp (d : Dev) (q r : Nat) : Dev :=
  let hi := max 80 (min 100 (d.get F.PWR_THERM_DIE_T_HI))
  let d := (d.putD F.PWR_DIE_TEMP_TEMP r).putD F.PWR_DIE_TEMP_QUARTER q
  let d := if hi ≤ r then
      (if d.flag F.PWR_STATUS_DIE_HOT then d else (d.putD F.PWR_STATUS_DIE_HOT 1).record .dieHot (devSource 14) [])
    else if r ≤ hi - 5 then d.putD F.PWR_STATUS_DIE_HOT 0
    else d
  if 115 ≤ r && !d.pwr.tripped then
    let d := (d.recordOnly .thermalTrip (devSource 14) []).knell 0x01
    ({ d with pwr := { d.pwr with tripped := true } }.emit (.pin "THERMTRIP_N" 0)).thermalSafe
  else d

end Sys2Proof.Machine
end

