-- ==== Sys2Proof/Machine/Threads.lean ====
section
/-!
DEFINITION. Sys2Proof/Machine/Threads.lean: CTC threads (R145 to R149): registers, blocking and waking, faults and the status they show.
-/

namespace Sys2Proof.Machine

/-- Change the control core of a core. -/
def Dev.updCtc (d : Dev) (c : Nat) (f : Ctc → Ctc) : Dev := d.updCore c fun k => { k with ctc := f k.ctc }

/-- Thread t of core c. -/
def Dev.thread (d : Dev) (c t : Nat) : Thread := mget {} (d.core c).ctc.threads t

/-- Change thread t. -/
def Dev.updThread (d : Dev) (c t : Nat) (f : Thread → Thread) : Dev :=
  d.updCtc c fun x => { x with threads := mset {} x.threads t (f (mget {} x.threads t)) }

/-- General register r of a thread; g0 reads as zero. -/
def Dev.g (d : Dev) (c t r : Nat) : BitVec 64 := if r = 0 then 0 else mget 0 (d.thread c t).g r

/-- Write a general register; a write of g0 is dropped. -/
def Dev.setG (d : Dev) (c t r : Nat) (v : BitVec 64) : Dev :=
  if r = 0 then d else d.updThread c t fun x => { x with g := mset 0 x.g r v }

/-- The program counter of a thread. -/
def Dev.pc (d : Dev) (c t : Nat) : Nat := d.get F.CTC_PC_V c t

/-- Set the program counter. -/
def Dev.setPc (d : Dev) (c t a : Nat) : Dev := d.put F.CTC_PC_V c t a

/-- The thread goes on to its next instruction. -/
def Dev.pcNext (d : Dev) (c t : Nat) : Dev := d.setPc c t ((d.pc c t + 8) % 2 ^ 64)

/-- A thread is ready: it has not stopped and waits for nothing. -/
def Thread.ready (t : Thread) : Bool := t.live && t.block.isNone

/-- A thread is halted: it has stopped and has no miss or store outstanding (R149). -/
def Ctc.halted (t : Ctc) (n : Nat) : Bool := !(mget {} t.threads n).live && !t.slots.any (fun s => s.2.thread = n)

/-- A mask over the eight threads. -/
def threadMask (p : Nat → Bool) : Nat := (List.range 8).foldl (fun m t => m + b2n (p t) * 2 ^ t) 0

/-- CTC_STATUS shows the threads (Table 06-18). -/
def Dev.showCtc (d : Dev) (c : Nat) : Dev :=
  let x := (d.core c).ctc
  (((d.put F.CTC_STATUS_RUNNING c 0 (threadMask (fun t => !x.halted t))).put F.CTC_STATUS_BLOCKED c 0
    (threadMask (fun t => (mget {} x.threads t).block.isSome))).put F.CTC_STATUS_FAULTED c 0 (threadMask (fun t => d.flag F.CTC_FAULT_VALID c t)))

/-- Block a thread: it is no longer the current thread (R147). -/
def Dev.blockThread (d : Dev) (c t : Nat) (b : Block) : Dev :=
  (d.updThread c t fun x => { x with block := some b }).updCtc c fun x => { x with cur := if x.cur = some t then none else x.cur }

/-- The condition of a blocked thread has cleared: it is ready in the next cycle (R147). -/
def Dev.due (d : Dev) (c t : Nat) : Dev :=
  d.updThread c t fun x => { x with block := x.block.map (fun _ => Block.due) }

/-- A thread stops (R149). -/
def Dev.stopThread (d : Dev) (c t : Nat) : Dev :=
  ((d.updThread c t fun x => { x with live := false, block := none }).updCtc c fun x =>
    { x with cur := if x.cur = some t then none else x.cur })

/-- A thread faults at an address (R148), also one that has stopped since its access was issued. Such a thread keeps its first fault. -/
def Dev.ctcFault (d : Dev) (c t pc cause : Nat) : Dev :=
  if !(d.thread c t).live && d.flag F.CTC_FAULT_VALID c t then d
  else
    let d := ((d.stopThread c t).setPc c t pc).put F.CTC_CTL_RUN c 0 (setBit (d.get F.CTC_CTL_RUN c) t false)
    (((d.put F.CTC_FAULT_CAUSE c t cause).put F.CTC_FAULT_VALID c t 1).record .ctcFault (coreSource c 4) []).showCtc c

/-- The thread that CTC issues from (R147): the current one, or the first ready one at or after the pointer. -/
def Ctc.selected (x : Ctc) : Option Nat :=
  match x.cur with
  | some t => if (mget {} x.threads t).ready then some t else arbiter8 x
  | none => arbiter8 x
where
  /-- the first ready thread at or after the pointer (R69) -/
  arbiter8 (x : Ctc) : Option Nat := ((List.range 8).map (fun k => (x.ptr + k) % 8)).find? (fun t => (mget {} x.threads t).ready)

/-- Thread t issues: a switch counts, and the pointer moves past a newly chosen thread (R147). -/
def Dev.takeThread (d : Dev) (c t : Nat) : Dev :=
  let x := (d.core c).ctc
  let d := if x.cur = some t then d else d.updCtc c fun x => { x with cur := some t, ptr := (t + 1) % 8 }
  if x.last = t then d else (d.updCtc c fun x => { x with last := t }).count F.CTC_SWITCHES_V c

/-- One instruction of thread t of core c. Nothing happens where CTC does not issue from it, or where the core's clocks are gated (R392, R411). A program counter
that is not aligned faults (Table 06-10). `par`: a register that the instruction reads meets a parity error, and the thread faults with MEM_ERROR (R424). -/
def Dev.issue (d : Dev) (c t : Nat) (f : Dev → Dev) (par : Bool := false) : Dev :=
  if (d.core c).ctc.selected ≠ some t || d.clockGated c then d
  else
    let d := d.takeThread c t
    if d.pc c t % 8 ≠ 0 then d.ctcFault c t (d.pc c t) 2
    else if par then d.ctcFault c t (d.pc c t) 6
    else (f d).showCtc c

/-- The fault of the instruction that a thread issues. -/
def Dev.faultHere (d : Dev) (c t cause : Nat) : Dev := d.ctcFault c t (d.pc c t) cause

end Sys2Proof.Machine
end

