-- ==== Sys2Proof/Machine/Quiesce.lean ====
section
/-!
DEFINITION. Sys2Proof/Machine/Quiesce.lean: quiescence (R28), which a full image load and STOP of the memory channels require.
-/

namespace Sys2Proof.Machine

/-- Nothing of a core keeps the device from being quiescent (R28). -/
def Core.quiet (k : Core) : Bool :=
  (List.range 8).all k.ctc.halted && k.sxu.tags.isEmpty && k.dma.job.isNone && !k.dma.reading && k.dma.backs = 0

/-- A collective slot holds a bucket at FRE (R28): WAIT_BUF, RUNNING, or a REDUCE that is DONE with its retained contribution. -/
def Dev.slotHolds (d : Dev) (s : Nat) : Bool :=
  let st := d.get F.COL_STATE_STATE 0 s
  st = 2 || st = 3 || (st = 4 && bits (mget {} d.col.slots s).desc0 3 0 = 1)

/-- The device is quiescent (R28). -/
def Dev.quiescent (d : Dev) : Bool :=
  d.cores.all (fun e => e.2.quiet) && (List.range 256).all (fun s => !d.slotHolds s)
    && (List.range 4).all (fun q => !bitOf (d.get F.BEAT_PAT_ARM_ARM) q)

end Sys2Proof.Machine
end

