-- ==== Sys2Proof/Machine/RingOps.lean ====
section
/-!
DEFINITION. Sys2Proof/Machine/RingOps.lean: the command ring (R441 to R443, with R214 and R216) and the configuration of the event ring (R445, R446).
-/

namespace Sys2Proof.Machine

/-! ### Command ring -/

/-- The ring stops with RING_ERR (R442). -/
def Dev.ringFails (d : Dev) : Dev :=
  let d := ((d.putD F.HL_CMD_STATUS_RING_ERR 1).putD F.HL_CMD_STATUS_ACTIVE 0).putD F.HL_CMD_STATUS_PENDING 0
  { d with hl := { d.hl with cmd := none, cmdRead := false, cmdBack := false } }

/-- The device reads the entry at HEAD. -/
def Dev.ringFetch (d : Dev) : Dev :=
  let d := (d.putD F.HL_CMD_STATUS_PENDING 0).putD F.HL_CMD_STATUS_ACTIVE 1
  let (ok, d) := d.hlRequest 0x03 (d.get F.HL_CMD_BASE_V + 64 * d.get F.HL_CMD_HEAD_HEAD) [] .cmdRing
  if ok then { d with hl := { d.hl with cmdRead := true } } else d.ringFails

/-- The ring may read entries: it is not paused, and no full image load is in progress (R28, R443). -/
def Dev.ringMay (d : Dev) : Bool := !d.flag F.HL_CMD_CTL_PAUSE && !d.img.holdRing

/-- A ring with work begins. -/
def Dev.ringPump (d : Dev) : Dev :=
  if d.flag F.HL_CMD_STATUS_PENDING && !d.flag F.HL_CMD_STATUS_ACTIVE && d.ringMay then d.ringFetch else d

/-- A doorbell (R442): ignored while RING_ERR is set. -/
def Dev.ringBell (d : Dev) : Dev :=
  if d.flag F.HL_CMD_STATUS_RING_ERR then d else (d.putD F.HL_CMD_STATUS_PENDING 1).ringPump

/-- Word i of an entry. -/
def CmdEntry.word (c : CmdEntry) (i : Nat) : Nat := c.words.getD i 0

/-- OP of an entry. -/
def CmdEntry.op (c : CmdEntry) : Nat := bits (c.word 0) 7 0

/-- CSR address of an entry. -/
def CmdEntry.addr (c : CmdEntry) : Nat := bits (c.word 1) 31 0

/-- The OP is defined and the reserved fields are zero (Table 16-4). -/
def CmdEntry.ok (c : CmdEntry) : Bool :=
  c.op ≤ 7 && bits (c.word 0) 62 16 = 0 && bits (c.word 1) 63 32 = 0 && bits (c.word 4) 63 32 = 0 && c.word 5 = 0 && c.word 6 = 0

/-- The 64 bytes of an entry written back with a status and OWN = 0; `data` where the operation returns a value. -/
def CmdEntry.back (c : CmdEntry) (status : Nat) (data : Option Nat) : List Byte :=
  let w0 := c.word 0 % 2 ^ 63 - 256 * bits (c.word 0) 15 8 + 256 * status
  leBytes 8 w0 ++ leBytes 8 (c.word 1) ++ leBytes 8 (data.getD (c.word 2)) ++ leBytes 8 (c.word 3) ++ leBytes 8 (c.word 4)
    ++ leBytes 8 (c.word 5) ++ leBytes 8 (c.word 6) ++ leBytes 8 (c.word 7)

/-- An entry ends and is written back (R442). -/
def Dev.cmdEnd (d : Dev) (c : CmdEntry) (status : Nat) (data : Option Nat) : Dev :=
  let d := { d with hl := { d.hl with cmd := none } }
  let (ok, d) := d.hlRequest 0x04 (d.get F.HL_CMD_BASE_V + 64 * d.get F.HL_CMD_HEAD_HEAD) (c.back status data) .cmdRing
  if ok then { d with hl := { d.hl with cmdBack := true } } else d.ringFails

/-- The entry at HEAD has been read (R214, R216): without OWN the ring ends, or reads it once more where a doorbell has come. -/
def Dev.cmdArrived (d : Dev) (data : List Byte) : Dev :=
  let c : CmdEntry := { words := (List.range 8).map (fun i => leAt data (8 * i) 8) }
  let d := { d with hl := { d.hl with cmdRead := false } }
  if !bitOf (c.word 0) 63 then (d.putD F.HL_CMD_STATUS_ACTIVE 0).ringPump
  else if c.ok then { d with hl := { d.hl with cmd := some c } }
  else d.cmdEnd c 0x01 none

/-- The write-back of an entry is acknowledged: HEAD moves on and the ring reads the next entry, or stops at this boundary. -/
def Dev.cmdBacked (d : Dev) : Dev :=
  let d := { d with hl := { d.hl with cmdBack := false } }
  let d := d.putD F.HL_CMD_HEAD_HEAD ((d.get F.HL_CMD_HEAD_HEAD + 1) % ringSize (d.get F.HL_CMD_CTL_LOG2SIZE))
  ((d.putD F.HL_CMD_STATUS_ACTIVE 0).putD F.HL_CMD_STATUS_PENDING 1).ringPump

/-- A request of the ring ends (R442). -/
def Dev.cmdAnswer (d : Dev) (ok : Bool) (data : List Byte) : Dev :=
  if !(d.hl.cmdRead || d.hl.cmdBack) then d
  else if !ok then d.ringFails
  else if d.hl.cmdRead then d.cmdArrived data
  else d.cmdBacked

/-- PAUSE is written (R443): a wait in progress ends with TIMEOUT; without PAUSE the ring goes on. -/
def Dev.ringPause (d : Dev) (on : Bool) : Dev :=
  let d := d.putD F.HL_CMD_CTL_PAUSE (b2n on)
  if on then
    match d.hl.cmd with
    | some c => if c.started then d.cmdEnd c 0x04 none else d
    | none => d
  else d.ringPump

/-- LOG2SIZE as written; 13 to 15 are reserved and give the reset value (R8). -/
def log2Size (v : Nat) : Nat := if v % 16 ≤ 12 then v % 16 else 0

/-- A write to HL_CMD_BASE or HL_CMD_CTL (R441). While the ring is ACTIVE only PAUSE is taken. -/
def Dev.cmdRingWrite (d : Dev) (ctl : Bool) (value : Nat) : Dev :=
  if d.flag F.HL_CMD_STATUS_ACTIVE then (if ctl then d.ringPause (bitOf value 4) else d)
  else
    let d := if ctl then d.putD F.HL_CMD_CTL_LOG2SIZE (log2Size value) else d.putD F.HL_CMD_BASE_V value
    let d := (d.putD F.HL_CMD_HEAD_HEAD 0).putD F.HL_CMD_STATUS_RING_ERR 0
    if ctl then d.ringPause (bitOf value 4) else d

/-! ### Event ring -/

/-- A write to HL_EVT_BASE or HL_EVT_CTL (R445). -/
def Dev.evtRingWrite (d : Dev) (ctl : Bool) (value : Nat) : Dev :=
  let d := if ctl then
      ((d.putD F.HL_EVT_CTL_LOG2SIZE (log2Size value)).putD F.HL_EVT_CTL_NOTIFY_EN (bits value 4 4)).putD F.HL_EVT_CTL_NOTIFY_BEATS (bits value 31 16)
    else d.putD F.HL_EVT_BASE_V value
  let d := ((d.putD F.HL_EVT_TAIL_TAIL 0).putD F.HL_EVT_TAIL_FREE (ringSize (d.get F.HL_EVT_CTL_LOG2SIZE))).putD F.HL_EVT_CTL_EVT_ERR 0
  { d with hl := { d.hl with evtSet := true } }

/-- The write of a record failed (R446): EVT_ERR is set and the record counts as dropped. -/
def Dev.evtWriteFails (d : Dev) : Dev :=
  ({ d with flt := { d.flt with lostSince := min (2 ^ 32 - 1) (d.flt.lostSince + 1) } }.putD F.HL_EVT_CTL_EVT_ERR 1).count F.HL_EVT_LOST_V

end Sys2Proof.Machine
end

