-- ==== Sys2Proof/Machine/ImageLoad.lean ====
section
/-!
DEFINITION. Sys2Proof/Machine/ImageLoad.lean: the load state machine of Table 02-17 as operations: a command, its refusal, the checks, the settings of a full
image taking effect (R31, R39), and the switch of a partial one (R33 to R36). The companion, the swap of R412 and the takeover of R420 use them alike.
-/

namespace Sys2Proof.Machine

/-- STATE of IMG_STATUS (Table 02-20). -/
def Dev.imgState (d : Dev) : Nat := d.get F.IMG_STATUS_STATE

/-- Who commanded the load in hand. -/
def Dev.loadedBy (d : Dev) (b : LoadBy) : Bool := decide (d.img.by_ = b)

/-- A command is in progress. -/
def Dev.loading (d : Dev) : Bool := d.imgState ≠ 0 && d.imgState ≠ 4

/-- A command ends without effect (R29): REASON, SECT, DONE and IMAGE_REFUSED; the state before the command. A swap or a takeover hears of it. -/
def Dev.imgRefuse (d : Dev) (reason sect prior : Nat) (by_ : LoadBy) : Dev :=
  let d := (((d.putD F.IMG_STATUS_REASON reason).putD F.IMG_STATUS_SECT sect).putD F.IMG_STATUS_DONE 1).putD F.IMG_STATUS_STATE prior
  let d := ({ d with img := { d.img with staged := none, holdRing := false } }).record .imageRefused (devSource 0) [(1, reason), (1, sect)] |>.ringPump
  match by_ with
  | .companion => d
  | .swap => d.recordOnly .swapFailed (devSource 0) []
  | .takeover => d.takeoverRefused

/-- A load command (R27, R28, R466, Table 02-17), for a full or a partial image at an address. -/
def Dev.imgLoad (d : Dev) (full : Bool) (by_ : LoadBy) (src len atBeat : Nat) : Dev :=
  let st := d.imgState
  if d.loading then
    match by_ with
    | .companion => d.putD F.IMG_STATUS_BUSY_SEEN 1
    | .swap => d.recordOnly .swapFailed (devSource 0) []
    | .takeover => d.takeoverRefused
  else if d.get F.BOOT_STATUS_STAGE ≠ 6 then d.imgRefuse imgBusy 0 st by_
  else if !full && st = 0 then d.imgRefuse imgNoImage 0 st by_
  else if src % 4096 ≠ 0 then d.imgRefuse imgBadSource 0 st by_
  else if full && !d.quiescent then d.imgRefuse imgNotQuiescent 0 st by_
  else
    { d with img := { d.img with prior := st, partialLoad := !full, by_ := by_, src := src, len := len, atBeat := atBeat
                                 holdRing := full } }.putD F.IMG_STATUS_STATE 1

/-- The log entry of an image that takes effect (R30, Table 07-17). -/
def Dev.imgLog (d : Dev) (st : Settings) (isPartial : Bool) : Dev :=
  let data := leBytes 32 d.img.stagedSigner ++ leBytes 8 st.jobId ++ leBytes 4 st.serial ++ (if isPartial then leBytes 8 d.beat else [])
  d.logAppend (if isPartial then 0x11 else 0x10) (leBytes 32 d.img.stagedDigest) data

/-- The fetched bytes are checked (R29, Table 02-15) and refused, held until their switch beat (R33), or sent to APPLY. -/
def Dev.imgCheck (d : Dev) (bytes : List Byte) (err : Bool) : Dev :=
  let part := d.img.partialLoad
  let refuse := fun (r : Nat × Nat) => d.imgRefuse r.1 r.2 d.img.prior d.img.by_
  if err then refuse (imgFetchError, 0)
  else
    match d.checkImage bytes d.img.len part with
    | .inr r => refuse r
    | .inl st =>
      if part && d.img.atBeat ≠ 0 && d.img.atBeat ≤ d.beat then refuse (0x0F, 0)
      else
        let h := imgHeader bytes
        let types := (directory bytes (min h.sections 9)).map (·.type)
        let d := { d with img := { d.img with staged := some st, stagedStage := types.contains 2, stagedNoc := types.contains 1
                                              stagedDigest := digestNat (sha256 (bytes.take (h.length - 7856))), stagedSigner := h.signer
                                              switchBeat := if d.img.atBeat = 0 then d.beat + 1 else d.img.atBeat } }
        if part then d.putD F.IMG_STATUS_STATE 5
        else ({ d.imgLog st false with img := { (d.imgLog st false).img with locked := false } }).putD F.IMG_STATUS_STATE 3

/-- Show the image in force (R30, R31). -/
def Dev.showImage (d : Dev) (st : Settings) : Dev :=
  (((d.putD F.IMG_SERIAL_V st.serial).putD F.IMG_QMASK_QMASK st.qmask).putD F.GLOBAL_CHIP_ID_CHIP st.chipId).putWords F.IMG_DIGEST_V 8
    (leBytes 32 d.img.stagedDigest)

/-- A load succeeds (Table 02-17): LOADED, DONE, IMAGE_LOADED. -/
def Dev.imgLoaded (d : Dev) : Dev :=
  let d := (((d.putD F.IMG_STATUS_REASON 0).putD F.IMG_STATUS_SECT 0).putD F.IMG_STATUS_DONE 1).putD F.IMG_STATUS_STATE 4
  ({ d with img := { d.img with staged := none, holdRing := false } }).record .imageLoaded (devSource 0) [] |>.ringPump

/-- SECT_MEM takes effect (R39, R233): pinned ways, whose scratch is undefined where they change, and the pool's quotas.
The lines cached in a way that becomes pinned leave it first. -/
def Dev.loadMem (d : Dev) (st : Settings) : Dev :=
  let d := d.each (List.range 4) fun d q =>
    let n := (st.mem.getD q {}).pinned
    if d.get F.SHC_STATUS_PINNED q = n then d
    else
      let inQ := fun (a : Nat) => (a - 0xE000000000) / 0x4000000 = q
      let e := mget 0 d.mem.scratchEpoch q + 1
      let d := d.each (d.sys.shc.filter (fun l => 16 - n ≤ l.way && l.way < 16 && (d.home (64 * l.line)).slice / 32 = q)) (fun d l => d.evictLine l)
      { d with mem := { d.mem with scratch := d.mem.scratch.filter (fun c => !inQ c.1), scratchEpoch := mset 0 d.mem.scratchEpoch q e }
               sys := { d.sys with scratchBad := d.sys.scratchBad.filter (fun l => !inQ (64 * l)) } }.put F.SHC_STATUS_PINNED q 0 n
  d.each (List.range 64) fun d k =>
    let c := st.clients.getD k {}
    (((d.put F.POOL_CLIENT_MIN_PAGES 0 k c.minPages).put F.POOL_CLIENT_MAX_PAGES 0 k c.maxPages).put F.POOL_CLIENT_INFO_VALID 0 k
      (b2n c.valid)).put F.POOL_CLIENT_INFO_LOW_TIER 0 k c.lowTier

/-- SECT_PATTERN's BEAT_ROLE takes effect (R52): a role that stays changes nothing; a new follower or role 2 master clears LOCKED, a role 1 master is
VALID and LOCKED from here. A VALID follower that no port offers a beat enters holdover (R59). DESIGN CHOICE: a change of role restarts a stopped timer, and HOPS stays as it was for
role 2 (log 63). -/
def Dev.loadRole (d : Dev) (role : Nat) : Dev :=
  if d.role = role then d
  else
    let d := ((d.putD F.BEAT_STATUS_ROLE role).putD F.BEAT_STATUS_HOLDOVER 0).putD F.BEAT_STATUS_UPSTREAM 0xFF
    let d := { d with clk := { d.clk with stopped := false, upPending := none, slew := none, good := 0 } }
    if role = 1 then
      let d := (((d.setTrim 0).putD F.BEAT_STATUS_HOPS 0).putD F.BEAT_STATUS_VALID 1).putD F.BEAT_STATUS_LOCKED 1
      { d with clk := { d.clk with rate := rateNominal } }
    else (d.putD F.BEAT_STATUS_LOCKED 0).reselect

/-- A full image takes effect (R31, R39): chip id, every setting, the locks; its job has closed no step yet (R346); a standby waits for its assignment (Table 15-9). -/
def Dev.imgApply (d : Dev) (st : Settings) : Dev :=
  let d := { d with img := { d.img with inForce := some st, fullDigest := d.img.stagedDigest, locked := true } }.showImage st
  let d := { d with col := { d.col with closed := [] } }
  let d := (((d.loadMem st).loadRole st.beatRole).loadNumerics st.lsInit st.cleanSteps st.groups).loadPower st
  let d := if d.loadedBy .companion && st.faultRole = 1 && d.fltState ≠ 7 then d.putD F.FLT_STATUS_STATE 4
    else if d.loadedBy .companion && st.faultRole = 0 && d.fltState = 4 then d.putD F.FLT_STATUS_STATE 0
    else d
  let d := d.imgLoaded
  if d.loadedBy .takeover then d.takeoverLoaded else d

/-- The quarters whose section content a staged partial image changes (R34), as a mask. -/
def Dev.imgChanges (d : Dev) (st : Settings) : Nat :=
  let old := d.img.inForce.getD {}
  (List.range 4).foldl (fun m q =>
    let same := (List.range 68).all (fun n => st.bind.getD (68 * q + n) {} = old.bind.getD (68 * q + n) {})
      && st.noc.getD q {} = old.noc.getD q {}
    if same then m else m + 2 ^ q) 0

/-- The switch beat begins (R34): the log entry, then injection stops in each quarter that changes. -/
def Dev.imgSwitch (d : Dev) (st : Settings) : Dev :=
  let d := d.imgLog st true
  { d with img := { d.img with quiesced := d.imgChanges st } }.putD F.IMG_STATUS_STATE 6

/-- A TPOST still lies in the mesh of a quarter that switches. -/
def Dev.meshBusy (d : Dev) : Bool := d.posts.any (fun (p : TapPost) => bitOf d.img.quiesced (p.core / 68))

/-- The switch completes (R34): flits left in the mesh of a quarter that changed are discarded, the new tables are installed. The job stays that of the
full image in force, whose header gives JOB_ID to the rounding of R115 and the messages of R410. -/
def Dev.imgSwitched (d : Dev) (st : Settings) : Dev :=
  let gone := d.posts.filter (fun (p : TapPost) => bitOf d.img.quiesced (p.core / 68))
  let d := if gone.isEmpty then d else d.count F.MESH_DROP_V 0 0 gone.length
  let d := { d with posts := d.posts.filter (fun (p : TapPost) => !bitOf d.img.quiesced (p.core / 68))
                    img := { d.img with inForce := some { st with jobId := (d.img.inForce.getD {}).jobId }, quiesced := 0 } }.resumeMesh
  let d := ((d.putD F.IMG_SERIAL_V st.serial).putWords F.IMG_DIGEST_V 8 (leBytes 32 d.img.stagedDigest)).imgLoaded
  if d.loadedBy .swap then ((d.recordOnly .swapDone (devSource 0) []).putD F.FLT_STATUS_SWAP_STALE 1).repairCheck else d

end Sys2Proof.Machine
end

