-- ==== Sys2Proof/Machine/HauneOps.lean ====
section
/-!
DEFINITION. Sys2Proof/Machine/HauneOps.lean: the halves of HauneLink and their failover (R426 to R432), companion requests and their refusals (R433 to R435,
R455, R456), and the answers to the device's own requests and snoops (R432, R436 to R438).
-/

namespace Sys2Proof.Machine

/-! ### Answers to device requests -/

/-- The swap table entry of a failed core has been read (R412). -/
def Dev.swapEntry (d : Dev) (c : Nat) (ok : Bool) (line : List Byte) : Dev :=
  let d := { d with flt := { d.flt with swapWait := d.flt.swapWait.filter (· ≠ c) } }
  let o := (d.get F.FLT_SWAP_BASE_V + 16 * c) % 64
  if !ok || leAt line (o + 8) 4 = 0 then d.recordOnly .swapFailed (coreSource c 0) []
  else d.imgLoad false .swap (leAt line o 8) (leAt line (o + 8) 4) 0

/-- A device request ends (R432, R433): its requester takes the outcome. -/
def Dev.endWaiter (d : Dev) (w : Waiter) (code : Nat) (data : List Byte) : Dev :=
  match w with
  | .access id =>
    match d.acc id with
    | some a =>
      let bs := match a.op with | .read _ => slice data (a.at_ % 64) a.span | _ => []
      d.accDone id code (if code = 0 then bs else [])
    | none => d
  | .evtRing => if code = 0 then d else d.evtWriteFails
  | .cmdRing => d.cmdAnswer (code = 0) data
  | .swapTable c => d.swapEntry c (code = 0) data
  | .kvStripe _ _ _ | .pool _ | .collective _ | .image | .mirror | .other => d

/-- The open device request that an answer names. -/
def Dev.hlReqOf (d : Dev) (tag : Nat) : Option HlReq := d.hl.reqs.find? (fun (r : HlReq) => r.tag = tag)

/-- A device request leaves the open ones and its requester takes the outcome. -/
def Dev.hlReqEnds (d : Dev) (r : HlReq) (code : Nat) (data : List Byte) : Dev :=
  { d with hl := { d.hl with reqs := d.hl.reqs.filter (fun (x : HlReq) => x.tag ≠ r.tag) } }.endWaiter r.waiter code data

/-- An answer to a device request (R433); one whose TAG matches none is a violation (Table 16-8). -/
def Dev.hlAnswered (d : Dev) (tag code : Nat) (data : List Byte) : Dev :=
  match d.hlReqOf tag with
  | some r => d.hlReqEnds r code data
  | none => d.hlViolation 0x07

/-! ### Snoops -/

/-- A snoop leaves the open ones. -/
def Dev.dropSnoop (d : Dev) (x : Snoop) : Dev :=
  { d with hl := { d.hl with snoops := d.hl.snoops.filter (fun (y : Snoop) => y.tag ≠ x.tag) } }

/-- A shared entry stays where a snoop only asked to share (Table 16-3). -/
def Dev.sfShare (d : Dev) (line : Nat) : Dev :=
  let s := d.sliceOf line
  { d with hl := { d.hl with filter := mset [] d.hl.filter s ((mget [] d.hl.filter s).map (fun (e : SfEntry) =>
      if e.line = line then { e with owned := false } else e)) } }

/-- A snoop is answered (R436): dirty data is written at home before the waiting request proceeds. -/
def Dev.snoopDone (d : Dev) (x : Snoop) (dirty : Bool) (data : List Byte) : Dev :=
  let d := if dirty then d.homeWrite x.line data else d
  let d := if x.inv then d.sfDrop x.line else d.sfShare x.line
  ((d.dropSnoop x).snoopResume x.line false).settle

/-- A snoop ends unanswered (R438). Its line is not poisoned where a WB_DIRTY has supplied the data (R437). -/
def Dev.snoopFails (d : Dev) (x : Snoop) : Dev :=
  let (bad, d) := (d.dropSnoop x).snoopLost x.line (x.owned && !x.supplied)
  (d.snoopResume x.line bad).settle

/-! ### Halves (Table 16-1) -/

/-- Set the state of half h. -/
def Dev.setHlState (d : Dev) (h st : Nat) : Dev := d.putD (if h = 0 then F.HL_STATUS_STATE0 else F.HL_STATUS_STATE1) st

/-- Set the active lanes of half h. -/
def Dev.setHlLanes (d : Dev) (h m : Nat) : Dev := d.putD (if h = 0 then F.HL_STATUS_LANES0 else F.HL_STATUS_LANES1) m

/-- HALFh_EN. -/
def Dev.hlEnabled (d : Dev) (h : Nat) : Bool := d.flag (if h = 0 then F.HL_CTL_HALF0_EN else F.HL_CTL_HALF1_EN)

/-- A request or snoop sent on a half and not answered. -/
structure HlItem where
  tag : Nat
  op : Nat
  addr : Nat
  data : List Byte
deriving DecidableEq, Repr

/-- Insert in order of a key that rises. -/
def insertBy (key : HlItem → Nat) : List HlItem → HlItem → List HlItem
  | [], x => [x]
  | y :: l, x => if key y ≤ key x then y :: insertBy key l x else x :: y :: l

/-- The requests and snoops of half h in the order in which they were sent (R432). -/
def Dev.hlUnanswered (d : Dev) (h : Nat) : List HlItem :=
  let rs := (d.hl.reqs.filter (fun (r : HlReq) => r.half = h)).map (fun (r : HlReq) => (⟨r.tag, r.op, r.addr, r.data⟩ : HlItem))
  let ss := (d.hl.snoops.filter (fun (x : Snoop) => x.half = h)).map (fun (x : Snoop) => (⟨x.tag, if x.inv then 0x10 else 0x11, x.addr, []⟩ : HlItem))
  (rs ++ ss).foldl (insertBy (fun x => (x.tag + 65536 - d.hl.nextTag) % 65536)) []

/-- What a failed half had sent goes out again on the other half (R432). -/
def Dev.hlMove (d : Dev) (h : Nat) : Dev :=
  let items := d.hlUnanswered h
  let k := 1 - h
  let d := { d with hl := { d.hl with
    reqs := d.hl.reqs.map (fun (r : HlReq) => if r.half = h then { r with half := k } else r)
    snoops := d.hl.snoops.map (fun (x : Snoop) => if x.half = h then { x with half := k } else x) } }
  d.each items (fun d x => d.hlSend k x.op x.tag x.addr 0 x.data)

/-- No half is UP: the requests of half h end with LINK_ERROR and its snoops unanswered (R432). -/
def Dev.hlLose (d : Dev) (h : Nat) : Dev :=
  let d := d.each (d.hl.reqs.filter (fun (r : HlReq) => r.half = h)) (fun d r => d.hlReqEnds r stLinkError [])
  d.each (d.hl.snoops.filter (fun (x : Snoop) => x.half = h)) Dev.snoopFails

/-- Companion requests that arrived on half h end without an answer (R432): discarded, or, where a part has taken effect, carried to their end. -/
def Dev.hlForget (d : Dev) (h : Nat) : Dev :=
  let mine := fun (a : MemAcc) => match a.who with | .companion k _ _ => decide (k = h) | _ => false
  let d := { d with hl := { d.hl with open_ := d.hl.open_.filter (fun o => o.1 ≠ h) } }
  let d := d.each (d.sys.accs.filter (fun a => mine a && (a.pos = 0 || !a.op.writes))) (fun d a => d.dropAcc a.id)
  { d with sys := { d.sys with accs := d.sys.accs.map (fun a => if mine a then { a with who := .other } else a) } }

/-- Half h leaves UP or RETRAINING (R432). -/
def Dev.hlFailover (d : Dev) (h st : Nat) : Dev :=
  let d := ((d.setHlState h st).setHlLanes h 0).setHlHalf h { left := (d.hlHalf h).left }
  let d := d.hlForget h
  if d.hlState (1 - h) = 2 then d.hlMove h else d.hlLose h

/-- Half h is taken out of service: HALFh_EN written 0, a boundary test, or the clock safe state (Table 16-1, R453). -/
def Dev.hlDown (d : Dev) (h : Nat) : Dev :=
  if d.hlState h = 4 then d.setHlState h 0
  else if d.hlState h = 0 then d
  else d.hlFailover h 0

/-- Both halves are DOWN: the clock safe state (Table 16-1). -/
def Dev.hlAllDown (d : Dev) : Dev := (((d.setHlState 0 0).setHlState 1 0).hlFailover 0 0).hlFailover 1 0

/-- A clock event that forces the safe states takes the halves of HauneLink DOWN (Table 16-1). -/
def Dev.clockEvent (d : Dev) (f : Dev → Dev) : Dev :=
  let e := f d
  if e.clk.safe && !d.clk.safe then e.hlAllDown else e

/-- Half h begins to train, with every lane a candidate again. -/
def Dev.hlTrain (d : Dev) (h : Nat) : Dev :=
  if d.hlState h = 0 && !d.clk.safe && !d.hl.ballsTaken then (d.setHlHalf h { }).setHlState h 1 else d

/-- The lanes a half runs on (R427): all four, or the lower pair that passed in full, else the upper. -/
def hlPairs (m : Nat) : Nat := if m % 16 = 15 then 15 else if m % 4 = 3 then 3 else if m / 4 % 4 = 3 then 12 else 0

/-- A training attempt of half h fails (Table 16-1). -/
def Dev.hlAttemptFails (d : Dev) (h : Nat) : Dev :=
  let t := d.hlHalf h
  let st := d.hlState h
  if st = 1 && !t.retryWait then
    if 3 ≤ t.fails + 1 then (d.setHlHalf h { t with fails := 0 }).setHlState h 4
    else d.setHlHalf h { t with fails := t.fails + 1, retryWait := true }
  else if st = 3 then
    if 3 ≤ t.fails + 1 then d.hlFailover h 4 else d.setHlHalf h { t with fails := t.fails + 1 }
  else d

/-- The retry counter of half h. -/
def Dev.hlCount (d : Dev) (f : Fld) (h : Nat) (n : Nat := 1) : Dev := d.count f 0 h n

/-- A half sends ACK or NAK for the last flit accepted (R429). -/
def Dev.hlReport (d : Dev) (h : Nat) (nak : Bool) : Dev :=
  let t := d.hlHalf h
  (d.setHlHalf h { t with sinceAck := 0, nakSent := t.nakSent || nak }).emit (.hlAck h ((t.rxSeq + 1023) % 1024) nak)

/-- Training of half h ends with these lanes good (R427, Table 16-1). -/
def Dev.hlTrained (d : Dev) (h lanes : Nat) : Dev :=
  let t := d.hlHalf h
  let st := d.hlState h
  let m := hlPairs (lanes % 16 &&& (15 ^^^ t.left))
  if st ≠ 1 && st ≠ 3 || t.retryWait then d
  else if m = 0 then d.hlAttemptFails h
  else
    let d := ((d.setHlHalf h { t with fails := 0, left := 15 ^^^ m, crcRun := 0, nakRun := 0 }).setHlLanes h m).setHlState h 2
    (if st = 1 then d.hlReport h false else d.hlCount F.HL_RETRY_V h t.retry.length).hlPump h

/-- Half h begins to retrain (Table 16-1). -/
def Dev.hlRetrain (d : Dev) (h : Nat) : Dev :=
  if d.hlState h = 2 then (d.setHlHalf h { d.hlHalf h with fails := 0, crcRun := 0, nakRun := 0 }).setHlState h 3 else d

/-- The flits sent after the one with a given SEQ; all of them where none has it. -/
def flitsAfter (n : Nat) (l : List (Nat × List Byte)) : List (Nat × List Byte) :=
  if l.any (fun x => x.1 = n) then (l.dropWhile (fun x => x.1 ≠ n)).drop 1 else l

/-- An ACK or NAK arrives on half h (R429, R430). -/
def Dev.hlAcked (d : Dev) (h : Nat) (nak : Bool) (acked : Nat) : Dev :=
  let t := d.hlHalf h
  let rest := flitsAfter acked t.retry
  if nak then
    let run := if t.nakRun ≠ 0 && t.nakSeq = acked then t.nakRun + 1 else 1
    let d := (d.setHlHalf h { t with retry := rest, nakRun := run, nakSeq := acked }).hlCount F.HL_RETRY_V h rest.length
    if 8 ≤ run then d.hlRetrain h else d.hlPump h
  else (d.setHlHalf h { t with retry := rest, nakRun := 0 }).hlPump h

/-- The headers of an accepted header flit that name no operation of the companion, or have a reserved field set (Table 16-8 code 0x01): TAG and ADDR. -/
def HlFlit.badHeaders (f : HlFlit) : List (Nat × Nat) :=
  (List.range 4).filterMap (fun i =>
    let x := slice f.bytes (16 * i) 16
    let op := leAt x 0 1
    if x.all (· = 0) || ((1 ≤ op && op ≤ 9 || 0x20 ≤ op && op ≤ 0x23) && leAt x 13 3 = 0) then none else some (leAt x 2 2, leAt x 4 8))

/-- The reserved fields of an accepted flit are refused (R455): of its control word, and of its headers with a NACK each. -/
def Dev.hlRefuse (d : Dev) (h : Nat) (f : HlFlit) : Dev :=
  if bits (leAt f.bytes 64 2) 3 0 ≠ 0 then d.hlViolation 0x01
  else if f.kind = 1 then d.each f.badHeaders (fun d x => (d.hlViolation 0x01).hlSend h 0x23 x.1 x.2 0x01 [])
  else d

/-- An ACK goes out at least once every 64 flit periods (R429). -/
def Dev.hlAckDue (d : Dev) (h : Nat) : Dev := if d.hlState h = 2 && 64 ≤ (d.hlHalf h).sinceAck then d.hlReport h false else d

/-- A flit period of half h passes. -/
def Dev.hlPeriod (d : Dev) (h : Nat) : Dev := d.setHlHalf h { d.hlHalf h with sinceAck := (d.hlHalf h).sinceAck + 1 }

/-- A flit arrives on an UP half h (R429). -/
def Dev.hlArrive (d : Dev) (h : Nat) (f : HlFlit) : Dev :=
  let t := d.hlHalf h
  if !f.crcOk then
    let d := (d.setHlHalf h { t with crcRun := t.crcRun + 1 }).hlCount F.HL_CRC_ERR_V h
    let d := if t.nakSent then d else d.hlReport h true
    if 32 ≤ t.crcRun + 1 then d.hlRetrain h else d
  else
    let t := { t with crcRun := 0 }
    if f.kind = 3 then (d.setHlHalf h t).hlAcked h f.nak f.acked
    else if f.kind = 0 then d.setHlHalf h t
    else if f.seq = t.rxSeq then (d.setHlHalf h { t with rxSeq := (t.rxSeq + 1) % 1024, nakSent := false }).hlRefuse h f
    else if t.nakSent then d.setHlHalf h t
    else (d.setHlHalf h t).hlReport h true

/-- A flit period of half h brings a flit (R429). -/
def Dev.hlFlit (d : Dev) (h : Nat) (f : HlFlit) : Dev :=
  if d.hlState h ≠ 2 then d else ((d.hlPeriod h).hlArrive h f).hlAckDue h

/-! ### Companion requests -/

/-- A companion request is refused with a NACK that leaves any open request alone. -/
def Dev.hlNack (d : Dev) (r : HlHdr) (reason : Nat) : Dev := d.hlSend r.half 0x23 r.tag r.addr reason []

/-- A companion violation answered with a NACK (Table 16-8). -/
def Dev.hlReject (d : Dev) (r : HlHdr) (code reason : Nat) : Dev := (d.hlViolation code).hlNack r reason

/-- The lines of a request. -/
def HlHdr.lines (r : HlHdr) : Nat := r.size + 1

/-- A line request is malformed: a reserved field, a line address that is none, a run it cannot make, or the wrong number of data bytes. -/
def HlHdr.badLine (r : HlHdr) (run : Bool) (data want : Nat) : Bool :=
  r.bad || r.addr % 64 ≠ 0 || (if run then 64 < r.lines else r.size ≠ 0) || data ≠ want

/-- A TAG is still open. -/
def Dev.tagOpen (d : Dev) (tag : Nat) : Bool := d.hl.open_.any (fun o => o.2 = tag)

/-- A TAG is open from here to its answer. -/
def Dev.openTag (d : Dev) (r : HlHdr) : Dev := { d with hl := { d.hl with open_ := d.hl.open_ ++ [(r.half, r.tag)] } }

/-- The quarter of the active belfry (R459). -/
def Dev.activeQuarter (d : Dev) : Nat := d.get F.BOOT_STATUS_ACTIVE

/-- The physical address at which the mailbox of damped mode is held: the scratch of the active belfry's quarter (R477). -/
def Dev.mailbox (d : Dev) : Nat := 0xE000000000 + 0x4000000 * d.activeQuarter

/-- n bytes of the mailbox. -/
def Dev.mailRead (d : Dev) (a n : Nat) : List Byte := breadN (d.scratchSpace (d.mailbox + a)) d.mem.scratch (d.mailbox + a) n

/-- Write bytes of the mailbox; those beyond its end are dropped. -/
def Dev.mailWrite (d : Dev) (a : Nat) (bs : List Byte) : Dev :=
  { d with mem := { d.mem with scratch := bwriteN (d.scratchSpace (d.mailbox + a)) d.mem.scratch (d.mailbox + a) (bs.take (0x300000 - a)) } }

/-- A line request in damped mode (R477): the mailbox untranslated, or NACK TRANSLATION. -/
def Dev.mailRequest (d : Dev) (r : HlHdr) (op : Nat) (o : AccOp) : Dev :=
  if 0x300000 < r.addr + o.len then d.hlNack r 0x04
  else
    match o with
    | .read n => if op = 7 then d.hlSend r.half 0x21 r.tag r.addr 0 [] else d.hlSend r.half 0x20 r.tag r.addr 0 (d.mailRead r.addr n)
    | .write bs => (d.mailWrite r.addr bs).hlSend r.half 0x21 r.tag r.addr 0 []
    | .masked m bs => (d.mailWrite r.addr (overlayMask (d.mailRead r.addr 64) m bs)).hlSend r.half 0x21 r.tag r.addr 0 []
    | .atomic _ _ _ => d

/-- A core window takes RD_ONCE, WR_LINE and WR_MASKED only (R434). -/
def coreWindowAddr (a : Nat) : Bool := bits a 39 36 = 0xF

/-- An accepted line request goes to its home (R434), or to a core window. -/
def Dev.hlToHome (d : Dev) (r : HlHdr) (op : Nat) (o : AccOp) : Dev :=
  if coreWindowAddr r.addr && op = 7 then d.hlSend r.half 0x21 r.tag r.addr 0 []
  else ((d.openTag r).access (.companion r.half r.tag op) none 0 (d.chip * 2 ^ 40 + r.addr) o).2.settle

/-- A companion line request (R433 to R435, R455, R456, R477). `want` is the number of data bytes its OP carries. -/
def Dev.hlLine (d : Dev) (r : HlHdr) (op : Nat) (o : AccOp) (run : Bool) (data want : Nat) : Dev :=
  if d.hlState r.half ≠ 2 then d
  else if r.badLine run data want then d.hlReject r 0x01 0x01
  else if 2 ^ 40 ≤ r.addr || 4096 < r.addr % 4096 + 64 * r.lines then d.hlReject r 0x02 0x02
  else if d.tagOpen r.tag then d.hlReject r 0x05 0x08
  else if d.flag F.HL_STATUS_QUAR && op ≠ 6 && op ≠ 7 then (d.count F.HL_QUAR_DROP_V).hlNack r 0x09
  else if d.flag F.BOOT_STATUS_DAMPED then d.mailRequest r op o
  else if coreWindowAddr r.addr && (op = 1 || op = 2) then d.hlReject r 0x03 0x07
  else if coreWindowAddr r.addr && op = 6 then d.hlReject r 0x04 0x06
  else d.hlToHome r op o

end Sys2Proof.Machine
end

