-- ==== Sys2Proof/Machine/PinCode.lean ====
section
/-!
DEFINITION. Sys2Proof/Machine/PinCode.lean: the pin-symbol code of the HBM channels (R266 to R269): arithmetic of GF(2^8), the four check symbols of a burst,
the poison encoding, and the decoder of Table 10-3. A symbol is a number below 256; bit b of a symbol is the lane's beat b.
-/

namespace Sys2Proof.Machine

/-- A symbol times α = 2 in the field of x^8 + x^4 + x^3 + x^2 + 1 (R266). -/
def gfDouble (a : Nat) : Nat := if a < 128 then 2 * a else (2 * a) ^^^ 0x11D

/-- The product of a symbol and a symbol of k bits. -/
def gfMulBits : Nat → Nat → Nat → Nat
  | 0, _, _ => 0
  | k + 1, a, b => (if b % 2 = 1 then a else 0) ^^^ gfMulBits k (gfDouble a) (b / 2)

/-- The product of two symbols (R266). -/
def gfMul (a b : Nat) : Nat := gfMulBits 8 a b

/-- α to a power. -/
def gfAlpha : Nat → Nat
  | 0 => 1
  | k + 1 => gfDouble (gfAlpha k)

/-- The power 2^(k+1) - 2 of a symbol. -/
def gfChain : Nat → Nat → Nat
  | 0, _ => 1
  | k + 1, a => gfMul (gfMul a a) (gfChain k (gfMul a a))

/-- The inverse of a symbol other than zero: its power 254. -/
def gfInv (a : Nat) : Nat := gfChain 7 a

/-- The product of the factors (x - α^j) for the powers of a list, constant term first (R266). -/
def gfRoots : List Nat → List Nat
  | [] => [1]
  | r :: rs =>
    let p := gfRoots rs
    List.zipWith (· ^^^ ·) (0 :: p) (p.map (gfMul r) ++ [0])

/-- The generator's four lower coefficients, that of x^3 first (R266). -/
def pinGenerator : List Nat := ((gfRoots [1, 2, 4, 8]).take 4).reverse

/-- One data symbol enters the division by the generator: the remainder, the term of x^3 first. -/
def pinDivide (rem : List Nat) (sym : Nat) : List Nat :=
  let top := rem.getD 0 0 ^^^ sym
  List.zipWith (· ^^^ ·) (rem.drop 1 ++ [0]) (pinGenerator.map (gfMul top))

/-- The check symbols of a burst, lanes 32 to 35, of its 32 data symbols (R266). -/
def pinChecks (data : List Nat) : List Nat := data.foldl pinDivide [0, 0, 0, 0]

/-- The codeword of a burst: data lane L carries byte L (R266, R267). -/
def pinEncode (data : List Nat) : List Nat := data ++ pinChecks data

/-- The codeword of a burst written in the poison encoding (R269). -/
def pinPoison : List Nat :=
  let data := List.replicate 32 0
  data ++ List.zipWith (· ^^^ ·) (pinChecks data) [0xA5, 0x5A, 0xC3, 0x3C]

/-- The locator of a lane: symbol i is the coefficient of x^(35 - i) (R266). -/
def pinLocator (lane : Nat) : Nat := gfAlpha (35 - lane)

/-- The value of a received word at a point. -/
def pinEval (word : List Nat) (x : Nat) : Nat := word.foldl (fun acc s => gfMul acc x ^^^ s) 0

/-- The four syndromes: the word at α^0 to α^3. -/
def pinSyndromes (word : List Nat) : List Nat := [1, 2, 4, 8].map (pinEval word)

/-- The syndromes with the terms of some locators removed: one fewer for each. -/
def pinReduce (locators syn : List Nat) : List Nat :=
  locators.foldl (fun s x => List.zipWith (fun a b => b ^^^ gfMul x a) s (s.drop 1)) syn

/-- The value of the error at a locator, the other locators known. -/
def pinValue (x : Nat) (others syn : List Nat) : Nat :=
  gfMul ((pinReduce others syn).headD 0) (gfInv (others.foldl (fun p y => gfMul p (x ^^^ y)) 1))

/-- The lane, none of those marked, of the one error that explains reduced syndromes. -/
def pinLane (erased reduced : List Nat) : Option Nat :=
  (List.range 36).find? fun l =>
    !erased.contains l && reduced.headD 0 ≠ 0
      && (List.zipWith (fun a b => decide (b = gfMul (pinLocator l) a)) reduced (reduced.drop 1)).all id

/-- A word with the errors at some lanes taken out. -/
def pinFix (word lanes syn : List Nat) : List Nat :=
  lanes.foldl (fun w l =>
    w.set l (w.getD l 0 ^^^ pinValue (pinLocator l) ((lanes.filter (· ≠ l)).map pinLocator) syn)) word

/-- What the decoder makes of a codeword (Table 10-3). -/
inductive Decoded where
  /-- clean, or every marked lane restored -/
  | good
  /-- one symbol of an unmarked lane corrected too -/
  | corrected (lane : Nat)
  | uncorrectable
  | poison
deriving DecidableEq, Repr

/-- The decoder (R268): with e lanes marked, the marked symbols are restored from four syndromes; at most one more symbol is corrected. Also the 32 data
symbols that it delivers. DEDUCED: past what Table 10-3 settles, the decoder corrects whatever one symbol on an unmarked lane explains, and detects the rest
(log 71). -/
def pinDecode (erased word : List Nat) : Decoded × List Nat :=
  let syn := pinSyndromes word
  let red := pinReduce (erased.map pinLocator) syn
  if red.all (· = 0) then (.good, (pinFix word erased syn).take 32)
  else
    match pinLane erased red with
    | some l => (.corrected l, (pinFix word (erased ++ [l]) syn).take 32)
    | none => (.uncorrectable, word.take 32)

end Sys2Proof.Machine
end

