-- ==== Sys2Proof/Machine/Hbm.lean ====
section
/-!
DEFINITION. Sys2Proof/Machine/Hbm.lean: the HBM3E memory subsystem (chapter 10): command slots, refresh and the waiting bound (R263 to R265), the
pin-symbol code's outcomes (R266 to R271), training and channel states (R272 to R275), map-out (R276, R277), temperature and throttling (R278 to
R280), and the traffic generator (R281).
-/

namespace Sys2Proof.Machine

/-- A field of channel ch's registers. -/
def Dev.chGet (d : Dev) (f : Fld) (ch : Nat) : Nat := d.get f (ch / 32) (ch % 32)

/-- Set a field of channel ch's registers. -/
def Dev.chPut (d : Dev) (f : Fld) (ch v : Nat) : Dev := d.put f (ch / 32) (ch % 32) v

/-- Count in a channel register. -/
def Dev.chCount (d : Dev) (f : Fld) (ch : Nat) (n : Nat := 1) : Dev := d.count f (ch / 32) (ch % 32) n

/-- SOURCE of channel ch. -/
def chSource (ch : Nat) : Nat := evSource (ch / 32) 9 (ch % 32)

/-- Channel states (Table 10-4). -/
def chOff : Nat := 0
def chTraining : Nat := 1
def chInService : Nat := 2
def chDegraded : Nat := 3
def chFailedSt : Nat := 4
def chMappedOut : Nat := 5
def chTest : Nat := 6

/-- The channel takes requests. -/
def Dev.chLive (d : Dev) (ch : Nat) : Bool := d.chanState ch = chInService || d.chanState ch = chDegraded

/-- Change a pseudo-channel. -/
def Dev.updPc (d : Dev) (ch pc : Nat) (f : PseudoCh → PseudoCh) : Dev :=
  let c := d.chanOf ch
  d.setChan ch (c.setPc pc (f (c.pc pc)))

/-! ### Command slots (R263, R264, R279) -/

/-- The stack of a channel: stack 2q + h of quarter q, its channels s in halves of 16 (R255). -/
def stackOf (ch : Nat) : Nat := 2 * (ch / 32) + ch % 32 / 16

/-- A column command may issue in this slot (R279): at level T in at most 8 - T of every 8 consecutive slots, in emergency in 1 of every 32. -/
def Dev.columnAllowed (d : Dev) (ch : Nat) (slots : List Bool) : Bool :=
  let h := stackOf ch
  let used := fun (n : Nat) => ((slots.take n).filter (· = true)).length
  if d.flag F.MCH_TEMP_EMERGENCY (h / 2) (h % 2) then used 31 = 0
  else decide (used 7 < 8 - d.get F.MCH_TEMP_LEVEL (h / 2) (h % 2))

/-- Bursts of a request: the two of a line, or the eight of a scrubber's unit (R262, R271). -/
def MchReq.bursts (r : MchReq) : Nat := if r.scrub then 8 else 2

/-- A scrubber's request whose unit is on its way: nothing of its bank comes between its read and its write (R271). -/
def MchReq.reading (r : MchReq) : Bool := r.scrub && !r.write && decide (r.cols = 8)

/-- The head request of a bank: the oldest that the queue has accepted. -/
def PseudoCh.head (p : PseudoCh) (bank : Nat) : Option MchReq := p.queue.find? (fun r => r.bank = bank && r.accepted ≠ 0)

/-- The next command of a request is its column command: its row is open. -/
def PseudoCh.column (p : PseudoCh) (r : MchReq) : Bool := (p.open_.find? (fun e => e.1 = r.bank)).any (fun e => e.2 = r.row)

/-- A bank whose refresh stands at its postponement limit (R265), or met a parity error and is issued once more (R256). Counts are biased by 8. -/
def PseudoCh.overdue (p : PseudoCh) : Option Nat :=
  match p.refs.find? (fun e => e.2 = 2) with
  | some e => some e.1
  | none => (p.owed.find? (fun e => e.2 = 16)).map (·.1)

/-- A refresh of a bank: its row closes, one interval less is owed. -/
def PseudoCh.refresh (p : PseudoCh) (bank : Nat) : PseudoCh :=
  { p with open_ := p.open_.filter (fun e => e.1 ≠ bank), owed := mset 8 p.owed bank (mget 8 p.owed bank - 1)
           refs := mset 0 p.refs bank (if mget 0 p.refs bank = 2 then 3 else 1) }

/-- A command slot passes (the last 31 are kept). -/
def PseudoCh.slot (p : PseudoCh) (column : Bool) : PseudoCh := { p with slots := (column :: p.slots).take 31 }

/-- The state of a request after its next command: an issue again answers a parity error (R256). -/
def MchReq.issued (r : MchReq) : MchReq := { r with parity := if r.parity = 1 then 2 else 0 }

/-- Replace a request of the queue. -/
def PseudoCh.put (p : PseudoCh) (r : MchReq) : PseudoCh := { p with queue := p.queue.map (fun x => if x.id = r.id then r else x) }

/-- The bank that a command slot serves (R263, R69): urgent heads among themselves, else every head that can issue. -/
def PseudoCh.choose (p : PseudoCh) (can : Nat) (allowed : Bool) : Option (Nat × MchReq) :=
  let ok := fun (b : Nat) => match p.head b with
    | some r => bitOf can b && (allowed || !p.column r) && !r.reading
    | none => false
  let urgent := fun (b : Nat) => ok b && (p.head b).any (·.urgent)
  let pick := if (List.range 48).any urgent then urgent else ok
  (arbiter 48 p.ptr pick).bind (fun b => (p.head b).map (fun r => (b, r)))

/-- The next command of a request: precharge, activate, or one of its column commands. A read then waits for its bursts, a scrubber's in its bank's queue. -/
def PseudoCh.command (p : PseudoCh) (r : MchReq) : PseudoCh :=
  let open1 := p.open_.filter (fun e => e.1 ≠ r.bank)
  if p.column r then
    let r' : MchReq := { r.issued with cols := r.cols + 1, last := .column }
    if r'.cols = r.bursts && !r'.reading then { p with queue := p.queue.filter (fun x => x.id ≠ r.id), bursts := p.bursts ++ [r'] }.slot true
    else (p.put r').slot true
  else
    match p.open_.find? (fun e => e.1 = r.bank) with
    | some e => ({ p with open_ := open1 }.put { r.issued with last := .precharge e.2 }).slot false
    | none => ({ p with open_ := open1 ++ [(r.bank, r.row)] }.put { r.issued with last := .activate }).slot false

/-- One command slot of a pseudo-channel. Writes whose bursts have gone are forgotten; the queue takes what waited in the slice. -/
def Dev.commandSlot (d : Dev) (ch pc can : Nat) : Dev :=
  let p0 := (d.chanOf ch).pc pc
  let p := { p0 with bursts := p0.bursts.filter (fun r => !r.write) }
  let accept := fun (p : PseudoCh) => if d.chLive ch then p.accept d.now else p
  match p.overdue with
  | some b => d.updPc ch pc fun _ => (p.refresh b).slot false
  | none =>
    match p.choose can (d.columnAllowed ch p.slots) with
    | none => d.updPc ch pc fun _ => accept (p.slot false)
    | some (b, r) =>
      let wait := (d.now + 1 - r.accepted) * 1000 / 65536
      let d := if p.column r && r.cols = 0 && !(r.scrub && r.write) then d.chPut F.MCH_AGE_MAX_V ch (max (d.chGet F.MCH_AGE_MAX_V ch) (min (2 ^ 32 - 1) wait)) else d
      d.updPc ch pc fun _ => accept { p.command r with ptr := (b + 1) % 48 }

/-- MCH_COMMAND_ISSUE (R263). A memory controller waits for a selected clock source (R41). A channel that trains issues only what its queue had accepted (R274). -/
def execMchCommandIssue (ch pc can : Nat) (s : State) : Out := s.runOn (ch < 128 && pc < 2) fun d =>
  let draining := d.chanState ch = chTraining && ((d.chanOf ch).why = 1 || (d.chanOf ch).why = 3)
  if !d.noSource && ((d.chLive ch && d.get F.MCH_GSTATE_STATE = 0) || draining) then d.commandSlot ch pc can else d

/-- REQUEST_URGENT (R263): 1,500 ns, 98,304 units of 1/65,536 beat, after acceptance. -/
def execRequestUrgent (ch pc id : Nat) (s : State) : Out := s.runOn (ch < 128 && pc < 2) fun d =>
  d.updPc ch pc fun p =>
    { p with queue := p.queue.map (fun r => if r.id = id && r.accepted ≠ 0 && r.accepted + 98303 ≤ d.now then { r with urgent := true } else r) }

/-- HBM_REFRESH (R265): an interval of a bank passes and MCH issues, postpones or pulls in its refresh, by up to 8 intervals either way. In self
refresh (a channel that trains, or STOPPED) there is none. -/
def execHbmRefresh (ch pc bank : Nat) (due issue : Bool) (s : State) : Out := s.runOn (ch < 128 && pc < 2 && bank < 48) fun d =>
  if !d.chLive ch || d.get F.MCH_GSTATE_STATE ≠ 0 then d
  else
    d.updPc ch pc fun p =>
      let owed := mget 8 p.owed bank + b2n due
      let go := owed = 17 || (issue && 0 < owed)
      let p := { p with owed := mset 8 p.owed bank owed }
      if go then p.refresh bank else p

/-! ### The pin-symbol code (R266 to R271) -/

/-- Lanes of a pseudo-channel marked as erasures. -/
def Dev.erasures (d : Dev) (ch pc : Nat) : List Nat :=
  let fs := if pc = 0 then [F.MCH_REPAIR_P0_ERASE0, F.MCH_REPAIR_P0_ERASE1] else [F.MCH_REPAIR_P1_ERASE0, F.MCH_REPAIR_P1_ERASE1]
  (fs.map (fun f => d.chGet f ch)).filter (· ≠ 0x7F)

/-- Lanes repaired by the two spares; 0x7F a free spare. -/
def Dev.spares (d : Dev) (ch pc : Nat) : List Nat :=
  (if pc = 0 then [F.MCH_REPAIR_P0_SPARE0, F.MCH_REPAIR_P0_SPARE1] else [F.MCH_REPAIR_P1_SPARE0, F.MCH_REPAIR_P1_SPARE1]).map (fun f => d.chGet f ch)

/-- Show spares and erasures. -/
def Dev.showRepair (d : Dev) (ch pc : Nat) (spares erased : List Nat) : Dev :=
  let put := fun (d : Dev) (s0 s1 e0 e1 : Fld) =>
    (((d.chPut s0 ch (spares.getD 0 0x7F)).chPut s1 ch (spares.getD 1 0x7F)).chPut e0 ch (erased.getD 0 0x7F)).chPut e1 ch (erased.getD 1 0x7F)
  if pc = 0 then put d F.MCH_REPAIR_P0_SPARE0 F.MCH_REPAIR_P0_SPARE1 F.MCH_REPAIR_P0_ERASE0 F.MCH_REPAIR_P0_ERASE1
  else put d F.MCH_REPAIR_P1_SPARE0 F.MCH_REPAIR_P1_SPARE1 F.MCH_REPAIR_P1_ERASE0 F.MCH_REPAIR_P1_ERASE1

/-- The window number of R270. -/
def Dev.pinWindow (d : Dev) : Nat := d.beat / 65536

/-- A corrected symbol on an unmarked lane (R268, R270). -/
def Dev.correctedSymbol (d : Dev) (ch pc lane : Nat) : Dev :=
  let d := ((d.chCount F.MCH_CE_V ch).chPut F.MCH_LAST_CE_PC ch pc).chPut F.MCH_LAST_CE_LANE ch lane
  let p := (d.chanOf ch).pc pc
  let cnts := if p.laneWin = d.pinWindow then p.laneCnt else []
  let n := mget 0 cnts lane + 1
  let d := d.updPc ch pc fun p => { p with laneWin := d.pinWindow, laneCnt := mset 0 cnts lane n }
  if n ≠ atLeast1 (d.get F.MCH_CTL_PIN_LIMIT (ch / 32)) then d
  else
    let er := d.erasures ch pc
    if er.length < 2 then
      let d := d.showRepair ch pc (d.spares ch pc) (er ++ [lane])
      let d := (if d.chanState ch = chInService then d.chPut F.MCH_CH_STATE_STATE ch chDegraded else d).record .hbmPinErased (chSource ch) []
      if d.flag F.MCH_CTL_AUTO_RETRAIN (ch / 32) then
        let c := d.chanOf ch
        (d.setChan ch { c with why := 1 }).chPut F.MCH_CH_STATE_RETRAIN_PENDING ch 1
      else d
    else (d.chPut F.MCH_CH_STATE_PIN_EXHAUSTED ch 1).record .hbmPinExhausted (chSource ch) []

/-- The lanes carry a burst: the wrong symbols in, lanes beyond the 36 none. -/
def Codeword.carry (cw : Codeword) (word : List Nat) : List Nat := cw.errs.foldl (fun w e => w.set e.1 (w.getD e.1 0 ^^^ e.2 % 256)) word

/-- Decode one burst of a pseudo-channel, the codeword of 32 bytes or, for a `poison` line, of the poison encoding (R266 to R269): the outcome, and the bytes
delivered. No wrong symbol on an unmarked lane is clean, or restored; with a lane marked, whether a poisoned burst shows as poison is a free value (R269). -/
def Dev.decode (d : Dev) (ch pc : Nat) (data : List Byte) (poison : Bool) (cw : Codeword) : Decoded × List Byte × Dev :=
  let er := d.erasures ch pc
  let tx := if poison then pinPoison else pinEncode (data.map (·.toNat))
  let rx := cw.carry tx
  if !poison && (List.range 36).all (fun l => er.contains l || rx.getD l 0 = tx.getD l 0) then (.good, data, d)
  else if er.isEmpty && rx = pinPoison then (.poison, data, d)
  else if poison && !er.isEmpty then
    let (b, d) := d.fresh 1
    if b = 0 then (.poison, data, d) else (.uncorrectable, data, d.chCount F.MCH_UE_V ch)
  else
    let (o, out) := pinDecode er rx
    let bytes := out.map (BitVec.ofNat 8)
    match o with
    | .corrected l => (o, bytes, d.correctedSymbol ch pc l)
    | .good | .poison => (o, bytes, d)
    | .uncorrectable => (o, data, d.chCount F.MCH_UE_V ch)

/-- A codeword is lost: uncorrectable, or poison. -/
def Decoded.lost (o : Decoded) : Bool :=
  match o with
  | .uncorrectable | .poison => true
  | .good | .corrected _ => false

/-- A codeword with a symbol corrected on an unmarked lane. -/
def Decoded.fixed (o : Decoded) : Bool :=
  match o with
  | .corrected _ => true
  | .good | .uncorrectable | .poison => false

/-- Replace a request, or take it out, wherever it stands. -/
def PseudoCh.update (p : PseudoCh) (id : Nat) (r : Option MchReq) : PseudoCh :=
  let f := fun (l : List MchReq) => l.filterMap (fun x => if x.id = id then r else some x)
  { p with queue := f p.queue, bursts := f p.bursts }

/-- A read whose next burst has been asked for: its column commands have issued. -/
def PseudoCh.awaited (p : PseudoCh) (id : Nat) : Option MchReq :=
  (p.bursts ++ p.queue.filter (·.scrub)).find? (fun r => r.id = id && !r.write && r.got.length < 32 * r.cols)

/-- The scrubber has read its unit (R271): written back only where a symbol was corrected, left where it is uncorrectable or poison. A line that a later request
of the bank writes is left to that one. -/
def Dev.scrubbed (d : Dev) (ch pc : Nat) (r : MchReq) : Dev :=
  if r.bad || !r.fixed then d.updPc ch pc (·.update r.id none)
  else
    let later := fun (line : Nat) => ((d.chanOf ch).pc pc).queue.any (fun x => x.write && !x.scrub && x.line = line)
    let d := d.updPc ch pc (·.update r.id (some { r with write := true, cols := 0, last := .none, parity := 0 }))
    d.each (List.range 4) fun d i => if later (r.line + i) then d else d.hbmStore (r.line + i) (slice r.got (64 * i) 64) false

/-- HBM_READ_DECODE (R268): the next burst of a read. With the second the line goes to its slice (R231, Table 10-8); with the eighth the scrubber has its
unit (R271). -/
def execHbmReadDecode (ch pc id : Nat) (cw : Codeword) (s : State) : Out := s.runOn (ch < 128 && pc < 2) fun d =>
  match ((d.chanOf ch).pc pc).awaited id with
  | none => d
  | some r =>
    let line := r.line + r.got.length / 64
    let (o, bs, d) := d.decode ch pc (slice (d.hbmLine line) (r.got.length % 64) 32) (d.mem.poison.contains line) cw
    let first := r.got.length % 64 = 0
    let d := if o = .poison && (first || !r.bad) then d.chCount F.MCH_POISON_V ch else d
    let r' : MchReq := { r with got := r.got ++ bs, bad := r.bad || o.lost, fixed := r.fixed || o.fixed }
    if r'.got.length < 32 * r.bursts then d.updPc ch pc (·.update id (some r'))
    else if r.scrub then d.scrubbed ch pc r'
    else ((d.updPc ch pc (·.update id none)).fillDone line r'.got r'.bad).settle

/-- Units of 256 bytes in a pseudo-channel. -/
def pcUnits : Nat := 4718592

/-- HBM_SCRUB (R271): once in a beat, the scrubber of a pseudo-channel offers its next unit to the queue, as one read-modify-write of its bank. -/
def execHbmScrub (ch pc : Nat) (s : State) : Out := s.runOn (ch < 128 && pc < 2) fun d =>
  let p := (d.chanOf ch).pc pc
  if !(d.flag F.MCH_CTL_SCRUB_EN (ch / 32) && d.chLive ch && d.get F.MCH_GSTATE_STATE = 0) || p.scrubBeat = d.beat + 1 then d
  else
    let n := p.scrub
    let d := d.updPc ch pc fun p => { p with scrub := (n + 1) % pcUnits, scrubBeat := d.beat + 1 }
    match (d.unitAddr ch (2 * n + pc)).bind d.place, d.unitAddr ch (2 * n + pc) with
    | some pl, some a =>
      let r : MchReq := { id := d.sys.nextReq, line := a / 64, bank := pl.bank, row := pl.row, scrub := true }
      let d := { d with sys := { d.sys with nextReq := d.sys.nextReq + 1 } }
      d.updPc ch pc fun p => { p with queue := p.queue ++ [r] }.accept d.now
    | _, _ => d

/-! ### Training and channel states (R272 to R275) -/

/-- Repair of a pseudo-channel (R272): spares and erasures after it; none where a lane is left over. -/
def repairLanes (spares erased bad : List Nat) : Option (List Nat × List Nat) :=
  let lanes := erased ++ (List.range 36).filter (fun l => bad.contains l && !erased.contains l)
  let free := (spares.filter (· = 0x7F)).length
  let now := lanes.take free
  let left := lanes.drop free
  let spares' := (spares.filter (· ≠ 0x7F)) ++ now ++ List.replicate (free - now.length) 0x7F
  if left.length ≤ 2 then some (spares', left) else none

/-- The quarters in compute service are shown (R467). A quarter in QMASK that leaves it sends the knell with cause QUARTER_LOST (Table 15-6). -/
def Dev.showService (d : Dev) (m : Nat) : Dev :=
  let qmask := (d.img.inForce.map (·.qmask)).getD 0
  let left : Bool := (List.range 4).any (fun q => bitOf qmask q && bitOf d.flt.inService q && !bitOf m q)
  let d := { d with flt := { d.flt with inService := m } }
  let d := (d.putD F.BOOT_STATUS_QSERVICE m).putD F.BOOT_STATUS_REDUCED (b2n (m ≠ 15))
  if left then d.knell 0x03 else d

/-- The quarters in compute service once channels are in service: those of step 8 with a channel of the slot list that has not failed (R276, R467). -/
def Dev.withChannels (d : Dev) : Nat :=
  (List.range 4).foldl (fun m q => if bitOf d.boot.q8 q && d.sys.slots.any (fun ch => ch / 32 = q && !d.chanFailed ch) then m + 2 ^ q else m) 0

/-- A channel has failed (R275): its data are lost, the reads that wait end with MEM_ERROR, the write-backs that wait are dropped and counted, and the
device sends its knell (R416). -/
def Dev.channelFails (d : Dev) (ch reason : Nat) : Dev :=
  let c := d.chanOf ch
  let reqs := c.pc0.queue ++ c.pc0.bursts ++ c.pc1.queue ++ c.pc1.bursts
  let d := (d.chPut F.MCH_CH_STATE_STATE ch chFailedSt).chPut F.MCH_CH_STATE_REASON ch reason
  let d := d.setChan ch { c with pc0 := { c.pc0 with queue := [], bursts := [] }, pc1 := { c.pc1 with queue := [], bursts := [] } }
  let d := d.each (reqs.filter (fun r => !r.scrub)) fun d r => if r.write then d.chCount F.MCH_UE_V ch else d.fillFails r.line
  let d := if d.boot.q8 = 0 then d else d.showService d.withChannels
  ((d.record .hbmChannelFailed (chSource ch) []).settle).knell 0x02

/-- CHANNEL_TRAIN_DONE (R272 to R274, Table 10-4). An in-service retrain ends once what its queues had accepted has issued. -/
def execChannelTrainDone (ch : Nat) (bad0 bad1 : List Nat) (ca silent : Bool) (s : State) : Out := s.runOn (ch < 128) fun d =>
  let c := d.chanOf ch
  let service := c.why = 1 || c.why = 3
  let waiting := (c.pc0.queue ++ c.pc1.queue).any (fun r => r.accepted ≠ 0)
  if d.chanState ch ≠ chTraining || (service && waiting) || d.noSource then d
  else
    let r0 := repairLanes (d.spares ch 0) (d.erasures ch 0) bad0
    let r1 := repairLanes (d.spares ch 1) (d.erasures ch 1) bad1
    match (if ca || silent then none else r0), r1 with
    | some (s0, e0), some (s1, e1) =>
      let d := (d.showRepair ch 0 s0 e0).showRepair ch 1 s1 e1
      let st := if c.why = 2 then chTest else if e0.isEmpty && e1.isEmpty then chInService else chDegraded
      let d := d.chPut F.MCH_CH_STATE_STATE ch st
      let d := if service then d.record .hbmRetrain (chSource ch) [] else d
      let c := d.chanOf ch
      d.setChan ch { c with pc0 := c.pc0.accept d.now, pc1 := c.pc1.accept d.now }
    | _, _ =>
      let reason := if c.why = 3 then 4 else if silent then 3 else if ca then 2 else 1
      if service then d.channelFails ch reason
      else
        let d := (d.chPut F.MCH_CH_STATE_STATE ch chMappedOut).chPut F.MCH_CH_STATE_REASON ch reason
        if c.why = 2 then d
        else (d.putD F.MCH_MAP_V (setBit (d.get F.MCH_MAP_V) ch false)).record .hbmTrainFail (chSource ch) []

/-- RETRAIN (R273, R274): it starts at the next beat boundary. -/
def execRetrain (ch : Nat) (s : State) : Out := s.runOn (ch < 128) fun d =>
  if d.chLive ch then
    let c := d.chanOf ch
    (d.setChan ch { c with why := 1 }).chPut F.MCH_CH_STATE_RETRAIN_PENDING ch 1
  else d.chPut F.MCH_CH_STATE_CMD_REFUSED ch 1

/-- The retrains that await a beat boundary start (R274). One of a channel that is already training awaits the first boundary after it. -/
def Dev.startRetrains (d : Dev) : Dev :=
  d.each ((List.range 128).filter (fun ch => d.chGet F.MCH_CH_STATE_RETRAIN_PENDING ch = 1)) fun d ch =>
    if d.chLive ch then (d.chPut F.MCH_CH_STATE_RETRAIN_PENDING ch 0).chPut F.MCH_CH_STATE_STATE ch chTraining
    else if d.chanState ch = chTraining then d
    else d.chPut F.MCH_CH_STATE_RETRAIN_PENDING ch 0

/-- TEST_ENTER (R273). -/
def execTestEnter (ch : Nat) (s : State) : Out := s.runOn (ch < 128) fun d =>
  if d.chanState ch = chMappedOut then
    let c := d.chanOf ch
    (d.setChan ch { c with why := 2 }).chPut F.MCH_CH_STATE_STATE ch chTraining
  else d.chPut F.MCH_CH_STATE_CMD_REFUSED ch 1

/-- The generator stops (R273, R281). -/
def Dev.tgHalt (d : Dev) (ch : Nat) : Dev :=
  ((d.setChan ch { d.chanOf ch with tg := none }).chPut F.MCH_CH_STATE_TG_RUN ch 0).chPut F.MCH_TG_CTL_START ch 0

/-- TEST_EXIT (R273). -/
def execTestExit (ch : Nat) (s : State) : Out := s.runOn (ch < 128) fun d =>
  if d.chanState ch = chTest then (d.tgHalt ch).chPut F.MCH_CH_STATE_STATE ch chMappedOut
  else d.chPut F.MCH_CH_STATE_CMD_REFUSED ch 1

/-- A channel in service is to retrain for a second parity error (R256). -/
def Dev.parityRetrain (d : Dev) (ch : Nat) : Dev :=
  if d.chLive ch then (d.setChan ch { d.chanOf ch with why := 3 }).chPut F.MCH_CH_STATE_RETRAIN_PENDING ch 1 else d

/-- The last command of a request had no effect (R256), and is the next to issue for it. -/
def PseudoCh.undo (p : PseudoCh) (r : MchReq) (parity : Nat) : PseudoCh :=
  let open1 := p.open_.filter (fun e => e.1 ≠ r.bank)
  match r.last with
  | .none => p
  | .precharge row => { p with open_ := open1 ++ [(r.bank, row)] }.put { r with parity := parity }
  | .activate => { p with open_ := open1 }.put { r with parity := parity }
  | .column =>
    let back : MchReq := { r with cols := r.cols - 1, parity := parity, got := r.got.take (32 * (r.cols - 1)) }
    if p.bursts.any (fun x => x.id = r.id) then { p with bursts := p.bursts.filter (fun x => x.id ≠ r.id), queue := back :: p.queue } else p.put back

/-- COMMAND_ADDRESS_PARITY (R256), of the last command of a request, or of the last refresh of a bank: it is issued once more; a second error on the same
command retrains the channel. A refresh issues again in the next command slot. -/
def execCommandAddressParity (ch pc : Nat) (what : ParityOf) (s : State) : Out := s.runOn (ch < 128 && pc < 2) fun d =>
  let p := (d.chanOf ch).pc pc
  match what with
  | .refresh bank =>
    if mget 0 p.refs bank = 1 then
      d.updPc ch pc fun p => { p with refs := mset 0 p.refs bank 2, owed := mset 8 p.owed bank (mget 8 p.owed bank + 1) }
    else if mget 0 p.refs bank = 3 then
      (d.updPc ch pc fun p => { p with refs := mset 0 p.refs bank 0, owed := mset 8 p.owed bank (mget 8 p.owed bank + 1) }).parityRetrain ch
    else d
  | .request id =>
    match (p.bursts ++ p.queue).find? (fun r => r.id = id) with
    | none => d
    | some r =>
      if r.parity = 1 then d
      else if r.parity = 2 then (d.updPc ch pc (·.undo r 0)).parityRetrain ch
      else d.updPc ch pc (·.undo r 1)

/-! ### Map-out and re-hash (R276, R277) -/

/-- A device command is refused (Table 10-12). -/
def Dev.mchRefuse (d : Dev) (reason : Nat) : Dev := (d.putD F.MCH_GSTATE_REFUSED 1).putD F.MCH_GSTATE_REASON reason

/-- STOP (R277). -/
def execStop (s : State) : Out := s.run fun d =>
  if d.get F.MCH_GSTATE_STATE = 2 then d.mchRefuse 6
  else if d.get F.IMG_STATUS_STATE ≠ 0 then d.mchRefuse 1
  else if !d.quiescent then d.mchRefuse 2
  else if d.flag F.POOL_CTL_ENABLE || d.flag F.POOL_STATUS_BUSY then d.mchRefuse 3
  else
    let d := d.dropXlt (fun _ => true)
    { d with sys := { d.sys with shc := [] } }.putD F.MCH_GSTATE_STATE 1

/-- APPLY (R277): the mapped channels that are OFF or MAPPED_OUT train. It waits for a clock source (R41). -/
def execApply (s : State) : Out := s.run fun d =>
  let st := d.get F.MCH_GSTATE_STATE
  if d.noSource then d
  else if st = 2 then d.mchRefuse 6
  else if st ≠ 1 then d.mchRefuse 4
  else if d.get F.MCH_MAP_V = 0 then d.mchRefuse 5
  else
    let d := d.putD F.MCH_GSTATE_STATE 2
    d.each ((List.range 128).filter (fun ch => bitOf (d.get F.MCH_MAP_V) ch && (d.chanState ch = chOff || d.chanState ch = chMappedOut)))
      fun d ch =>
        let c := d.chanOf ch
        (d.setChan ch { c with why := 0 }).chPut F.MCH_CH_STATE_STATE ch chTraining

/-- The sort key of the slot list (R258). -/
def slotKey (ch : Nat) : Nat := let s := ch % 32; 4 * (if s < 16 then 2 * s else 2 * (s - 16) + 1) + ch / 32

/-- The channels whose keys run from 0 to 127 (R258). -/
def keyChannel (k : Nat) : Nat := let j := k / 4; 32 * (k % 4) + (if j % 2 = 0 then j / 2 else 16 + j / 2)

/-- The slot list is rebuilt over the channels in service; every byte of local HBM is undefined, the translation table and pool records included
(R258, R277). -/
def Dev.rebuildSlots (d : Dev) : Dev :=
  let slots := ((List.range 128).map keyChannel).filter (fun ch => bitOf (d.get F.MCH_MAP_V) ch && d.chLive ch)
  let d := { d with sys := { d.sys with slots := slots, shc := [] }
                    mem := { d.mem with hbm := [], poison := [], epoch := d.mem.epoch + 1 }
                    pool := { d.pool with recs := [], used := [], known := false } }
  let d := d.each ((List.range 128).filter (fun ch => !bitOf (d.get F.MCH_MAP_V) ch && (d.chLive ch || d.chanState ch = chOff)))
    (fun d ch => d.chPut F.MCH_CH_STATE_STATE ch chMappedOut)
  (((d.putD F.MCH_GSTATE_CHANNELS slots.length).putD F.MCH_CAP_V (slots.length * chBytes)).putD F.MCH_GSTATE_STATE 0)

/-- No channel of APPLY trains any more, nor one whose retrain overlaps it; a channel on its way to TEST is left out. -/
def Dev.applyOver (d : Dev) : Bool :=
  d.get F.MCH_GSTATE_STATE = 2 && !(List.range 128).any (fun ch => d.chanState ch = chTraining && (d.chanOf ch).why ≠ 2)

/-! ### Temperature and throttling (R278 to R280) -/

/-- A reading as Table 10-5 and R265 take it. LATE is owed at the next beat boundary where T rises or EMERGENCY is set (R280). -/
def Dev.throttle (d : Dev) (st r : Nat) : Dev :=
  let q := st / 2
  let h := st % 2
  let t := d.get F.MCH_TEMP_LEVEL q h
  let d := if 86 ≤ r then d.put F.MCH_TEMP_REF_HALF q h 1 else if r ≤ 83 then d.put F.MCH_TEMP_REF_HALF q h 0 else d
  let late := fun (d : Dev) (n : Nat) => { d with pwr := { d.pwr with hbmLate := d.pwr.hbmLate ++ [(n, q)] } }
  if d.flag F.MCH_TEMP_EMERGENCY q h then
    if r ≤ 93 then (d.put F.MCH_TEMP_EMERGENCY q h 0).put F.MCH_TEMP_LEVEL q h 7 else d
  else if 96 ≤ r then
    late ((((d.put F.MCH_TEMP_EMERGENCY q h 1).put F.MCH_TEMP_EMERG_SEEN q h 1).put F.MCH_TEMP_LEVEL q h 7).record .hbmEmergency
      (evSource q 9 0x7F) []) 8
  else if 86 ≤ r then (if t < 7 then late (d.put F.MCH_TEMP_LEVEL q h (t + 1)) (t + 1) else d)
  else if r ≤ 83 && 0 < t then d.put F.MCH_TEMP_LEVEL q h (t - 1)
  else d

/-- A stack is read at this beat (R278): b mod 16 = (2n + 2) mod 16, and it has not been read in it yet. -/
def Dev.tempBeat (d : Dev) (stack : Nat) : Bool :=
  decide (d.beat % 16 = (2 * stack + 2) % 16) && decide ((mget {} d.sys.sensors stack).readAt ≠ d.beat + 1)

/-- HBM_TEMP_READ (R278): at the stack's beats; at another no reading is taken. -/
def execHbmTempRead (stack : Nat) (reading : Option Nat) (s : State) : Out := s.runOn (stack < 8) fun d => if !d.tempBeat stack then d else
  let q := stack / 2
  let h := stack % 2
  let setFails := fun (d : Dev) (n : Nat) =>
    { d with sys := { d.sys with sensors := mset {} d.sys.sensors stack { fails := n, readAt := d.beat + 1 } } }
  match reading with
  | some r => (((setFails d 0).put F.MCH_TEMP_SENSOR_FAIL q h 0).put F.MCH_TEMP_TEMP q h r).throttle stack r
  | none =>
    let n := min 3 ((mget {} d.sys.sensors stack).fails + 1)
    let d := setFails d n
    if n < 3 then d
    else
      let d := if d.flag F.MCH_TEMP_SENSOR_FAIL q h then d
        else (d.put F.MCH_TEMP_SENSOR_FAIL q h 1).record .hbmSensorFail (evSource q 9 0x7F) []
      d.throttle stack 96

/-! ### Traffic generator and checker (R281) -/

/-- The fields of MCH_TG_CTL but START, as written. -/
def Dev.tgWrite (d : Dev) (ch v : Nat) : Dev :=
  d.regWrite ⟨.mchTgCtl, ch / 32, ch % 32, 0⟩ 8 (v / 2 * 2 + d.chGet F.MCH_TG_CTL_START ch)

/-- The run that MCH_TG_CTL and MCH_TG_RANGE ask for. -/
def Dev.tgRun (d : Dev) (ch : Nat) : TgRun :=
  { loops := d.chGet F.MCH_TG_CTL_LOOPS ch, seed := d.chGet F.MCH_TG_CTL_SEED ch, pattern := d.chGet F.MCH_TG_CTL_PATTERN ch
    op := d.chGet F.MCH_TG_CTL_OP ch, raw := d.chGet F.MCH_TG_CTL_RAW ch = 1
    first := d.chGet F.MCH_TG_RANGE_FIRST ch, count := d.chGet F.MCH_TG_RANGE_COUNT ch }

/-- TG_START (R281): START written 1. -/
def execTgStart (ch value : Nat) (s : State) : Out := s.runOn (ch < 128) fun d =>
  let d := d.tgWrite ch value
  if d.chanState ch ≠ chTest then d.chPut F.MCH_CH_STATE_CMD_REFUSED ch 1
  else
    let d := d.setChan ch { d.chanOf ch with tg := some (d.tgRun ch) }
    (((d.chPut F.MCH_CH_STATE_TG_RUN ch 1).chPut F.MCH_TG_CTL_START ch 1).chPut F.MCH_TG_LANES0_LANES ch 0).chPut F.MCH_TG_LANES1_V ch 0

/-- TG_STOP (R281): START written 0. The run goes on to the end of its current line, which TG_DONE reports; START reads 1 until then (Table 10-17). -/
def execTgStop (ch value : Nat) (s : State) : Out := s.runOn (ch < 128) fun d =>
  let d := d.tgWrite ch value
  d.setChan ch { d.chanOf ch with tg := (d.chanOf ch).tg.map (fun t => { t with stopping := true }) }

/-- A step of a shift-register generator of n bits with taps n and m: its output bit and its next state. -/
def prbsStep (n m st : Nat) : Nat × Nat :=
  let b := (st >>> (n - 1)) % 2
  (b, (2 * st + (b + (st >>> (m - 1)) % 2) % 2) % 2 ^ n)

/-- The state of a generator after k beats. -/
def prbsRun (n m : Nat) : Nat → Nat → Nat
  | 0, st => st
  | k + 1, st => prbsRun n m k (prbsStep n m st).2

/-- Eight bits of a generator, the first as bit 0. -/
def prbsByte (n m : Nat) : Nat → Nat → Nat
  | 0, _ => 0
  | k + 1, st => (prbsStep n m st).1 + 2 * prbsByte n m k (prbsStep n m st).2

/-- The symbol that a lane carries in burst n of a range (R281); none for a pattern or a lane without one. -/
def tgSymbol (pattern seed lanes lane n unit burst : Nat) : Option Nat :=
  let prbs := fun (w m : Nat) =>
    let s := (seed + lane) % 2 ^ w
    prbsByte w m 8 (prbsRun w m (8 * n) (atLeast1 s))
  if pattern = 1 then some (prbs 15 14)
  else if pattern = 2 then some (prbs 31 28)
  else if pattern = 3 then some (if n % lanes = lane then 0xFF else 0)
  else if pattern = 4 then some (if n % lanes = lane then 0 else 0xFF)
  else if pattern = 5 && lane < 32 then some ((256 * unit + 32 * burst + lane / 4 * 4) / 256 ^ (lane % 4) % 256)
  else none

/-- A burst of a run that its checker reads: a pass and a unit of the range (R281). The range counts the channel's units, of which even ones lie in pseudo-channel 0
and odd ones in 1 (R259). -/
def TgRun.reads (t : TgRun) (x : TgSymbol) : Bool :=
  let stop := if t.count = 0 then 2 * pcUnits else t.first + t.count
  t.op ≠ 1 && (t.loops = 0 || x.pass < t.loops) && t.first ≤ x.unit && x.unit < stop && x.burst < 8

/-- The data symbols of a burst of a run: lanes 0 to `n` - 1. Burst numbers count from the range's start in each pseudo-channel. -/
def TgRun.pattern_ (t : TgRun) (unit burst n : Nat) : List (Option Nat) :=
  let k := 8 * ((unit - (t.first + (t.first + unit) % 2)) / 2) + burst
  (List.range n).map (fun lane => tgSymbol t.pattern t.seed n lane k unit burst)

/-- The symbols of a burst as written: all 36 lanes carry the pattern with RAW = 1; else the code is applied to the 32 data lanes. A lane without a pattern
carries none. -/
def TgRun.wrote (t : TgRun) (unit burst : Nat) : List (Option Nat) :=
  if t.raw then t.pattern_ unit burst 36
  else
    let data := t.pattern_ unit burst 32
    data ++ (pinChecks (data.map (·.getD 0))).map some

/-- One mismatched burst is counted and shown (R281). -/
def Dev.tgMismatch (d : Dev) (ch : Nat) (raw : Bool) (x : TgSymbol) (lanes : List Nat) : Dev :=
  let pc := x.unit % 2
  let d := d.chCount F.MCH_TG_ERRS_V ch
  let d := if !raw then d else d.each lanes fun d l =>
    let f := if pc = 0 then F.MCH_TG_LANES0_LANES else F.MCH_TG_LANES1_V
    d.chPut f ch (setBit (d.chGet f ch) l true)
  if d.chGet F.MCH_TG_FIRST_VALID ch = 1 then d
  else
    ((((d.chPut F.MCH_TG_FIRST_VALID ch 1).chPut F.MCH_TG_FIRST_LANE ch (lanes.foldl min 63)).chPut F.MCH_TG_FIRST_PC ch pc).chPut
      F.MCH_TG_FIRST_BURST ch x.burst).chPut F.MCH_TG_FIRST_UNIT ch x.unit

/-- A burst that came back wrong: with RAW = 1 it counts, and its lanes are set; with RAW = 0 it is decoded, a correction counts in MCH_CE_s and an
uncorrectable codeword here (R281). -/
def Dev.tgBurst (d : Dev) (ch : Nat) (t : TgRun) (xs : List TgSymbol) (x : TgSymbol) : Dev :=
  let wrote := t.wrote x.unit x.burst
  let bad := xs.filter (fun y => (wrote.getD y.lane none).any (· ≠ y.symbol))
  let lanes := (bad.map (·.lane)).eraseDups
  if bad.isEmpty then d
  else if t.raw then d.tgMismatch ch true x lanes
  else
    let data := (wrote.take 32).map (fun v => BitVec.ofNat 8 (v.getD 0))
    let cw : Codeword := { errs := bad.map (fun y => (y.lane, ((wrote.getD y.lane none).getD 0) ^^^ y.symbol)) }
    let (o, _, d) := d.decode ch (x.unit % 2) data false cw
    if o = .uncorrectable then d.tgMismatch ch false x lanes else d

/-- TG_DONE (R281): the generator has made its passes, or the line in hand when it was stopped; without end where LOOPS is 0 it is done only once stopped. -/
def execTgDone (ch : Nat) (rx : List TgSymbol) (s : State) : Out := s.runOn (ch < 128) fun d =>
  match (d.chanOf ch).tg with
  | none => d
  | some t =>
    if t.loops = 0 && !t.stopping then d
    else
      let key := fun (x : TgSymbol) => (x.pass, x.unit, x.burst)
      let seen := rx.filter t.reads
      let d := d.each ((seen.map key).eraseDups) fun d k =>
        match seen.filter (fun x => key x = k) with
        | [] => d
        | x :: xs => d.tgBurst ch t (x :: xs) x
      (d.tgHalt ch).chPut F.MCH_CH_STATE_TG_DONE ch 1

end Sys2Proof.Machine
end

