-- ==== Sys2Proof/Machine/LateOps.lean ====
section
/-!
DEFINITION. Sys2Proof/Machine/LateOps.lean: LATE notices (R68, R280, R354, R396): their payload, their recipients and their sending at a beat boundary.
-/

namespace Sys2Proof.Machine

/-- The 32 bytes of a LATE payload (Table 03-3). -/
def LateMsg.bytes (m : LateMsg) : List Byte :=
  slice ([4, 0] ++ leBytes 2 m.reason ++ leBytes 4 m.slot ++ leBytes 8 (m.newEnd / 65536) ++ leBytes 4 (m.newEnd % 65536) ++ leBytes 4 m.sender) 0 32

/-- The LATE payload that bytes spell. -/
def LateMsg.parse (b : List Byte) : LateMsg :=
  { reason := leAt b 2 2, slot := leAt b 4 4, newEnd := leAt b 8 8 * 65536 + leAt b 16 2, sender := leAt b 20 4 }

/-- The tree neighbours of a slot that is POSTED or later (R354); an UPDATE slot names no tree (Table 12-2). -/
def Dev.lateTo (d : Dev) (slot : Nat) : List Nat :=
  if d.colState slot = 0 || (d.colSlot slot).kind = kUpdate then []
  else
    let t := d.colTree (d.colSlot slot)
    (if t.parent ≤ maxChip && t.rank ≠ 0 then [t.parent] else []) ++ t.kids.map (fun (x : Nat × Nat) => x.2)

/-- Send a LATE payload to a chip. -/
def Dev.sendLate (d : Dev) (m : LateMsg) (dst : Nat) : Dev :=
  d.originate { ptype := 8, dst := dst, len := 32, vc := 6, data := m.bytes }

/-- A notice of this device for a slot (R280, R354, R396): applied here as it is sent. -/
def Dev.ownLate (d : Dev) (m : LateMsg) : Dev := d.each (d.lateTo m.slot) (fun d c => d.sendLate m c) |>.applyLate m |>.2

/-- The distinct REFs of the open KIND 0x01 deadlines, each with the latest end at which one was armed (R280, R396). -/
def Dev.openRefs (d : Dev) : List (Nat × Nat) :=
  d.pat.deadlines.foldl (fun l (e : Nat × Deadline) =>
    if e.2.kind ≠ 1 then l else mset 0 l e.2.ref (max (mget 0 l e.2.ref) e.2.e0)) []

/-- The notices owed for HBM temperature (R280); LATE_BEATS = 0 disables them. -/
def Dev.flushHbmLate (d : Dev) : Dev :=
  let owed := d.pwr.hbmLate
  let d := { d with pwr := { d.pwr with hbmLate := [] } }
  if d.get F.MCH_THERM_CTL_LATE_BEATS = 0 then d
  else d.each owed fun d o => d.each d.openRefs fun d r =>
    (d.ownLate { reason := 1, slot := r.1, newEnd := r.2 + 65536 * d.get F.MCH_THERM_CTL_LATE_BEATS * o.1, sender := d.chip }).count
      F.MCH_LATE_TX_V o.2

/-- The notices owed for the operating point (R396). -/
def Dev.flushPowerLate (d : Dev) : Dev :=
  match d.pwr.lateOwed with
  | none => d
  | some o =>
    { d with pwr := { d.pwr with lateOwed := none } }.each d.openRefs fun d r =>
      (d.ownLate { reason := o.1, slot := r.1, newEnd := r.2 + 65536 * d.get F.PWR_THERM_LATE_PWR * o.2, sender := d.chip }).count F.PWR_LATE_TX_V

/-- Notices that stretched a deadline go on to the other tree neighbours (R354). -/
def Dev.forwardLate (d : Dev) : Dev :=
  let l := d.pat.lateOut
  d.each l (fun d x =>
    let ns := (d.lateTo x.1.slot).filter (· ≠ x.2)
    if ns.isEmpty then d else (d.each ns (fun d c => d.sendLate x.1 c)).count F.COL_LATE_FWD_V)
    |> fun d => { d with pat := { d.pat with lateOut := d.pat.lateOut.drop l.length } }

/-- A LATE arrives (R68, R354). -/
def Dev.lateIn (d : Dev) (src : Nat) (m : LateMsg) : Dev :=
  let (hit, d) := (d.count F.BEAT_LATE_RX_V).applyLate m
  if hit then { d with pat := { d.pat with lateOut := d.pat.lateOut ++ [(m, src)] } } else d

end Sys2Proof.Machine
end

