-- ==== Sys2Proof/Machine/Beat.lean ====
section
/-!
DEFINITION. Sys2Proof/Machine/Beat.lean: the meanings of the clock, beat, pattern and deadline events (R13, R49 to R68), and the work of a beat boundary
(R49, R52, R54, R55, R60, R321, R354, R413, R456).
-/

namespace Sys2Proof.Machine

/-! ### Work of a beat boundary -/

/-- A preferred source that has qualified is selected (R49). -/
def Dev.preferSwitch (d : Dev) : Dev :=
  match d.clk.prefer with
  | none => d
  | some src =>
    if !d.flag src.qual then d
    else
      let d := { d with clk := { d.clk with prefer := none } }
      if d.get F.BEAT_CLK_STATUS_SELECTED = src.code then d else d.switchSource src

/-- CREC moves to the port it should be recovered from (R43). It fails where the new port's clock is not in window against XTAL or HREC. -/
def Dev.moveCrec (d : Dev) : Dev :=
  if d.clk.crecPort.isNone || d.crecChoice = d.clk.crecPort then d
  else
    let e := d.crecFrom d.crecChoice
    if d.crecChoice.any (fun n => !bitOf d.clk.rxIn n) then e.clockEvent (·.sourceFails .crec) else e

/-- A count set by BEAT_SET takes effect (R52). -/
def Dev.takeSet (d : Dev) : Dev :=
  match d.clk.setPending with
  | some n => { d with clk := { d.clk with setPending := none } }.putD F.BEAT_NOW_V n
  | none => d

/-- Routes change around failed bridges, and the requests that ended on them are issued again (R13). -/
def Dev.reroute (d : Dev) : Dev :=
  let p := d.clk.bridgesPending
  if p = 0 then d
  else
    let out := (List.range 4).foldl (fun m b => setBit m b (bitOf m b || bitOf p b)) d.clk.bridgesOut
    let d := { d with clk := { d.clk with bridgesOut := out, bridgesPending := 0 } }.bridgeAgain
    d.each ((List.range 4).filter (bitOf p)) (fun d _ => d.record .bridgeDown (devSource 0) [])

/-- Every UP port sends a PROBE (R54), which waits for its ECHO from its launch. DESIGN CHOICE: on the beats whose number is a multiple of 256 (log 63). -/
def Dev.sendProbes (d : Dev) : Dev :=
  if d.beat % 256 ≠ 0 then d
  else d.each d.upPorts fun d n =>
    let id := d.clk.probeId
    { d with clk := { d.clk with probeId := (id + 1) % 2 ^ 32 } }.sendBeat n (.probe id)

/-- A master, or a follower that is LOCKED or in holdover, sends SYNC on every UP port (R55). -/
def Dev.sendSyncs (d : Dev) : Dev :=
  let k := d.get F.BEAT_CTL_SYNC_LOG2
  let may := d.role ≠ 0 || d.flag F.BEAT_STATUS_LOCKED || d.flag F.BEAT_STATUS_HOLDOVER
  if d.beat % 2 ^ k ≠ 0 || !may then d
  else
    let hops := if d.role ≠ 0 then 0 else d.get F.BEAT_STATUS_HOPS
    d.each d.upPorts fun d n => d.sendBeat n (.sync hops (d.flag F.BEAT_STATUS_HOLDOVER) k d.beat d.frac16)

/-- A port's quarantine begins (R321); its liveness window is suspended (R414). -/
def Dev.startQuarantines (d : Dev) : Dev :=
  let d := d.each ((List.range 16).filter (fun n => (d.port n).quarPending)) fun d n =>
    let t := { d.port n with quarPending := false, quarEnd := d.beat + d.get F.FAB_VIOL_CFG_QUAR_BEATS, liveFrom := none }
    ((d.setPort n t).pput F.FAB_PORT_STATUS_QUAR n 1).record .fabQuarantine (evSource (n / 4) 10 n) []
  if d.hl.quarPending then
    { d with hl := { d.hl with quarPending := false, quarEnd := d.beat + d.get F.HL_VIOL_CFG_QUAR_BEATS } }.putD F.HL_STATUS_QUAR 1
  else d

/-- HEARTBEAT on every UP port (R413). -/
def Dev.sendHeartbeats (d : Dev) : Dev :=
  if d.beat % 8 ≠ 0 || !d.flag F.FLT_CTL_LIVE_EN || 3 < d.fltState then d
  else
    let m := d.message 1 d.chip (d.get F.FLT_INCARNATION_INC) d.serial
    d.each d.upPorts fun d n => d.enqueue n (m.packet d 0 0 true)

/-- BEAT_OUT rises at fraction 0 of a VALID beat (chapter 19). -/
def Dev.beatOut (d : Dev) : Dev := if d.flag F.BEAT_STATUS_VALID then d.emit (.pin "BEAT_OUT" 1) else d

/-- A chosen change of upstream takes effect (R56). -/
def Dev.upstreamDue (d : Dev) : Dev :=
  match d.clk.upPending with
  | some n => d.takeUpstream n
  | none => d

/-- The duty in force changes at a group of eight beats (R392). -/
def Dev.dutyDue (d : Dev) : Dev := if d.beat % 8 = 0 then d.takeDuty else d

/-- A beat passes without slack below the guard (R386). -/
def Dev.slackBeat (d : Dev) : Dev := { d with pwr := { d.pwr with slack := d.pwr.slack + 1 } }

/-- The beat count advances by one; entries of the beats before are late without more (R61). -/
def Dev.nextBeat (d : Dev) : Dev := { d.putD F.BEAT_NOW_V (d.beat + 1) with pat := { d.pat with skips := [] } }

/-- The count advances by one and the work scheduled at boundaries runs (R50). -/
def Dev.boundary (d : Dev) : Dev :=
  d.nextBeat.takeSet.preferSwitch.moveCrec.beatOut.armPending.reroute.upstreamDue.sendProbes.sendSyncs.forwardLate.flushHbmLate
    |>.flushPowerLate.dutyDue.slackBeat.countWaits.startRetrains.laneWindows.startQuarantines.sendHeartbeats

/-! ### Ticks -/

/-- One tick (R50): a stopped timer waits for the expected stamp (R57); otherwise the fraction grows; at its overflow the boundary comes. Each quarter may issue one pattern entry again (R61). -/
def Dev.tick (d : Dev) : Dev :=
  if !d.clk.running then d
  else if d.clk.stopped then d.awaitExpected
  else
    let d := { d with pat := { d.pat with disp := d.pat.disp.map (fun (e : Nat × Dispatcher) => (e.1, { e.2 with used := false })) } }
    let low := d.clk.frac.toNat < 2 ^ 47
    let (over_, d) := d.advance
    if over_ then d.boundary
    else if low && 2 ^ 47 ≤ d.clk.frac.toNat && d.flag F.BEAT_STATUS_VALID then d.emit (.pin "BEAT_OUT" 0)
    else d

/-- BEAT_TICK (R50). -/
def execBeatTick (s : State) : Out := s.run fun d => d.tick

/-- BEAT_BOUNDARY (R50): the tick at which the fraction overflows. -/
def execBeatBoundary (s : State) : Out := s.run fun d =>
  if !d.clk.stopped && 2 ^ 48 ≤ d.clk.frac.toNat + d.clk.rate then d.tick else d

/-- A pattern table is armed: its ARM bit reads 1 and its arming does not wait (Table 03-10). -/
def Dev.armed (d : Dev) (q : Nat) : Bool := bitOf (d.get F.BEAT_PAT_ARM_ARM) q && !bitOf (d.get F.BEAT_PAT_ARM_PENDING) q

/-- BEAT_SET (R52). -/
def execBeatSet (count : Nat) (s : State) : Out := s.run fun d =>
  if d.role = 0 || (List.range 4).any d.armed then d else { d with clk := { d.clk with setPending := some (count % 2 ^ 64) } }

/-- BEAT_IN_EDGE (R52): fraction zero of the nearest beat. -/
def execBeatInEdge (s : State) : Out := s.run fun d =>
  if d.role = 2 && d.clk.running then d.follow ((d.now + 32768) / 65536 * 65536) 625 16 else d

/-- BEAT_STOP_END (R57): the expected stamp has reached the stopped timer, which goes on. -/
def execBeatStopEnd (s : State) : Out := s.run fun d =>
  if d.clk.stopped && d.fullStamp ≤ d.clk.expected then { d with clk := { d.clk with stopped := false } } else d

/-! ### PROBE, ECHO, SYNC -/

/-- Take a link-local payload from the port whose frame brought it. -/
def Dev.takeBeat (d : Dev) (n : Nat) (m : BeatMsg) : Dev :=
  match (d.port n).rxq.find? (fun p => p.ptype = 8 && p.isLocal && BeatMsg.parse p.data = some m) with
  | some p => d.takeRx n p
  | none => d

/-- PROBE (R54): answered with an ECHO, whose TURN runs from here to its launch. -/
def execProbe (n id : Nat) (s : State) : Out := s.runOn (n < 16) fun d =>
  let d := d.takeBeat n (.probe id)
  if d.portUp n then
    let rest := d.clk.echoes.filter (fun (p : ProbeOut) => !(p.port = n && p.id = id))
    { d with clk := { d.clk with echoes := rest ++ [({ port := n, id := id, launch := d.now } : ProbeOut)] } }.sendBeat n (.echo id 0)
  else d

/-- ECHO (R54): the one-way delay. One below zero is discarded. -/
def execEcho (n id turn : Nat) (s : State) : Out := s.runOn (n < 16) fun d =>
  let d := d.takeBeat n (.echo id turn)
  match d.clk.probes.find? (fun (p : ProbeOut) => p.port = n && p.id = id) with
  | none => d
  | some p =>
    let late := p.launch + 16 * 65536 ≤ d.now
    let d := { d with clk := { d.clk with probes := d.clk.probes.filter (fun (x : ProbeOut) => x ≠ p) } }
    if late || !d.portUp n || d.now < p.launch + turn then d
    else (((d.put F.BEAT_PORT_DELAY_DELAY 0 n ((d.now - p.launch - turn) / 2)).put F.BEAT_PORT_DELAY_VALID 0 n 1)).reselect

/-- ECHO_TIMEOUT (R54). -/
def execEchoTimeout (n id : Nat) (s : State) : Out := s.runOn (n < 16) fun d =>
  { d with clk := { d.clk with probes := d.clk.probes.filter (fun (p : ProbeOut) => !(p.port = n && p.id = id && p.launch + 16 * 65536 ≤ d.now)) } }

/-- A SYNC is noted: what its port last said (R56). -/
def Dev.noteSync (d : Dev) (i : SyncInfo) : Dev :=
  { d with clk := { d.clk with syncs := d.clk.syncs.filter (fun (x : SyncInfo) => x.port ≠ i.port) ++ [i] } }

/-- SYNC (R56, R57, R59): a follower without an upstream takes the best eligible port at once, and another port at a beat boundary. Holdover
ends with the SYNC of an eligible port only. -/
def execSync (n hops : Nat) (holdover : Bool) (interval beat frac : Nat) (s : State) : Out := s.runOn (n < 16) fun d =>
  let d := d.takeBeat n (.sync hops holdover interval beat frac)
  if d.role ≠ 0 || !d.portUp n || !d.clk.running then d
  else
    let d := d.noteSync { port := n, hops := hops, holdover := holdover, interval := interval, arrival := d.now }
    let first := d.get F.BEAT_STATUS_UPSTREAM = 0xFF && (d.bestPort.map (·.port)) = some n
    let d := if first then d.takeUpstream n else d.reselect
    let good := !d.flag F.BEAT_STATUS_HOLDOVER || d.clk.syncs.any (fun (s : SyncInfo) => s.port = n && d.eligible s)
    if d.get F.BEAT_STATUS_UPSTREAM = n && good then
      let d := (d.putD F.BEAT_STATUS_HOPS (hops + 1)).putD F.BEAT_STATUS_HOLDOVER 0
      d.follow (beat * 65536 + frac + d.get F.BEAT_PORT_DELAY_DELAY 0 n) (625 * 2 ^ interval) n
    else d

/-- UPSTREAM_TIMEOUT (R56, R59): a port whose SYNC has not arrived within 4 of its intervals is no longer eligible. -/
def execUpstreamTimeout (n : Nat) (s : State) : Out := s.runOn (n < 16) fun d =>
  match d.clk.syncs.find? (fun (x : SyncInfo) => x.port = n) with
  | some i => if i.arrival + 4 * 2 ^ i.interval * 65536 ≤ d.now then (d.noteSync { i with fresh := false }).reselect else d
  | none => d

/-- LATE (R68, R354): applied here, or sent on to its chip. -/
def execLate (n : Nat) (p : Packet) (s : State) : Out := s.runOn (n ≤ 16) fun d =>
  if p.ptype ≠ 8 || leAt p.data 0 1 ≠ 4 then d
  else
    let d := d.takeMsg n p
    if p.dst ≠ d.chip then
      if p.hops = 0 then d.countRefusal nackTtl else d.sendPacket { p with hops := p.hops - 1 } (if n < 16 then some n else none)
    else d.lateIn p.src (LateMsg.parse p.data)

/-! ### Pattern tables and deadlines -/

/-- PATTERN_ARM (R60). -/
def execPatternArm (q : Nat) (s : State) : Out := s.runOn (q < 4) fun d =>
  if bitOf (d.get F.BEAT_PAT_ARM_ARM) q then d
  else if d.flag F.BEAT_STATUS_VALID && d.img.inForce.isSome then
    (d.putD F.BEAT_PAT_ARM_ARM (setBit (d.get F.BEAT_PAT_ARM_ARM) q true)).putD F.BEAT_PAT_ARM_PENDING
      (setBit (d.get F.BEAT_PAT_ARM_PENDING) q true)
  else d.putD F.BEAT_STATUS_ARM_REFUSED 1

/-- PATTERN_DISARM (R62). -/
def execPatternDisarm (q : Nat) (s : State) : Out := s.runOn (q < 4) fun d =>
  let d := (d.putD F.BEAT_PAT_ARM_ARM (setBit (d.get F.BEAT_PAT_ARM_ARM) q false)).putD F.BEAT_PAT_ARM_PENDING
    (setBit (d.get F.BEAT_PAT_ARM_PENDING) q false)
  { d with pat := { d.pat with disp := mset {} d.pat.disp q {} } }

/-- The cores a pattern entry of quarter q aims at (Table 03-4), less failed ones (R411). -/
def Dev.patTargets (d : Dev) (q t : Nat) : List Nat :=
  if t = 0xFF then d.activeCores q else (d.lciCore q t).toList.filter (fun c => !d.flt.failed.contains c)

/-- The action of a pattern entry (Table 03-4). -/
def Dev.patAction (d : Dev) (q : Nat) (e : PatEntry) (stamp : Nat) : Dev :=
  match e.action with
  | 1 => d.colRelease (bits e.arg 7 0)
  | 2 => d.each (d.patTargets q e.target) (fun d c => d.dmaRing c (bits e.arg 7 0))
  | 3 => if bits e.arg 31 16 = 0 then d else d.each (d.patTargets q e.target) (fun d c => d.tapAdd c (bits e.arg 5 0) (bits e.arg 31 16))
  | 4 => d.powerHint stamp (bits e.arg 31 0) (bits e.arg 55 32) (bits e.arg 63 56)
  | 5 => d.armDeadline q e stamp
  | _ => d

/-- Entries stamped within the switch beat of an image wait for the switch (R35). -/
def Dev.patWaits (d : Dev) (stamp : Nat) : Bool :=
  (d.get F.IMG_STATUS_STATE = 5 || d.get F.IMG_STATUS_STATE = 6) && d.img.switchBeat ≤ d.beat && d.img.switchBeat ≤ stamp / 65536

/-- Quarter q's dispatcher issues its next entry (R61): late where its beat is past, or a step skipped its stamp. -/
def Dev.patIssue (d : Dev) (q : Nat) : Dev :=
  let p := mget {} d.pat.disp q
  let es := d.patEntries q
  match es[p.i]? with
  | none => d
  | some e =>
    let stamp := d.entryStamp e p.k
    if p.armedAt.isNone || p.used || !d.clk.running || d.clk.stopped || d.now < stamp || d.patWaits stamp then d
    else
      let next : Dispatcher := if p.i + 1 < es.length then { p with i := p.i + 1, used := true } else { p with k := p.k + 1, i := 0, used := true }
      let d := { d with pat := { d.pat with disp := mset {} d.pat.disp q next } }
      let skipped := d.pat.skips.any (fun e => e.1 < stamp && stamp < e.2)
      let d := if stamp / 65536 < d.beat || skipped then (d.count F.BEAT_PAT_LATE_V).putD F.BEAT_STATUS_LATE_SEEN 1 else d
      d.patAction q e stamp

/-- PATTERN_ENTRY_ISSUE (R61). -/
def execPatternEntryIssue (q : Nat) (s : State) : Out := s.runOn (q < 4) fun d => d.patIssue q

/-- DEADLINE_END (R67). -/
def execDeadlineEnd (q slot : Nat) (s : State) : Out := s.runOn (q < 4 && slot < 64) fun d => d.missDeadline q slot

/-- BRIDGE_FAIL (R13): the requests on the bridge end, and the routes change at the next beat boundary. -/
def execBridgeFail (b : Nat) (s : State) : Out := s.runOn (b < 4) fun d =>
  if bitOf d.clk.bridgesOut b then d else { d with clk := { d.clk with bridgesPending := setBit d.clk.bridgesPending b true } }.bridgeBreaks

end Sys2Proof.Machine
end

