-- ==== Sys2Proof/Machine/Fabric.lean ====
section
/-!
DEFINITION. Sys2Proof/Machine/Fabric.lean: the meanings of the port, frame, key and table commands of chapter 11.
-/

namespace Sys2Proof.Machine

/-- PORT_ENABLE (R286): ENABLE = 1 starts training of a DISABLED port, with every lane a candidate again (R287). Without a clock source nothing trains
(R41, R48). -/
def execPortEnable (n : Nat) (s : State) : Out := s.runOn (n < 16) fun d =>
  let d := d.pput F.FAB_PORT_CTL_ENABLE n 1
  if d.portState n = 0 && !d.noSource then
    let d := d.setPort n { d.port n with fails := 0, retryWait := false, outRx := 0, outTx := 0, lock := none, param := none }
    (d.pput F.FAB_PORT_STATUS_REASON n 0).setPortState n 1
  else d

/-- PORT_DISABLE (R286): ENABLE = 0 idles the transmitters and takes the port out of service; a FAILED port only becomes DISABLED. -/
def execPortDisable (n : Nat) (s : State) : Out := s.runOn (n < 16) fun d =>
  let d := d.pput F.FAB_PORT_CTL_ENABLE n 0
  let d := if d.portState n = 5 then d.setPortState n 0 else d.portLeave n 0
  let d := d.dropDelay n
  d.setPort n { d.port n with outRx := 0, outTx := 0, fails := 0, retryWait := false }

/-- A training attempt fails (Table 11-2). The next one begins anew. -/
def Dev.trainingFails (d : Dev) (n reason : Nat) : Dev :=
  let t := { d.port n with lock := none, param := none }
  if d.portState n = 1 then
    if 3 ≤ t.fails + 1 then (d.setPort n { t with fails := 0, retryWait := false }).portFails n reason .fabPortDown
    else d.setPort n { t with fails := t.fails + 1, retryWait := true }
  else if d.portState n = 4 then
    if 3 ≤ t.fails + 1 then (d.setPort n { t with fails := 0 }).portFails n 6 .fabPortDown
    else d.setPort n { t with fails := t.fails + 1 }
  else d

/-- PORT_TRAINING_DONE (R287, R288), once the receiver has locked and the partner's PARAM has come: lane sets of at least six each way begin key setup, or return
a retraining port to UP under the keys in force. A loopback or too few lanes fails the attempt. -/
def execPortTrainingDone (n : Nat) (s : State) : Out := s.runOn (n < 16) fun d =>
  let st := d.portState n
  let t := (d.port n).aged d.laneWindow
  match t.lock, t.param with
  | some _, some (serial, chip, pport, tx) =>
    let rx' := t.lanes (st = 4)
    let tx' := (tx % 256) &&& (255 ^^^ t.outTx)
    if st ≠ 1 && st ≠ 4 then d
    else if serial = d.serial then d.trainingFails n 3
    else if popCount 8 rx' < 6 || popCount 8 tx' < 6 then d.trainingFails n 2
    else
      let oldRx := d.pget F.FAB_PORT_STATUS_RX_LANES n
      let oldTx := d.pget F.FAB_PORT_STATUS_TX_LANES n
      let d := (((((d.pput F.FAB_PORT_PSERIAL_V n serial).pput F.FAB_PORT_PCHIP_CHIP n chip).pput F.FAB_PORT_PCHIP_PORT n pport).pput
        F.FAB_PORT_STATUS_RX_LANES n rx').pput F.FAB_PORT_STATUS_TX_LANES n tx').pput F.FAB_PORT_STATUS_REASON n 0
      let d := d.setPort n { t with outRx := 255 ^^^ rx', outTx := 255 ^^^ tx', retryWait := false }
      if st = 1 then d.beginKeying n
      else
        let dropped := (List.range 8).filter (fun l => (bitOf oldRx l && !bitOf rx' l) || (bitOf oldTx l && !bitOf tx' l))
        let d := d.each dropped (fun d _ => d.record .fabLaneDropped (evSource (n / 4) 10 n) [])
        let t := d.port n
        (d.setPort n { t with fails := 0, resend := t.retry }).setPortState n 3
  | _, _ => d

/-- PORT_TRAINING_FAIL (R286). -/
def execPortTrainingFail (n reason : Nat) (s : State) : Out := s.runOn (n < 16) fun d => d.trainingFails n reason

/-- PORT_TRAINING_RETRY (R286): 100 ms after a failed training the port trains again. -/
def execPortTrainingRetry (n : Nat) (s : State) : Out := s.runOn (n < 16) fun d =>
  d.setPort n { d.port n with retryWait := false }

/-- KEYX (R318, R319): fragments collect into a message; the last one advances the exchange. Outside key setup a KEYX flit is a
violation and dropped (Table 11-15). -/
def execKeyx (n msg idx cnt : Nat) (bytes : List Byte) (s : State) : Out := s.runOn (n < 16) fun d =>
  let t := d.port n
  let st := d.portState n
  if st = 2 || (st = 3 && (msg = 1 || t.key.rekey)) then
    let got := if idx = 0 then bytes else t.key.rxMsg ++ bytes
    let d := d.setPort n { t with key := { t.key with rxMsg := got } }
    if idx + 1 = cnt then (if st = 2 then d.kxInKeying n msg got else d.kxInUp n msg got) else d
  else d.violation n 0x09 noSrc

/-- KEYX_RESEND (R318): a message unanswered within 1 ms is sent again whole. -/
def execKeyxResend (n : Nat) (s : State) : Out := s.runOn (n < 16) fun d =>
  let t := d.port n
  match t.key.unanswered with
  | some msg => d.setPort n (t.sendKx msg (if t.key.rekey then t.key.ek else t.key.message msg) true)
  | none => d

/-- KEYING_TIMEOUT (R286): keys not installed within 250 ms of the belfry taking the exchange up. -/
def execKeyingTimeout (n : Nat) (s : State) : Out := s.runOn (n < 16) fun d =>
  if d.portState n = 2 && (d.port n).key.taken then d.portFails n 5 .fabAuthFail else d

/-- PORT_RETRAIN (R288). A loss of lock at the port that feeds CREC is a failure of CREC (R46). -/
def execPortRetrain (n : Nat) (lockLost : Bool) (s : State) : Out := s.runOn (n < 16) fun d =>
  let d := d.startRetrain n
  if lockLost then d.clockEvent (·.receiverLock false n false false) else d

/-- PORT_RETRAIN_CMD (R288): a write of 1 to RETRAIN retrains an UP port, and is ignored in other states. -/
def execPortRetrainCmd (n : Nat) (s : State) : Out := s.runOn (n < 16) fun d => d.startRetrain n

/-- FRAME_SEND (R293, R298). Without a clock source no transmitter runs (R41, R48). -/
def execFrameSend (n : Nat) (s : State) : Out := s.runOn (n < 16) fun d => if d.noSource then d else d.sendFrame n

/-- FRAME_RECEIVE (R287, R290 to R296, R316, R322), at a port that trains, keys or is UP. -/
def execFrameReceive (n : Nat) (f : RxFrame) (s : State) : Out := s.runOn (n < 16) fun d =>
  if 1 ≤ d.portState n && d.portState n ≤ 4 && !(d.port n).retryWait then d.receiveFrame n f else d

/-- REKEY_START (R319): at 2^31 frames under a key the sender starts a rekey with KX1'. -/
def execRekeyStart (n : Nat) (s : State) : Out := s.runOn (n < 16) fun d =>
  let t := d.port n
  if d.portUp n && 2 ^ 31 ≤ t.key.ctrTx && !t.key.rekey then
    let (seed, d) := d.fresh 64
    let ek := Config.kemKey seed
    d.setPort n ({ t with key := { t.key with rekey := true, ek := ek } }.sendKx 1 ek true)
  else d

/-- KEY_EXHAUSTED (R319): a counter at 2^32 - 1 with no completed rekey sends no further frame and causes KEYING, the retry buffer kept. -/
def execKeyExhausted (n : Nat) (s : State) : Out := s.runOn (n < 16) fun d =>
  if d.portUp n && 2 ^ 32 - 1 ≤ (d.port n).key.ctrTx then d.rekeyFull n else d

/-- QUARANTINE_END (R321): QUAR_BEATS after its start; the liveness window restarts (R414). -/
def execQuarantineEnd (n : Nat) (s : State) : Out := s.runOn (n < 16) fun d =>
  let t := d.port n
  if d.pget F.FAB_PORT_STATUS_QUAR n ≠ 0 && t.quarEnd ≤ d.beat then
    (d.setPort n { t with liveFrom := if d.portUp n || d.portState n = 4 then some d.now else none }).pput F.FAB_PORT_STATUS_QUAR n 0
  else d

/-- BLOCK_RESEND (R304): a block answered NO_TABLE is sent again. -/
def execBlockResend (tag : Nat) (s : State) : Out := s.runFab true fun d =>
  match d.fab.reqs.find? (fun r => r.tag = tag) with
  | none => d
  | some r =>
    match r.copy with
    | none => d
    | some p =>
      if r.busy || r.resendAt = 0 || d.beat < r.resendAt then d
      else
        let d := { d with fab := { d.fab with reqs := d.fab.reqs.map (fun (x : Req) => if x.tag = tag then { x with resendAt := 0, issued := d.now } else x) } }
        (d.count F.LCX_RESENDS_V r.quarter).originate p

/-- LEX_LOAD_CMD (R307): a load for slot E mod 2 is asked for, or refused while one is pending or running. -/
def execLexLoadCmd (q epoch bases : Nat) (s : State) : Out := s.runOn (q < 4) fun d =>
  if d.flag F.LEX_STATUS_LOAD_BUSY q then d.put F.LEX_STATUS_REFUSED q 0 1
  else
    let l := d.lex q
    (d.setLex q { l with loadEpoch := epoch % 65536, loadBases := bases % 128, loadAddr := d.get F.LEX_LOAD_ADDR_V q, loadRunning := false }).put
      F.LEX_STATUS_LOAD_BUSY q 0 1

/-- LEX_LOAD_START (R307): the load begins only when no block queued at the quarter's LEX names the epoch that the slot holds. -/
def execLexLoadStart (q : Nat) (s : State) : Out := s.runFab (q < 4) fun d =>
  let l := d.lex q
  let held := (l.slotOf l.loadEpoch).map (·.epoch)
  if d.flag F.LEX_STATUS_LOAD_BUSY q && !l.queued.any (fun e => some e = held) then d.setLex q { l with loadRunning := true } else d

/-- LCX_EPOCH_NEXT (R309): NEXT = CUR + 1 asks LCX to advance; any other value is ignored and sets ADV_REFUSED. -/
def execLcxEpochNext (q next : Nat) (s : State) : Out := s.runOn (q < 4) fun d =>
  if next % 65536 = (d.get F.LCX_EPOCH_CUR q + 1) % 65536 then
    (d.put F.LCX_EPOCH_NEXT q 0 next).put F.LEX_STATUS_ADV_PENDING q 0 1
  else d.put F.LEX_STATUS_ADV_REFUSED q 0 1

/-- A block that LCX of a quarter sent under an epoch is still unanswered (R309). -/
def Dev.blockOpen (d : Dev) (q epoch : Nat) : Bool :=
  d.fab.reqs.any (fun r => match r.copy with
    | some p => p.block && leAt p.data 0 1 = 0x20 && leAt p.data 2 2 = epoch && r.quarter = q
    | none => false)

/-- LCX_EPOCH_ADVANCE (R309): CUR advances once every block sent under CUR - 1 is answered and LCX's own slot holds CUR + 1. The cycles in which LCX waits, until
then or for its own slot to hold CUR, count in LCX_STALL. -/
def execLcxEpochAdvance (q stalled : Nat) (s : State) : Out := s.runFab (q < 4) fun d =>
  let cur := d.get F.LCX_EPOCH_CUR q
  let nxt := (cur + 1) % 65536
  let holds := fun (e : Nat) => ((d.lex q).slotOf e).any (fun t => t.epoch = e)
  let d := if d.flag F.LEX_STATUS_ADV_PENDING q || !holds cur then d.count F.LCX_STALL_V q 0 stalled else d
  if d.flag F.LEX_STATUS_ADV_PENDING q && !d.blockOpen q ((cur + 65535) % 65536) && holds nxt then
    ((d.put F.LCX_EPOCH_CUR q 0 nxt).put F.LEX_STATUS_ADV_PENDING q 0 0).lcxWake q
  else d

end Sys2Proof.Machine
end

