-- ==== Sys2Proof/Machine/StartOps.lean ====
section
/-!
DEFINITION. Sys2Proof/Machine/StartOps.lean: the package flash (R460 to R462), the steps of a start (R463 to R472), resets, and damped mode up to its
service (R476).
-/

namespace Sys2Proof.Machine

/-! ### Flash (R462, R464) -/

/-- The start counter read: 3 where no record is valid (R462). -/
def Flash.value (f : Flash) : Nat := (f.counter.map (·.1)).getD 3

/-- A counter record is appended; a full sector gives way to the other (R462). An unreadable flash takes nothing. -/
def Flash.append (f : Flash) (v : Nat) : Flash :=
  if !f.readable then f
  else
    let seq := ((f.counter.map (·.2)).getD 0 + 1) % 2 ^ 32
    if 4096 < f.used + 16 then { f with counter := some (v, seq), sector := 1 - f.sector, used := 16 }
    else { f with counter := some (v, seq), used := f.used + 16 }

/-- Change the flash. -/
def Dev.updFlash (d : Dev) (f : Flash → Flash) : Dev := { d with boot := { d.boot with flash := f d.boot.flash } }

/-- Set the step in hand. -/
def Dev.setStep (d : Dev) (n : Nat) : Dev := { d with boot := { d.boot with step := n } }

/-- The steps in hand beyond those of Table 17-3: 8 stands for 8 to 10. -/
def stReady : Nat := 14
def stFailed : Nat := 15
def stDampedClock : Nat := 16
def stDampedTrain : Nat := 17
def stDamped : Nat := 18

/-- A failure record (R464); the milliseconds since reset release are a free value. -/
def failRecord (seq reason step counter ms mask : Nat) : List Byte :=
  let b := leBytes 4 seq ++ leBytes 1 reason ++ leBytes 1 step ++ leBytes 1 counter ++ leBytes 4 ms ++ leBytes 1 mask ++ List.replicate 16 0
  b ++ leBytes 4 (crc32 b).toNat

/-- A failure record enters the ring of 2,048. -/
def Flash.fail (f : Flash) (reason step counter ms mask : Nat) : Flash :=
  let l := f.fails ++ [failRecord f.failSeq reason step counter ms mask]
  { f with fails := l.drop (l.length - 2048), failSeq := (f.failSeq + 1) % 2 ^ 32 }

/-- The start fails (R464): STAGE FAILED, REASON, a failure record. -/
def Dev.startFail (d : Dev) (step reason : Nat) : Dev :=
  let d := (d.putD F.BOOT_STATUS_STAGE 7).putD F.BOOT_STATUS_REASON reason
  let (ms, d) := d.fresh 32
  (d.updFlash fun f => f.fail reason step (d.get F.BOOT_COUNT_WRITTEN) ms d.flt.inService).setStep stFailed

/-- Go on with a start that has not failed. -/
def Dev.thenStep (d : Dev) (f : Dev → Dev) : Dev := if d.boot.step = stFailed then d else f d

/-! ### Resets -/

/-- What a reset leaves (R464, R479, R495): every register and store at its reset value, the flash, and the trip output (R499). The contents of HBM and
pinned scratch are undefined. -/
def Dev.afterReset (d : Dev) : Dev :=
  { out := d.out, free := d.free
    mem := { epoch := d.mem.epoch + 1
             scratchEpoch := (List.range 4).foldl (fun m q => mset 0 m q (mget 0 m q + 1)) d.mem.scratchEpoch }
    pwr := { tripped := d.pwr.tripped }
    boot := { flash := d.boot.flash, asked := d.boot.asked } }

/-! ### Signed objects (R461, R471) -/

/-- The length of the signature. -/
def sigLen : Nat := 7856

/-- Check a firmware-style object: RESULT of Table 17-12, 0 where it is accepted. -/
def fwCheck (b : List Byte) (magic : Nat) (kind : Option Nat) (top : Nat) : Nat :=
  let n := leAt b 12 4
  let key := slice b 32 32
  let badKind : Bool := match kind with | some k => leAt b 4 1 ≠ k | none => false
  if leAt b 0 4 ≠ magic || badKind then 2
  else if n < 64 + sigLen || top < n || b.length < n then 1
  else if sha256 key ≠ sha256 Config.vendorRoot then 3
  else if !slhVerify slh128s key (b.take (n - sigLen)) (slice b (n - sigLen) sigLen) then 4
  else 0

def magicS1 : Nat := 0x3154535A
def magicS2 : Nat := 0x3254535A
def magicPart : Nat := 0x5452505A

/-- The signed bytes of an accepted object. -/
def fwSigned (b : List Byte) : List Byte := b.take (leAt b 12 4 - sigLen)

/-- The body of an accepted object. -/
def fwBody (b : List Byte) : List Byte := (fwSigned b).drop 64

/-- The part serial, certificate, frequencies and test map-out of a part record's body (Table 17-6). -/
def partSerial (b : List Byte) : Nat := leAt (fwBody b) 0 8
def partCert (b : List Byte) : List Byte := slice (fwBody b) 10 7984
def partFmax (b : List Byte) : List Nat := (slice (fwBody b) 7994 2176).map (·.toNat)
def partMapOut (b : List Byte) : Nat := leAt (fwBody b) ((fwBody b).length - 16) 16

/-- A device certificate is valid for a serial (R470). -/
def certValid (c : List Byte) (serial : Nat) : Bool :=
  leAt c 0 4 = 0x5452435A && leAt c 8 8 = serial && slhVerify slh128s Config.vendorRoot (c.take 128) (slice c 128 sigLen)

/-- IDKEY_HASH of a certificate. -/
def certHash (c : List Byte) : List Byte := slice c 64 32

/-- A part record is valid (R471, Table 17-4). -/
def partValid (b : List Byte) : Bool := fwCheck b magicPart none 131072 = 0 && certValid (partCert b) (partSerial b)

/-- An operator map-out list is valid (R472). -/
def mapListOk (b : List Byte) : Bool := leAt b 0 4 = 0x50414D5A && leAt b 60 4 = (crc32 (slice b 0 60)).toNat

/-- The channels of the operator list: empty where it fails its check. -/
def mapListBits (b : List Byte) : Nat := if mapListOk b then leAt b 16 16 else 0

/-! ### Steps 4 to 7 -/

/-- Step 4: the log begins (R473); ROM, START, and a DEBUG_ATTACH that came before. -/
def Dev.step4 (d : Dev) : Dev :=
  let d := { d with boot := { d.boot with log := [], count := 0, chain := List.replicate 32 0 } }
  let d := d.putD F.BOOT_STATUS_STAGE 2
  let d := d.logAppend 1 (sha256 Config.vendorRoot) (leBytes 4 Config.romVersion)
  let d := d.logAppend 2 [] (leBytes 1 (d.get F.BOOT_COUNT_WRITTEN) ++ leBytes 1 (d.get F.BOOT_STATUS_ACTIVE) ++ leBytes 1 (d.get F.BOOT_STATUS_RESUMED))
  match d.boot.attach with
  | some code => { d with boot := { d.boot with attach := none } }.logAppend 0x20 [] (leBytes 1 code)
  | none => d

/-- A part record is in force (R471). -/
def Dev.takePart (d : Dev) (b : List Byte) (copy : Nat) : Dev :=
  let d := { d with boot := { d.boot with part := b }, pwr := { d.pwr with fmax := partFmax b } }
  (d.putD F.BOOT_PART_SERIAL_V (partSerial b)).logAppend 3 (sha256 (fwSigned b)) (leBytes 8 (partSerial b) ++ leBytes 1 copy)

/-- Step 5: the part record, copy A, else copy B; an unreadable flash gives neither (R476). -/
def Dev.step5 (d : Dev) (damped : Bool) : Dev :=
  if d.boot.flash.readable && partValid d.boot.flash.partA then d.takePart d.boot.flash.partA 0
  else if d.boot.flash.readable && partValid d.boot.flash.partB then d.takePart d.boot.flash.partB 1
  else if damped then d
  else d.startFail 5 0x04

/-- Step 6: the identity (R469). -/
def Dev.step6 (d : Dev) (damped : Bool) : Dev :=
  if d.boot.env.identity && !d.boot.part.isEmpty then
    let h := certHash (partCert d.boot.part)
    (((d.putD F.SEC_ID_STATUS_READY 1).putWords F.SEC_ID_HASH_V 8 h).logAppend 4 h []).keysReady
  else if damped then d
  else d.startFail 6 0x05

/-- Stage 1 runs from a copy. -/
def Dev.takeStage1 (d : Dev) (b : List Byte) (copy : Nat) : Dev :=
  let d := (d.putD F.BOOT_S1_VERSION_V (leAt b 8 4)).putD F.BOOT_STATUS_S1_COPY copy
  d.logAppend 5 (sha256 (fwSigned b)) (leBytes 1 copy ++ leBytes 4 (leAt b 8 4))

/-- Step 7: stage 1, first the copy with the higher VERSION, A on equal (Table 17-3). -/
def Dev.step7 (d : Dev) : Dev :=
  let a := d.boot.flash.stage1A
  let b := d.boot.flash.stage1B
  let order := if leAt a 8 4 < leAt b 8 4 then [(b, 1), (a, 0)] else [(a, 0), (b, 1)]
  match order.find? (fun x => fwCheck x.1 magicS1 (some 1) 1048576 = 0) with
  | some x => d.takeStage1 x.1 x.2
  | none => d.startFail 7 0x06

/-! ### Steps 8 to 11 -/

/-- The quarters that pass step 8 (R467): 64 cores, and not a failed primary (R459). -/
def Dev.passed8 (d : Dev) : Nat :=
  (List.range 4).foldl (fun m q =>
    let ok := decide (64 ≤ popCount 68 (d.boot.env.cores.getD q 0)) && bitOf d.boot.env.quarters q && !(q = 0 && d.flag F.BOOT_STATUS_ACTIVE)
    if ok then m + 2 ^ q else m) 0

/-- Step 8: cores and quarters as their tests find them. -/
def Dev.step8 (d : Dev) : Dev :=
  let d := d.putD F.BOOT_STATUS_STAGE 3
  let d := d.each (List.range 4) (fun d q => d.put F.BOOT_CORE_OK_OK 0 q (d.boot.env.cores.getD q 0))
  let d := d.each d.boot.env.retired (fun d e => d.put F.SHC_WAY_RETIRED_WAYS (e.1 / 32) (e.1 % 32) e.2)
  let d := { d with clk := { d.clk with bridgesPending := d.clk.bridgesPending ||| d.boot.env.bridges % 16 } }
  let m := d.passed8
  let d := ({ d with boot := { d.boot with q8 := m, done := 1 } }.setStep 8).showService m
  if m = 0 then d.startFail 8 0x07 else d

/-- Step 9 begins (R276, R472): every channel trains; those of the map-out lists stay outside the map. -/
def Dev.step9 (d : Dev) : Dev :=
  let out := partMapOut d.boot.part ||| mapListBits d.boot.flash.mapList
  let d := (d.putD F.MCH_MAP_V ((2 ^ 128 - 1) ^^^ (out % 2 ^ 128))).putD F.MCH_GSTATE_STATE 2
  d.each (List.range 128) fun d ch =>
    let c := d.chanOf ch
    (d.setChan ch { c with why := 0 }).chPut F.MCH_CH_STATE_STATE ch chTraining

/-- Step 10 begins: the halves train and the ports are enabled. -/
def Dev.step10 (d : Dev) : Dev :=
  let d := d.each [0, 1] (fun d h => if d.hlEnabled h then d.hlTrain h else d)
  d.each (List.range 16) fun d n =>
    match execPortEnable n { dev := d } with
    | .next t => t.dev
    | _ => d

/-- Steps 8 to 10 are done: the start awaits stage 2. -/
def Dev.startPump (d : Dev) : Dev :=
  if d.boot.step = 8 && d.boot.done = 7 then (d.setStep 11).putD F.BOOT_STATUS_STAGE 4 else d

/-- Step 9 ends with APPLY (R276, Table 17-3): MAPOUT is appended. -/
def Dev.step9Done (d : Dev) : Dev :=
  if d.boot.step ≠ 8 || bitOf d.boot.done 1 then d
  else if d.sys.slots.isEmpty then d.startFail 9 0x08
  else
    let l := d.boot.flash.mapList
    let out := (2 ^ 128 - 1) ^^^ d.get F.MCH_MAP_V
    let d := d.logAppend 6 (if mapListOk l then sha256 l else []) (leBytes 16 out)
    { d with boot := { d.boot with done := d.boot.done + 2 } }.startPump

/-- A half is still training. -/
def Dev.hlTraining (d : Dev) : Bool := d.hlState 0 = 1 || d.hlState 1 = 1

/-- A half is UP. -/
def Dev.hlUp (d : Dev) : Bool := d.hlState 0 = 2 || d.hlState 1 = 2

/-- Step 10 ends once no half trains any more (Table 17-3); in damped mode the device then serves (R476). -/
def Dev.step10Done (d : Dev) : Dev :=
  if d.hlTraining then d
  else if d.boot.step = stDampedTrain then (d.setStep stDamped).putD F.BOOT_STATUS_STAGE 8
  else if d.boot.step ≠ 8 || bitOf d.boot.done 2 then d
  else if d.hlUp then { d with boot := { d.boot with done := d.boot.done + 4 } }.startPump
  else d.startFail 10 0x09

/-- Steps 4 to 10 (R463). -/
def Dev.startTail (d : Dev) : Dev :=
  ((((((d.step4.step5 false).thenStep (·.step6 false)).thenStep Dev.step7).thenStep Dev.step8).thenStep Dev.step9).thenStep Dev.step10).step10Done

/-! ### Damped mode (R476, R477) and the steps before the log -/

/-- The lowest-numbered slice that passes (R477). -/
def Dev.mailSliceOf (d : Dev) : Nat := ((List.range 32).find? (fun s => bitOf d.boot.env.slices s)).getD 0

/-- Damped mode goes on with a clock (R476). -/
def Dev.dampedTail (d : Dev) : Dev :=
  let d := ((d.step4).step5 true).step6 true
  let d := d.logAppend 0x30 [] (leBytes 1 (d.get F.BOOT_STATUS_REASON) ++ leBytes 1 (d.get F.BOOT_COUNT_WRITTEN))
  let d := { d with boot := { d.boot with mailSlice := d.mailSliceOf } }
  let d := d.each [0, 1] (fun d h => if d.hlEnabled h then d.hlTrain h else d)
  (d.setStep stDampedTrain).step10Done

/-- A qualified source, XTAL first. -/
def Dev.qualified (d : Dev) : Option ClkSrc :=
  if d.flag ClkSrc.xtal.qual then some .xtal else if d.flag ClkSrc.crec.qual then some .crec else none

/-- Step 3 ends once a source is qualified (R463, R476). -/
def Dev.clockPump (d : Dev) : Dev :=
  match d.qualified with
  | none => d
  | some src =>
    if d.boot.step = 3 then (d.selectSource src).startTail
    else if d.boot.step = stDampedClock then (d.selectSource src).dampedTail
    else d

/-- Damped mode is entered at step 2 (R476, R479). -/
def Dev.enterDamped (d : Dev) (reason : Nat) : Dev :=
  let d := ((d.putD F.BOOT_STATUS_DAMPED 1).putD F.BOOT_STATUS_REASON reason).putD F.BOOT_STATUS_STAGE 1
  { d with boot := { d.boot with asked := false } }.setStep stDampedClock

/-- Step 2 (R462, R463): the counter; then clock qualification, or damped mode. -/
def Dev.step2 (d : Dev) : Dev :=
  if !d.boot.flash.readable then d.enterDamped 0x02
  else
    let c := d.boot.flash.value
    let w := min 255 (c + 1)
    let d := ((d.updFlash fun f => f.append w).putD F.BOOT_COUNT_READ c).putD F.BOOT_COUNT_WRITTEN w
    if 3 ≤ c then d.enterDamped (if d.boot.asked then 0x0C else 0x0B)
    else (d.putD F.BOOT_STATUS_STAGE 1).setStep 3

end Sys2Proof.Machine
end

