-- ==== Sys2Proof/Machine/Clock.lean ====
section
/-!
DEFINITION. Sys2Proof/Machine/Clock.lean: the meanings of the events of the clock sources (R42 to R48) and the resumption after a clock safe state (R465).
-/

namespace Sys2Proof.Machine

/-- MISSING_EDGE (R46 to R48): the source receives no edges and fails. -/
def execMissingEdge (src : ClkSrc) (s : State) : Out := s.run fun d => d.clockEvent (fun d => (d.putD src.present 0).sourceFails src)

/-- RECEIVER_LOCK_CHANGE (R42, R43, R46). -/
def execReceiverLockChange (haune : Bool) (n : Nat) (gained inWindow : Bool) (s : State) : Out :=
  s.runOn (if haune then n < 2 else n < 16) fun d => d.clockEvent (·.receiverLock haune n gained inWindow)

/-- QUAL_WINDOW_END (R44 to R46): a start that waits for a clock goes on with the first source qualified. -/
def execQualWindowEnd (cand : ClkSrc) (count : Nat) (stopped : Bool) (s : State) : Out := s.run fun d =>
  (d.clockEvent (·.windowEnd cand count stopped)).clockPump

/-- What a resumption keeps (R465): the clock sources as they stand, SAFE_SEEN, the flash and the active belfry. -/
def Dev.resumed (d : Dev) (env : StartEnv) : Dev :=
  let r := d.afterReset
  let r := { r with clk := { r.clk with xtalBad := d.clk.xtalBad, crecBad := d.clk.crecBad, crecPort := d.clk.crecPort, rxLock := d.clk.rxLock, rxIn := d.clk.rxIn
                                        hlLock := d.clk.hlLock } }
  let r := r.setReg .beatClkStatus 0 0 (d.reg .beatClkStatus 0 0)
  let r := (r.putD F.BEAT_CLK_STATUS_SELECTED 0).putD F.BEAT_CLK_STATUS_CLK_SWITCHED 0
  let r := (r.putD F.BOOT_STATUS_ACTIVE (d.get F.BOOT_STATUS_ACTIVE)).putD F.BOOT_STATUS_RESUMED 1
  { r with boot := { r.boot with env := env, latch := d.boot.latch } }

/-- CLOCK_RESUME (R48, R465): once a source qualifies, step 2 and then steps 4 onward. -/
def execClockResume (env : StartEnv) (s : State) : Out := s.run fun d =>
  if d.clk.safe && d.qualified.isSome then ((d.resumed env).step2).clockPump else d

end Sys2Proof.Machine
end

