-- ==== Sys2Proof/Machine/Boot.lean ====
section
/-!
DEFINITION. Sys2Proof/Machine/Boot.lean: the meanings of the start-up, stage-2, log, quote, damped-mode and reset commands and events (chapters 17 and 19), and of the
events that end a start step: MCH_APPLY_DONE (R277) and the training of the HauneLink halves (R427, R430).
-/

namespace Sys2Proof.Machine

/-! ### The steps of a start -/

/-- RESET_RELEASE (R458, R463, R495): both belfries start, and the start finds what `env` gives. -/
def execResetRelease (env : StartEnv) (s : State) : Out := s.run fun d =>
  if d.boot.step = 0 then { d with boot := { d.boot with env := env, latch := 0, resetN := true } }.setStep 1 else d

/-- CHECKPOINT (R458): the Q0 belfry has passed its self-test and takes an empty latch; the start goes on. -/
def execCheckpoint (s : State) : Out := s.run fun d =>
  if d.boot.step = 1 && d.boot.latch = 0 && d.boot.env.rom0 then
    (({ d with boot := { d.boot with latch := 1 } }.putD F.BOOT_STATUS_ACTIVE 0).step2).clockPump
  else d

/-- LATCH_SAMPLE (R458, R459): with an empty latch the Q1 belfry claims the start. -/
def execLatchSample (s : State) : Out := s.run fun d =>
  if d.boot.step = 1 && d.boot.latch = 0 then
    let d := { d with boot := { d.boot with latch := 2 } }.putD F.BOOT_STATUS_ACTIVE 1
    if d.boot.env.rom1 then d.step2.clockPump else d.startFail 1 0x01
  else d

/-- The reason of a step that exceeds its limit (Tables 17-3, 17-4). -/
def stepReason (step : Nat) : Nat :=
  [0x00, 0x01, 0x02, 0x03, 0x00, 0x04, 0x05, 0x06, 0x07, 0x08, 0x09, 0x00, 0x0A, 0x0A].getD step 0x00

/-- A step of Table 17-3 is in hand. -/
def Dev.stepInHand (d : Dev) (step : Nat) : Bool :=
  if 8 ≤ step && step ≤ 10 then d.boot.step = 8 && !bitOf d.boot.done (step - 8)
  else if step = 1 then d.boot.step = 1 && d.boot.latch ≠ 0
  else d.boot.step = step && step ≠ 0 && step ≠ 11

/-- START_STEP_TIMEOUT (R463): a step over its limit fails the start. -/
def execStartStepTimeout (step : Nat) (s : State) : Out := s.run fun d =>
  if d.stepInHand step then d.startFail step (stepReason step) else d

/-- START_FAIL_RESET (R464): one second after a start failed. -/
def execStartFailReset (s : State) : Out := s.run fun d => if d.boot.step = stFailed then d.afterReset else d

/-- MCH_APPLY_DONE (R276, R277): no channel of APPLY trains any more; at start-up it ends step 9. -/
def execMchApplyDone (s : State) : Out := s.run fun d =>
  if !d.applyOver then d
  else
    let d := d.rebuildSlots
    (if d.boot.q8 = 0 then d else d.showService d.withChannels).step9Done

/-- HL_TRAINING_DONE (R427, R430): a pair of lanes, or all four, trained; at start-up it may end step 10. -/
def execHlTrainingDone (h lanes : Nat) (s : State) : Out := s.runOn (h < 2) fun d => (d.hlTrained h lanes).step10Done

/-- HL_TRAINING_FAIL (R430). -/
def execHlTrainingFail (h : Nat) (s : State) : Out := s.runOn (h < 2) fun d => (d.hlAttemptFails h).step10Done

/-! ### Stage 2 -/

/-- A BOOT_CMD write is ignored. -/
def Dev.bootRefuse (d : Dev) : Dev := d.putD F.BOOT_STATUS_CMD_REFUSED 1

/-- A command ends with a RESULT. -/
def Dev.bootResult (d : Dev) (result : Nat) : Dev :=
  ((d.putD F.BOOT_STATUS_RESULT result).putD F.BOOT_STATUS_DONE 1).putD F.BOOT_STATUS_BUSY 0

/-- LOAD_STAGE2 (R468): only in step 11. -/
def execLoadStage2 (s : State) : Out := s.run fun d =>
  if d.boot.step ≠ 11 || d.flag F.BOOT_STATUS_BUSY then d.bootRefuse
  else if d.get F.BOOT_ARG_V % 4096 ≠ 0 then d.bootResult 0x09
  else { d with boot := { d.boot with s2addr := d.get F.BOOT_ARG_V, s2len := d.get F.BOOT_LEN_BYTES } }.putD F.BOOT_STATUS_BUSY 1

/-- Stage 2 is accepted and started (steps 12 and 13). -/
def Dev.startStage2 (d : Dev) (b : List Byte) : Dev :=
  let d := (d.bootResult 0x00).putD F.BOOT_STATUS_STAGE 5
  ((d.putD F.BOOT_S2_VERSION_V (leAt b 8 4)).logAppend 7 (sha256 (fwSigned b)) (leBytes 4 (leAt b 8 4))).setStep 13

/-- STAGE2_FETCH_DONE (R461, R468). -/
def execStage2FetchDone (bytes : List Byte) (err : Bool) (s : State) : Out := s.run fun d =>
  if d.boot.step ≠ 11 || !d.flag F.BOOT_STATUS_BUSY then d
  else if err then d.bootResult 0x05
  else
    let r := if 2097152 < d.boot.s2len || d.boot.s2len < 64 + sigLen then 1 else fwCheck (bytes.take d.boot.s2len) magicS2 (some 2) 2097152
    if r = 0 then d.startStage2 bytes else d.bootResult r

/-- SERVICE_READY (R466). -/
def execServiceReady (s : State) : Out := s.run fun d =>
  if d.boot.step = 13 then ((d.updFlash fun f => f.append 0).putD F.BOOT_STATUS_STAGE 6).setStep stReady else d

/-! ### Resets -/

/-- BOOT_RESET (R479). -/
def execBootReset (s : State) : Out := s.run fun d => d.afterReset

/-- ENTER_DAMPED (R479): counter value 3, then a reset. -/
def execEnterDamped (s : State) : Out := s.run fun d =>
  let d := d.updFlash fun f => f.append 3
  { d with boot := { d.boot with asked := true } }.afterReset

/-- RESET_N_ASSERT (R460, R464, R495): while it is held the board may program the flash. -/
def execResetNAssert (board : Option Flash) (s : State) : Out := s.run fun d =>
  let d := d.afterReset
  { d with boot := { d.boot with resetN := false, flash := board.getD d.boot.flash } }.emit (.regulator 0)

/-- RAIL_FAULT (R495): the internal reset, as at a power loss. -/
def execRailFault (s : State) : Out := s.run fun d =>
  ({ d with boot := { d.boot with asked := false } }.afterReset).emit (.regulator 0)

/-! ### Damped-mode commands (R478) -/

/-- A damped command is accepted: in damped mode, one at a time. With the flash unreadable only READOUT is. -/
def Dev.dampedAccepts (d : Dev) (op : Nat) : Bool :=
  d.flag F.BOOT_STATUS_DAMPED && d.boot.step = stDamped && !d.flag F.BOOT_STATUS_BUSY && (d.boot.flash.readable || op = 5)

/-- A damped command begins. -/
def Dev.dampedBegin (d : Dev) (op region : Nat) : Dev :=
  if d.dampedAccepts op then { d with boot := { d.boot with damped := some (op, region) } }.putD F.BOOT_STATUS_BUSY 1 else d.bootRefuse

/-- FLASH_WRITE (R478). -/
def execFlashWrite (region : Nat) (s : State) : Out := s.run fun d => d.dampedBegin 4 region

/-- READOUT (R478). -/
def execReadout (s : State) : Out := s.run fun d => d.dampedBegin 5 0

/-- DIAG (R478). -/
def execDiag (s : State) : Out := s.run fun d => d.dampedBegin 6 0

/-- CLEAR_RESET (R478): counter value 0, then a reset. -/
def execClearReset (s : State) : Out := s.run fun d =>
  if d.dampedAccepts 7 then (d.updFlash fun f => f.append 0).afterReset else d.bootRefuse

/-- The check of the bytes for a region (R478): RESULT, 0 where they pass. -/
def Dev.regionCheck (d : Dev) (region : Nat) (b : List Byte) : Nat :=
  if region = 1 || region = 2 then fwCheck b magicS1 (some 1) 1048576
  else if region = 3 then
    let r := fwCheck b magicPart none 131072
    if r ≠ 0 then r
    else if partSerial b ≠ d.serial || certHash (partCert b) ≠ certHash (partCert d.boot.part) then 0x08
    else if certValid (partCert b) (partSerial b) then 0 else 4
  else if region = 4 then (if leAt b 0 4 ≠ 0x50414D5A then 2 else if mapListOk b then 0 else 4)
  else 0x07

/-- Program a region. -/
def Flash.program (f : Flash) (region : Nat) (b : List Byte) : Flash :=
  if region = 1 then { f with stage1A := b }
  else if region = 2 then { f with stage1B := b }
  else if region = 3 then { f with partA := b, partB := b }
  else { f with mapList := b }

/-- The bytes of a region as a programming error leaves it: free values. -/
def Dev.programError (d : Dev) (n : Nat) : List Byte × Dev :=
  let (v, d) := d.fresh (8 * n)
  (leBytes n v, d)

/-- FLASH_WRITE ends (R478). -/
def Dev.flashDone (d : Dev) (region : Nat) (err : Bool) : Dev :=
  let off := d.get F.BOOT_ARG_V
  let n := d.get F.BOOT_LEN_BYTES
  if !(1 ≤ region && region ≤ 4) then d.bootResult 0x07
  else if off % 4096 ≠ 0 || 0x300000 < off + n then d.bootResult 0x09
  else
    let b := d.mailRead off n
    let r := d.regionCheck region b
    if r ≠ 0 then d.bootResult r
    else if err then
      let (x, d) := d.programError n
      (d.updFlash fun f => f.program region x).bootResult 0x06
    else ((d.updFlash fun f => f.program region b).logAppend 0x31 (sha256 b) (leBytes 1 region ++ leBytes 4 n)).bootResult 0x00

/-- What READOUT writes, in the order that Table 17-9 names it (R478). -/
def Dev.readoutBytes (d : Dev) : List Byte :=
  leBytes 4 (d.reg .bootStatus 0 0).toNat ++ leBytes 4 (d.reg .bootCount 0 0).toNat
    ++ (List.range 4).flatMap (fun q => leBytes 16 (d.reg .bootCoreOk 0 q).toNat) ++ d.boot.flash.fails.flatMap id

/-- A command that writes the mailbox ends. -/
def Dev.mailDone (d : Dev) (b : List Byte) : Dev :=
  let off := d.get F.BOOT_ARG_V
  if 0x300000 < off + b.length then d.bootResult 0x09 else (d.mailWrite off b).bootResult 0x00

/-- DAMPED_COMMAND_DONE (R478): `results` are the result bytes of a DIAG. -/
def execDampedCommandDone (err : Bool) (results : List Byte) (s : State) : Out := s.run fun d =>
  match d.boot.damped with
  | none => d
  | some (op, region) =>
    let d := { d with boot := { d.boot with damped := none } }
    if op = 4 then d.flashDone region err
    else if op = 5 then d.mailDone d.readoutBytes
    else d.mailDone results

/-! ### Log and quote -/

/-- SEC_LOG_INDEX_WRITE (R474). -/
def execSecLogIndexWrite (index : Nat) (s : State) : Out := s.run fun d => d.showLog (index % 2 ^ 64)

/-- The 128 bytes that a quote signs (Table 17-8). -/
def Dev.quoteHead (d : Dev) : List Byte :=
  leBytes 4 0x544F515A ++ List.replicate 4 0 ++ leBytes 8 d.serial ++ leBytes 4 d.chip ++ List.replicate 4 0 ++ leBytes 8 d.boot.count
    ++ slice d.boot.chain 0 32 ++ (List.range 8).flatMap (fun i => leBytes 4 (d.get F.SEC_NONCE_V 0 i))
    ++ leBytes 8 (if d.flag F.BEAT_STATUS_VALID then d.beat else 0) ++ List.replicate 24 0

/-- QUOTE_GO (R475). -/
def execQuoteGo (s : State) : Out := s.run fun d =>
  if d.flag F.SEC_QUOTE_CTL_BUSY || !d.flag F.SEC_ID_STATUS_READY then d.putD F.SEC_QUOTE_CTL_REFUSED 1
  else { d with boot := { d.boot with quote := d.quoteHead } }.putD F.SEC_QUOTE_CTL_BUSY 1

/-- Bytes go to companion memory in runs that end at 4 KiB boundaries (R431, R433). `n` bounds the runs. -/
def Dev.toCompanion : Nat → Dev → Nat → List Byte → Dev
  | 0, d, _, _ => d
  | n + 1, d, a, bs =>
    if bs.isEmpty then d
    else
      let k := 4096 - a % 4096
      Dev.toCompanion n (d.hlRequest 0x04 a (bs.take k) .other).2 (a + k) (bs.drop k)

/-- QUOTE_DONE (R475): the quote is written to its destination. -/
def execQuoteDone (s : State) : Out := s.run fun d =>
  if !d.flag F.SEC_QUOTE_CTL_BUSY then d
  else
    let q := d.boot.quote ++ slice (Config.slhSign d.boot.quote) 0 17088
    let dst := d.get F.SEC_QUOTE_DST_V
    let d := if d.flag F.BOOT_STATUS_DAMPED then d.mailWrite dst q else Dev.toCompanion 6 d dst q
    ({ d with boot := { d.boot with quote := [] } }.putD F.SEC_QUOTE_CTL_BUSY 0).putD F.SEC_QUOTE_CTL_DONE 1

end Sys2Proof.Machine
end

