-- ==== Sys2Proof/Machine/Collectives.lean ====
section
/-!
DEFINITION. Sys2Proof/Machine/Collectives.lean: the meanings of the collective commands (chapter 12). A command that names a packet serves it: where a
port holds the packet in its receive queue, it is taken from there.
-/

namespace Sys2Proof.Machine

/-- POST (R326). -/
def execPost (i : Nat) (s : State) : Out := s.runOn (i < 256) fun d =>
  let c := d.colRegs i
  let st := d.colState i
  let free : Bool := st = 0 || st = csFailed || st = csSkipped || (st = csDone && (d.colSlot i).kind ≠ kReduce)
  if free && d.colDescOk c then
    (((d.setCol i c).setColState i csPosted |>.put F.COL_STATE_REASON 0 i 0).put F.COL_STATE_REPLAYS 0 i 0).put F.COL_STATE_OVF 0 i 0
  else (d.put F.COL_STATE_REASON 0 i 0x80).putD F.COL_STATUS_POST_REFUSED 1

/-- RELEASE (R327). -/
def execRelease (i : Nat) (s : State) : Out := s.runOn (i < 256) fun d => d.colRelease i

/-- RESET (R356). -/
def execReset (i : Nat) (s : State) : Out := s.runOn (i < 256) fun d => d.colReset i

/-- COL_BUFFER_GRANT (R328). -/
def execColBufferGrant (q : Nat) (s : State) : Out := s.runFab (q < 4) fun d => d.colGrant q

/-! ### Packets -/

/-- The slot that a collective packet names (Table 12-4). -/
def Packet.slot (p : Packet) : Nat := bits p.addr 33 26

/-- The row that it names. -/
def Packet.row (p : Packet) : Nat := bits p.addr 17 0

/-- MTYPE of a control message (R331); 0 for anything else. -/
def Packet.mtype (p : Packet) : Nat :=
  if p.ptype = 0x0B && !p.block && p.len = 64 && 1 ≤ leAt p.data 0 1 && leAt p.data 0 1 ≤ 5 then leAt p.data 0 1 else 0

/-- A REDUCE packet is taken: one for another chip is forwarded (R311, R313). -/
def Dev.takeReduce (d : Dev) (n : Nat) (p : Packet) (f : Dev → Dev) : Dev :=
  let d := d.takeRx n p
  if p.dst ≠ d.chip then
    if p.hops = 0 then (d.countRefusal nackTtl).sendNack p nackTtl else d.sendPacket { p with hops := p.hops - 1 } (some n)
  else f d

/-- A refusal of Table 12-6; BUSY alone is not final. -/
def Dev.colRefuse (d : Dev) (p : Packet) (code : Nat) : Dev :=
  if code = 1 then (d.count F.COL_BUSY_TX_V).sendNack p 1 false else d.sendNack p code true

/-- Checks 1 and 2 of Table 12-6. -/
def Dev.colEarly (d : Dev) (p : Packet) : Nat :=
  let c := d.colSlot p.slot
  let st := d.colState p.slot
  if st = 0 || bits p.addr 25 22 ≠ c.step % 16 || bits p.addr 21 18 ≠ c.attempt % 16 then 4
  else if st = csPosted || st = csWait then 1
  else 0

/-- A slot that has FAILED or been SKIPPED takes no packet: ABORTED follows checks 3 and 4 (Table 12-6, R348). -/
def Dev.colEnded (d : Dev) (s : Nat) : Bool := d.colState s = csFailed || d.colState s = csSkipped

/-- The level of the child that sent a packet. -/
def Dev.childLevel (d : Dev) (c : ColSlot) (src : Nat) : Option Nat := ((d.colTree c).kids.find? (fun k => k.2 = src)).map (·.1)

/-- The sender is the parent. -/
def Dev.fromParent (d : Dev) (c : ColSlot) (src : Nat) : Bool := (d.colTree c).rank ≠ 0 && (d.colTree c).parent = src

/-- The fields of a control message are those of the slot (check 4 of Table 12-6). -/
def ColSlot.controlOk (c : ColSlot) (p : Packet) : Bool :=
  let b := p.data
  let vote : Bool := c.kind = kVote
  let m := leAt b 0 1
  bits p.addr 35 34 = c.quarter && p.row = 0 && leAt b 1 1 = c.kind && leAt b 2 1 ≤ 1 && leAt b 3 1 = 0
    && leAt b 10 2 = (if vote then 0 else c.bucket) && leAt b 12 2 = c.treeId && leAt b 14 2 = 0
    && leAt b 20 4 = (if vote then 0 else c.bytes) && (slice b 24 40).all (· = 0)
    && (if m = mtSeal then c.kind = kReduce || c.kind = kBcast else if m = mtRestart || m = mtReplay then c.kind = kReduce else c.kind = kVote)

/-- A control message of one type (Table 12-5): its checks, and then its effect with the level of the child that sent it. -/
def Dev.control (d : Dev) (n : Nat) (p : Packet) (mtype : Nat) (parent : ColSlot → Bool) (f : Dev → Nat → Nat → Dev) : Dev :=
  if p.mtype ≠ mtype then d
  else d.takeReduce n p fun d =>
    let c := d.colSlot p.slot
    let e := d.colEarly p
    let level := if parent c then (if d.fromParent c p.src then some 0 else none) else d.childLevel c p.src
    if e ≠ 0 then d.colRefuse p e
    else
      match level with
      | none => d.colRefuse p 5
      | some l => if !c.controlOk p then d.colRefuse p 3 else if d.colEnded p.slot then d.colRefuse p 7 else f d p.slot l

/-- A piece of a REDUCE (R333, R336, R340): held, or added with what waited for it. -/
def Dev.reducePiece (d : Dev) (p : Packet) (l rows : Nat) (vals : List F32) (mism : Option (Nat × Nat)) : Dev :=
  let s := p.slot
  let c := d.colSlot s
  let tile := p.row / 64
  -- rows of the first tile; plain data may run on into the next tile
  let k := min rows (64 - p.row % 64)
  let hs : List HeldPiece := ({ level := l, row := p.row, vals := vals.take (64 * k), pkt := p } : HeldPiece)
    :: (if k < rows then [{ level := l, row := p.row + k, vals := vals.drop (64 * k), pkt := p }] else [])
  let waits := c.held.filter (fun x => x.level = l)
  let again := c.rowsAt tile l &&& ((2 ^ k - 1) * 2 ^ (p.row % 64)) ≠ 0 || c.rowsAt (tile + 1) l &&& (2 ^ (rows - k) - 1) ≠ 0 || waits.any (fun x => x.row < p.row + rows && p.row < x.row + x.vals.length / 64)
  if c.await.contains l then d
  else if again || d.colWindow < waits.foldl (fun n x => n + x.bytes) 0 + p.len then d.colRefuse p 6
  else
    let d := d.setCol s { c with held := c.held ++ hs }
    let x := d.lex c.quarter
    let d := if p.block then d.setLex c.quarter { x with queued := x.queued ++ [leAt p.data 2 2] } else d
    let d := Dev.addHeld s (c.held.length + 2) d
    let c' := d.colSlot s
    let bad := match mism with
      | some (line, level) =>
        d.colState s = csRunning && d.dpChecked c line && !bitOf (c.rowsAt (line / 256) level) (line / 4 % 64)
          && bitOf (c'.rowsAt (line / 256) level) (line / 4 % 64)
      | none => false
    let d := match mism with
      | some (line, level) => if bad then d.colMismatch s line level else d
      | none => d
    (d.showFre c.quarter).colGo s

/-- A piece of a BCAST lands at DST (R337, R348). -/
def Dev.bcastPiece (d : Dev) (p : Packet) : Dev :=
  let s := p.slot
  let c := d.colSlot s
  let off := 256 * p.row
  if c.landed.any (fun x => x.1 < off + p.len && off < x.1 + x.2) then d.colRefuse p 6
  else
    let (ok, d) := Dev.freWriteN s c.quarter (p.len / 64 + 1) (c.dst + off) p.data (true, d)
    if !ok then (d.colRefuse p 7).colFail s 0x83
    else
      -- one to T4, T5 or another chip has landed once its writes have ended (`Dev.freOutDone`)
      let out := d.freOuts s
      let d := d.updCol s fun c => { c with landed := c.landed ++ [(off, p.len)], landing := if out then c.landing ++ [p] else c.landing
                                            held := if out || (d.colTree c).kids.isEmpty then c.held
                                              else c.held ++ [{ level := 0, row := p.row, pkt := p }] }
      if out then d else (d.colOk p).colGo s

/-- COLLECTIVE_PIECE (R340): the block checks of Table 11-11, the checks of Table 12-6, and the piece's effect. A piece whose pages are in motion
waits. -/
def execCollectivePiece (n : Nat) (p : Packet) (mism : Option (Nat × Nat)) (s : State) : Out := s.runFab (n < 16) fun d =>
  let c := d.colSlot p.slot
  let off := 256 * p.row
  let waits : Bool := p.dst = d.chip && d.colEarly p = 0 && !d.colEnded p.slot
    && (if c.kind = kBcast then d.freBusy (c.dst + off) || d.freBusy (c.dst + off + p.len - 1) else d.freBusy (c.src + off))
  if p.ptype ≠ 0x0B || (p.mtype ≠ 0 && p.dst = d.chip) || waits then d
  else d.takeReduce n p fun d =>
    match (if p.block then d.lexBlock (bits p.addr 35 34) p else .inl (.mx p.data)) with
    | .inr code => d.blockFails n (bits p.addr 35 34) p code
    | .inl x =>
      let d := if p.block then d.count F.LEX_BLOCKS_V (bits p.addr 35 34) else d
      let e := d.colEarly p
      if e ≠ 0 then d.colRefuse p e
      else if !p.block && p.len = 64 then d.colRefuse p 3 -- a control message with a reserved MTYPE
      else
        let here : Bool := bits p.addr 35 34 = c.quarter
        let plain : Bool := !p.block && p.len % 256 = 0 && 256 ≤ p.len && p.len ≤ 4096
        if c.kind = kReduce then
          match d.childLevel c p.src with
          | none => d.colRefuse p 5
          | some l =>
            let rows := match x with | .rows _ k _ _ => k | .mx _ => p.len / 256
            let vals := match x with
              | .rows _ _ _ vs => vs
              | .mx bs => (List.range (64 * rows)).map (fun i => BitVec.ofNat 32 (leAt bs (4 * i) 4))
            let fits : Bool := off + 256 * rows ≤ c.bytes
              && (match x with | .rows r0 _ _ _ => decide (r0 = p.row % 64 ∧ r0 + rows ≤ 64) | .mx _ => plain)
            if !(here && fits) then d.colRefuse p 3 else if d.colEnded p.slot then d.colRefuse p 7 else d.reducePiece p l rows vals mism
        else if c.kind = kBcast then
          if !d.fromParent c p.src then d.colRefuse p 5
          else if !(here && plain && off + p.len ≤ c.bytes) then d.colRefuse p 3
          else if d.colEnded p.slot then d.colRefuse p 7
          else d.bcastPiece p
        else d.colRefuse p 3

/-- FRE_TILE_FINISH (R333): every child's term of a tile has been added; the tile is written to DST and goes to the parent. -/
def execFreTileFinish (i tile : Nat) (s : State) : Out := s.runFab (i < 256) fun d =>
  let c := d.colSlot i
  if d.colState i ≠ csRunning || c.kind ≠ kReduce || c.tiles ≤ tile || c.finished.contains tile || (d.turnOf c tile).isSome
      || d.freBusy (c.src + 16384 * tile) || d.freBusy (c.dst + 16384 * tile) then d
  else
    match d.colReady i tile with
    | (false, d) => d
    | (true, d) =>
    match d.colPart i tile with
    | (none, d) => d.colFail i 0x83
    | (some vs, d) =>
      let (ok, d) := Dev.freWriteN i c.quarter 256 (c.dst + 16384 * tile) (vs.flatMap (fun v => leBytes 4 v.toNat)) (true, d)
      if !ok then d.colFail i 0x83
      else (d.updCol i fun c => { c with part := c.part.filter (fun e => e.1 ≠ tile), finished := c.finished ++ [tile] }).colGo i

/-- Rows of 256 bytes that a child has sent: those added and those held. -/
def ColSlot.receivedRows (c : ColSlot) (l : Nat) : Nat :=
  (List.range c.tiles).foldl (fun n k => n + ((List.range 64).filter (fun j => bitOf (c.rowsAt k l) j)).length) 0
    + (c.held.filter (fun x => x.level = l)).foldl (fun n x => n + x.vals.length / 64) 0

/-- SEAL (R335, R337, R348): consumed once every piece of its sender has been added or landed; one that finds pieces held waits for them. -/
def execSealChild (n : Nat) (p : Packet) (s : State) : Out := s.runFab (n < 16) fun d =>
  d.control n p mtSeal (fun c => c.kind = kBcast) fun d i l =>
    let c := d.colSlot i
    if c.kind = kBcast then
      if c.bcSeal || c.landedBytes ≠ c.bytes then d.colRefuse p 6
      else
        let d := ((d.setCol i { c with bcSeal := true }).put F.COL_INFO_V 0 i (leAt p.data 4 4)).publishSeal c.dst (leAt p.data 4 4)
        (d.colOk p).colGo i
    else if c.await.contains l then d
    else if c.sealed_.contains l then d.colRefuse p 6
    else if c.allAdded l then (d.sealTake i l p).colGo i
    else if c.sealWait.any (fun x => x.1 = l) || c.receivedRows l ≠ 64 * c.tiles then d.colRefuse p 6
    else d.setCol i { c with sealWait := c.sealWait ++ [(l, p)] }

/-- RESTART (R351, R352): the one awaited, or the start of a replay here, in a slot that is DONE as well. -/
def execRestart (n : Nat) (p : Packet) (s : State) : Out := s.runFab (n < 16) fun d =>
  d.control n p mtRestart (fun _ => false) fun d i l =>
    let c := d.colSlot i
    let d := if d.colState i = csDone then d.setColState i csRunning else d
    if c.await.contains l then ((d.setCol i { c with await := c.await.filter (· ≠ l) }).colOk p).colGo i
    else
      let others := (d.colTree c).kids.filter (fun k => k.1 ≠ l)
      (((d.count F.FRE_REPLAYS_V c.quarter).colOk p).colAgain i others others).colGo i

/-- REPLAY (R352). -/
def execReplay (n : Nat) (p : Packet) (s : State) : Out := s.runFab (n < 16) fun d =>
  d.control n p mtReplay (fun _ => true) fun d i _ => (d.colOk p).colReplay i

/-- VOTE_UP (R344). -/
def execVoteUp (n : Nat) (p : Packet) (s : State) : Out := s.runFab (n < 16) fun d =>
  d.control n p mtVoteUp (fun _ => false) fun d i l =>
    let c := d.colSlot i
    if c.voted.contains l then d.colRefuse p 6
    else ((d.setCol i { c with voted := c.voted ++ [l], voteOr := c.voteOr || leAt p.data 2 1 = 1 }).colOk p).votesGo

/-- VOTE_DOWN (R344). -/
def execVoteDown (n : Nat) (p : Packet) (s : State) : Out := s.runFab (n < 16) fun d =>
  d.control n p mtVoteDown (fun _ => true) fun d i _ =>
    if (d.colSlot i).voteTaken then d.colRefuse p 6 else (d.colOk p).voteTake i (leAt p.data 2 1 = 1)

end Sys2Proof.Machine
end

