-- ==== Sys2Proof/Machine/VxeOps.lean ====
section
/-!
DEFINITION. Sys2Proof/Machine/VxeOps.lean: the vector engine and the cross-lane reducer (R128 to R144, R155, R156): storage, the fields and checks of
an instruction, what each instruction computes, and the order in which the two queues run.
-/

namespace Sys2Proof.Machine

/-! ### Storage (R128, R129, R138) -/

/-- A vector of 128 lanes of +0. -/
def vecZero : List F32 := List.replicate 128 0

/-- The vector of an operand code. -/
def Vxe.vecAt (v : Vxe) (code : Nat) : List F32 := mget vecZero v.vec code

/-- Replace a vector. -/
def Vxe.setVec (v : Vxe) (code : Nat) (l : List F32) : Vxe := { v with vec := mset vecZero v.vec code l }

/-- Predicate register p; P0 reads as all ones (R128). -/
def Vxe.predAt (v : Vxe) (p : Nat) : BitVec 128 := if p = 0 then BitVec.allOnes 128 else mget 0 v.pred p

/-- Write a predicate register; P0 ignores writes (R128). -/
def Vxe.setPred (v : Vxe) (p : Nat) (m : BitVec 128) : Vxe := if p = 0 then v else { v with pred := mset 0 v.pred p m }

/-- Row r of the side-band of buffer b. -/
def Vxe.sideAt (v : Vxe) (b r : Nat) : RowStat := mget {} v.side (64 * b + r)

/-- Replace a row of a side-band. -/
def Vxe.setSide (v : Vxe) (b r : Nat) (x : RowStat) : Vxe := { v with side := mset {} v.side (64 * b + r) x }

/-- Element (r, n) of a tile buffer (R128). -/
def Vxe.elem (v : Vxe) (b r n : Nat) : F32 := (v.vecAt (0x20 + 32 * b + r / 2)).getD (64 * (r % 2) + n) 0

/-- Replace element (r, n) of a tile buffer. -/
def Vxe.setElem (v : Vxe) (b r n : Nat) (x : F32) : Vxe :=
  let code := 0x20 + 32 * b + r / 2
  v.setVec code (setAt (v.vecAt code) (64 * (r % 2) + n) x)

/-- Summary register s. -/
def Vxe.summAt (v : Vxe) (s : Nat) : BitVec 64 := mget 0 v.summ s

/-- Replace a summary register. -/
def Vxe.setSumm (v : Vxe) (s : Nat) (x : BitVec 64) : Vxe := { v with summ := mset 0 v.summ s x }

/-- What a summary register holds after an instruction that would have written it is discarded (R140, R156). -/
def summLost : BitVec 64 := BitVec.allOnes 64

/-- Change the vector unit of a core. -/
def Dev.updVxe (d : Dev) (c : Nat) (f : Vxe → Vxe) : Dev := d.updCore c fun k => { k with vxe := f k.vxe }

/-! ### Instruction fields (Table 06-2) -/

def VInsn.opc (i : VInsn) : Nat := bits i.word 63 56
def VInsn.vd (i : VInsn) : Nat := bits i.word 55 48
def VInsn.va (i : VInsn) : Nat := bits i.word 47 40
def VInsn.vb (i : VInsn) : Nat := bits i.word 39 32
def VInsn.vc (i : VInsn) : Nat := bits i.word 31 24
def VInsn.pred (i : VInsn) : Nat := bits i.word 23 21
def VInsn.group (i : VInsn) : Nat := bits i.word 20 11
def VInsn.tap (i : VInsn) : Nat := bits i.word 10 5
def VInsn.tapEn (i : VInsn) : Bool := bitOf i.word 4
def VInsn.rep (i : VInsn) : Nat := bits i.word 3 0
/-- ADDR of VLD, VST and VSETC (R132). -/
def VInsn.addr (i : VInsn) : Nat := bits i.word 47 24

/-- The core-local address of an ADDR: bit 23 the store, bits [22:0] the offset (R132). -/
def addrLocal (a : Nat) : Nat := 2 ^ 63 + (if bitOf a 23 then 0x1000000 else 0) + a % 2 ^ 23

/-- Every one of n bytes from an ADDR lies in the addressable part of its store. -/
def Dev.addrOk (d : Dev) (c a n : Nat) : Bool := a % 2 ^ 23 + n ≤ (if bitOf a 23 then d.nsSize c else 0x200000)

/-- Kinds of operand (R132). -/
inductive Oper where
  | no | vec | buf | tile | pred | summ
deriving DecidableEq, Repr

/-- A vector register or a buffer vector. -/
def isVec (x : Nat) : Bool := x < 16 || (0x20 ≤ x && x < 0xE0)

/-- A buffer vector. -/
def isBuf (x : Nat) : Bool := 0x20 ≤ x && x < 0xE0

/-- The buffer of a buffer vector, and its index in it. -/
def bufOf (x : Nat) : Nat := (x - 0x20) / 32
def vecIdx (x : Nat) : Nat := (x - 0x20) % 32

/-- An operand code is of a kind. DESIGN CHOICE: a field that an instruction does not use may hold any code (log 66). -/
def Oper.ok (o : Oper) (x : Nat) : Bool :=
  match o with
  | .no => true
  | .vec => isVec x
  | .buf => isBuf x
  | .tile => isBuf x && vecIdx x = 0
  | .pred => 0xE0 ≤ x && x < 0xE8
  | .summ => 0xF0 ≤ x

/-- Operands of an instruction: destination, first, second and third source (Table 06-4). -/
structure Shape where
  d : Oper := .no
  a : Oper := .no
  b : Oper := .no
  c : Oper := .no
deriving DecidableEq, Repr

/-- The operands of an instruction; none for a reserved OPC (Table 06-4). -/
def VInsn.shape (i : VInsn) : Option Shape :=
  let o := i.opc
  if o = 0x83 || o = 0x92 then some ⟨.vec, .vec, .vec, .vec⟩
  else if (0x80 ≤ o && o ≤ 0x82) || o = 0x84 || o = 0x85 || o = 0x86 || o = 0x8D || o = 0x90 || o = 0x91 || o = 0xA0 then
    some ⟨.vec, .vec, .vec, .no⟩
  else if o = 0x87 || (0x88 ≤ o && o ≤ 0x8A) || o = 0x98 || o = 0x99 || o = 0x9A || o = 0xA1 then some ⟨.vec, .vec, .no, .no⟩
  else if o = 0x8C then some ⟨.pred, .vec, .vec, .no⟩
  else if o = 0xA8 || o = 0xA9 || o = 0xAD || o = 0xB3 then some ⟨.vec, .no, .no, .no⟩
  else if o = 0xAC then some ⟨.no, .vec, .no, .summ⟩
  else if o = 0xAE then some ⟨.no, .no, .no, .no⟩
  else if o = 0xB0 then some ⟨.vec, .buf, .no, .no⟩
  else if o = 0xB1 then some ⟨.buf, .vec, .no, .no⟩
  else if o = 0xB2 || o = 0xB8 then some ⟨.tile, .tile, .no, .no⟩
  else if o = 0xB4 || o = 0xB6 then some ⟨.tile, .tile, .vec, .no⟩
  else if o = 0xB5 then some ⟨.buf, .buf, .no, .no⟩
  else if 0xC0 ≤ o && o ≤ 0xC5 then (if i.vc = 2 then some ⟨.no, .buf, .no, .no⟩ else some ⟨.summ, .vec, .no, .no⟩)
  else if o = 0xC6 then some ⟨.no, .vec, .no, .no⟩
  else if o = 0xC7 then some ⟨.no, .no, .no, .no⟩
  else none

/-- XLR executes the instruction (OPC 0xC0 to 0xDF). -/
def VInsn.isXlr (i : VInsn) : Bool := 0xC0 ≤ i.opc

/-- Tile instructions act on whole buffers (R133). -/
def VInsn.isTile (i : VInsn) : Bool := i.opc = 0xB8 || i.opc = 0xB4 || i.opc = 0xB6 || i.opc = 0xB2

/-- The format that a conversion names. -/
def VInsn.fmt (i : VInsn) : Option Fmt := Fmt.ofCode i.vc

/-- Values that one repetition of a VPACK takes: 256 for the formats that take two vectors (Table 06-7). -/
def packCount (f : Fmt) : Nat :=
  match f with
  | .bf16 | .fp16 | .e4m3 | .e5m2 | .mxe2m1 => 256
  | .mxe4m3 | .mxe5m2 | .mxe2m3 | .mxe3m2 | .mxint8 | .fp32 | .int32 => 128

/-- Vectors that the first source consumes in one repetition (R137). -/
def VInsn.step (i : VInsn) : Nat := if i.opc = 0x99 then ((i.fmt.map packCount).getD 128) / 128 else 1

/-- The operand code of repetition k: buffer operands advance, register operands do not (R133). -/
def opAt (x k n : Nat) : Nat := if isBuf x then x + k * n else x

/-- The formats that a conversion takes (Table 06-4, R137). -/
def VInsn.fmtOk (i : VInsn) : Bool :=
  if i.opc = 0x98 then i.vc = 1 || i.vc = 2 || i.vc = 3 || i.vc = 12
  else if i.opc = 0x99 || i.opc = 0x9A then 2 ≤ i.vc && i.vc ≤ 11
  else true

/-- A modifier is not reserved (Table 06-12). -/
def VInsn.modOk (i : VInsn) : Bool :=
  let o := i.opc
  if o = 0x8C || o = 0xB0 || o = 0xB1 then i.vc ≤ 3
  else if o = 0xA1 then i.vc ≤ 9 || (0x10 ≤ i.vc && i.vc ≤ 0x17)
  else if o = 0x9A then i.vb % 2 = 0 || (i.fmt.map packCount) = some 256
  else if o = 0xB3 then i.vc ≤ 1
  else if 0xC0 ≤ o && o ≤ 0xC5 || o = 0xC7 then i.vc ≤ 2
  else true

/-- Reserved bits of the modifiers are zero. -/
def VInsn.resOk (i : VInsn) : Bool :=
  if i.opc = 0x9A then i.vb ≤ 1 else if i.opc = 0xB6 then i.vc ≤ 1 else true

/-- A SCALE is finite and positive. -/
def scaleOk (x : F32) : Bool := match x.val with | .fin false m _ => m ≠ 0 | .fin true _ _ | .nan | .inf _ => false

/-- Lanes of a predicate. -/
def lanesOf (p : BitVec 128) : List Nat := (List.range 128).filter (fun l => p.getLsbD l)

/-- The error code of an instruction at the head of its queue, 0 for none; of several the lowest (Table 06-12). -/
def Dev.vecCheck (d : Dev) (c : Nat) (i : VInsn) : Nat :=
  let v := (d.core c).vxe
  match i.shape with
  | none => 1
  | some sh =>
    let past := fun (x n k : Nat) => isBuf x && 31 < vecIdx x + i.rep * n + k
    let bad2 := !(sh.d.ok i.vd && sh.a.ok i.va && sh.b.ok i.vb && sh.c.ok i.vc)
      || (i.isTile && i.rep ≠ 0) || (i.opc = 0xB8 && i.vd = i.va)
      || (sh.d ≠ .no && past i.vd 1 0) || (sh.a ≠ .no && past i.va i.step (i.step - 1)) || (sh.b ≠ .no && past i.vb 1 0)
      || (sh.c ≠ .no && past i.vc 1 0)
      || (i.opc = 0x99 && i.step = 2 && i.va = 15)
    let memory := i.opc = 0xA8 || i.opc = 0xA9
    let lanes := lanesOf (v.predAt i.pred)
    let span := if i.opc = 0xA9 then 512 * i.rep + 4 * (lanes.getLastD 0) + (if lanes.isEmpty then 0 else 4) else 512 * (i.rep + 1)
    let moved := 4 * lanes.length * (i.rep + 1)
    let bad5 := (memory && (i.addr % 4 ≠ 0 || !d.addrOk c i.addr span)) || (i.opc = 0xAE && i.addr % 4 ≠ 0)
      || ((i.opc = 0xAC || i.opc = 0xAD) && (v.cursor % 4 ≠ 0 || !d.addrOk c v.cursor moved))
    let scale := (v.vecAt i.vb).headD 0
    if bad2 then 2
    else if !i.fmtOk then 3
    else if d.groups ≤ i.group then 4
    else if bad5 then 5
    else if !i.modOk || ((i.opc = 0xB4 || i.opc = 0xB6) && !scaleOk scale) then 6
    else if !i.resOk then 7
    else 0

/-! ### What each instruction computes -/

/-- Lanes under a predicate take the new value, the others keep the old one (R135). -/
def mergeLanes (p : BitVec 128) (old new : List F32) : List F32 :=
  (List.range 128).map (fun l => if p.getLsbD l then new.getD l 0 else old.getD l 0)

/-- A lane-wise operation on three vectors. -/
def lanewise (f : F32 → F32 → F32 → F32) (a b c : List F32) : List F32 :=
  (List.range 128).map (fun l => f (a.getD l 0) (b.getD l 0) (c.getD l 0))

/-- An operation on the two BF16 values of a lane, rounded once each (R136). -/
def halves (f : FVal → FVal → FVal → FVal) (a b c : F32) : F32 :=
  let one := fun (s : Nat) =>
    let get := fun (x : F32) => Fmt.bf16.decode (x.toNat / 2 ^ s % 65536)
    (Fmt.bf16.encode (f (get a) (get b) (get c))).v
  BitVec.ofNat 32 (one 0 + 65536 * one 16)

/-- VMIN of R136. -/
def vminOp (a b : F32) : F32 := fmin a b

/-- The comparison of a VCMP (Table 06-4). -/
def cmpLane (m : Nat) (a b : F32) : Bool :=
  if m = 0 then feq a b else if m = 1 then flt a b else if m = 2 then flt a b || feq a b else isNan a || isNan b

/-- The lane that a VSHUF pattern takes for lane l (Table 06-6). -/
def shufLane (vc l : Nat) : Nat :=
  if vc = 0 then l ^^^ 64
  else if vc ≤ 7 then l ^^^ 2 ^ (vc - 1)
  else if vc = 8 then (if l % 2 = 0 then l / 2 else 64 + l / 2)
  else if vc = 9 then (if l < 64 then 2 * l else 2 * (l - 64) + 1)
  else (l + 2 ^ (vc - 0x10)) % 128

/-- The bytes of a vector. -/
def vecBytes (l : List F32) : List Byte := l.flatMap (fun x => leBytes 4 x.toNat)

/-- The vector of 512 bytes. -/
def bytesVec (bs : List Byte) : List F32 := (List.range 128).map (fun l => BitVec.ofNat 32 (leAt bs (4 * l) 4))

/-- A result, with the flushes and saturations of its conversions by destination lane (R111, R135). -/
structure ConvVec where
  lanes : List F32
  sats : List Nat := []
  flushes : List Nat := []

/-- VCVT (Table 06-4). DESIGN CHOICE: an INT32 that FP32 cannot hold is rounded to nearest even (log 66). -/
def cvtVec (fmt : Nat) (a : List F32) : ConvVec :=
  let conv := fun (x : F32) =>
    if fmt = 1 then ({ v := (FVal.ofInt (signed 32 x.toNat) 0).f32.toNat } : Conv)
    else if fmt = 12 then Fmt.int32.encode x.val
    else if fmt = 2 then let k := Fmt.bf16.encode x.val; { k with v := k.v * 65536 }
    else let k := Fmt.fp16.encode x.val; { k with v := (Fmt.fp16.decode k.v).f32.toNat }
  let cs := a.map conv
  { lanes := cs.map (fun k => BitVec.ofNat 32 k.v)
    sats := (List.range 128).filter (fun l => (cs.getD l { v := 0 }).sat), flushes := (List.range 128).filter (fun l => (cs.getD l { v := 0 }).flush) }

/-- VPACK (R137): elements, then the scales of MX blocks, from byte 0 up; bytes above are zero. -/
def packVec (f : Fmt) (src : List F32) : ConvVec :=
  let w := f.bits
  let n := src.length
  let vals := src.map F32.val
  let blocks := (List.range (n / 32)).map (fun b => mxBlock f ((vals.drop (32 * b)).take 32))
  let cs := if f.isMx then blocks.flatMap (·.2) else vals.map f.encode
  let elems := leBytes (n * w / 8) (packBits w (cs.map (·.v)))
  let scales := if f.isMx then blocks.map (fun b => BitVec.ofNat 8 b.1) else []
  let lane := fun (j : Nat) => j * w / 32
  let hit := fun (p : Conv → Bool) => ((List.range n).filter (fun j => p (cs.getD j { v := 0 }))).map lane
  { lanes := bytesVec (slice (elems ++ scales) 0 512), sats := hit (·.sat), flushes := hit (·.flush) }

/-- VUNPK (Table 06-4): half 0 or 1 of a packed vector. -/
def unpackVec (f : Fmt) (half : Nat) (a : List F32) : List F32 :=
  let bs := vecBytes a
  let total := packCount f
  (List.range 128).map fun l =>
    let e := 128 * half + l
    let x := f.decode (elemAt f.bits bs e)
    (if f.isMx then x.mxScale (leAt bs (total * f.bits / 8 + e / 32) 1) else x).f32

/-- One result of XLR over taking lanes, given with their values (R138, R139). -/
def reduceLanes (opc : Nat) (lanes : List (Nat × F32)) : F32 :=
  let xs := lanes.map (·.2)
  if opc = 0xC1 then xs.foldl fmax f32ninf
  else if opc = 0xC2 then xs.foldl fmin f32inf
  else if opc = 0xC3 then BitVec.ofNat 32 (xs.filter (fun x => !isZero x)).length
  else if opc = 0xC4 then
    BitVec.ofNat 32 (b2n (xs.any isNan) + 2 * b2n (xs.any (· = f32inf)) + 4 * b2n (xs.any (· = f32ninf)) + 8 * b2n (xs.any (fun x => !isZero x)))
  else
    let m := xs.foldl fmax f32ninf
    if xs.any isNan then 0xFFFFFFFF
    else match lanes.find? (fun l => ordKey l.2 = ordKey m) with
      | some l => BitVec.ofNat 32 l.1
      | none => 0xFFFFFFFF

/-- The result of a half or of the whole vector: lanes lo to lo + n - 1, n a power of two with 2^k = n. -/
def reduceVec (opc : Nat) (p : BitVec 128) (a : List F32) (lo k : Nat) : F32 :=
  let ls := (List.range (2 ^ k)).map (· + lo)
  if opc = 0xC0 then treeSum k (ls.map (fun l => if p.getLsbD l then a.getD l 0 else 0))
  else reduceLanes opc ((ls.filter (fun l => p.getLsbD l)).map (fun l => (l, a.getD l 0)))

/-- Set bits [31:0] of a summary register. -/
def setLow (x : BitVec 64) (v : F32) : BitVec 64 := (x &&& 0xFFFFFFFF00000000) ||| v.setWidth 64

/-- Set bits [63:32] of a summary register. -/
def setHigh (x : BitVec 64) (v : F32) : BitVec 64 := (x &&& 0xFFFFFFFF) ||| (v.setWidth 64 <<< 32)

/-- One repetition of an XLR instruction; with `nan` a read met a parity error (R131). -/
def Vxe.reduce (v : Vxe) (i : VInsn) (k : Nat) (nan : Bool) : Vxe :=
  let src := opAt i.va k 1
  let a := v.vecAt src
  let p := v.predAt i.pred
  let res := fun (lo n : Nat) => if nan then f32nan else reduceVec i.opc p a lo n
  let s := i.vd - 0xF0
  if i.opc = 0xC6 then
    let col := fun (x : Vxe) (n : Nat) =>
      let add := fun (acc : F32) (l : Nat) => if nan then f32nan else if p.getLsbD l then fadd acc (a.getD l 0) else acc
      { x with xcol := mset 0 x.xcol n (add (add (mget 0 x.xcol n) n) (64 + n)) }
    (List.range 64).foldl col v
  else if i.opc = 0xC7 then
    let v := if i.vc = 0 || i.vc = 2 then { v with xrow := [] } else v
    if i.vc = 1 || i.vc = 2 then { v with xcol := [] } else v
  else if i.vc = 0 then v.setSumm s (setLow (v.summAt s) (res 0 7))
  else if i.vc = 1 then v.setSumm s (setHigh (setLow (v.summAt s) (res 0 6)) (res 64 6))
  else
    let j := vecIdx src
    { v with xrow := mset 0 (mset 0 v.xrow (2 * j) (res 0 6)) (2 * j + 1) (res 64 6) }

/-- One field of a side-band row, and the row with a field replaced (VSBR, VSBW). -/
def RowStat.field (r : RowStat) (f : Nat) : F32 := if f = 0 then r.m else if f = 1 then r.l else if f = 2 then r.lse else BitVec.ofNat 32 r.cls
def RowStat.setField (r : RowStat) (f : Nat) (x : F32) : RowStat :=
  if f = 0 then { r with m := x } else if f = 1 then { r with l := x } else if f = 2 then { r with lse := x } else { r with cls := x.toNat % 4 }

/-- The result of a lane-wise instruction on its sources. -/
def lanesResult (i : VInsn) (a b c : List F32) (p : BitVec 128) : List F32 :=
  let o := i.opc
  if o = 0x80 then lanewise (fun x y _ => fadd x y) a b c
  else if o = 0x81 then lanewise (fun x y _ => fsub x y) a b c
  else if o = 0x82 then lanewise (fun x y _ => fmul x y) a b c
  else if o = 0x83 then lanewise ffma a b c
  else if o = 0x84 then lanewise (fun x y _ => vminOp x y) a b c
  else if o = 0x85 then lanewise (fun x y _ => fmax x y) a b c
  else if o = 0x86 then lanewise (fun x y _ => fdiv x y) a b c
  else if o = 0x87 then lanewise (fun x _ _ => fsqrt x) a b c
  else if o = 0x88 then lanewise (fun x _ _ => fexp2 x) a b c
  else if o = 0x89 then lanewise (fun x _ _ => flog2 x) a b c
  else if o = 0x8A then lanewise (fun x _ _ => frsqrt x) a b c
  else if o = 0x8D then (List.range 128).map (fun l => if p.getLsbD l then a.getD l 0 else b.getD l 0)
  else if o = 0x90 then lanewise (halves (fun x y _ => x.add y)) a b c
  else if o = 0x91 then lanewise (halves (fun x y _ => x.mul y)) a b c
  else if o = 0x92 then lanewise (halves (fun x y z => (x.mul y).add z)) a b c
  else if o = 0xA0 then (List.range 128).map (fun l => a.getD ((b.getD l 0).toNat % 128) 0)
  else (List.range 128).map (fun l => a.getD (shufLane i.vc l) 0)

/-- A vector of the canonical quiet NaN. -/
def vecNan : List F32 := List.replicate 128 f32nan

/-- A poisoned read (R131). -/
def Dev.vxePoison (d : Dev) (c : Nat) (xlr : Bool) : Dev :=
  ((d.put F.VXE_STATUS_POISON c 0 1).count F.VXE_POISON_CNT_V c).record .vxePoison (coreSource c (if xlr then 3 else 2)) []

/-- VLD of one repetition: 512 bytes, NaN in every lane where the read is uncorrectable (R134, Table 09-1). True where it was. -/
def Dev.vecLoad (d : Dev) (c a err : Nat) : List F32 × Bool × Dev :=
  let (bad, d) := d.readError c (addrLocal a) 512 err
  (if bad then vecNan else bytesVec (d.localRead c (addrLocal a) 512), bad, d)

/-- VST of one repetition: the enabled lanes, 4 bytes each, in runs of lanes that adjoin. `err` is what the check finds of an NS word that a run merges into
(R229). -/
def Dev.vecStore (d : Dev) (c a : Nat) (p : BitVec 128) (l : List F32) (err : Nat) : Dev :=
  d.each (bitRuns p.toNat 128) fun d r =>
    d.localWrite c (addrLocal (a + 4 * r.1)) (((l.drop r.1).take r.2).flatMap (fun v => leBytes 4 v.toNat)) err

/-- VCOMP of one repetition (R141): the enabled lanes, dense from the cursor. -/
def Dev.vecCompress (d : Dev) (c s : Nat) (p : BitVec 128) (l : List F32) (err : Nat) : Dev :=
  let ls := lanesOf p
  let cur := (d.core c).vxe.cursor
  let d := d.localWrite c (addrLocal cur) (ls.flatMap (fun n => leBytes 4 (l.getD n 0).toNat)) err
  let cur' := (cur + 4 * ls.length) % 2 ^ 24
  d.updVxe c fun v =>
    let old := v.summAt s &&& 0xFF00000000000000
    { v with cursor := cur' }.setSumm s (old ||| BitVec.ofNat 64 (ls.length + 2 ^ 32 * cur'))

/-- VEXPD of one repetition (R141): dense values into the enabled lanes. True where a read was uncorrectable. -/
def Dev.vecExpand (d : Dev) (c dst err : Nat) (p : BitVec 128) : Bool × Dev :=
  let ls := lanesOf p
  let v := (d.core c).vxe
  let n := 4 * ls.length
  let (bad, d) := if n = 0 then (false, d) else d.readError c (addrLocal v.cursor) n err
  let bs := d.localRead c (addrLocal v.cursor) n
  let old := v.vecAt dst
  let new := ls.zipIdx.foldl (fun l x => setAt l x.1 (BitVec.ofNat 32 (leAt bs (4 * x.2) 4))) old
  (bad, d.updVxe c fun v => { v with cursor := (v.cursor + n) % 2 ^ 24 }.setVec dst (if bad then vecNan else new))

/-- VMSTAT (R142). -/
def Vxe.mergeStats (v : Vxe) (bd ba : Nat) (scale : F32) (nan : Bool) : Vxe :=
  (List.range 64).foldl (fun v r =>
    let m := mergeRow scale (v.sideAt bd r) (v.sideAt ba r)
    let m : RowStat × Factor := if nan then ({ v.sideAt bd r with m := f32nan, l := f32nan, cls := clsNan }, { act := .nan }) else m
    { v.setSide bd r m.1 with factor := mset {} v.factor r m.2 }) v

/-- VFIN (R144): the finished elements under the predicate, and LSE. -/
def Vxe.finish (v : Vxe) (bd ba : Nat) (scale : F32) (p : BitVec 128) (nan : Bool) : Vxe :=
  (List.range 64).foldl (fun v r =>
    let st := v.sideAt ba r
    let code := 0x20 + 32 * bd + r / 2
    let row := (List.range 64).map (fun n => if nan then f32nan else finishElem st (v.elem bd r n))
    let old := v.vecAt code
    let new := (List.range 128).map (fun l => if l / 64 = r % 2 then row.getD (l % 64) 0 else old.getD l 0)
    (v.setVec code (if nan then new else mergeLanes p old new)).setSide ba r { st with lse := if nan then f32nan else finishLse scale st }) v

/-- The softmax counters of a VFIN with COUNT = 1 (R144). -/
def Dev.countRows (d : Dev) (c ba : Nat) : Dev :=
  d.each (List.range 64) fun d r =>
    let cls := ((d.core c).vxe.sideAt ba r).cls
    if cls = clsMasked then d.count F.NUM_SMX_MASKED_V
    else if cls = clsInf then d.count F.NUM_SMX_INF_V
    else if cls = clsNan then d.count F.NUM_SMX_NAN_V
    else d

/-- TTRANS (Table 06-4), under the predicate of each destination vector. -/
def Vxe.transpose (v : Vxe) (bd ba : Nat) (p : BitVec 128) (nan : Bool) : Vxe :=
  (List.range 32).foldl (fun x j =>
    let code := 0x20 + 32 * bd + j
    let new := (List.range 128).map (fun l => v.elem ba (l % 64) (2 * j + l / 64))
    x.setVec code (if nan then vecNan else mergeLanes p (v.vecAt code) new)) v

/-- Conversions of active lanes count against GROUP (R111, R135, R136). -/
def Dev.countLanes2 (d : Dev) (g : Nat) (p : BitVec 128) (k : ConvVec) : Dev :=
  let n := fun (l : List Nat) => (l.filter (fun x => p.getLsbD x)).length
  d.countConv g (n k.flushes) (n k.sats)

/-- VLD and VEXPD read a store (R134, R141). -/
def VInsn.loads (i : VInsn) : Bool := i.opc = 0xA8 || i.opc = 0xAD

/-- The error that the store read of a VLD or VEXPD meets. -/
def VInsn.storeErr (i : VInsn) : Nat := if i.err < 3 then i.err else 0

/-- The error that a narrow write of a VST or VCOMP meets in the NS word that it merges into (R229): 4 for an uncorrectable one, 1 for a corrected one. -/
def VInsn.mergeErr (i : VInsn) : Nat := if i.err = 4 then 2 else if i.err = 1 then 1 else 0

/-- A vector or predicate read of the instruction meets a parity error (R131): in VLD and VEXPD that of the predicate, or of VEXPD's old destination,
given by 3, beside the errors of their store read. -/
def VInsn.parity (i : VInsn) : Bool := i.err = 3 || (i.err = 2 && !i.loads)

/-- One repetition of an instruction (Table 06-4). `nan`: a vector or predicate read met a parity error (R131). True where a load was poisoned. -/
def Dev.vecRep (d : Dev) (c : Nat) (i : VInsn) (nan : Bool) (k : Nat) : Bool × Dev :=
  let v := (d.core c).vxe
  let o := i.opc
  let dst := opAt i.vd k 1
  let p := v.predAt i.pred
  let a := v.vecAt (opAt i.va k i.step)
  let b := v.vecAt (opAt i.vb k 1)
  let cc := v.vecAt (opAt i.vc k 1)
  let put := fun (d : Dev) (new : List F32) => d.updVxe c fun v => v.setVec dst (if nan then vecNan else mergeLanes p (v.vecAt dst) new)
  if i.isXlr then (false, d.updVxe c fun v => v.reduce i k nan)
  else if o = 0x8C then
    let old := v.predAt (i.vd - 0xE0)
    let bit := fun (l : Nat) => if nan then i.vc = 3 else if p.getLsbD l then cmpLane i.vc (a.getD l 0) (b.getD l 0) else old.getLsbD l
    (false, d.updVxe c fun v => v.setPred (i.vd - 0xE0) (BitVec.ofNat 128 ((List.range 128).foldl (fun m l => m + b2n (bit l) * 2 ^ l) 0)))
  else if o = 0x8D then
    (false, d.updVxe c fun v => v.setVec dst (if nan then vecNan else lanesResult i a b cc p))
  else if o = 0x98 then
    let r := cvtVec i.vc a
    (false, put (if nan then d else d.countLanes2 i.group p r) r.lanes)
  else if o = 0x99 then
    match i.fmt with
    | none => (false, d)
    | some f =>
      let r := packVec f (if i.step = 2 then a ++ v.vecAt (opAt i.va k 2 + 1) else a)
      (false, put (if nan then d else d.countLanes2 i.group p r) r.lanes)
  else if o = 0x9A then (false, put d ((i.fmt.map (fun f => unpackVec f (i.vb % 2) a)).getD a))
  else if o = 0xA8 then
    let (l, bad, d) := d.vecLoad c (i.addr + 512 * k) i.storeErr
    (bad, d.updVxe c fun v => v.setVec dst (if nan || bad then vecNan else mergeLanes p (v.vecAt dst) l))
  else if o = 0xA9 then (false, d.vecStore c (i.addr + 512 * k) p (if nan then vecNan else v.vecAt dst) i.mergeErr)
  else if o = 0xAC then (false, d.vecCompress c (i.vc - 0xF0) p (if nan then vecNan else a) i.mergeErr)
  else if o = 0xAD then
    let (bad, d) := d.vecExpand c dst i.storeErr p
    (bad, if nan then d.updVxe c fun v => v.setVec dst vecNan else d)
  else if o = 0xAE then (false, d.updVxe c fun v => { v with cursor := i.addr })
  else if o = 0xB0 then
    let s := bufOf i.va
    (false, put d ((List.range 128).map (fun l => if l < 64 then (v.sideAt s l).field i.vc else 0)))
  else if o = 0xB1 then
    let s := bufOf dst
    (false, d.updVxe c fun v => (List.range 64).foldl (fun v r =>
      if nan || p.getLsbD r then v.setSide s r ((v.sideAt s r).setField i.vc (if nan then f32nan else a.getD r 0)) else v) v)
  else if o = 0xB2 then
    (false, d.updVxe c fun v => (List.range 64).foldl (fun x r =>
      x.setSide (bufOf i.vd) r (if nan then { m := f32nan, l := f32nan, lse := f32nan, cls := clsNan } else v.sideAt (bufOf i.va) r)) v)
  else if o = 0xB3 then
    (false, put d ((List.range 128).map (fun l => if l < 64 then mget 0 (if i.vc = 0 then v.xrow else v.xcol) l else 0)))
  else if o = 0xB4 then (false, d.updVxe c fun v => v.mergeStats (bufOf i.vd) (bufOf i.va) (b.headD 0) nan)
  else if o = 0xB5 then
    let j := vecIdx dst
    let old := v.vecAt dst
    (false, put d ((List.range 128).map (fun l => (mget {} v.factor (2 * j + l / 64)).apply (old.getD l 0) (a.getD l 0))))
  else if o = 0xB6 then
    let d := d.updVxe c fun v => v.finish (bufOf i.vd) (bufOf i.va) (b.headD 0) p nan
    (false, if i.vc % 2 = 1 then d.countRows c (bufOf i.va) else d)
  else if o = 0xB8 then (false, d.updVxe c fun v => v.transpose (bufOf i.vd) (bufOf i.va) p nan)
  else (false, put d (lanesResult i a b cc p))

/-- The repetitions of an instruction from k on. -/
def Dev.vecReps (c : Nat) (i : VInsn) (nan : Bool) : Nat → Nat → Bool × Dev → Bool × Dev
  | 0, _, r => r
  | n + 1, k, (bad, d) =>
    let r := d.vecRep c i nan k
    Dev.vecReps c i nan n (k + 1) (bad || r.1, r.2)

/-- An instruction executes: its results are written; its completion is VECTOR_INSN_COMPLETE (R133). -/
def Dev.vecExec (d : Dev) (c : Nat) (i : VInsn) : Dev :=
  let (bad, d) := Dev.vecReps c i i.parity (i.rep + 1) 0 (false, d)
  if i.parity || bad then d.vxePoison c i.isXlr else d

/-! ### Order of the two queues (R90, R134) -/

/-- Side-bands, factor file, cursor, XROW, XCOL and memory, numbered above the operand codes. -/
def sideRes (b : Nat) : Nat := 0x100 + b
def resFactor : Nat := 0x110
def resCursor : Nat := 0x111
def resXrow : Nat := 0x112
def resXcol : Nat := 0x113
def resMemory : Nat := 0x114

/-- The operand codes that an operand names over the repetitions. -/
def VInsn.span (i : VInsn) (o : Oper) (x n : Nat) : List Nat :=
  match o with
  | .no => []
  | .tile => (List.range 32).map (· + x)
  | .vec | .buf | .pred | .summ => (List.range (if isBuf x then (i.rep + 1) * n else n)).map (· + x)

/-- What an instruction reads. -/
def VInsn.reads (i : VInsn) : List Nat :=
  match i.shape with
  | none => []
  | some sh =>
    let o := i.opc
    let src := i.span sh.a i.va i.step ++ i.span sh.b i.vb 1 ++ (if sh.c = .vec then i.span sh.c i.vc 1 else [])
    (if o = 0xB2 || o = 0xB0 || o = 0xB4 then [sideRes (bufOf i.va)] else src)
      ++ (if i.pred = 0 then [] else [0xE0 + i.pred])
      ++ (if o = 0xA9 then i.span .vec i.vd 1 ++ [resMemory] else [])
      ++ (if o = 0xB4 then [sideRes (bufOf i.vd)] ++ i.span .vec i.vb 1 else [])
      ++ (if o = 0xB5 then resFactor :: i.span sh.d i.vd 1 else [])
      ++ (if o = 0xB6 then sideRes (bufOf i.va) :: i.span sh.d i.vd 1 ++ i.span .vec i.vb 1 else [])
      ++ (if o = 0xB3 then [if i.vc = 0 then resXrow else resXcol] else [])
      ++ (if o = 0xAC || o = 0xAD then [resCursor, resMemory] else [])

/-- What an instruction writes. -/
def VInsn.writes (i : VInsn) : List Nat :=
  match i.shape with
  | none => []
  | some sh =>
    let o := i.opc
    (if o = 0xA9 || o = 0xB1 || o = 0xB2 || o = 0xB4 then [] else i.span sh.d i.vd 1)
      ++ (if o = 0xB1 || o = 0xB2 || o = 0xB4 then [sideRes (bufOf i.vd)] else [])
      ++ (if o = 0xB4 then [resFactor] else [])
      ++ (if o = 0xB6 then [sideRes (bufOf i.va)] else [])
      ++ (if o = 0xAC then [i.vc, resCursor, resMemory] else if o = 0xAD || o = 0xAE then [resCursor] else if o = 0xA9 || o = 0xA8 then [resMemory] else [])
      ++ (if o = 0xC6 || (o = 0xC7 && i.vc ≠ 0) then [resXcol] else [])
      ++ (if (0xC0 ≤ o && o ≤ 0xC5 && i.vc = 2) || (o = 0xC7 && i.vc ≠ 1) then [resXrow] else [])

/-- A later instruction waits for an earlier one (R134). -/
def VInsn.waitsFor (l e : VInsn) : Bool :=
  let w := e.writes
  l.reads.any w.contains || l.writes.any (fun x => w.contains x || e.reads.contains x)

/-- The buffers that an instruction names. -/
def VInsn.buffers (i : VInsn) : List Nat :=
  match i.shape with
  | none => []
  | some sh =>
    let one := fun (o : Oper) (x : Nat) => if o ≠ .no && isBuf x then [bufOf x] else []
    one sh.d i.vd ++ one sh.a i.va ++ one sh.b i.vb ++ one sh.c i.vc

/-- The summary register that an instruction names as its destination. -/
def VInsn.summary (i : VInsn) : Option Nat :=
  match i.shape with
  | some sh =>
    if sh.d = .summ && 0xF0 ≤ i.vd then some (i.vd - 0xF0) else if sh.c = .summ && 0xF0 ≤ i.vc then some (i.vc - 0xF0) else none
  | none => none

/-- Instructions not yet complete. -/
def Vxe.open_ (v : Vxe) : List VInsn := v.vq ++ v.xq ++ v.vrun.toList ++ v.xrun.toList

/-- A summary register is valid (R140). -/
def Vxe.summValid (v : Vxe) (s : Nat) : Bool := !v.open_.any (fun i => i.summary = some s) && !v.vheld.contains s && !v.xheld.contains s

/-- Buffer DST of the drain that runs (R90). -/
def Mxe.drainBuf (m : Mxe) : Option Nat :=
  match m.drains with
  | x :: _ => if x.running then some (bits (x.words.getD 1 0) 34 32) else none
  | [] => none

/-- The head of a queue may start: nothing earlier that it waits for is open, and no drain runs into a buffer that it names (R90, R134). -/
def Core.vecReady (k : Core) (i : VInsn) : Bool :=
  !k.vxe.open_.any (fun e => e.id < i.id && i.waitsFor e) && !(match k.mxe.drainBuf with | some b => i.buffers.contains b | none => false)

/-- VXE_STATUS shows queues and work (Table 06-17). -/
def Dev.showVxe (d : Dev) (c : Nat) : Dev :=
  let v := (d.core c).vxe
  ((d.put F.VXE_STATUS_VQDEPTH c 0 v.vq.length).put F.VXE_STATUS_XQDEPTH c 0 v.xq.length).put F.VXE_STATUS_BUSY c 0 (b2n (!v.open_.isEmpty))

/-- Threads that wait for a summary register take it once it is valid (R140). -/
def Dev.serveSget (d : Dev) (c : Nat) : Dev :=
  d.each (List.range 8) fun d t =>
    match (d.thread c t).block with
    | some (.sget rd s) =>
      let v := (d.core c).vxe
      if v.summValid s then ((d.setG c t rd (v.summAt s)).due c t) else d
    | _ => d

/-- An instruction fails its check (R155): its unit stops; its summary register stays invalid until the error is cleared (R140). -/
def Dev.vecFail (d : Dev) (c : Nat) (i : VInsn) (code : Nat) : Dev :=
  let d := d.updVxe c fun v =>
    if i.isXlr then { v with xheld := v.xheld ++ i.summary.toList } else { v with vheld := v.vheld ++ i.summary.toList }
  if i.isXlr then
    (((d.put F.VXE_STATUS_XERR c 0 1).put F.VXE_STATUS_XERR_CODE c 0 code).put F.XLR_ERR_INSN_V c 0 i.word).record .xlrInsnError (coreSource c 3) []
  else
    (((d.put F.VXE_STATUS_ERR c 0 1).put F.VXE_STATUS_ERR_CODE c 0 code).put F.VXE_ERR_INSN_V c 0 i.word).record .vxeInsnError (coreSource c 2) []

/-- A unit takes the head of its queue if it may (R134, R155). -/
def Dev.vecStart (d : Dev) (c : Nat) (xlr : Bool) : Dev :=
  let k := d.core c
  let stopped := d.flag F.VXE_CTL_PAUSE c || (if xlr then d.flag F.VXE_STATUS_XERR c else d.flag F.VXE_STATUS_ERR c)
  let idle := if xlr then k.vxe.xrun.isNone else k.vxe.vrun.isNone
  match (if xlr then k.vxe.xq else k.vxe.vq) with
  | [] => d
  | i :: rest =>
    if stopped || !idle || !k.vecReady i then d
    else
      let code := d.vecCheck c i
      let run := if code = 0 then some i else none
      let d := d.updVxe c fun v => if xlr then { v with xq := rest, xrun := run } else { v with vq := rest, vrun := run }
      if code = 0 then d.vecExec c i else d.vecFail c i code

/-- Both units take what they may. -/
def Dev.vecPump (d : Dev) (c : Nat) : Dev := (((d.vecStart c false).vecStart c true).vecStart c false).showVxe c

/-- The last results of a unit's instruction are written: its pulse is sent and its summary register is valid (R133, R140). `stall` counts cycles in
which the head of its queue waited under R134. -/
def Dev.vecComplete (d : Dev) (c : Nat) (xlr : Bool) (stall : Nat) : Dev :=
  let v := (d.core c).vxe
  match (if xlr then v.xrun else v.vrun) with
  | none => d
  | some i =>
    let d := d.updVxe c fun v => if xlr then { v with xrun := none } else { v with vrun := none }
    let d := if stall = 0 then d else d.count F.VXE_STALL_V c 0 stall
    let d := if i.tapEn then d.pulse c i.tap else d
    (d.vecPump c).serveSget c

/-- Software clears ERR or XERR: the held summary registers become valid, the queue goes on (R140, R155). -/
def Dev.vecResume (d : Dev) (c : Nat) (xlr : Bool) : Dev :=
  let v := (d.core c).vxe
  let held := if xlr then v.xheld else v.vheld
  let d := d.put (if xlr then F.VXE_STATUS_XERR else F.VXE_STATUS_ERR) c 0 0
  let d := d.updVxe c fun v =>
    let v := held.foldl (fun v s => v.setSumm s summLost) v
    if xlr then { v with xheld := [] } else { v with vheld := [] }
  (d.vecPump c).serveSget c

/-- Make a vector free values (R156). -/
def Dev.freeVec (d : Dev) (c code : Nat) : Dev :=
  let (n, d) := d.fresh 4096
  d.updVxe c fun v => v.setVec code ((List.range 128).map (fun l => BitVec.ofNat 32 (n / 2 ^ (32 * l))))

/-- Make rows of a side-band free values. -/
def Dev.freeSide (d : Dev) (c b r : Nat) : Dev :=
  let (n, d) := d.fresh 98
  d.updVxe c fun v => v.setSide b r { m := BitVec.ofNat 32 n, l := BitVec.ofNat 32 (n / 2 ^ 32), lse := BitVec.ofNat 32 (n / 2 ^ 64), cls := n / 2 ^ 96 % 4 }

/-- ABORT of both units (R156): the destinations of interrupted instructions, the factor file and the cursor become free values. -/
def Dev.vecAbort (d : Dev) (c : Nat) : Dev :=
  let v := (d.core c).vxe
  let cut := v.vrun.toList ++ v.xrun.toList
  let summs := v.open_.filterMap VInsn.summary ++ v.vheld ++ v.xheld
  let outs := cut.flatMap VInsn.writes
  let d := d.each (outs.filter isVec) (fun d x => d.freeVec c x)
  let d := d.each cut fun d i =>
    let ls := lanesOf (v.predAt i.pred)
    if i.opc = 0xA9 then
      d.each (List.range (i.rep + 1)) (fun d k => d.each ls (fun d l => d.freeLocal c (addrLocal (i.addr + 512 * k + 4 * l)) 4))
    else if i.opc = 0xAC then
      let n := 4 * ls.length * (i.rep + 1)
      d.freeLocal c (addrLocal (v.cursor - n)) n
    else d
  let d := d.each (outs.filter (fun x => 0xE0 ≤ x && x < 0xE8)) fun d x =>
    let (n, d) := d.fresh 128
    d.updVxe c fun v => v.setPred (x - 0xE0) (BitVec.ofNat 128 n)
  let d := d.each ((List.range 6).filter (fun b => outs.contains (sideRes b))) (fun d b => d.each (List.range 64) (fun d r => d.freeSide c b r))
  let d := d.each (List.range 64) fun d n =>
    let (x, d) := d.fresh 64
    let d := if outs.contains resXrow then d.updVxe c fun v => { v with xrow := mset 0 v.xrow n (BitVec.ofNat 32 x) } else d
    if outs.contains resXcol then d.updVxe c fun v => { v with xcol := mset 0 v.xcol n (BitVec.ofNat 32 (x / 2 ^ 32)) } else d
  let d := d.each (List.range 64) fun d r =>
    let (x, d) := d.fresh 67
    let act : Act := [Act.nan, Act.sum, Act.keepA, Act.takeB, Act.zero, Act.scale].getD (x / 2 ^ 64 % 6) Act.nan
    d.updVxe c fun v => { v with factor := mset {} v.factor r { fA := BitVec.ofNat 32 x, fB := BitVec.ofNat 32 (x / 2 ^ 32), act := act } }
  let (cur, d) := d.fresh 24
  let d := d.updVxe c fun v =>
    let v := summs.foldl (fun v s => v.setSumm s summLost) v
    { v with vq := [], xq := [], vrun := none, xrun := none, vheld := [], xheld := [], cursor := cur }
  (d.showVxe c).serveSget c

/-- A thread issues a vector instruction (R132, R146): a full queue makes it wait. -/
def Dev.vecIssue (d : Dev) (c t opc fields err : Nat) : Dev :=
  d.issue c t fun d =>
    let xlr : Bool := decide (0xC0 ≤ opc)
    let v := (d.core c).vxe
    if (if xlr then 16 ≤ v.xq.length else 32 ≤ v.vq.length) then d.blockThread c t (.room (b2n xlr))
    else
      let i : VInsn := { id := v.nextId, word := opc * 2 ^ 56 + fields % 2 ^ 56, err := err }
      let d := d.updVxe c fun v =>
        let v := { v with nextId := v.nextId + 1 }
        if xlr then { v with xq := v.xq ++ [i] } else { v with vq := v.vq ++ [i] }
      (d.pcNext c t).vecPump c

end Sys2Proof.Machine
end

