-- ==== Sys2Proof/Machine/CtcOps.lean ====
section
/-!
DEFINITION. Sys2Proof/Machine/CtcOps.lean: what CTC instructions share: operands, memory access and miss slots (R145, R146, R148, R210, R211) and the
toll barrier (R152 to R154).
-/

namespace Sys2Proof.Machine

/-! ### Operands -/

/-- A comparison of two registers. -/
def Cond.holds (c : Cond) (a b : BitVec 64) : Bool :=
  match c with
  | .eq => a = b
  | .ne => a ≠ b
  | .lt => a.slt b
  | .ge => !a.slt b
  | .ltu => a.ult b
  | .geu => !a.ult b

/-- The result of an integer instruction (Table 06-9). A shift by 64 or more has no stated result. -/
def intResult (i : IntInsn) (a b : BitVec 64) : Option (BitVec 64) :=
  match i with
  | .set c => some (if c.holds a b then 1 else 0)
  | .op .add => some (a + b)
  | .op .sub => some (a - b)
  | .op .mul => some (a * b)
  | .op .and => some (a &&& b)
  | .op .or => some (a ||| b)
  | .op .xor => some (a ^^^ b)
  | .op .shl => if b.toNat < 64 then some (a <<< b.toNat) else none
  | .op .shr => if b.toNat < 64 then some (a >>> b.toNat) else none
  | .op .sar => if b.toNat < 64 then some (a.sshiftRight b.toNat) else none

/-- The registers that an instruction names are g0 to g31. -/
def regsOk (rs : List Nat) : Bool := rs.all (fun r => r < 32)

/-- IMM is a signed number of 41 bits. -/
def immOk (v : Int) : Bool := decide (-(2 ^ 40) ≤ v) && decide (v < 2 ^ 40)

/-- A tap value is a signed number of 32 bits. -/
def tapOk (v : Int) : Bool := decide (-(2 ^ 31) ≤ v) && decide (v < 2 ^ 31)

/-- Naturally aligned sizes of loads and stores. -/
def sizeOk (n : Nat) : Bool := n = 1 || n = 2 || n = 4 || n = 8

/-- RA + IMM. -/
def Dev.ea (d : Dev) (c t ra : Nat) (imm : Int) : Nat := (d.g c t ra + BitVec.ofInt 64 imm).toNat

/-- PC + 8 IMM: IMM of a branch counts instructions. -/
def Dev.target (d : Dev) (c t : Nat) (imm : Int) : Nat := (BitVec.ofNat 64 (d.pc c t) + BitVec.ofInt 64 (8 * imm)).toNat

/-! ### Memory access -/

/-- The fault of an access of n bytes, 0 for none (R145, Table 06-10). -/
def Dev.accessFault (d : Dev) (c a n : Nat) : Nat :=
  if a % n ≠ 0 then 2
  else if bitOf a 63 then (if d.localOk c a n then 0 else 3)
  else if bits a 62 57 ≠ 0 then 4
  else 0

/-- The HBM bank of a global address whose translation CTC holds (R210). -/
def Dev.bankHeld (d : Dev) (c a : Nat) : Option Nat :=
  if a / 2 ^ 40 ≠ d.chip || bits a 39 36 = 0xF then none
  else
    match (d.xltLook (some c) (c / 68) (a % 2 ^ 40 / 65536)).1 with
    | some e => if xltTier e = 3 then (d.place (xltTarget e + a % 65536)).map Place.code else none
    | none => none

/-- A global access takes a miss slot, or blocks its thread for want of one (R146, R210). A load or atomic blocks the thread until its data
returns; a store does not. `werr` is what the check of the store finds, if the address is a core window of this chip. -/
def Dev.miss (d : Dev) (c t a : Nat) (o : AccOp) (m : MissSlot) (werr : Nat) : Dev :=
  let x := (d.core c).ctc
  match (List.range 64).find? (fun k => !x.slots.any (fun s => s.1 = k)) with
  | none => d.blockThread c t (.slot none)
  | some k =>
    let b := d.bankHeld c a
    if b.isSome && 8 ≤ x.onBank (b.getD 0) then d.blockThread c t (.slot b)
    else
      let m' : MissSlot := { m with thread := t, access := d.sys.nextAcc, pc := d.pc c t }
      let d := (d.updCtc c fun x => { x with slots := x.slots ++ [(k, m')] })
      let d := if m.store then d.pcNext c t else d.blockThread c t (.load k)
      (d.access (.ctc c k) (some c) (c / 68) a o false werr).2

/-- The access of a miss slot waits for a bank (R210): the bank and its physical address. -/
def Dev.cappedBank (d : Dev) (m : MissSlot) : Option (Nat × Nat) :=
  match (d.acc m.access).map MemAcc.st with
  | some (.capped pa) => (d.place pa).map (fun p => (p.code, pa))
  | _ => none

/-- A slot on a bank has freed (R210): one thread that waits for the bank is served, by the rule of R69 over thread numbers. A store of it that waits in its slot
goes on; a thread blocked on the bank becomes ready. -/
def Dev.serveBank (d : Dev) (c b : Nat) : Dev :=
  let x := (d.core c).ctc
  let held := fun (t : Nat) => x.slots.find? (fun s => s.2.thread = t && (d.cappedBank s.2).any (fun p => p.1 = b))
  let waits := fun (t : Nat) => (held t).isSome || (mget {} x.threads t).block = some (.slot (some b))
  match arbiter 8 x.bankPtr waits with
  | none => d
  | some t =>
    let d := d.updCtc c fun x => { x with bankPtr := (t + 1) % 8 }
    match held t with
    | some (k, m) =>
      (match d.cappedBank m with
        | some (_, pa) => (d.setSlotBank c k (some b)).updAcc m.access fun a => { a with st := d.towards a.q pa }
        | none => d)
    | none => d.due c t

/-- A miss slot frees; where it counted against a bank, a thread that waits for the bank is served (R210). -/
def Dev.freeSlot (d : Dev) (c k : Nat) (m : MissSlot) : Dev :=
  let d := (d.updCtc c fun x => { x with slots := x.slots.filter (fun s => s.1 ≠ k) }).dropAcc m.access
  match m.bank with
  | none => d
  | some b => if 8 ≤ (d.core c).ctc.onBank b then d else d.serveBank c b

/-- The bank that all of a thread's misses are on. -/
def oneBank : List (Option Nat) → Option Nat
  | some b :: l => if l.all (fun w => w = some b) then some b else none
  | _ => none

/-- The bank that a thread which is not halted waits on, for a miss or for the cap (R211). -/
def Dev.waitBank (d : Dev) (c t : Nat) : Option Nat :=
  let x := (d.core c).ctc
  let th : Thread := mget {} x.threads t
  let bankOf := fun (m : MissSlot) => match m.bank with | some b => some b | none => (d.cappedBank m).map (·.1)
  let mine := (x.slots.filter (fun s => s.2.thread = t)).map (fun s => bankOf s.2)
  match th.block with
  | some (.load k) => (x.slots.find? (fun s => s.1 = k)).bind (fun s => bankOf s.2)
  | some (.slot b) => b
  | some .mfence => oneBank mine
  | _ => if th.live then none else oneBank mine

/-- The bank of a bank stall: every thread that is not halted waits on it (R211). -/
def Dev.stallBank (d : Dev) (c : Nat) : Option Nat :=
  oneBank (((List.range 8).filter (fun t => !(d.core c).ctc.halted t)).map (d.waitBank c))

/-- A bank stall of `stall` cycles ends as a miss completes (R211). -/
def Dev.countStall (d : Dev) (c stall : Nat) : Dev :=
  match d.stallBank c with
  | some b => if stall = 0 then d else (d.count F.CTC_BANK_STALL_V c 0 stall).put F.CTC_BANK_LAST_V c 0 b
  | none => d

/-- The value that a load or atomic writes to RD: its bytes, and above them zeros after an FP32 atomic (R237) and what the manual does not state
after a load. -/
def Dev.loadValue (d : Dev) (m : MissSlot) (bs : List Byte) : BitVec 64 × Dev :=
  let v := leNat (bs.take m.size)
  if m.float || 8 ≤ m.size then (BitVec.ofNat 64 v, d)
  else
    let (u, d) := d.fresh (64 - 8 * m.size)
    (BitVec.ofNat 64 (v + 2 ^ (8 * m.size) * u), d)

/-- An instruction's condition for issue has cleared (Table 06-8). -/
def Dev.unblocked (d : Dev) (c t : Nat) : Bool :=
  let k := d.core c
  let fenced := fun n => k.vxe.open_.all (fun i => n ≤ i.id)
  let drained := !k.ctc.slots.any (fun s => s.2.thread = t)
  match (d.thread c t).block with
  | some .due => true
  | some (.room 0) => k.vxe.vq.length < 32
  | some (.room 1) => k.vxe.xq.length < 16
  | some (.room 2) => k.mxe.queue.length < 16
  | some (.room 3) => k.sxu.ctx.length < 16
  | some (.room _) => true
  | some (.slot none) => k.ctc.slots.length < 64
  | some (.vfence n) => fenced n
  | some .mfence => drained
  | some (.fence n) => fenced n && drained
  | _ => false

/-! ### The toll barrier -/

/-- A toll channel. -/
def Dev.toll (d : Dev) (b : Nat) : TollCh := mget {} d.tolls b

/-- Replace a toll channel; TOLL_STATUS shows which have arrivals pending. -/
def Dev.setToll (d : Dev) (b : Nat) (x : TollCh) : Dev :=
  let d := { d with tolls := mset {} d.tolls b x }
  d.putD F.TOLL_STATUS_PENDING (setBit (d.get F.TOLL_STATUS_PENDING) b (!x.now.isEmpty))

/-- The members of a channel that are cores of the device (R152). -/
def Dev.tollMembers (d : Dev) (b : Nat) : List Nat := (List.range 256).filter (fun m => bitOf (d.get F.TOLL_MASK_V 0 b) m)

/-- The members that have not arrived. -/
def Dev.tollMissing (d : Dev) (b : Nat) : List Nat := (d.tollMembers b).filter (fun m => !(d.toll b).now.any (fun a => a.member = m))

/-- Arrivals that waited take their places in the next generation, one of a member (R153). -/
def TollCh.turn (x : TollCh) (now : Nat) : TollCh :=
  let p := x.next.foldl (fun (p : List TollArrival × List TollArrival) a =>
    if p.1.any (fun e => e.member = a.member) then (p.1, p.2 ++ [a]) else (p.1 ++ [a], p.2)) ([], [])
  { now := p.1, first := if p.1.isEmpty then 0 else now, next := p.2 }

/-- An arrival is released, or fails (R153). -/
def Dev.tollEnds (d : Dev) (b : Nat) (failed : Bool) (a : TollArrival) : Dev :=
  match a.thread with
  | some t =>
    if (d.thread a.core t).block = some (.toll a.rd b) then ((d.setG a.core t a.rd (if failed then 1 else 0)).due a.core t).showCtc a.core else d
  | none => if failed then (d.pulse a.core a.tap).put F.CTC_STATUS_TOLL_FAILED a.core 0 1 else d.pulse a.core a.tap

/-- A generation ends and the next begins. -/
def Dev.tollOver (d : Dev) (b : Nat) (failed : Bool) : Dev :=
  let x := d.toll b
  (d.each x.now (fun d a => d.tollEnds b failed a)).setToll b (x.turn d.now)

/-- A generation's window has ended, and a member is missing: one that is complete awaits its release (R152, R154). -/
def Dev.tollLate (d : Dev) (b : Nat) : Bool :=
  !(d.toll b).now.isEmpty && !(d.tollMissing b).isEmpty && d.get F.TOLL_TIMEOUT_BEATS ≠ 0 && (d.toll b).first + 65536 * d.get F.TOLL_TIMEOUT_BEATS ≤ d.now

/-- A generation fails by timeout (R154): the event names the channel and the members missing. -/
def Dev.tollExpire (d : Dev) (b : Nat) : Dev :=
  let gone := (d.tollMissing b).take 23
  ((d.putD F.TOLL_STATUS_TIMEOUT_SEEN 1).record .tollTimeout (devSource 4) ((1, b) :: gone.map (fun m => (1, m)))).tollOver b true

/-- An arrival at a channel (R153). One stamped at the end of the window or later is the next generation's (R154). -/
def Dev.tollArrive (d : Dev) (b : Nat) (a : TollArrival) : Dev :=
  let d := if d.tollLate b then d.tollExpire b else d
  let x := d.toll b
  if x.now.any (fun e => e.member = a.member) then d.setToll b { x with next := x.next ++ [a] }
  else d.setToll b { x with now := x.now ++ [a], first := if x.now.isEmpty then d.now else x.first }

/-- The member that core c is under the binding in force, if channel b's mask names it (R152). -/
def Dev.tollMember (d : Dev) (b c : Nat) : Option Nat :=
  match d.lciOf c with
  | some l => if bitOf (d.get F.TOLL_MASK_V 0 b) (64 * (c / 68) + l) then some (64 * (c / 68) + l) else none
  | none => none

end Sys2Proof.Machine
end

