-- ==== Sys2Proof/Machine/Ctc.lean ====
section
/-!
DEFINITION. Sys2Proof/Machine/Ctc.lean: the meanings of the control core's own instructions, of taps and of the toll barrier (chapter 06), and of the CTC
atomics (R237). An instruction has its effect where CTC issues from its thread (R147).
-/

namespace Sys2Proof.Machine

/-- The operands name a core, a thread and general registers. -/
def insnOk (c t : Nat) (rs : List Nat) : Bool := c < 272 && t < 8 && regsOk rs

/-! ### Integer instructions and branches -/

/-- The second operand: a register or the immediate. -/
def CtcSrc.ok : CtcSrc → Bool
  | .reg rb => rb < 32
  | .imm v => immOk v

/-- CTC_INTEGER_OP (Table 06-9, R147). -/
def execCtcIntegerOp (c t : Nat) (op : IntInsn) (rd ra : Nat) (src : CtcSrc) (par : Bool) (s : State) : Out :=
  s.runOn (insnOk c t [rd, ra] && src.ok) fun d => d.issue c t (par := par) fun d =>
    let b := match src with | .reg rb => d.g c t rb | .imm v => BitVec.ofInt 64 v
    match intResult op (d.g c t ra) b with
    | some v => (d.setG c t rd v).pcNext c t
    | none =>
      let (v, d) := d.fresh 64
      (d.setG c t rd (BitVec.ofNat 64 v)).pcNext c t

/-- CTC_BRANCH (Table 06-9). -/
def execCtcBranch (c t : Nat) (cond : Cond) (ra rb : Nat) (imm : Int) (par : Bool) (s : State) : Out :=
  s.runOn (insnOk c t [ra, rb] && immOk imm) fun d => d.issue c t (par := par) fun d =>
    if cond.holds (d.g c t ra) (d.g c t rb) then d.setPc c t (d.target c t imm) else d.pcNext c t

/-- JUMP_AND_LINK (Table 06-9): RD receives the address of the next instruction. -/
def execJumpAndLink (c t rd : Nat) (imm : Int) (s : State) : Out :=
  s.runOn (insnOk c t [rd] && immOk imm) fun d => d.issue c t fun d =>
    let a := d.target c t imm
    (d.setG c t rd (BitVec.ofNat 64 (d.pc c t + 8))).setPc c t a

/-- JUMP_REGISTER (Table 06-9). -/
def execJumpRegister (c t ra : Nat) (par : Bool) (s : State) : Out :=
  s.runOn (insnOk c t [ra]) fun d => d.issue c t (par := par) fun d => d.setPc c t (d.g c t ra).toNat

/-! ### Loads, stores and atomics -/

/-- CTC_LOAD (R145, R146, R148, R210). `err` is what the check of the store finds, the core's own or that of a core window of this chip (R227, R228). -/
def execCtcLoad (c t size rd ra : Nat) (imm : Int) (err stall : Nat) (par : Bool) (s : State) : Out :=
  s.runOn (insnOk c t [rd, ra] && immOk imm && sizeOk size) fun d => d.issue c t (par := par) fun d =>
    let a := d.ea c t ra imm
    let f := d.accessFault c a size
    if f ≠ 0 then d.faultHere c t f
    else if bitOf a 63 then
      let (bad, d) := d.readError c a size err
      if bad then d.faultHere c t 6
      else
        let (v, d) := d.loadValue { thread := t, access := 0, size := size } (d.localRead c a size)
        ((d.setG c t rd v).count F.CTC_STALL_LOCAL_V c 0 stall).pcNext c t
    else d.miss c t a (.read size) { thread := t, access := 0, rd := rd, size := size } err

/-- CTC_STORE (R145, R146, R148, R210). `err` is what the check finds of the NS word that a narrow store merges into (R229). -/
def execCtcStore (c t size rs ra : Nat) (imm : Int) (err : Nat) (par : Bool) (s : State) : Out :=
  s.runOn (insnOk c t [rs, ra] && immOk imm && sizeOk size) fun d => d.issue c t (par := par) fun d =>
    let a := d.ea c t ra imm
    let bs := leBytes size (d.g c t rs).toNat
    let f := d.accessFault c a size
    if f ≠ 0 then d.faultHere c t f
    else if bitOf a 63 then (d.localWrite c a bs err).pcNext c t
    else d.miss c t a (.write bs) { thread := t, access := 0, size := size, store := true } err

/-- GLOBAL_LOAD_RETURN (R146, R148): data return to RD, the miss slot frees and the thread becomes ready; a failure faults it. -/
def execGlobalLoadReturn (c k stall : Nat) (s : State) : Out := s.runCore (k < 64) c fun d =>
  let x := (d.core c).ctc
  match x.slots.find? (fun s => s.1 = k) with
  | none => d
  | some (_, m) =>
    match (d.acc m.access).map MemAcc.st with
    | some (.done code bs) =>
      if m.store then d
      else
        let d := d.countStall c stall
        let waits : Bool := decide ((d.thread c m.thread).block = some (.load k))
        let d := d.freeSlot c k m
        let d := if code = 0 then
            let (v, d) := d.loadValue m bs
            let d := d.setG c m.thread m.rd v
            if waits then (d.pcNext c m.thread).due c m.thread else d
          else d.ctcFault c m.thread m.pc (if code = stTranslation then 5 else 6)
        d.settle.showCtc c
    | _ => d

/-- STORE_ACK (R146): a global store frees its slot. `stall` are the cycles of a bank stall that it ends (R211). -/
def execStoreAck (c k stall : Nat) (s : State) : Out := s.runCore (k < 64) c fun d =>
  match (d.core c).ctc.slots.find? (fun s => s.1 = k) with
  | none => d
  | some (_, m) =>
    match (d.acc m.access).map MemAcc.st with
    | some (.done code _) =>
      if !m.store then d
      else
        let d := (d.countStall c stall).freeSlot c k m
        let d := if code = stTranslation then d.ctcFault c m.thread m.pc 5 else d
        d.settle.showCtc c
    | _ => d

/-- An atomic (R237): it takes a miss slot as a load does. T0 and T1 take no atomics (Table 09-3). -/
def Dev.atomic (d : Dev) (c t : Nat) (op : AtomOp) (rd ra rb : Nat) (imm : Int) (par : Bool) : Dev :=
  d.issue c t (par := par) fun d =>
    let a := d.ea c t ra imm
    let n := if op.float then 4 else 8
    let f := if a % n = 0 && bitOf a 63 then 3 else d.accessFault c a n
    if f ≠ 0 then d.faultHere c t f
    else d.miss c t a (.atomic op (d.g c t rb) (d.g c t rd)) { thread := t, access := 0, rd := rd, size := n, float := op.float } 0

/-- The operands of an atomic are in their ranges. -/
def atomicOk (c t rd ra rb : Nat) (imm : Int) : Bool := insnOk c t [rd, ra, rb] && immOk imm

/-- AADD.I: 64-bit wrapping add (Table 09-2). -/
def execAaddI (c t rd ra rb : Nat) (imm : Int) (par : Bool) (s : State) : Out :=
  s.runOn (atomicOk c t rd ra rb imm) fun d => d.atomic c t .addI rd ra rb imm par

/-- AADD.F: FP32 add (Table 09-2). -/
def execAaddF (c t rd ra rb : Nat) (imm : Int) (par : Bool) (s : State) : Out :=
  s.runOn (atomicOk c t rd ra rb imm) fun d => d.atomic c t .addF rd ra rb imm par

/-- AMIN.I: signed minimum (Table 09-2). -/
def execAminI (c t rd ra rb : Nat) (imm : Int) (par : Bool) (s : State) : Out :=
  s.runOn (atomicOk c t rd ra rb imm) fun d => d.atomic c t .minI rd ra rb imm par

/-- AMAX.I: signed maximum (Table 09-2). -/
def execAmaxI (c t rd ra rb : Nat) (imm : Int) (par : Bool) (s : State) : Out :=
  s.runOn (atomicOk c t rd ra rb imm) fun d => d.atomic c t .maxI rd ra rb imm par

/-- AMIN.F: FP32 minimum (Table 09-2). -/
def execAminF (c t rd ra rb : Nat) (imm : Int) (par : Bool) (s : State) : Out :=
  s.runOn (atomicOk c t rd ra rb imm) fun d => d.atomic c t .minF rd ra rb imm par

/-- AMAX.F: FP32 maximum (Table 09-2). -/
def execAmaxF (c t rd ra rb : Nat) (imm : Int) (par : Bool) (s : State) : Out :=
  s.runOn (atomicOk c t rd ra rb imm) fun d => d.atomic c t .maxF rd ra rb imm par

/-- ASWAP (Table 09-2). -/
def execAswap (c t rd ra rb : Nat) (imm : Int) (par : Bool) (s : State) : Out :=
  s.runOn (atomicOk c t rd ra rb imm) fun d => d.atomic c t .swap rd ra rb imm par

/-- ACAS (Table 09-2): compared with RB, stored from the value that RD held. -/
def execAcas (c t rd ra rb : Nat) (imm : Int) (par : Bool) (s : State) : Out :=
  s.runOn (atomicOk c t rd ra rb imm) fun d => d.atomic c t .cas rd ra rb imm par

/-! ### Taps -/

/-- TADD (Table 06-11). -/
def execTadd (c t tap : Nat) (imm : Int) (s : State) : Out := s.runOn (insnOk c t [] && tap < 64 && tapOk imm) fun d =>
  d.issue c t fun d => (d.tapAdd c tap imm).pcNext c t

/-- TSET (Table 06-11). -/
def execTset (c t tap : Nat) (imm : Int) (s : State) : Out := s.runOn (insnOk c t [] && tap < 64 && tapOk imm) fun d =>
  d.issue c t fun d => (d.setTap c tap imm).pcNext c t

/-- TWAIT (R151): blocks until the counter is at the value or below. -/
def execTwait (c t tap : Nat) (imm : Int) (s : State) : Out := s.runOn (insnOk c t [] && tap < 64 && tapOk imm) fun d =>
  d.issue c t fun d =>
    let d := d.pcNext c t
    if d.tap c tap ≤ imm then d else d.blockThread c t (.twait tap imm)

/-- TPOST (R150): a pulse on its way to a core of the same quarter; an LCI that is not valid faults. -/
def execTpost (c t lci tap : Nat) (s : State) : Out := s.runOn (insnOk c t [] && tap < 64) fun d =>
  if d.meshHeld (c / 68) then d else
  d.issue c t fun d =>
    match d.lciCore (c / 68) lci with
    | none => d.faultHere c t 7
    | some k =>
      let p : TapPost := ⟨k, tap⟩
      ({ d with posts := d.posts ++ [p] }.emit (.tpost k tap)).pcNext c t

/-- The staged image that an image switch in progress installs takes core c off (R34). -/
def Dev.goesOff (d : Dev) (c : Nat) : Bool := d.meshHeld (c / 68) && d.img.staged.any (fun s => (s.bind.getD c {}).role = 0)

/-- TPOST_DELIVER (R150): one is subtracted. A flit to a core that the switch in progress takes off is discarded and counted (R34). -/
def execTpostDeliver (c tap : Nat) (s : State) : Out := s.runOn (c < 272 && tap < 64) fun d =>
  let p : TapPost := ⟨c, tap⟩
  if d.posts.contains p then
    let d := { d with posts := d.posts.erase p }
    if d.goesOff c then d.count F.MESH_DROP_V else d.pulse c tap
  else d

/-! ### Tolls -/

/-- TOLL (R153): arrives and blocks the thread until release or failure. -/
def execToll (c t rd b : Nat) (s : State) : Out := s.runOn (insnOk c t [rd] && b < 16) fun d =>
  d.issue c t fun d =>
    match d.tollMember b c with
    | none => d.faultHere c t 8
    | some m => ((d.pcNext c t).blockThread c t (.toll rd b)).tollArrive b { core := c, member := m, thread := some t, rd := rd }

/-- TOLLA (R153): arrives without blocking. -/
def execTolla (c t b tap : Nat) (s : State) : Out := s.runOn (insnOk c t [] && b < 16 && tap < 64) fun d =>
  d.issue c t fun d =>
    match d.tollMember b c with
    | none => d.faultHere c t 8
    | some m => (d.pcNext c t).tollArrive b { core := c, member := m, thread := none, tap := tap }

/-- TOLL_RELEASE (R152): a generation whose members have all arrived is released. -/
def execTollRelease (b : Nat) (s : State) : Out := s.runOn (b < 16) fun d =>
  if !(d.toll b).now.isEmpty && (d.tollMissing b).isEmpty then d.tollOver b false else d

/-- TOLL_TIMEOUT (R154). -/
def execTollTimeout (b : Nat) (s : State) : Out := s.runOn (b < 16) fun d => if d.tollLate b then d.tollExpire b else d

/-- TOLL_RESET (R154): pending arrivals of the channels written 1 fail, without an event. -/
def execTollReset (mask : Nat) (s : State) : Out := s.run fun d =>
  d.each ((List.range 16).filter (fun b => bitOf mask b && !(d.toll b).now.isEmpty)) (fun d b => d.tollOver b true)

/-! ### Issue to other units, fences and threads -/

/-- SGET (R140): RD receives a summary register, once it is valid. -/
def execSget (c t rd summ : Nat) (s : State) : Out := s.runOn (insnOk c t [rd] && summ < 16) fun d =>
  d.issue c t fun d =>
    let d := d.pcNext c t
    let v := (d.core c).vxe
    if v.summValid summ then d.setG c t rd (v.summAt summ) else d.blockThread c t (.sget rd summ)

/-- The fault of a command or descriptor read at a core-local address (R95, R190, Table 06-10): alignment, range, then a storage error. -/
def Dev.localFault (d : Dev) (c a n : Nat) : Nat :=
  if a % n ≠ 0 then 2 else if !d.localOk c a n || !bitOf a 63 then 3 else if d.localBad c a n then 6 else 0

/-- CMX (R95): a 32-byte command goes to the MXE queue. -/
def execCmx (c t ra : Nat) (par : Bool) (s : State) : Out := s.runOn (insnOk c t [ra]) fun d =>
  d.issue c t (par := par) fun d =>
    let a := (d.g c t ra).toNat
    let f := d.localFault c a 32
    if f ≠ 0 then d.faultHere c t f
    else if 16 ≤ (d.core c).mxe.queue.length then d.blockThread c t (.room 2)
    else
      let bs := d.localRead c a 32
      let q : MxeCmd := { words := (List.range 4).map (fun i => leAt bs (8 * i) 8) }
      ((d.updCore c fun k => { k with mxe := { k.mxe with queue := k.mxe.queue ++ [q] } }).put F.MXE_STATUS_QDEPTH c 0
        ((d.core c).mxe.queue.length + 1)).pcNext c t

/-- CSX (R190): a stream descriptor goes to SXU. -/
def execCsx (c t ra : Nat) (par : Bool) (s : State) : Out := s.runOn (insnOk c t [ra]) fun d =>
  d.issue c t (par := par) fun d =>
    let a := (d.g c t ra).toNat
    let f := d.localFault c a 64
    if f ≠ 0 then d.faultHere c t f
    else
      let (ok, d) := d.acceptStream c a
      if ok then (d.pcNext c t).settle else d.blockThread c t (.room 3)

/-- CDB (R215): the doorbell of the DMA channel in RA. -/
def execCdb (c t ra : Nat) (par : Bool) (s : State) : Out := s.runOn (insnOk c t [ra]) fun d =>
  d.issue c t (par := par) fun d =>
    let ch := (d.g c t ra).toNat
    if 15 < ch then d.faultHere c t 1 else (d.dmaRing c ch).pcNext c t

/-- VFENCE (Table 06-8). -/
def execVfence (c t : Nat) (s : State) : Out := s.runOn (insnOk c t []) fun d =>
  d.issue c t fun d =>
    let d := d.pcNext c t
    if (d.core c).vxe.open_.isEmpty then d else d.blockThread c t (.vfence (d.core c).vxe.nextId)

/-- MFENCE (Table 06-8). -/
def execMfence (c t : Nat) (s : State) : Out := s.runOn (insnOk c t []) fun d =>
  d.issue c t fun d =>
    let d := d.pcNext c t
    if (d.core c).ctc.slots.any (fun s => s.2.thread = t) then d.blockThread c t .mfence else d

/-- FENCE: both (Table 06-9). -/
def execFence (c t : Nat) (s : State) : Out := s.runOn (insnOk c t []) fun d =>
  d.issue c t fun d =>
    let d := d.pcNext c t
    if (d.core c).vxe.open_.isEmpty && !(d.core c).ctc.slots.any (fun s => s.2.thread = t) then d
    else d.blockThread c t (.fence (d.core c).vxe.nextId)

/-- HALT (R147). -/
def execHalt (c t : Nat) (s : State) : Out := s.runOn (insnOk c t []) fun d =>
  d.issue c t fun d => (d.pcNext c t).stopThread c t

/-- YIELD (R147): the next ready thread at or after the pointer issues. -/
def execYield (c t : Nat) (s : State) : Out := s.runOn (insnOk c t []) fun d =>
  d.issue c t fun d => (d.pcNext c t).updCtc c fun x => { x with cur := none }

/-- THREAD_WAKE (R147): a blocked thread whose condition has cleared is ready. -/
def execThreadWake (c t : Nat) (s : State) : Out := s.runCore (insnOk c t []) c fun d =>
  if d.unblocked c t then (d.updThread c t fun x => { x with block := none }).showCtc c else d

/-- CTC_RUN_START (R149): the program counter is loaded from CTC_START and the thread is ready, whatever it did before. -/
def execCtcRunStart (c t : Nat) (s : State) : Out := s.runOn (insnOk c t []) fun d =>
  let d := d.put F.CTC_CTL_RUN c 0 (setBit (d.get F.CTC_CTL_RUN c) t true)
  ((d.setPc c t (d.get F.CTC_START_V c t)).updThread c t fun x => { x with live := true, block := none }).showCtc c

/-- CTC_RUN_STOP (R149): the thread stops; a load that it waits for still returns. -/
def execCtcRunStop (c t : Nat) (s : State) : Out := s.runOn (insnOk c t []) fun d =>
  let d := d.put F.CTC_CTL_RUN c 0 (setBit (d.get F.CTC_CTL_RUN c) t false)
  if !(d.thread c t).live then d.showCtc c
  else
    let past : Bool := match (d.thread c t).block with | some (.load _) => true | _ => false
    let d := if past then d.pcNext c t else d
    (d.stopThread c t).showCtc c

/-- TAP_CMD with OP = SET (R151): VALUE is signed, 31 bits (Table 06-20). -/
def execTapCmdSet (c tap value : Nat) (s : State) : Out := s.runOn (c < 272 && tap < 64) fun d => d.setTap c tap (signed 31 value)

/-- TAP_CMD with OP = ADD (Table 06-11). -/
def execTapCmdAdd (c tap value : Nat) (s : State) : Out := s.runOn (c < 272 && tap < 64) fun d => d.tapAdd c tap (signed 31 value)

end Sys2Proof.Machine
end

