-- ==== Sys2Proof/Machine/DmaKv.lean ====
section
/-!
DEFINITION. Sys2Proof/Machine/DmaKv.lean: the meanings of the DMA and KV roll commands (chapters 07 and 08).
-/

namespace Sys2Proof.Machine

/-- DMA_DOORBELL (R215): a write of 1 to bit c rings channel c. -/
def execDmaDoorbell (c mask : Nat) (s : State) : Out := s.runOn (c < 272) fun d =>
  d.each ((List.range 16).filter (fun ch => bitOf mask ch)) (fun d ch => d.dmaRing c ch)

/-- DMA_CHANNEL_SELECT (R216). -/
def execDmaChannelSelect (c : Nat) (s : State) : Out := s.runCore true c fun d => d.dmaSelect c

/-- DMA_DESC_READ (R214, R216, R221, R222). -/
def execDmaDescRead (c err : Nat) (s : State) : Out := s.runCore true c fun d => (d.dmaDescRead c err).settle

/-- COPY (R217, R220): the next line of a COPY, or the next part of a stripe. -/
def execCopy (c err werr : Nat) (s : State) : Out := s.runCore true c fun d => (d.dmaCopyStep c err werr).settle

/-- DRAIN (R219). -/
def execDrain (c : Nat) (s : State) : Out := s.runCore true c fun d => d.dmaDrain c

/-- DMA_COPY_COMPLETE (R218, R220). -/
def execDmaCopyComplete (c : Nat) (s : State) : Out := s.runCore true c fun d => (d.dmaCopyDone c).settle

/-- DMA_DRAIN_COMPLETE (R219). -/
def execDmaDrainComplete (c : Nat) (s : State) : Out := s.runCore true c fun d => (d.dmaDrained c).settle

/-- DMA_RING_WRITE (R212): HEAD and the channel's DMA_RING_ERR bit are cleared; ignored while the channel is PENDING or ACTIVE. -/
def execDmaRingWrite (c ch : Nat) (ctl : Bool) (value : Nat) (s : State) : Out := s.runOn (c < 272 && ch < 16) fun d =>
  if bitOf (d.get F.DMA_STATUS_PENDING c) ch || d.dmaActive c = ch then d
  else
    let d := if ctl then d.put F.DMA_RING_CTL_LOG2SIZE c ch (log2Size value) else d.put F.DMA_RING_BASE_V c ch value
    (d.put F.DMA_RING_HEAD_HEAD c ch 0).put F.DMA_RING_ERR_CH c 0 (setBit (d.get F.DMA_RING_ERR_CH c) ch false)

/-- DMA_DISABLE (R223). -/
def execDmaDisable (c : Nat) (s : State) : Out := s.runOn (c < 272) fun d => d.dmaDisable c

/-- KVR_ARM (R170, R184): an IDLE slot whose range lies in the addressable NS of its core takes the expected fields; otherwise ARM_REFUSED. -/
def execKvrArm (q i : Nat) (s : State) : Out := s.runOn (q < 4 && i < 128) fun d =>
  let base := d.get F.KVR_ADDR_OFFSET q i
  let fits := match d.lciCore q (d.get F.KVR_ADDR_LCI q i) with
    | some c => decide (base + 64 + d.get F.KVR_LEN_LEN q i ≤ d.nsSize c)
    | none => false
  if d.get F.KVR_STATE_STATE q i = 0 && fits then
    let k := d.kvSlot q i
    (d.setKvSlot q i { k with layer := d.get F.KVR_EXPECT_LAYER q i, attempt := d.get F.KVR_EXPECT_ATTEMPT q i
                              step := d.get F.KVR_EXPECT_STEP q i, round := d.get F.KVR_SEL_ROUND q i }).put F.KVR_STATE_STATE q i 1
  else d.put F.KVR_STATE_ARM_REFUSED q i 1

/-- KVR_RELEASE (R170): the slot is IDLE; a filling stripe is counted in KVR_ABORTS and its later writes are rejected. -/
def execKvrRelease (q i : Nat) (s : State) : Out := s.runOn (q < 4 && i < 128) fun d =>
  let d := if d.get F.KVR_STATE_STATE q i = 2 then
      (d.setKvSlot q i { d.kvSlot q i with aborted := true }).count F.KVR_ABORTS_V q
    else d
  d.put F.KVR_STATE_STATE q i 0

/-- A packet on the KV roll channel for this chip, and whether it lies at the base of its slot or in no slot. -/
def Dev.kvAtBase (d : Dev) (p : Packet) : Bool :=
  match d.kvFind (bits p.addr 35 34) (bits p.addr 33 28) (bits p.addr 22 0) with
  | some s => d.get F.KVR_ADDR_OFFSET (bits p.addr 35 34) s = bits p.addr 22 0
  | none => true

/-- A KV roll packet for another chip is forwarded (R311, R313). -/
def Dev.kvForward (d : Dev) (n : Nat) (p : Packet) : Dev :=
  if p.hops = 0 then (d.countRefusal nackTtl).sendNack p nackTtl else d.sendPacket { p with hops := p.hops - 1 } (some n)

/-- KV_HEADER_WRITE (R169, R170): a write at the base of a slot, or in no slot. -/
def execKvHeaderWrite (n : Nat) (p : Packet) (s : State) : Out := s.runFab (n < 16) fun d =>
  if !(p.ptype = 2 && p.vc = 4) then d
  else if p.dst ≠ d.chip then (d.takeRx n p).kvForward n p
  else if d.kvAtBase p then (d.takeRx n p).kvArrive n p
  else d

/-- KV_PAYLOAD_WRITE (R170): a write in a slot beyond its base. -/
def execKvPayloadWrite (n : Nat) (p : Packet) (s : State) : Out := s.runFab (n < 16) fun d =>
  if !(p.ptype = 2 && p.vc = 4) then d
  else if p.dst ≠ d.chip then (d.takeRx n p).kvForward n p
  else if d.kvAtBase p then d
  else (d.takeRx n p).kvArrive n p

/-- KV_BUSY_RESEND (R171): four beats after BUSY the stripe is sent again from its header. -/
def execKvBusyResend (c : Nat) (s : State) : Out := s.runCore true c fun d => d.kvResend c

end Sys2Proof.Machine
end

