-- ==== Sys2Proof/Machine/Mxe.lean ====
section
/-!
DEFINITION. Sys2Proof/Machine/Mxe.lean: the matrix engine (chapter 04): commands and their checks (R95 to R99), the passes of the array (R72 to R82),
accumulators and tiles (R83 to R91), fused drain statistics (R92 to R94), operand errors (R100) and ABORT (R101).
-/

namespace Sys2Proof.Machine

/-! ### Fields of a command (Table 04-5) -/

def mxOpc (w : List Nat) : Nat := bits (wordOf w 0) 7 0
def mxFmtA (w : List Nat) : Nat := bits (wordOf w 0) 15 8
def mxFmtW (w : List Nat) : Nat := bits (wordOf w 0) 23 16
def mxGroup (w : List Nat) : Nat := bits (wordOf w 0) 33 24
def mxM (w : List Nat) : Nat := bits (wordOf w 0) 39 34 + 1
def mxN (w : List Nat) : Nat := bits (wordOf w 0) 45 40 + 1
def mxInit (w : List Nat) : Nat := bits (wordOf w 0) 47 46
def mxEnd (w : List Nat) : Bool := bitOf (wordOf w 0) 48
def mxLdbuf (w : List Nat) : Nat := bits (wordOf w 0) 51 49
def mxKpass (w : List Nat) : Nat := bits (wordOf w 1) 23 0
def mxANs (w : List Nat) : Bool := bitOf (wordOf w 1) 24
def mxWNs (w : List Nat) : Bool := bitOf (wordOf w 1) 25
def mxTap (w : List Nat) : Nat := bits (wordOf w 1) 31 26
def mxDst (w : List Nat) : Nat := bits (wordOf w 1) 34 32
def mxStats (w : List Nat) : Bool := bitOf (wordOf w 1) 35
def mxOut (w : List Nat) : Bool := bitOf (wordOf w 1) 36
def mxMask (w : List Nat) : Nat := bits (wordOf w 1) 38 37
def mxTapEn (w : List Nat) : Bool := bitOf (wordOf w 1) 39
def mxDiag (w : List Nat) : Int := signed 16 (bits (wordOf w 1) 55 40)
def mxAAddr (w : List Nat) : Nat := bits (wordOf w 2) 22 0
def mxARow (w : List Nat) : Nat := bits (wordOf w 2) 39 24
def mxAPass (w : List Nat) : Nat := bits (wordOf w 2) 63 40
def mxWAddr (w : List Nat) : Nat := bits (wordOf w 3) 22 0
def mxScale (w : List Nat) : F32 := BitVec.ofNat 32 (bits (wordOf w 3) 63 32)

/-- The class of a format, 15 for class F; none where MXE does not take it (Table 04-1, R103). -/
def Fmt.cls : Fmt → Option Nat
  | .bf16 | .fp16 => some 1
  | .e4m3 | .e5m2 | .mxe4m3 | .mxe5m2 | .mxe2m3 | .mxe3m2 | .mxint8 => some 2
  | .mxe2m1 => some 4
  | .fp32 => some 15
  | .int32 => none

/-- The class of a format code. -/
def fmtCls (code : Nat) : Option Nat := (Fmt.ofCode code).bind Fmt.cls

/-- K_pass of a class. -/
def clsK (cls : Nat) : Nat := if cls = 15 then 64 else 64 * cls

/-- Bytes of an activation row, scales included (Table 04-1). -/
def mxRowBytes (f : Fmt) : Nat :=
  match f with
  | .bf16 | .fp16 | .e4m3 | .e5m2 => 128
  | .mxe4m3 | .mxe5m2 | .mxint8 => 132
  | .mxe2m3 | .mxe3m2 => 100
  | .mxe2m1 => 136
  | .fp32 | .int32 => 256

/-- WSIZE (Table 04-1). -/
def mxTileBytes (f : Fmt) : Nat :=
  match f with
  | .bf16 | .fp16 | .e4m3 | .e5m2 => 8192
  | .mxe4m3 | .mxe5m2 | .mxint8 => 8448
  | .mxe2m3 | .mxe3m2 => 6400
  | .mxe2m1 => 8704
  | .fp32 | .int32 => 16384

/-- The core-local address of an operand byte. -/
def mxLocal (ns : Bool) (o : Nat) : Nat := 2 ^ 63 + (if ns then 0x1000000 else 0) + o

/-- Bytes of the addressable part of a store. -/
def Dev.storeSize (d : Dev) (c : Nat) (ns : Bool) : Nat := if ns then d.nsSize c else 0x200000

/-- The error code of a command at the head of the queue, 0 for none; of several the lowest (R96, Table 04-7). -/
def Dev.mxCheck (d : Dev) (c : Nat) (w : List Nat) : Nat :=
  let cls := fmtCls (mxFmtA w)
  let held := (d.core c).mxe.tile
  let fA := (Fmt.ofCode (mxFmtA w)).getD .bf16
  let fW := (Fmt.ofCode (mxFmtW w)).getD .bf16
  let k := mxKpass w
  let cont := mxInit w = 2
  let badA := mxAAddr w % 4 ≠ 0 || mxARow w % 4 ≠ 0 || mxAPass w % 4 ≠ 0 || mxARow w < mxRowBytes fA
    || d.storeSize c (mxANs w) < mxAAddr w + (k - 1) * mxAPass w + (mxM w - 1) * mxARow w + mxRowBytes fA
  let badW := mxWAddr w % 64 ≠ 0 || d.storeSize c (mxWNs w) < mxWAddr w + k * mxTileBytes fW
  let dg := mxDiag w
  if mxOpc w ≠ 1 then 1
  else if cls.isNone || fmtCls (mxFmtW w) ≠ cls then 2
  else if d.groups ≤ mxGroup w then 3
  else if k ≠ 0 && (badA || badW) then 4
  else if (mxInit w = 1 && 5 < mxLdbuf w) || (mxEnd w && 5 < mxDst w) then 5
  else if mxEnd w && (mxStats w || mxOut w) && !scaleOk (mxScale w) then 6
  else if mxEnd w && (mxMask w = 3 || (mxMask w = 2 && (dg < 0 || 64 < dg))) then 7
  else if cont && held.isNone then 8
  else if mxInit w ≤ 1 && held.isSome then 9
  else if cont && held.any (fun t => t.group ≠ mxGroup w || some t.cls ≠ cls || t.m ≠ mxM w || t.n ≠ mxN w) then 10
  else if bits (wordOf w 0) 63 52 ≠ 0 || bits (wordOf w 1) 63 56 ≠ 0 || bits (wordOf w 2) 23 23 ≠ 0 || bits (wordOf w 3) 31 23 ≠ 0
      || mxInit w = 3 then 11
  else 0

/-! ### State of the engine -/

/-- Change the matrix engine of a core. -/
def Dev.updMxe (d : Dev) (c : Nat) (f : Mxe → Mxe) : Dev := d.updCore c fun k => { k with mxe := f k.mxe }

/-- MXE_STATUS shows queue, sets and work (Table 04-10). DESIGN CHOICE: HELD reads 0 while a command runs, also one that continues the held tile
(log 65). -/
def Dev.showMxe (d : Dev) (c : Nat) : Dev :=
  let m := (d.core c).mxe
  (((d.put F.MXE_STATUS_QDEPTH c 0 m.queue.length).put F.MXE_STATUS_HELD c 0 (b2n (m.tile.isSome && m.run.isNone))).put F.MXE_STATUS_DRAINING c 0
    (b2n (m.drains.any (·.running)))).put F.MXE_STATUS_BUSY c 0 (b2n (m.run.isSome || !m.drains.isEmpty))

/-- The set that fills next or is filling. -/
def Dev.fillSet (d : Dev) (c : Nat) : Nat := d.get F.MXE_STATUS_FILL_SET c

/-- Accumulator of element (r, n) of a set. -/
def accKey (set r n : Nat) : Nat := 4096 * set + 64 * r + n

/-- The drain that still holds the set of a tile to start (R88). -/
def Dev.setDrain (d : Dev) (c : Nat) : Option MxeDrain := (d.core c).mxe.drains.find? (fun x => x.tile.set = d.fillSet c)

/-- The buffer that a tile loads from is the target of an earlier drain, for which the load waits (R90). -/
def Dev.loadWaits (d : Dev) (c : Nat) (w : List Nat) : Bool :=
  decide (mxInit w = 1) && (d.core c).mxe.drains.any (fun x => mxDst x.words = mxLdbuf w)

/-- The set of a tile to start is free, and the buffer it loads from is not the target of an earlier drain (R88, R90). -/
def Dev.setFree (d : Dev) (c : Nat) (w : List Nat) : Bool := (d.setDrain c).isNone && !d.loadWaits c w

/-- The first row of a tile may enter (R90): its set is free, or will be by the row's first addition seven cycles on. The model counts no cycle of a
drain, so that whether a running one completes by then is a free value (log 65). -/
def Dev.mayEnter (d : Dev) (c : Nat) (w : List Nat) : Bool × Dev :=
  if d.loadWaits c w then (false, d)
  else match d.setDrain c with
    | none => (true, d)
    | some x =>
      if x.running then
        let (v, d) := d.fresh 1
        (decide (v = 1), d)
      else (false, d)

/-- A tile starts in the filling set: cleared, or loaded from a tile buffer (R84, R88). -/
def Dev.startTile (d : Dev) (c : Nat) (w : List Nat) : Dev :=
  let set := d.fillSet c
  let comp := (((d.img.inForce.map (fun (x : Settings) => x.groups)).getD []).getD (mxGroup w) {}).comp
  let t : MxeTile := { set := set, group := mxGroup w, cls := (fmtCls (mxFmtA w)).getD 1, m := mxM w, n := mxN w, comp := comp }
  let v := (d.core c).vxe
  d.updMxe c fun m =>
    let acc := m.acc.filter (fun e => e.1 / 4096 ≠ set)
    let acc := if mxInit w ≠ 1 then acc else
      (List.range t.m).foldl (fun acc r => (List.range t.n).foldl (fun acc n => mset {} acc (accKey set r n) { s := v.elem (mxLdbuf w) r n }) acc) acc
    { m with tile := some t, acc := acc }

/-- A tile ends and waits for its drain (R89). -/
def Dev.endTile (d : Dev) (c : Nat) (w : List Nat) : Dev :=
  match (d.core c).mxe.tile with
  | none => d
  | some t =>
    (d.updMxe c fun m => { m with tile := none, acc := m.acc.filter (fun e => e.1 / 4096 ≠ t.set)
                                  drains := m.drains ++ [{ words := w, tile := t, acc := m.acc.filter (fun e => e.1 / 4096 = t.set) }] }).put
      F.MXE_STATUS_FILL_SET c 0 (1 - t.set)

/-- The command's last row has entered: its tile ends, or its pulse is sent and the tile is held (R97, R98). -/
def Dev.mxFinish (d : Dev) (c : Nat) (w : List Nat) : Dev :=
  let d := d.updMxe c fun m => { m with run := none }
  if mxEnd w then d.endTile c w else if mxTapEn w then d.pulse c (mxTap w) else d

/-! ### Rows of the array (R73 to R83) -/

/-- Operand bytes of a command; those that another unit has written since it was accepted are free values (R79). -/
def Dev.operand (d : Dev) (c : Nat) (ns : Bool) (o n : Nat) (touched : List Nat) : List Byte × Dev :=
  d.spoil (d.localRead c (mxLocal ns o) n) (fun i => touched.contains (b2n ns * 2 ^ 23 + o + i))

/-- Element k of an activation row (R74). -/
def rowElem (f : Fmt) (kp : Nat) (bs : List Byte) (k : Nat) : FVal :=
  let x := f.decode (elemAt f.bits bs k)
  if f.isMx then x.mxScale (leAt bs (kp * f.bits / 8 + k / 32) 1) else x

/-- The weight of tile row k and column n (R74). -/
def tileElem (f : Fmt) (kp : Nat) (bs : List Byte) (k n : Nat) : FVal :=
  let x := f.decode (elemAt f.bits bs (64 * k + n))
  if f.isMx then x.mxScale (leAt bs (64 * kp * f.bits / 8 + 64 * (k / 32) + n) 1) else x

/-- The piece of a class-F operand in a sub-pass (Table 04-3): weights and activations. -/
def piece (w : Bool) (sub : Nat) (v : FVal) : FVal :=
  let p := pieces v
  let which := (if w then [2, 2, 1, 1, 1, 0, 0, 0] else [0, 1, 2, 1, 0, 2, 1, 0]).getD sub 0
  if which = 0 then p.1 else if which = 1 then p.2.1 else p.2.2

/-- The column sum of one row and column (R80 to R82). A class-F operand that is infinite or NaN makes it NaN whatever the other operand holds. -/
def rowColumn (fA fW : Fmt) (cls sub : Nat) (row tile : List Byte) (n : Nat) : F32 :=
  let kp := clsK cls
  columnSum ((List.range kp).map fun k =>
    let a := rowElem fA kp row k
    let w := tileElem fW kp tile k n
    if cls ≠ 15 then a.mul w else if a.special || w.special then .nan else (piece false sub a).mul (piece true sub w))

/-- A weight tile moves into the array with this row (R76): the first row of a pass, in class F of each of its three weight pieces (R82). -/
def MxeRun.loads (r : MxeRun) : Bool := decide (r.row = 0 ∧ (r.sub = 0 ∨ r.sub = 2 ∨ r.sub = 5))

/-- A row of the running command enters and its products are added (R75, R81 to R83). The weight tile is read once, as it is loaded, and serves every
row of the pass (R76). An uncorrectable read poisons the row, or where the tile is loaded every row of the pass (R100). -/
def Dev.enterRow (d : Dev) (c : Nat) (r : MxeRun) (t : MxeTile) (aErr wErr : Nat) : Dev :=
  let w := r.cmd.words
  let fA := (Fmt.ofCode (mxFmtA w)).getD .bf16
  let fW := (Fmt.ofCode (mxFmtW w)).getD .bf16
  let oA := mxAAddr w + r.pass * mxAPass w + r.row * mxARow w
  let oW := mxWAddr w + r.pass * mxTileBytes fW
  let (row, d) := d.operand c (mxANs w) oA (mxRowBytes fA) r.cmd.touched
  let (tile, d) := if r.loads then d.operand c (mxWNs w) oW (mxTileBytes fW) r.cmd.touched else (r.held, d)
  let (badA, d) := d.readError c (mxLocal (mxANs w) oA) (mxRowBytes fA) aErr
  let (badW, d) := if r.loads then d.readError c (mxLocal (mxWNs w) oW) (mxTileBytes fW) wErr else (false, d)
  let badW := r.badW || badW
  let bad := badA || badW
  let d := if bad && !r.poisoned then
      ((d.put F.MXE_STATUS_POISON c 0 1).count F.MXE_POISON_CNT_V c).record .mxePoison (coreSource c 1) []
    else d
  let p := fun (n : Nat) => if bad then f32nan else rowColumn fA fW t.cls r.sub row tile n
  let d := d.updMxe c fun m =>
    { m with acc := (List.range t.n).foldl (fun acc n =>
        let k := accKey t.set r.row n
        mset {} acc k ((mget {} acc k).add t.comp (p n))) m.acc }
  let lastRow := r.row + 1 = t.m
  let lastSub := t.cls ≠ 15 || r.sub = 7
  let r' : MxeRun :=
    if !lastRow then { r with row := r.row + 1, started := true, held := tile, badW := badW, poisoned := r.poisoned || bad }
    else if !lastSub then { r with row := 0, sub := r.sub + 1, started := true, held := tile, badW := badW, poisoned := r.poisoned || bad }
    else { r with row := 0, sub := 0, pass := r.pass + 1, started := true, held := [], badW := false, poisoned := false }
  let d := d.updMxe c fun m => { m with run := some r' }
  let d := if lastRow && lastSub then d.count F.MXE_PASSES_V c else d
  if r'.pass = mxKpass w then d.mxFinish c w else d

/-! ### Drains (R85, R89, R92 to R94) -/

/-- A drained element after masking (R85, R92). -/
def MxeDrain.drained (x : MxeDrain) (r n : Nat) : F32 :=
  let v := (mget {} x.acc (accKey x.tile.set r n)).drain x.tile.comp
  let m := mxMask x.words
  if m = 1 && (r : Int) + mxDiag x.words < n then f32ninf else if m = 2 && mxDiag x.words ≤ n then f32ninf else v

/-- One row of a drain reaches buffer DST, with its statistics where STATS = 1 (R93, R94). -/
def Dev.drainRow (d : Dev) (c : Nat) (x : MxeDrain) (r : Nat) : Dev :=
  let w := x.words
  let xs := (List.range x.tile.n).map (x.drained r)
  let st := rowStat (mxScale w) xs
  let ys := if mxOut w then xs.map (rowExp st.m (mxScale w)) else xs
  d.updVxe c fun v =>
    let v := ys.zipIdx.foldl (fun v e => v.setElem (mxDst w) r e.2 e.1) v
    if mxStats w then v.setSide (mxDst w) r { v.sideAt (mxDst w) r with m := st.m, l := st.l, cls := st.cls } else v

/-! ### The commands -/

/-- The queue may give up its head (R95, R99, Table 04-9). -/
def Dev.mxTakes (d : Dev) (c : Nat) : Bool := !d.flag F.MXE_CTL_PAUSE c && !d.flag F.MXE_STATUS_ERR c

/-- MM (R96, R99): the head of the queue, not a MARK, is checked and starts its passes. A command without a pass does its work at once. -/
def Dev.mxStart (d : Dev) (c : Nat) : Dev :=
  let m := (d.core c).mxe
  match m.queue with
  | [] => d
  | q :: rest =>
    let w := q.words
    if !d.mxTakes c || m.run.isSome || mxOpc w = 2 then d
    else
      let code := d.mxCheck c w
      let pop := fun (d : Dev) => d.updMxe c fun m => { m with queue := rest }
      if code ≠ 0 then
        let d := (((pop d).put F.MXE_STATUS_ERR c 0 1).put F.MXE_STATUS_ERR_CODE c 0 code).put F.MXE_ERR_CMD_V c 0 (wordOf w 0)
        d.record .mxeCmdError (coreSource c 1) [(1, code), (8, wordOf w 0)]
      else if mxKpass w ≠ 0 then (pop d).updMxe c fun m => { m with run := some { cmd := q, started := mxInit w = 2 } }
      else if mxInit w = 2 then (pop d).mxFinish c w
      else if !d.setFree c w then d
      else ((pop d).startTile c w).mxFinish c w

/-- MM (R96). -/
def execMm (c : Nat) (s : State) : Out := s.runCore true c fun d => (d.mxStart c).showMxe c

/-- MARK (R98): it pulses when every earlier command has completed. -/
def execMark (c : Nat) (s : State) : Out := s.runCore true c fun d =>
  let m := (d.core c).mxe
  match m.queue with
  | [] => d
  | q :: rest =>
    if !d.mxTakes c || m.run.isSome || !m.drains.isEmpty || mxOpc q.words ≠ 2 then d
    else
      let d := (d.updMxe c fun m => { m with queue := rest }).showMxe c
      if mxTapEn q.words then d.pulse c (mxTap q.words) else d

/-- MXE_ROW_ENTRY (R75, R90): `feed` cycles passed without entry for want of operands or weights; a row whose tile finds no free set waits a cycle.
DESIGN CHOICE: a cycle in which it waits for a buffer that an earlier drain is still writing counts in MXE_STALL_DRAIN too (log 65). -/
def execMxeRowEntry (c aErr wErr feed : Nat) (s : State) : Out := s.runCore true c fun d =>
  match (d.core c).mxe.run with
  | none => d
  | some r =>
    -- under the fast limiter rows enter in alternate cycles (R388)
    if d.pwr.fast && (d.core c).mxe.skip then d.updMxe c fun m => { m with skip := false } else
    let d := d.updMxe c fun m => { m with skip := d.pwr.fast }
    let d := if feed = 0 then d else d.count F.MXE_STALL_FEED_V c 0 feed
    let w := r.cmd.words
    let (go, d) := if r.started then (true, d) else d.mayEnter c w
    if !go then d.count F.MXE_STALL_DRAIN_V c
    else
      let d := if r.started then d else d.startTile c w
      match (d.core c).mxe.tile with
      | some t => (d.enterRow c r t aErr wErr).showMxe c
      | none => d

/-- MXE_DRAIN_START (R89, R90): no VXE instruction that runs names buffer DST. -/
def execMxeDrainStart (c : Nat) (s : State) : Out := s.runCore true c fun d =>
  let k := d.core c
  match k.mxe.drains with
  | [] => d
  | x :: rest =>
    let inUse := (k.vxe.vrun.toList ++ k.vxe.xrun.toList).any (fun i => i.buffers.contains (mxDst x.words))
    if x.running || inUse then d
    else (d.updMxe c fun m => { m with drains := { x with running := true } :: rest }).showMxe c

/-- MXE_DRAIN_COMPLETE (R88, R89, R98): the rows and statistics are in buffer DST, the set is free, the pulse is sent. -/
def execMxeDrainComplete (c : Nat) (s : State) : Out := s.runCore true c fun d =>
  match (d.core c).mxe.drains with
  | [] => d
  | x :: rest =>
    if !x.running then d
    else
      let d := d.each (List.range x.tile.m) (fun d r => d.drainRow c x r)
      let d := (d.updMxe c fun m => { m with drains := rest }).showMxe c
      let d := if mxTapEn x.words then d.pulse c (mxTap x.words) else d
      d.vecPump c

/-- Rows of a tile buffer from r on become free values, with their statistics (R101). -/
def Dev.freeRows (d : Dev) (c b r n : Nat) : Dev :=
  d.each ((List.range (n - r)).map (· + r)) fun d i =>
    let (x, d) := d.fresh 2048
    let d := d.updVxe c fun v => (List.range 64).foldl (fun v k => v.setElem b i k (BitVec.ofNat 32 (x / 2 ^ (32 * k)))) v
    d.freeSide c b i

/-- MXE_ABORT (R101). The rows of DST that the drain had finished hold their values, and those of LDBUF that the load had finished theirs; the others
are undefined. The model counts no cycle, so that how far either had come, by pairs of rows, is a free value; a load has read at least two rows for
each row that entered (R88). DESIGN CHOICE: FILL_SET stays as it was (log 65). -/
def execMxeAbort (c : Nat) (s : State) : Out := s.runOn (c < 272) fun d =>
  let m := (d.core c).mxe
  let d := match m.drains with
    | x :: _ =>
      if x.running then
        let (v, d) := d.fresh 8
        let n := min x.tile.m (2 * (v % (ceilDiv x.tile.m 2 + 1)))
        (d.each (List.range n) (fun d r => d.drainRow c x r)).freeRows c (mxDst x.words) n x.tile.m
      else d
    | [] => d
  let d := match m.run with
    | some r =>
      let rows := mxM r.cmd.words
      if r.started && mxInit r.cmd.words = 1 && r.pass = 0 && r.sub = 0 && 2 * r.row < rows then
        let (v, d) := d.fresh 8
        let n := min rows (2 * (r.row + v % (ceilDiv rows 2 + 1)))
        d.freeRows c (mxLdbuf r.cmd.words) n rows
      else d
    | none => d
  ((d.updMxe c fun _ => {}).showMxe c).vecPump c

/-- MXE_ERR_CLEAR (R99): 1 written to ERR. -/
def execMxeErrClear (c : Nat) (s : State) : Out := s.runOn (c < 272) fun d => d.put F.MXE_STATUS_ERR c 0 0

end Sys2Proof.Machine
end

