-- ==== Sys2Proof/Machine/Shard.lean ====
section
/-!
DEFINITION. Sys2Proof/Machine/Shard.lean: the meanings of the bank, ledger and step commands (chapter 13).
-/

namespace Sys2Proof.Machine

/-- SHD_GATHER (R368). -/
def execShdGather (c pass g : Nat) (s : State) : Out := s.runOn (c < 272 && pass < 2 && g < 1024) fun d => d.gather c (pass = 1) g

/-- OPEN (Table 13-4): the current bank is not opened. -/
def execOpenBank (b v : Nat) (s : State) : Out := s.runOn (b < 2) fun d =>
  if d.currentBank = some b then d.shdRefuse
  else (((d.put F.SHD_BANK_VER_V 0 b v).put F.SHD_BANK_STATE_MISMATCH 0 b 0).put F.SHD_BANK_STATE_STATE 0 b 1).showShd

/-- READY (Table 13-4): only a FILLING bank without MISMATCH. -/
def execReady (b : Nat) (s : State) : Out := s.runOn (b < 2) fun d =>
  if d.get F.SHD_BANK_STATE_STATE 0 b = 1 && !d.flag F.SHD_BANK_STATE_MISMATCH 0 b then (d.put F.SHD_BANK_STATE_STATE 0 b 2).showShd
  else d.shdRefuse

/-- DROP (Table 13-4). -/
def execDrop (b : Nat) (s : State) : Out := s.runOn (b < 2) fun d => d.dropBank b

/-- CLEAR_LEDGER (R369). -/
def execClearLedger (s : State) : Out := s.run fun d => d.clearLedger

/-- RETIRED (R375): the snapshot is discarded. -/
def execRetired (s : State) : Out := s.run fun d => d.dropSnapshot

/-- UNDO_CLOSE (R377). -/
def execUndoClose (s : State) : Out := s.run fun d => d.undoClose

end Sys2Proof.Machine
end

