-- ==== Sys2Proof/Machine/Streams.lean ====
section
/-!
DEFINITION. Sys2Proof/Machine/Streams.lean: the meanings of the stream, prefetch, translation and shared-cache commands (chapters 08 and 09).
-/

namespace Sys2Proof.Machine

/-- Cores of the device: 68 in each of four quarters. -/
def nCores : Nat := 272

/-- STREAM_GATE_PASS (R193). -/
def execStreamGatePass (c k : Nat) (s : State) : Out := s.runCore (k < 16) c fun d => (d.passGate c k).settle

/-- STREAM_LINE_LAND (R194 to R198). -/
def execStreamLineLand (c tag err : Nat) (s : State) : Out := s.runCore true c fun d => (d.landLine c tag err).settle

/-- PREFETCH_ISSUE (R200 to R202). -/
def execPrefetchIssue (c k : Nat) (s : State) : Out := s.runCore (k < 16) c fun d => (d.issueAhead c k).settle

/-- PREFETCH_FILL (R201). -/
def execPrefetchFill (c tag : Nat) (s : State) : Out := s.runCore true c fun d => (d.aheadFilled c tag).settle

/-- PREFETCH_TUNE (R204). -/
def execPrefetchTune (c : Nat) (s : State) : Out := s.runCore true c fun d => d.tuneAhead c

/-- PF_AUTO_CLEAR (R204): every context returns to its PF_DEPTH. -/
def execPfAutoClear (c : Nat) (s : State) : Out := s.runOn (c < nCores) fun d =>
  (d.put F.SXU_PF_CTL_AUTO c 0 0).updSxu c fun x => { x with ctx := x.ctx.map (fun e => (e.1, { e.2 with depth := e.2.pfDepth })) }

/-- RELAY_HOP (R207 to R209). -/
def execRelayHop (c n : Nat) (s : State) : Out := s.runCore (n < 4) c fun d => d.relayHop c n

/-- SXU_ABORT (R199). -/
def execSxuAbort (c : Nat) (s : State) : Out := s.runOn (c < nCores) fun d => d.abortStreams c

/-- TRANSLATION_WALK_DONE (R187, R188, R202). -/
def execTranslationWalkDone (id : Nat) (err : Bool) (s : State) : Out := s.run fun d =>
  match d.acc id with
  | some a => (if a.st = .walk then d.walkDone a err else d).settle.freWake
  | none => d

/-- XLT_INVAL (R189): the caches drop the entries; INVAL_BUSY lasts until walks and requests under them are done. -/
def execXltInval (all : Bool) (granule : Nat) (s : State) : Out := s.run fun d =>
  if d.flag F.XLT_STATUS_INVAL_BUSY then d.putD F.XLT_STATUS_INVAL_REFUSED 1
  else
    let hit : Nat → Bool := fun g => all || g = granule
    let walks := (d.sys.accs.filter (fun (a : MemAcc) => a.st = .walk && hit (a.at_ % 2 ^ 40 / 65536))).map MemAcc.id
    let opened := (d.sys.accs.filter (fun (a : MemAcc) => a.under d.chip hit)).map MemAcc.id
    let d := d.dropXlt hit
    { d with sys := { d.sys with staleWalks := walks, draining := opened } }.putD F.XLT_STATUS_INVAL_BUSY 1

/-- INVAL_COMPLETE (R189). -/
def execInvalComplete (s : State) : Out := s.run fun d =>
  let left := d.sys.draining.filter (fun id => match d.acc id with
    | some a => (match a.st with | .done _ _ => false | _ => true)
    | none => false)
  if d.sys.staleWalks.isEmpty && left.isEmpty then
    { d with sys := { d.sys with draining := [] } }.putD F.XLT_STATUS_INVAL_BUSY 0
  else d

/-- NS_SCRUB (R227, R230): with SCRUB_EN, one line of the addressable part is read; an uncorrectable word is counted and left. -/
def execNsScrub (c line outcome : Nat) (s : State) : Out := s.runOn (c < nCores) fun d =>
  if d.flag F.MEM_CTL_SCRUB_EN c && 64 * line + 64 ≤ d.nsSize c then
    let l := LocalAt.ns (64 * line)
    (d.storeErrors c l 64 outcome).2
  else d

/-- SHC_REQUEST (R231 to R239, R435): a read or write accepted by its home slice; none while its clock is gated (Table 03-2). -/
def execShcRequest (id err slack : Nat) (s : State) : Out := s.run fun d =>
  if d.clk.safe then d else
  match d.acc id with
  | some a =>
    match a.st, a.op with
    | .slice _, .atomic _ _ _ => d
    | .slice pa, _ => ((d.updAcc id fun a => { a with slack := slack }).sliceAccept { a with slack := slack } pa err).settle
    | _, _ => d
  | none => d

/-- ATOMIC_REQUEST (R236, R237): an atomic accepted by its home slice; none while its clock is gated (Table 03-2). -/
def execAtomicRequest (id err : Nat) (s : State) : Out := s.run fun d =>
  if d.clk.safe then d else
  match d.acc id with
  | some a =>
    match a.st, a.op with
    | .slice pa, .atomic _ _ _ => (d.sliceAccept a pa err).settle
    | _, _ => d
  | none => d

/-- TIER_REQUEST_TIMEOUT (R241): a request to T4 or T5 without an answer in its window fails with LINK_ERROR; a later answer finds nothing. -/
def execTierRequestTimeout (id : Nat) (s : State) : Out := s.run fun d =>
  match d.acc id with
  | some a =>
    match a.st with
    | .remote _ =>
      if a.addr / 2 ^ 40 = d.chip && a.issued + 65536 * atLeast1 (d.get F.POOL_TIMEOUT_BEATS) ≤ d.now then
        let d := { d with fab := { d.fab with reqs := d.fab.reqs.filter (fun r => r.waiter ≠ Waiter.access id) }
                          hl := { d.hl with reqs := d.hl.reqs.filter (fun r => r.waiter ≠ Waiter.access id) } }
        d.accDone id stLinkError []
      else d
    | _ => d
  | none => d

end Sys2Proof.Machine
end

