-- ==== Sys2Proof/Machine/Vector.lean ====
section
/-!
DEFINITION. Sys2Proof/Machine/Vector.lean: the meanings of the VXE and XLR commands (chapter 06). A row named by an instruction is its issue by a
thread (R147): the word goes to its unit's queue, where Table 06-12 checks it at the head, and it executes as the unit takes it.
-/

namespace Sys2Proof.Machine

/-- The operands name a core and a thread. -/
def threadOk (c t : Nat) : Bool := c < 272 && t < 8

/-- VADD: opcode 0x80 of Table 06-4. -/
def execVadd (c t fields err : Nat) (s : State) : Out := s.runOn (threadOk c t) fun d => d.vecIssue c t 0x80 fields err

/-- VSUB: opcode 0x81 of Table 06-4. -/
def execVsub (c t fields err : Nat) (s : State) : Out := s.runOn (threadOk c t) fun d => d.vecIssue c t 0x81 fields err

/-- VMUL: opcode 0x82 of Table 06-4. -/
def execVmul (c t fields err : Nat) (s : State) : Out := s.runOn (threadOk c t) fun d => d.vecIssue c t 0x82 fields err

/-- VFMA: opcode 0x83 of Table 06-4. -/
def execVfma (c t fields err : Nat) (s : State) : Out := s.runOn (threadOk c t) fun d => d.vecIssue c t 0x83 fields err

/-- VMIN: opcode 0x84 of Table 06-4. -/
def execVmin (c t fields err : Nat) (s : State) : Out := s.runOn (threadOk c t) fun d => d.vecIssue c t 0x84 fields err

/-- VMAX: opcode 0x85 of Table 06-4. -/
def execVmax (c t fields err : Nat) (s : State) : Out := s.runOn (threadOk c t) fun d => d.vecIssue c t 0x85 fields err

/-- VDIV: opcode 0x86 of Table 06-4. -/
def execVdiv (c t fields err : Nat) (s : State) : Out := s.runOn (threadOk c t) fun d => d.vecIssue c t 0x86 fields err

/-- VSQRT: opcode 0x87 of Table 06-4. -/
def execVsqrt (c t fields err : Nat) (s : State) : Out := s.runOn (threadOk c t) fun d => d.vecIssue c t 0x87 fields err

/-- VEXP2: opcode 0x88 of Table 06-4. -/
def execVexp2 (c t fields err : Nat) (s : State) : Out := s.runOn (threadOk c t) fun d => d.vecIssue c t 0x88 fields err

/-- VLOG2: opcode 0x89 of Table 06-4. -/
def execVlog2 (c t fields err : Nat) (s : State) : Out := s.runOn (threadOk c t) fun d => d.vecIssue c t 0x89 fields err

/-- VRSQRT: opcode 0x8A of Table 06-4. -/
def execVrsqrt (c t fields err : Nat) (s : State) : Out := s.runOn (threadOk c t) fun d => d.vecIssue c t 0x8A fields err

/-- VCMP: opcode 0x8C of Table 06-4. -/
def execVcmp (c t fields err : Nat) (s : State) : Out := s.runOn (threadOk c t) fun d => d.vecIssue c t 0x8C fields err

/-- VSEL: opcode 0x8D of Table 06-4. -/
def execVsel (c t fields err : Nat) (s : State) : Out := s.runOn (threadOk c t) fun d => d.vecIssue c t 0x8D fields err

/-- VADDH: opcode 0x90 of Table 06-4. -/
def execVaddh (c t fields err : Nat) (s : State) : Out := s.runOn (threadOk c t) fun d => d.vecIssue c t 0x90 fields err

/-- VMULH: opcode 0x91 of Table 06-4. -/
def execVmulh (c t fields err : Nat) (s : State) : Out := s.runOn (threadOk c t) fun d => d.vecIssue c t 0x91 fields err

/-- VFMAH: opcode 0x92 of Table 06-4. -/
def execVfmah (c t fields err : Nat) (s : State) : Out := s.runOn (threadOk c t) fun d => d.vecIssue c t 0x92 fields err

/-- VCVT: opcode 0x98 of Table 06-4. -/
def execVcvt (c t fields err : Nat) (s : State) : Out := s.runOn (threadOk c t) fun d => d.vecIssue c t 0x98 fields err

/-- VPACK: opcode 0x99 of Table 06-4. -/
def execVpack (c t fields err : Nat) (s : State) : Out := s.runOn (threadOk c t) fun d => d.vecIssue c t 0x99 fields err

/-- VUNPK: opcode 0x9A of Table 06-4. -/
def execVunpk (c t fields err : Nat) (s : State) : Out := s.runOn (threadOk c t) fun d => d.vecIssue c t 0x9A fields err

/-- VPERM: opcode 0xA0 of Table 06-4. -/
def execVperm (c t fields err : Nat) (s : State) : Out := s.runOn (threadOk c t) fun d => d.vecIssue c t 0xA0 fields err

/-- VSHUF: opcode 0xA1 of Table 06-4. -/
def execVshuf (c t fields err : Nat) (s : State) : Out := s.runOn (threadOk c t) fun d => d.vecIssue c t 0xA1 fields err

/-- VLD: opcode 0xA8 of Table 06-4. -/
def execVld (c t fields err : Nat) (s : State) : Out := s.runOn (threadOk c t) fun d => d.vecIssue c t 0xA8 fields err

/-- VST: opcode 0xA9 of Table 06-4. -/
def execVst (c t fields err : Nat) (s : State) : Out := s.runOn (threadOk c t) fun d => d.vecIssue c t 0xA9 fields err

/-- VCOMP: opcode 0xAC of Table 06-4. -/
def execVcomp (c t fields err : Nat) (s : State) : Out := s.runOn (threadOk c t) fun d => d.vecIssue c t 0xAC fields err

/-- VEXPD: opcode 0xAD of Table 06-4. -/
def execVexpd (c t fields err : Nat) (s : State) : Out := s.runOn (threadOk c t) fun d => d.vecIssue c t 0xAD fields err

/-- VSETC: opcode 0xAE of Table 06-4. -/
def execVsetc (c t fields err : Nat) (s : State) : Out := s.runOn (threadOk c t) fun d => d.vecIssue c t 0xAE fields err

/-- VSBR: opcode 0xB0 of Table 06-4. -/
def execVsbr (c t fields err : Nat) (s : State) : Out := s.runOn (threadOk c t) fun d => d.vecIssue c t 0xB0 fields err

/-- VSBW: opcode 0xB1 of Table 06-4. -/
def execVsbw (c t fields err : Nat) (s : State) : Out := s.runOn (threadOk c t) fun d => d.vecIssue c t 0xB1 fields err

/-- VSBC: opcode 0xB2 of Table 06-4. -/
def execVsbc (c t fields err : Nat) (s : State) : Out := s.runOn (threadOk c t) fun d => d.vecIssue c t 0xB2 fields err

/-- VXR: opcode 0xB3 of Table 06-4. -/
def execVxr (c t fields err : Nat) (s : State) : Out := s.runOn (threadOk c t) fun d => d.vecIssue c t 0xB3 fields err

/-- VMSTAT: opcode 0xB4 of Table 06-4. -/
def execVmstat (c t fields err : Nat) (s : State) : Out := s.runOn (threadOk c t) fun d => d.vecIssue c t 0xB4 fields err

/-- VMAXPY: opcode 0xB5 of Table 06-4. -/
def execVmaxpy (c t fields err : Nat) (s : State) : Out := s.runOn (threadOk c t) fun d => d.vecIssue c t 0xB5 fields err

/-- VFIN: opcode 0xB6 of Table 06-4. -/
def execVfin (c t fields err : Nat) (s : State) : Out := s.runOn (threadOk c t) fun d => d.vecIssue c t 0xB6 fields err

/-- TTRANS: opcode 0xB8 of Table 06-4. -/
def execTtrans (c t fields err : Nat) (s : State) : Out := s.runOn (threadOk c t) fun d => d.vecIssue c t 0xB8 fields err

/-- XSUM: opcode 0xC0 of Table 06-4. -/
def execXsum (c t fields err : Nat) (s : State) : Out := s.runOn (threadOk c t) fun d => d.vecIssue c t 0xC0 fields err

/-- XMAX: opcode 0xC1 of Table 06-4. -/
def execXmax (c t fields err : Nat) (s : State) : Out := s.runOn (threadOk c t) fun d => d.vecIssue c t 0xC1 fields err

/-- XMIN: opcode 0xC2 of Table 06-4. -/
def execXmin (c t fields err : Nat) (s : State) : Out := s.runOn (threadOk c t) fun d => d.vecIssue c t 0xC2 fields err

/-- XCNT: opcode 0xC3 of Table 06-4. -/
def execXcnt (c t fields err : Nat) (s : State) : Out := s.runOn (threadOk c t) fun d => d.vecIssue c t 0xC3 fields err

/-- XFLAG: opcode 0xC4 of Table 06-4. -/
def execXflag (c t fields err : Nat) (s : State) : Out := s.runOn (threadOk c t) fun d => d.vecIssue c t 0xC4 fields err

/-- XARGMAX: opcode 0xC5 of Table 06-4. -/
def execXargmax (c t fields err : Nat) (s : State) : Out := s.runOn (threadOk c t) fun d => d.vecIssue c t 0xC5 fields err

/-- XCOLACC: opcode 0xC6 of Table 06-4. -/
def execXcolacc (c t fields err : Nat) (s : State) : Out := s.runOn (threadOk c t) fun d => d.vecIssue c t 0xC6 fields err

/-- XCLR: opcode 0xC7 of Table 06-4. -/
def execXclr (c t fields err : Nat) (s : State) : Out := s.runOn (threadOk c t) fun d => d.vecIssue c t 0xC7 fields err

/-- VECTOR_INSN_COMPLETE (R133, R134): the running instruction of a unit completes and its pulse is sent. -/
def execVectorInsnComplete (c : Nat) (xlr : Bool) (stall : Nat) (s : State) : Out := s.runCore true c fun d => d.vecComplete c xlr stall

/-- VXE_ERR_CLEAR (R155): the queue resumes with the next instruction. -/
def execVxeErrClear (c : Nat) (s : State) : Out := s.runOn (c < 272) fun d => d.vecResume c false

/-- XLR_ERR_CLEAR (R155). -/
def execXlrErrClear (c : Nat) (s : State) : Out := s.runOn (c < 272) fun d => d.vecResume c true

/-- VXE_ABORT (R156). -/
def execVxeAbort (c : Nat) (s : State) : Out := s.runOn (c < 272) fun d => d.vecAbort c

end Sys2Proof.Machine
end

