-- ==== Sys2Proof/Machine/Faults.lean ====
section
/-!
DEFINITION. Sys2Proof/Machine/Faults.lean: the meanings of the commands and events of chapter 15: rewind (R405 to R409), failed cores (R411, R412),
liveness and the knell (R413 to R417), takeover (R418 to R422).
-/

namespace Sys2Proof.Machine

/-- Carry out a meaning inside another one. -/
def Dev.via (d : Dev) (m : State → Out) : Dev :=
  match m { dev := d } with
  | .next t => t.dev
  | _ => d

/-- The cores whose clocks are not gated. -/
def Dev.liveCores (d : Dev) : List Nat := (List.range 272).filter (fun c => !d.gated c)

/-! ### Rewind -/

/-- REWIND (R405, R407, R409): an order received on port n, or written to FLT_CMD (n = 16). -/
def execRewind (n : Nat) (p : Packet) (s : State) : Out := s.runOn (n < 17) fun d =>
  if n = 16 then (if d.rewindStates then d else d.originateOrder false)
  else if (faultMsg p).ctype ≠ 0x10 then d
  else d.floodIn n p fun d m =>
    let d := if d.orderGreater m.step m.attempt then d.obey m.step m.attempt else d
    if m.hold = 2 then d.addHold ⟨m.chip, true⟩ else d

/-- Order 1 of Table 13-7 on one core: its threads halt, MXE, VXE and SXU abort, DMA DISABLE is set and cleared. -/
def Dev.haltCore (d : Dev) (c : Nat) : Dev :=
  let d := d.each (List.range 8) fun d t => d.via (execCtcRunStop c t)
  let d := ((d.via (execMxeAbort c)).vecAbort c).abortStreams c
  (d.dmaDisable c).put F.DMA_CTL_DISABLE c 0 0

/-- Order 2 of Table 13-7: collective slots of step s and lower, and every toll channel. -/
def Dev.resetStep (d : Dev) (s : Nat) : Dev :=
  let d := d.each ((d.col.slots.filter (fun (e : Nat × ColSlot) => d.get F.COL_STATE_STATE 0 e.1 ≠ 0 && e.2.step ≤ s)).map (·.1)) Dev.colReset
  d.each (List.range 16) fun d b => d.tollOver b true

/-- Order 3 of Table 13-7: the KV roll slots that were armed are armed again with the new ATTEMPT. -/
def Dev.rearmKv (d : Dev) (a : Nat) : Dev :=
  d.each (List.range 512) fun d k =>
    let q := k / 128
    let i := k % 128
    if d.get F.KVR_STATE_STATE q i = 0 then d
    else ((d.via (execKvrRelease q i)).put F.KVR_EXPECT_ATTEMPT q i a).via (execKvrArm q i)

/-- Orders 4 and 5 of Table 13-7: the close of step s undone, the bank opened for it dropped, the ledger cleared. -/
def Dev.undoStep (d : Dev) (s : Nat) : Dev :=
  let closed : Bool := match d.num.snapshot with | some p => p.atStep = s | none => false
  let d := if closed then
      (d.undoClose).each [0, 1] fun d b => if d.get F.SHD_BANK_STATE_STATE 0 b ≠ 0 && d.bankVer b = s then d.dropBank b else d
    else d
  let d := { d with num := { d.num with gnz := [], gexp := [] } }
  d.clearLedger

/-- REWIND_COMPLETE (R407 steps 4 to 6, Table 13-7). -/
def execRewindComplete (s : State) : Out := s.run fun d =>
  if d.fltState ≠ 1 then d
  else
    let st := d.get F.FLT_PROGRESS_STEP
    let d := d.disarmAll
    let d := d.each d.liveCores Dev.haltCore
    let d := ((d.resetStep st).rearmKv (d.get F.FLT_PROGRESS_ATTEMPT)).undoStep st
    ((d.recordOnly .rewindDone (devSource 0) []).putD F.FLT_STATUS_STATE 2).maybeReady

/-- FLT_PROGRESS_WRITE (R408, R409): the step in progress and its attempt; a READY device is SERVICE. -/
def execFltProgressWrite (step attempt : Nat) (s : State) : Out := s.run fun d =>
  let d := (d.putD F.FLT_PROGRESS_STEP step).putD F.FLT_PROGRESS_ATTEMPT attempt
  let st := d.get F.FLT_PROGRESS_STEP
  let d := if d.flt.firstStep = st then d
    else { d with flt := { d.flt with firstStep := st, firstAttempt := d.get F.FLT_PROGRESS_ATTEMPT } }
  if d.fltState = 3 then d.putD F.FLT_STATUS_STATE 0 else d

/-! ### Failed cores and repair -/

/-- OSC_LOCK_LOSS (R411): the core fails. -/
def execOscLockLoss (c : Nat) (s : State) : Out := s.runOn (c < 272) fun d => if d.gated c then d else d.failCore c

/-- REPAIRED (R412): the companion has made the swap. -/
def execRepaired (s : State) : Out := s.run fun d => d.repairCheck

/-! ### Knells and liveness -/

/-- KNELL (R416, Table 15-6): SOFTWARE, or CONFIG_LOST for an uncorrectable error in the image settings held on chip (Table 15-7). -/
def execKnell (configLost : Bool) (s : State) : Out := s.run fun d => d.knell (if configLost then 0x07 else 0x06)

/-- KNELL_RECEIVE (R410, R415, R417). -/
def execKnellReceive (n : Nat) (p : Packet) (s : State) : Out := s.runOn (n < 16) fun d =>
  if (faultMsg p).ctype = 0x30 then d.floodIn n p Dev.actKnell else d

/-- HEARTBEAT (R413, R414): the partner's chip id, INC and serial are kept, and the window starts again. -/
def execHeartbeat (n : Nat) (p : Packet) (s : State) : Out := s.runOn (n < 16) fun d =>
  let m := faultMsg p
  if m.ctype ≠ 1 then d
  else
    let d := d.takeMsg n p
    d.setPort n { d.port n with liveFrom := some d.now, hbChip := m.chip, hbInc := m.inc, hbSerial := m.serial }

/-- The liveness window of a port ended without a HEARTBEAT, or the port left UP for FAILED or DISABLED (R414). -/
def Dev.pingOwed (d : Dev) (n : Nat) : Bool :=
  let t := d.port n
  let ended : Bool := match t.liveFrom with
    | some b => (d.portState n = 3 || d.portState n = 4) && !d.flag F.FAB_PORT_STATUS_QUAR (n / 4) (n % 4) && b + 64 * 65536 ≤ d.now
    | none => false
  d.flag F.FLT_CTL_LIVE_EN && d.fltState ≠ 7 && t.pingAt.isNone && (t.leftUp || ended)

/-- LIVENESS_TIMEOUT (R414): a PING to the partner's chip id. -/
def execLivenessTimeout (n : Nat) (s : State) : Out := s.runOn (n < 16) fun d =>
  if !d.pingOwed n then d
  else
    let d := d.count F.FLT_LIVE_MISS_V
    let d := d.setPort n { d.port n with pingAt := some d.now, leftUp := false }
    d.sendRouted (d.message 2 d.chip (d.get F.FLT_INCARNATION_INC) d.serial) (d.partner n)

/-- PING (R414): answered with a PONG. -/
def execPing (n : Nat) (p : Packet) (s : State) : Out := s.runOn (n < 17) fun d =>
  if (faultMsg p).ctype ≠ 2 then d
  else d.routedIn n p fun d _ => d.sendRouted (d.message 3 d.chip (d.get F.FLT_INCARNATION_INC) d.serial) p.src

/-- The PING sent on account of port n is 16 beats old. -/
def Dev.pongDue (d : Dev) (n : Nat) : Bool :=
  match (d.port n).pingAt with
  | some b => b + 16 * 65536 ≤ d.now
  | none => false

/-- A PING to another partner is still open and not due. -/
def Dev.otherPing (d : Dev) (n : Nat) : Bool :=
  (List.range 16).any (fun k => d.partner k ≠ d.partner n && (d.port k).pingAt.isSome && !d.pongDue k)

/-- A PING has gone unanswered (R414, R415). Nothing is decided while a PING to another partner is open. -/
def Dev.pongLost (d : Dev) (n : Nat) : Dev :=
  if !d.pongDue n || d.otherPing n then d
  else
    let both := (List.range 16).any (fun k => d.partner k ≠ d.partner n && d.pongDue k)
    let d := d.setPort n { d.port n with pingAt := none }
    if both then d.fence else d.unanswered n

/-- PONG (R414): the partner is live, LIVENESS_LOST is written and the window starts again. -/
def execPong (n : Nat) (p : Packet) (s : State) : Out := s.runOn (n < 17) fun d =>
  if (faultMsg p).ctype ≠ 3 then d
  else d.routedIn n p fun d _ =>
    let mine := (List.range 16).filter (fun k => d.partner k = p.src && (d.port k).pingAt.isSome && !d.pongDue k)
    let d := d.each mine fun d k =>
      let on := d.portState k = 3 || d.portState k = 4
      let d := d.setPort k { d.port k with pingAt := none, liveFrom := if on then some d.now else none }
      d.recordOnly .livenessLost (evSource (k / 4) 10 k) []
    d.each (List.range 16) Dev.pongLost

/-- PONG_TIMEOUT (R414, R415). -/
def execPongTimeout (n : Nat) (s : State) : Out := s.runOn (n < 16) fun d => d.pongLost n

/-! ### Takeover -/

/-- A standby takes an assignment (Table 15-9). -/
def Dev.takeAssign (d : Dev) (m : FaultMsg) (entry : List Byte) : Dev :=
  let t : Takeover := { lost := m.chip, host := m.host, index := m.index, inc := m.inc, slotBytes := leAt entry 56 8 }
  if d.fltState = 4 then
    if t.slotBytes ≤ d.get F.MCH_CAP_V then
      let d := (d.answerHost t 0x21 0).recordOnly .takeoverAssigned (devSource 0) []
      ((({ d with flt := { d.flt with takeover := some t } }).putD F.FLT_STATUS_STATE 5).imgLoad true .takeover (leAt entry 24 8)
        (leAt entry 32 4) 0)
    else d.answerHost t 0x22 2
  else if d.fltState = 5 || d.fltState = 6 then d.answerHost t 0x22 1
  else d

/-- ASSIGN (R420). -/
def execAssign (n : Nat) (p : Packet) (entry : List Byte) (s : State) : Out := s.runOn (n < 17) fun d =>
  if (faultMsg p).ctype ≠ 0x20 then d else d.routedIn n p fun d m => d.takeAssign m entry

/-- The assignment that an answer of chip `src` for L concerns. -/
def Dev.answered (d : Dev) (lost src : Nat) : Option Assign :=
  match d.assignOf lost with
  | some a => if a.standbys.head? = some src then some a else none
  | none => none

/-- The host notes an ACCEPT (R419). -/
def Dev.accepted (d : Dev) (a : Assign) : Dev :=
  { d with flt := { d.flt with assigns := d.flt.assigns.map (fun (x : Assign) =>
      if x.lost = a.lost then { x with acceptedAt := some d.beat } else x) } }

/-- ACCEPT (R419): within 64 beats of the ASSIGN. -/
def execAccept (n : Nat) (p : Packet) (s : State) : Out := s.runOn (n < 17) fun d =>
  if (faultMsg p).ctype ≠ 0x21 then d
  else d.routedIn n p fun d m =>
    match d.answered m.chip p.src with
    | some a => if d.beat < a.sentAt + 64 then d.accepted a else d
    | none => d

/-- DECLINE (R419): the host moves to the next standby. -/
def execDecline (n : Nat) (p : Packet) (s : State) : Out := s.runOn (n < 17) fun d =>
  if (faultMsg p).ctype ≠ 0x22 then d
  else d.routedIn n p fun d m =>
    match d.answered m.chip p.src with
    | some a => d.nextStandby a
    | none => d

/-- ASSIGN_TIMEOUT (R419): no ACCEPT within 64 beats. -/
def execAssignTimeout (lost : Nat) (s : State) : Out := s.run fun d =>
  match d.assignOf lost with
  | some a => if a.acceptedAt.isNone && a.sentAt + 64 ≤ d.beat then d.nextStandby a else d
  | none => d

/-- FLT_TAKEOVER_LIMIT. -/
def Dev.takeoverLimit (d : Dev) : Nat := atLeast1 (d.get F.FLT_TAKEOVER_LIMIT_BEATS)

/-- TAKEOVER_TIMEOUT (R419): no CLAIMED within FLT_TAKEOVER_LIMIT of the ACCEPT, or of the hold. -/
def execTakeoverTimeout (lost : Nat) (s : State) : Out := s.run fun d =>
  let d := match d.assignOf lost with
    | some a =>
      match a.acceptedAt with
      | some b => if b + d.takeoverLimit ≤ d.beat then d.nextStandby a else d
      | none => d
    | none => d
  if d.flt.holdSince.any (fun e => e.1 = lost && e.2 + d.takeoverLimit ≤ d.beat) then
    ({ d with flt := { d.flt with holdSince := d.flt.holdSince.filter (fun e => e.1 ≠ lost) } }).recordOnly .takeoverFailed (devSource 0) []
  else d

/-- A device hears CLAIMED (R421). -/
def Dev.hearClaimed (d : Dev) (m : FaultMsg) : Dev :=
  let own := d.get F.FLT_INCARNATION_INC
  let d := (d.runScript m.chip).clearLost m.chip
  let d := { d with flt := { d.flt with assigns := d.flt.assigns.filter (fun (a : Assign) => a.lost ≠ m.chip) } }
  if d.flt.claimed = some m.chip && (own < m.inc || (m.inc = own && m.serial < d.serial)) then d.fence else d

/-- CLAIMED (R421). -/
def execClaimed (n : Nat) (p : Packet) (s : State) : Out := s.runOn (n < 16) fun d =>
  if (faultMsg p).ctype = 0x11 then d.floodIn n p Dev.hearClaimed else d

/-- TAKEOVER_DONE (R409). -/
def execTakeoverDone (n : Nat) (p : Packet) (s : State) : Out := s.runOn (n < 16) fun d =>
  if (faultMsg p).ctype = 0x12 then d.floodIn n p (fun d m => d.removeHold ⟨m.chip, false⟩) else d

/-- REPAIR_DONE (R409). -/
def execRepairDone (n : Nat) (p : Packet) (s : State) : Out := s.runOn (n < 16) fun d =>
  if (faultMsg p).ctype = 0x13 then d.floodIn n p (fun d m => d.removeHold ⟨m.chip, true⟩) else d

/-- TAKEOVER_FAILED (R419). -/
def execTakeoverFailed (n : Nat) (p : Packet) (s : State) : Out := s.runOn (n < 16) fun d =>
  if (faultMsg p).ctype = 0x14 then d.floodIn n p (fun d _ => d.recordOnly .takeoverFailed (devSource 0) []) else d

/-- REMIRRORED (R422): the message goes to the chip whose mirror this device keeps current. -/
def execRemirrored (s : State) : Out := s.run fun d =>
  let buddy := (d.img.inForce.map (·.buddy)).getD 0
  d.sendRouted (d.message 0x23 d.chip (d.get F.FLT_INCARNATION_INC) d.serial) buddy

/-- An owner has mirrored again to this standby (Table 15-9). -/
def Dev.noteRemirrored (d : Dev) (chip : Nat) : Dev :=
  match d.flt.takeover with
  | some t =>
    if d.fltState = 6 && !t.remirrored.contains chip then
      ({ d with flt := { d.flt with takeover := some { t with remirrored := t.remirrored ++ [chip] } } }).takeoverCheck
    else d
  | none => d

/-- REMIRRORED_MESSAGE (R420, R422). -/
def execRemirroredMessage (n : Nat) (p : Packet) (s : State) : Out := s.runOn (n < 17) fun d =>
  if (faultMsg p).ctype ≠ 0x23 then d else d.routedIn n p fun d m => d.noteRemirrored m.chip

/-- READY_MAP (R422, Table 15-9): the restore begins. -/
def execReadyMap (s : State) : Out := s.run fun d =>
  match d.flt.takeover with
  | some t =>
    if d.fltState = 6 && t.restore = 0 then { d with flt := { d.flt with takeover := some { t with restore := 1 } } } else d
  | none => d

/-- RESTORE_DONE (R422): the mirror copy ends, or fails. -/
def execRestoreDone (ok : Bool) (hdrA hdrB data : List Byte) (s : State) : Out := s.run fun d => d.restoreEnds ok hdrA hdrB data

end Sys2Proof.Machine
end

