-- ==== Sys2Proof/Machine/Haune.lean ====
section
/-!
DEFINITION. Sys2Proof/Machine/Haune.lean: the meanings of the HauneLink commands and events (R426 to R438, R455, R456), of the rings' doorbells and set-up
(R441 to R446), and of in-band interrupts (R451).
-/

namespace Sys2Proof.Machine

/-! ### Halves -/

/-- HL_HALF_ENABLE (R430): a DOWN half trains. -/
def execHlHalfEnable (h : Nat) (s : State) : Out := s.runOn (h < 2) fun d =>
  (d.putD (if h = 0 then F.HL_CTL_HALF0_EN else F.HL_CTL_HALF1_EN) 1).hlTrain h

/-- HL_HALF_DISABLE (R430): transmitters idle, failover. -/
def execHlHalfDisable (h : Nat) (s : State) : Out := s.runOn (h < 2) fun d =>
  (d.putD (if h = 0 then F.HL_CTL_HALF0_EN else F.HL_CTL_HALF1_EN) 0).hlDown h

/-- HL_TRAINING_RETRY (R430): 100 ms after a failed attempt. -/
def execHlTrainingRetry (h : Nat) (s : State) : Out := s.runOn (h < 2) fun d =>
  if d.hlState h = 1 then d.setHlHalf h { d.hlHalf h with retryWait := false } else d

/-- HL_RETRAIN (R430). -/
def execHlRetrain (h : Nat) (s : State) : Out := s.runOn (h < 2) fun d => d.hlRetrain h

/-- HL_FLIT_RECEIVE (R429, R430). -/
def execHlFlitReceive (h : Nat) (f : HlFlit) (s : State) : Out := s.runOn (h < 2) fun d => d.hlFlit h f

/-- HL_ACK_SEND (R429). -/
def execHlAckSend (h : Nat) (s : State) : Out := s.runOn (h < 2) fun d => if d.hlState h = 2 then d.hlReport h false else d

/-! ### Companion line requests -/

/-- RD_SHARED (R435). -/
def execRdShared (r : HlHdr) (s : State) : Out := s.runOn (r.half < 2) fun d => d.hlLine r 1 (.read 64) false 0 0

/-- RD_OWN (R435). -/
def execRdOwn (r : HlHdr) (s : State) : Out := s.runOn (r.half < 2) fun d => d.hlLine r 2 (.read 64) false 0 0

/-- RD_ONCE (R433, R435): a run of lines. -/
def execRdOnce (r : HlHdr) (s : State) : Out := s.runOn (r.half < 2) fun d => d.hlLine r 3 (.read (64 * r.lines)) true 0 0

/-- WR_LINE (R433, R435): a run of lines. -/
def execWrLine (r : HlHdr) (data : List Byte) (s : State) : Out := s.runOn (r.half < 2) fun d =>
  d.hlLine r 4 (.write data) true data.length (64 * r.lines)

/-- WR_MASKED (R433, R435). -/
def execWrMasked (r : HlHdr) (mask : Nat) (data : List Byte) (s : State) : Out := s.runOn (r.half < 2) fun d =>
  d.hlLine r 5 (.masked (mask % 2 ^ 64) data) false data.length 64

/-- WB_DIRTY (R435, R437). -/
def execWbDirty (r : HlHdr) (data : List Byte) (s : State) : Out := s.runOn (r.half < 2) fun d =>
  d.hlLine r 6 (.write data) false data.length 64

/-- WB_CLEAN (R435). -/
def execWbClean (r : HlHdr) (s : State) : Out := s.runOn (r.half < 2) fun d => d.hlLine r 7 (.read 0) false 0 0

/-! ### Answers -/

/-- RSP_DATA (R433). -/
def execRspData (half tag : Nat) (data : List Byte) (s : State) : Out := s.runOn (half < 2) fun d =>
  if d.hlState half = 2 then d.hlAnswered tag 0 data else d

/-- RSP_ACK (R433). -/
def execRspAck (half tag : Nat) (s : State) : Out := s.runOn (half < 2) fun d =>
  if d.hlState half = 2 then d.hlAnswered tag 0 [] else d

/-- RSP_SNP (R436, R438): a snoop that has ended already drops it. -/
def execRspSnp (half tag : Nat) (dirty : Bool) (data : List Byte) (s : State) : Out := s.runOn (half < 2) fun d =>
  if d.hlState half ≠ 2 then d
  else
    match d.hl.snoops.find? (fun (x : Snoop) => x.tag = tag) with
    | some x => d.snoopDone x dirty (slice data 0 64)
    | none => d.hlViolation 0x07

/-- NACK (R241, R433): MEM_ERROR of the lower tier, else LINK_ERROR. -/
def execNack (half tag reason : Nat) (s : State) : Out := s.runOn (half < 2) fun d =>
  if d.hlState half = 2 then d.hlAnswered tag (if reason = 5 then stMemError else stLinkError) [] else d

/-- SNOOP_TIMEOUT (R438). -/
def execSnoopTimeout (tag : Nat) (s : State) : Out := s.run fun d =>
  match d.hl.snoops.find? (fun (x : Snoop) => x.tag = tag) with
  | some x => if x.issued + 65536 * atLeast1 (d.get F.HL_CTL_SNP_BEATS) ≤ d.now then d.snoopFails x else d
  | none => d

/-- HL_QUARANTINE_END (R456). -/
def execHlQuarantineEnd (s : State) : Out := s.run fun d =>
  if d.flag F.HL_STATUS_QUAR && d.hl.quarEnd ≤ d.beat then d.putD F.HL_STATUS_QUAR 0 else d

/-! ### Rings and interrupts -/

/-- HL_CMD_DOORBELL (R442). -/
def execHlCmdDoorbell (s : State) : Out := s.run fun d => d.ringBell

/-- HL_CMD_RING_WRITE (R441). -/
def execHlCmdRingWrite (ctl : Bool) (value : Nat) (s : State) : Out := s.run fun d => d.cmdRingWrite ctl value

/-- HL_CMD_PAUSE (R443). -/
def execHlCmdPause (on : Bool) (s : State) : Out := s.run fun d => d.ringPause on

/-- HL_EVT_RING_WRITE (R445). -/
def execHlEvtRingWrite (ctl : Bool) (value : Nat) (s : State) : Out := s.run fun d => d.evtRingWrite ctl value

/-- HL_EVT_DOORBELL (R445): records freed; more than are in use are a violation. -/
def execHlEvtDoorbell (n : Nat) (s : State) : Out := s.run fun d =>
  let size := if d.hl.evtSet then ringSize (d.get F.HL_EVT_CTL_LOG2SIZE) else 0
  let free := d.get F.HL_EVT_TAIL_FREE + n % 8192
  if size < free then (d.putD F.HL_EVT_TAIL_FREE size).hlViolation 0x08 else d.putD F.HL_EVT_TAIL_FREE free

/-- EVENT_NOTIFY (R446). -/
def execEventNotify (s : State) : Out := s.run fun d =>
  let due : Bool := match d.flt.notifyLast with
    | some b => b + atLeast1 (d.get F.HL_EVT_CTL_NOTIFY_BEATS) ≤ d.beat
    | none => true
  if d.flt.notifyOwed && d.flag F.HL_EVT_CTL_NOTIFY_EN && due then d.notify else d

/-- IBI_RAISE (R451): at most one in 1,000 beats, with the highest class owed. -/
def execIbiRaise (s : State) : Out := s.run fun d =>
  match d.flt.ibiPending with
  | some c =>
    let due : Bool := match d.flt.ibiLast with | some b => b + 1000 ≤ d.beat | none => true
    if due && d.hl.i3cEvents && d.flag F.I3C_CTL_IBI_EN then
      { d with flt := { d.flt with ibiPending := none, ibiLast := some d.beat } }.emit (.ibi c)
    else d
  | none => d

end Sys2Proof.Machine
end

