-- ==== Sys2Proof/Machine/Image.lean ====
section
/-!
DEFINITION. Sys2Proof/Machine/Image.lean: the meanings of the image commands and events (R27 to R38).
-/

namespace Sys2Proof.Machine

/-- IMAGE_LOAD_FULL (R27, R28, R31). -/
def execImageLoadFull (s : State) : Out := s.run fun d =>
  d.imgLoad true .companion (d.get F.IMG_SRC_V) (d.get F.IMG_LEN_V) 0

/-- IMAGE_LOAD_PARTIAL (R27, R32, R33). -/
def execImageLoadPartial (s : State) : Out := s.run fun d =>
  d.imgLoad false .companion (d.get F.IMG_SRC_V) (d.get F.IMG_LEN_V) (d.get F.IMG_AT_BEAT_V)

/-- IMAGE_CANCEL (R37, R466, Table 02-17). -/
def execImageCancel (s : State) : Out := s.run fun d =>
  if d.get F.BOOT_STATUS_STAGE ≠ 6 then d.imgRefuse imgBusy 0 d.imgState .companion
  else if d.imgState = 5 then
    if d.img.switchBeat ≤ d.beat then d.putD F.IMG_STATUS_BUSY_SEEN 1 else d.imgRefuse imgCancelled 0 4 d.img.by_
  else if d.loading then d.putD F.IMG_STATUS_BUSY_SEEN 1
  else d.imgRefuse imgNoPending 0 d.imgState .companion

/-- IMAGE_FETCH_COMPLETE (R29). -/
def execImageFetchComplete (bytes : List Byte) (err : Bool) (s : State) : Out := s.run fun d =>
  if d.imgState = 1 then d.imgCheck bytes err else d

/-- IMAGE_APPLY_DONE (R31, R39). -/
def execImageApplyDone (s : State) : Out := s.run fun d =>
  match d.img.staged with
  | some st => if d.imgState = 3 then d.imgApply st else d
  | none => d

/-- IMAGE_SWITCH_BEAT (R33, R34). -/
def execImageSwitchBeat (s : State) : Out := s.run fun d =>
  match d.img.staged with
  | some st => if d.imgState = 5 && d.img.switchBeat ≤ d.beat then d.imgSwitch st else d
  | none => d

/-- IMAGE_SWITCH_COMPLETE (R34, R36): the mesh has drained, or the switch beat has ended. -/
def execImageSwitchComplete (s : State) : Out := s.run fun d =>
  match d.img.staged with
  | some st => if d.imgState = 6 && (!d.meshBusy || d.img.switchBeat < d.beat) then (d.imgSwitched st).settle else d
  | none => d

end Sys2Proof.Machine
end

