-- ==== Sys2Proof/Machine/PoolCmds.lean ====
section
/-!
DEFINITION. Sys2Proof/Machine/PoolCmds.lean: the meanings of the pool's commands (chapter 09).
-/

namespace Sys2Proof.Machine

/-- Device pages that a 19-bit DP can name (Table 09-12). -/
def nPages : Nat := 524288

/-- ALLOC (R248, R249). -/
def execAlloc (dp client : Nat) (s : State) : Out := s.runOn (dp < nPages && client < 64) fun d => (d.poolCommand 0 client dp).settle

/-- FREE (R248, R249). -/
def execFree (dp : Nat) (s : State) : Out := s.runOn (dp < nPages) fun d => (d.poolCommand 1 0 dp).settle

/-- PROMOTE (R248, R249). -/
def execPromote (dp : Nat) (s : State) : Out := s.runOn (dp < nPages) fun d => (d.poolCommand 2 0 dp).settle

/-- EVICT (R248, R249). -/
def execEvict (dp : Nat) (s : State) : Out := s.runOn (dp < nPages) fun d => (d.poolCommand 3 0 dp).settle

/-- The bitmaps at the first ENABLE: every frame free (R243). -/
def Dev.clearBitmap (d : Dev) : Dev :=
  let n := (d.frameLocs 3).length + (d.frameLocs 4).length + (d.frameLocs 5).length
  let base := d.get F.POOL_META_BASE_V + 16 * (d.granules / 32)
  d.each (List.range (ceilDiv n 8)) fun d i => d.physWrite (base + i) (leBytes 1 (2 ^ min 8 (n - 8 * i) - 1))

/-- POOL_ENABLE (R242, R243, R253): the engine runs; the first time it reads the frame registers and sets the free bitmaps. -/
def execPoolEnable (s : State) : Out := s.run fun d =>
  let d := d.putD F.POOL_CTL_ENABLE 1
  let d := if d.pool.known then d
    else { d with pool := { d.pool with known := true, segs := d.readSegs, used := [] } }.clearBitmap
  d.poolPump

/-- POOL_DISABLE (R253): queued commands with no move of their own end DISABLED; moves in progress go on. -/
def execPoolDisable (s : State) : Out := s.run fun d =>
  let d := d.putD F.POOL_CTL_ENABLE 0
  let running := fun (dp : Nat) => d.pool.moves.any (fun m => m.dp = dp)
  let stop1 := fun (k : PoolCmd) => if k.st = 5 || k.st = 4 || (k.st = 1 && running k.dp) then k else { k with st := 5, code := poolDisabled }
  let d := d.each d.pool.later fun d m =>
    (d.returnFrame m.toTier m.toFrame).setPage m.dp { d.page m.dp with state := stResident }
  ({ d with pool := { d.pool with queue := d.pool.queue.map stop1, later := [] } }.poolPump)

/-- POOL_CLIENT_WRITE (R245): the quotas of a client, and OVERCOMMIT where the minima exceed the T3 frames. -/
def execPoolClientWrite (k mn mx : Nat) (s : State) : Out := s.runOn (k < 64) fun d =>
  let d := (d.put F.POOL_CLIENT_MIN_PAGES 0 k mn).put F.POOL_CLIENT_MAX_PAGES 0 k mx
  let sum := ((List.range 64).map (fun i => d.get F.POOL_CLIENT_MIN_PAGES 0 i)).foldl (· + ·) 0
  (d.putD F.POOL_STATUS_OVERCOMMIT (b2n (d.get F.POOL_T3_FRAMES_T3 < sum))).poolPump

/-- POOL_EVICT_SELECT (R246, R247): a tier below its low water gives up its oldest eligible page, one at a time; with none, STUCK. -/
def execPoolEvictSelect (t : Nat) (s : State) : Out := s.runOn (t = 3 || t = 4) fun d =>
  if !d.flag F.POOL_CTL_ENABLE || !d.pool.known || !d.poolShort t || (d.pool.moves ++ d.pool.later).any (fun m => m.sel && m.fromTier = t) then d
  else
    let (v, skips) := d.choosePage t (fun _ => true)
    let d := if skips = 0 then d else d.count F.POOL_SKIPS_V 0 0 skips
    match v with
    | none => (d.putD F.POOL_STATUS_STUCK 1).showPool
    | some dp => ((d.decideMove dp (t + 1) false true).2).poolPump

/-- POOL_MOVE_COMPLETE (R250). -/
def execPoolMoveComplete (dp : Nat) (data : List Byte) (s : State) : Out := s.runOn (dp < nPages) fun d =>
  match d.pool.moves.find? (fun m => m.dp = dp) with
  | some m => (d.moveDone m data).settle
  | none => d

/-- POOL_MOVE_FAILED (R251): a read or write of the move failed. -/
def execPoolMoveFailed (dp : Nat) (s : State) : Out := s.runOn (dp < nPages) fun d =>
  match d.pool.moves.find? (fun m => m.dp = dp) with
  | some m => (d.moveFails m).settle
  | none => d

end Sys2Proof.Machine
end

