-- ==== Sys2Proof/Machine/Power.lean ====
section
/-!
DEFINITION. Sys2Proof/Machine/Power.lean: the meanings of the power commands (chapter 14).
-/

namespace Sys2Proof.Machine

/-- POWER_SAMPLE (R379, R388): once a beat. -/
def execPowerSample (core other : Nat) (s : State) : Out := s.run fun d =>
  if d.pwr.sampled = some d.beat then d else d.samplePower core other

/-- POWER_BIN_BOUNDARY (R379, R382): the beat lies in another bin than the one in progress. -/
def execPowerBinBoundary (s : State) : Out := s.run fun d =>
  if d.beat / 1000 = d.pwr.bin then d else d.binBoundary

/-- VC_PGOOD_RISE (R384, R496): regulation reported at least one beat after the request. -/
def execVcPgoodRise (s : State) : Out := s.run fun d =>
  match d.pwr.raising with
  | some (op, b) => if b + 1 ≤ d.beat then d.raised op else d
  | none => d

/-- VOLTAGE_WAIT_TIMEOUT (R384): 20 beats after the request. -/
def execVoltageWaitTimeout (s : State) : Out := s.run fun d =>
  match d.pwr.raising with
  | some (op, b) => if b + 20 ≤ d.beat then d.raised op else d
  | none => d

/-- Monitor trim is in force and not frozen (R385, R398). -/
def Dev.trims (d : Dev) : Bool := d.get F.PWR_STATUS_FREQ_MODE = 1 && !d.flag F.PWR_CTL_TRIM_HOLD

/-- TRIM_RAISE (R386): after 65,536 beats of slack. -/
def execTrimRaise (s : State) : Out := s.run fun d =>
  if d.trims && 65536 ≤ d.pwr.slack && d.get F.PWR_TRIM_TRIM < 10 then
    { d.putD F.PWR_TRIM_TRIM (d.get F.PWR_TRIM_TRIM + 1) with pwr := { d.pwr with slack := 0 } }.driveVid d.vidOp
  else d

/-- MONITOR_SLACK_LOW (R386). -/
def execMonitorSlackLow (c : Nat) (s : State) : Out := s.runOn (c < 272) fun d =>
  if !d.trims || d.gated c then d
  else
    let d := { d with pwr := { d.pwr with slack := 0 } }
    let trim := d.get F.PWR_TRIM_TRIM
    let steps := d.get F.PWR_CORE_FREQ_STEPS c
    if 0 < trim then (d.putD F.PWR_TRIM_TRIM (trim - 1)).driveVid d.vidOp
    else if steps < 4 then (d.put F.PWR_CORE_FREQ_STEPS c 0 (steps + 1)).showFreq c
    else (d.record .coreMarginLow (coreSource c 14) []).failCore c

/-- DROOP_DETECT (R387). -/
def execDroopDetect (c mv : Nat) (s : State) : Out := s.runOn (c < 272) fun d =>
  if atLeast1 (d.get F.PWR_CTL_DROOP_MV) < mv && !d.pwr.stretched.contains c then
    ({ d with pwr := { d.pwr with stretched := d.pwr.stretched ++ [c] } }.count F.PWR_DROOP_CNT_V c).showFreq c
  else d

/-- DROOP_RECOVER (R387). -/
def execDroopRecover (c : Nat) (s : State) : Out := s.runOn (c < 272) fun d =>
  if d.pwr.stretched.contains c then { d with pwr := { d.pwr with stretched := d.pwr.stretched.filter (· ≠ c) } }.showFreq c else d

/-- DIE_TEMP_READ (R394, R395). -/
def execDieTempRead (q reading : Nat) (s : State) : Out := s.runOn (q < 4) fun d => d.dieTemp q reading

/-- PWR_CAP_WRITE (R381). -/
def execPwrCapWrite (window : Bool) (value : Nat) (s : State) : Out := s.run fun d =>
  let d := if window then d.putD F.PWR_WINDOW_WINDOW_S value else d.putD F.PWR_CAP_CAP_W value
  { d with pwr := { d.pwr with restart := true } }

/-- PWR_MANUAL (R398). -/
def execPwrManual (on : Bool) (s : State) : Out := s.run fun d => d.putD F.PWR_CTL_MANUAL (b2n on)

end Sys2Proof.Machine
end

