-- ==== Sys2Proof/Machine/CsrOps.lean ====
section
/-!
DEFINITION. Sys2Proof/Machine/CsrOps.lean: what a register access does (R5 to R8, R439, R440): the register its address names, the command that a write of it gives,
and its status. The window, the command ring, I3C, JTAG and the control cores all come here.
-/

namespace Sys2Proof.Machine

/-- A write of n bytes at a place of the register file. -/
structure RegWr where
  at_ : RegAt
  n : Nat
  value : Nat
deriving DecidableEq, Repr

/-- The value in the register's own bit numbers; bits outside the access are zero. -/
def RegWr.new (w : RegWr) : Nat := w.value % 2 ^ (8 * w.n) * 2 ^ (8 * w.at_.off)

/-- The access covers bit b. -/
def RegWr.covers (w : RegWr) (b : Nat) : Bool := 8 * w.at_.off ≤ b && b < 8 * w.at_.off + 8 * w.n

/-- A field of the value written. -/
def RegWr.field (w : RegWr) (f : Fld) : Nat := bits w.new f.hi f.lo

/-- A one-bit field is written with 1. -/
def RegWr.sets (w : RegWr) (f : Fld) : Bool := w.field f = 1

/-- The whole register as the write leaves it. -/
def Dev.merged (d : Dev) (w : RegWr) : Nat :=
  let win := window w.at_.off w.n
  ((d.reg w.at_.reg w.at_.unit w.at_.index &&& ~~~win) ||| (BitVec.ofNat 256 w.new &&& win)).toNat

/-- The write under the access codes alone. -/
def Dev.plain (d : Dev) (w : RegWr) : Dev := d.regWrite w.at_ w.n w.value

/-- An armed or pending pattern table (R60). -/
def Dev.anyArmed (d : Dev) : Bool := d.get F.BEAT_PAT_ARM_ARM ≠ 0 || d.get F.BEAT_PAT_ARM_PENDING ≠ 0

/-- For each bit of a mask register covered: a command where it is written 1, another where it is written 0. -/
def Dev.perBit (d : Dev) (w : RegWr) (n : Nat) (one zero : Nat → State → Out) : Dev :=
  d.each ((List.range n).filter (fun b => w.covers b)) fun d b => d.via (if bitOf w.new b then one b else zero b)

/-! ### Command fields -/

/-- CMD of IMG_CTL (Table 02-19). -/
def Dev.imgCommand (d : Dev) (cmd : Nat) : Dev :=
  match cmd with
  | 1 => d.via execImageLoadFull
  | 2 => d.via execImageLoadPartial
  | 3 => d.via execImageCancel
  | _ => d

/-- OP of SHD_CMD (Table 13-12). -/
def Dev.shdCommand (d : Dev) (op bank version : Nat) : Dev :=
  match op with
  | 1 => d.via (execOpenBank bank version)
  | 2 => d.via (execReady bank)
  | 3 => d.via (execDrop bank)
  | 4 => d.via execClearLedger
  | 5 => d.via execRetired
  | 6 => d.via execUndoClose
  | _ => d

/-- OP of BOOT_CMD (Table 17-13). -/
def Dev.bootCommand (d : Dev) (op region : Nat) : Dev :=
  match op with
  | 1 => d.via execLoadStage2
  | 2 => d.via execBootReset
  | 3 => d.via execEnterDamped
  | 4 => d.via (execFlashWrite region)
  | 5 => d.via execReadout
  | 6 => d.via execDiag
  | 7 => d.via execClearReset
  | _ => d

/-- OP of FLT_CMD (Table 15-14). -/
def Dev.fltCommand (d : Dev) (op : Nat) : Dev :=
  match op with
  | 1 => d.via (execRewind 16 { ptype := 0x0A })
  | 2 => d.via (execKnell false)
  | 3 => d.via execRepaired
  | 4 => d.via execRemirrored
  | 5 => d.via execReadyMap
  | _ => d

/-- CMD of MCH_GCMD (Table 10-11). -/
def Dev.mchCommand (d : Dev) (cmd : Nat) : Dev :=
  match cmd with
  | 1 => d.via execStop
  | 2 => d.via execApply
  | _ => d

/-- CMD of MCH_CH_CMD (Table 10-15). -/
def Dev.chCommand (d : Dev) (ch cmd : Nat) : Dev :=
  match cmd with
  | 1 => d.via (execRetrain ch)
  | 2 => d.via (execTestEnter ch)
  | 3 => d.via (execTestExit ch)
  | _ => d

/-- CMD of KVR_CMD (Table 07-11). -/
def Dev.kvrCommand (d : Dev) (q i cmd : Nat) : Dev :=
  match cmd with
  | 1 => d.via (execKvrArm q i)
  | 2 => d.via (execKvrRelease q i)
  | _ => d

/-- CMD of COL_CMD (Table 12-12). -/
def Dev.colCommand (d : Dev) (slot cmd : Nat) : Dev :=
  match cmd with
  | 1 => d.via (execPost slot)
  | 2 => d.via (execRelease slot)
  | 3 => d.via (execReset slot)
  | _ => d

/-- OP of POOL_CMD (Table 09-12). -/
def Dev.poolOpcode (d : Dev) (op client dp : Nat) : Dev :=
  match op with
  | 0 => d.via (execAlloc dp client)
  | 1 => d.via (execFree dp)
  | 2 => d.via (execPromote dp)
  | _ => d.via (execEvict dp)

/-! ### Registers whose write is a command, block by block -/

/-- GLOBAL block and SHD_GATHER. -/
def Dev.storeGlobal (d : Dev) (w : RegWr) : Option Dev :=
  match w.at_.reg with
  | .imgCtl => some (d.imgCommand (w.field F.IMG_CTL_CMD))
  | .imgSrc | .imgLen | .imgAtBeat => some (if d.loading then d else d.plain w)
  | .numLsSet => some (d.via (execNumLsSet w.new))
  | .numLsClean => some (d.via (execNumLsClean w.new))
  | .tollCtl => some (d.via (execTollReset (w.field F.TOLL_CTL_RESET)))
  | .tollMask => some (if (d.toll w.at_.index).now.isEmpty then d.plain w else d.putD F.TOLL_STATUS_MASK_REFUSED 1)
  | .xltInval => some (d.via (execXltInval (w.sets F.XLT_INVAL_ALL) (w.field F.XLT_INVAL_GRANULE)))
  | .shdCmd => some (if w.covers 4 then d.shdCommand (w.field F.SHD_CMD_OP) (w.field F.SHD_CMD_BANK) (w.field F.SHD_CMD_VERSION) else d)
  | .shdGather => some (d.via (execShdGather w.at_.unit (w.field F.SHD_GATHER_PASS) (w.field F.SHD_GATHER_GROUP)))
  | _ => none

/-- BELFRY block: start-up and faults. -/
def Dev.storeBelfry (d : Dev) (w : RegWr) : Option Dev :=
  match w.at_.reg with
  | .bootCmd => some (d.bootCommand (w.field F.BOOT_CMD_OP) (w.field F.BOOT_CMD_REGION))
  | .fltCmd => some (d.fltCommand (w.field F.FLT_CMD_OP))
  | .fltProgress =>
    let v := d.merged w
    some (d.via (execFltProgressWrite (v / 2 ^ 32) (v % 2 ^ 16)))
  | .fltSwapBase => some ((d.plain w).putD F.FLT_STATUS_SWAP_STALE 0)
  | _ => none

/-- BELFRY block: HauneLink and its rings. -/
def Dev.storeHaune (d : Dev) (w : RegWr) : Option Dev :=
  match w.at_.reg with
  | .hlCtl => some ((d.plain w).perBit w 2 execHlHalfEnable execHlHalfDisable)
  | .hlCmdBase => some (d.via (execHlCmdRingWrite false (d.merged w)))
  | .hlCmdCtl => some (d.via (execHlCmdRingWrite true w.new))
  | .hlCmdDoorbell => some (d.via execHlCmdDoorbell)
  | .hlEvtBase => some (d.via (execHlEvtRingWrite false (d.merged w)))
  | .hlEvtCtl => some (d.via (execHlEvtRingWrite true w.new))
  | .hlEvtDoorbell => some (d.via (execHlEvtDoorbell (w.field F.HL_EVT_DOORBELL_N)))
  | _ => none

/-- BEAT, POWER and SEC blocks. -/
def Dev.storeBeat (d : Dev) (w : RegWr) : Option Dev :=
  match w.at_.reg with
  | .beatSet => some (d.via (execBeatSet w.new))
  | .beatPatBase => some (if d.anyArmed then d else d.plain w)
  | .beatPatArm => some (d.perBit w 4 execPatternArm execPatternDisarm)
  | .beatClkCtl =>
    let src := if w.sets F.BEAT_CLK_CTL_PREFER then ClkSrc.xtal else ClkSrc.crec
    some { d.plain w with clk := { d.clk with prefer := some src } }
  | .pwrCap => some (d.via (execPwrCapWrite false (w.field F.PWR_CAP_CAP_W)))
  | .pwrWindow => some (d.via (execPwrCapWrite true (w.field F.PWR_WINDOW_WINDOW_S)))
  | .pwrCtl => some ((d.plain w).via (execPwrManual (w.sets F.PWR_CTL_MANUAL)))
  | .secLogIndex => some (d.via (execSecLogIndexWrite (d.merged w)))
  | .secQuoteCtl => some (if w.sets F.SEC_QUOTE_CTL_GO then (d.plain w).via execQuoteGo else d.plain w)
  | _ => none

/-- CORE block: matrix and vector engines. -/
def Dev.storeEngine (d : Dev) (w : RegWr) : Option Dev :=
  let c := w.at_.unit
  match w.at_.reg with
  | .mxeCtl => some (if w.sets F.MXE_CTL_ABORT then (d.plain w).via (execMxeAbort c) else d.plain w)
  | .mxeStatus => some (if w.sets F.MXE_STATUS_ERR then (d.plain w).via (execMxeErrClear c) else d.plain w)
  | .vxeCtl => some (if w.sets F.VXE_CTL_ABORT then (d.plain w).via (execVxeAbort c) else (d.plain w).vecPump c)
  | .vxeStatus =>
    let d0 := d.plain { w with value := if w.sets F.VXE_STATUS_POISON then 16 else 0 }
    let d1 := if w.sets F.VXE_STATUS_ERR then d0.via (execVxeErrClear c) else d0
    some (if w.sets F.VXE_STATUS_XERR then d1.via (execXlrErrClear c) else d1)
  | _ => none

/-- CORE block: control core, taps, streams and DMA. -/
def Dev.storeCore (d : Dev) (w : RegWr) : Option Dev :=
  let c := w.at_.unit
  let i := w.at_.index
  match w.at_.reg with
  | .ctcFault => some ((d.plain w).showCtc c)
  | .ctcCtl => some (d.perBit w 8 (execCtcRunStart c) (execCtcRunStop c))
  | .tapCmd =>
    some (if w.sets F.TAP_CMD_OP then d.via (execTapCmdSet c i (w.field F.TAP_CMD_VALUE)) else d.via (execTapCmdAdd c i (w.field F.TAP_CMD_VALUE)))
  | .sxuCtl => some (if w.sets F.SXU_CTL_ABORT then (d.plain w).via (execSxuAbort c) else (d.plain w).pumpAll c)
  | .sxuPfCtl => some (if w.sets F.SXU_PF_CTL_AUTO then d.plain w else (d.plain w).via (execPfAutoClear c))
  | .dmaCtl => some (if w.sets F.DMA_CTL_DISABLE then d.via (execDmaDisable c) else d.plain w)
  | .dmaDoorbell => some (d.via (execDmaDoorbell c (w.field F.DMA_DOORBELL_RING)))
  | .dmaRingBase => some (d.via (execDmaRingWrite c i false (d.merged w)))
  | .dmaRingCtl => some (d.via (execDmaRingWrite c i true w.new))
  | _ => none

/-- Quarter blocks: memory channels, ports and KV roll slots. -/
def Dev.storeQuarter (d : Dev) (w : RegWr) : Option Dev :=
  let q := w.at_.unit
  let i := w.at_.index
  match w.at_.reg with
  | .mchGcmd => some (d.mchCommand (w.field F.MCH_GCMD_CMD))
  | .mchMap => some (if d.get F.MCH_GSTATE_STATE = 1 then d.plain w else d.mchRefuse 4)
  | .mchChCmd => some (d.chCommand (32 * q + i) (w.field F.MCH_CH_CMD_CMD))
  | .mchTgCtl =>
    let v := d.merged w
    some (if !w.covers 0 then d.plain w else if bitOf v 0 then d.via (execTgStart (32 * q + i) v) else d.via (execTgStop (32 * q + i) v))
  | .fabPortCtl =>
    let n := 4 * q + i
    let d1 := d.plain { w with value := w.new - w.field F.FAB_PORT_CTL_ENABLE + d.pget F.FAB_PORT_CTL_ENABLE n }
    let d2 := d1.via (if w.sets F.FAB_PORT_CTL_ENABLE then execPortEnable n else execPortDisable n)
    some (if w.sets F.FAB_PORT_CTL_RETRAIN then d2.via (execPortRetrainCmd n) else d2)
  | .kvrCmd => some (d.kvrCommand q i (w.field F.KVR_CMD_CMD))
  | .lcxEpoch => some (d.via (execLcxEpochNext q (w.field F.LCX_EPOCH_NEXT)))
  | .lexLoadCmd => some (d.via (execLexLoadCmd q (w.field F.LEX_LOAD_CMD_EPOCH) (w.field F.LEX_LOAD_CMD_BASES)))
  | _ => none

/-- Device-wide registers of the quarter blocks: collective slots and the pool. -/
def Dev.storeShared (d : Dev) (w : RegWr) : Option Dev :=
  match w.at_.reg with
  | .colCmd => some (d.colCommand w.at_.index (w.field F.COL_CMD_CMD))
  | .poolCtl => some (d.via (if w.sets F.POOL_CTL_ENABLE then execPoolEnable else execPoolDisable))
  | .poolCmd =>
    some (if w.covers 32 then d.poolOpcode (w.field F.POOL_CMD_OP) (w.field F.POOL_CMD_CLIENT) (w.field F.POOL_CMD_DP) else d)
  | .poolClient =>
    let v := d.merged w
    some (d.via (execPoolClientWrite w.at_.index (v % 2 ^ 32) (v / 2 ^ 32)))
  | _ => none

/-- The first of several answers. -/
def firstOf (d : Dev) : List (Option Dev) → Dev
  | [] => d
  | some e :: _ => e
  | none :: l => firstOf d l

/-- A register that the pool reads at ENABLE: while ENABLE is 1, writes to it are ignored (R242). -/
def Dev.poolHolds (d : Dev) (r : Reg) : Bool :=
  d.flag F.POOL_CTL_ENABLE
    && [Reg.poolMetaBase, .poolT3Base, .poolT3Frames, .poolT4Region, .poolT4Frames, .poolT5Region, .poolT5Frames, .xltBase].contains r

/-- A write takes effect: the command it gives, or its access codes alone. -/
def Dev.csrStore (d : Dev) (w : RegWr) : Dev :=
  if d.poolHolds w.at_.reg then d
  else firstOf (d.plain w) [d.storeGlobal w, d.storeBelfry w, d.storeHaune w, d.storeBeat w, d.storeEngine w, d.storeCore w, d.storeQuarter w, d.storeShared w]

/-! ### Accesses -/

/-- The outcome of an access (Tables 16-4, 16-5). -/
inductive CsrStatus where
  | ok | unmapped | misaligned
deriving DecidableEq, Repr

/-- A naturally aligned access of 4 or 8 bytes. -/
def csrAligned (addr n : Nat) : Bool := (n = 4 || n = 8) && addr % n = 0

/-- The register beside a 32-bit register, which an access of 8 bytes also reaches. -/
def Dev.beside (d : Dev) (a : RegAt) (addr n : Nat) : Option RegAt := if n = 8 && a.reg.info.width = 32 then d.regAt (addr + 4) else none

/-- Read a CSR (R439, R440): status, value and the device after it. -/
def Dev.csrRead (d : Dev) (addr n : Nat) : CsrStatus × Nat × Dev :=
  if !csrAligned addr n then (.misaligned, 0, d)
  else
    match d.regAt addr with
    | none => (.unmapped, 0, d)
    | some a =>
      let k := if a.reg.info.width = 32 then 4 else n
      let (v, d) := d.regRead a k
      match d.beside a addr n with
      | some b =>
        let (u, d) := d.regRead b 4
        (.ok, v + 2 ^ 32 * u, d)
      | none => (.ok, v, d)

/-- Write a CSR (R439, R440). -/
def Dev.csrWrite (d : Dev) (addr n value : Nat) : CsrStatus × Dev :=
  if !csrAligned addr n then (.misaligned, d)
  else
    match d.regAt addr with
    | none => (.unmapped, d)
    | some a =>
      let k := if a.reg.info.width = 32 then 4 else n
      let two := d.beside a addr n
      let d := d.csrStore ⟨a, k, value⟩
      match two with
      | some b => (.ok, d.csrStore ⟨b, 4, value / 2 ^ 32⟩)
      | none => (.ok, d)

/-- An access of the CSR window (R439): one to no register is answered OK and counted. -/
def Dev.countUnmapped (d : Dev) (st : CsrStatus) : Dev := if st = .unmapped then d.count F.HL_CSR_UNMAPPED_V else d

/-- The CSR address that an offset of the window reaches (R439). -/
def Dev.windowAddr (d : Dev) (o : Nat) : Nat :=
  if o < 0x0C000000 then o
  else o - 0x0C000000 + 0x04000000 * (if d.flag F.HL_WIN_SEL_Q3 then 4 else 3)

end Sys2Proof.Machine
end

