-- ==== Sys2Proof/Machine/Csr.lean ====
section
/-!
DEFINITION. Sys2Proof/Machine/Csr.lean: the meanings of register accesses by every path: the window (R439), control cores (R440), the command ring (R441 to R443), I3C (R448
to R450) and JTAG (R452 to R454).
-/

namespace Sys2Proof.Machine

/-! ### Register accesses (R5, R6, R51) -/

/-- An access is of 4 or 8 bytes. -/
def widthOk (n : Nat) : Bool := n = 4 || n = 8

/-- REGISTER_WRITE (R6 to R8). -/
def execRegisterWrite (addr width value : Nat) (s : State) : Out := s.runOn (widthOk width) fun d => (d.csrWrite addr width value).2

/-- A read and its answer. -/
def Dev.readOut (d : Dev) (addr n : Nat) : Dev :=
  let r := d.csrRead addr n
  r.2.2.emit (.read addr r.2.1)

/-- RC_READ (R5, R6): the register is cleared by the read that returns its value. -/
def execRcRead (addr width : Nat) (s : State) : Out := s.runOn (widthOk width) fun d => d.readOut addr width

/-- BEAT_NOW_READ (R51): the fraction of the same tick is latched in BEAT_FRAC. -/
def execBeatNowRead (wide : Bool) (s : State) : Out := s.run fun d => d.readOut (Reg.beatNow.addr 0 0) (if wide then 8 else 4)

/-! ### The window -/

/-- Bytes of a window access by its size field (Table 16-2). -/
def HlHdr.bytes (r : HlHdr) : Nat := if r.size = 0 then 4 else 8

/-- A CSR request is well formed: no reserved field, a size of 4 or 8 bytes, an offset of the window, aligned (R439, Table 16-8). -/
def HlHdr.csrBad (r : HlHdr) : Bool := r.bad || 1 < r.size

/-- A window access is refused (R439, R455). -/
def Dev.windowRefuse (d : Dev) (r : HlHdr) : Option Dev :=
  if r.csrBad then some (d.hlReject r 0x01 0x01)
  else if d.tagOpen r.tag then some (d.hlReject r 0x05 0x08)
  else if !csrAligned r.addr r.bytes then some (d.hlNack r 0x01)
  else if 0x10000000 ≤ r.addr then some (d.hlReject r 0x02 0x02)
  else none

/-- CSR_RD (R439). -/
def execCsrRd (r : HlHdr) (s : State) : Out := s.runOn (r.half < 2) fun d =>
  if d.hlState r.half ≠ 2 then d
  else
    match d.windowRefuse r with
    | some e => e
    | none =>
      let x := d.csrRead (d.windowAddr r.addr) r.bytes
      (x.2.2.countUnmapped x.1).hlSend r.half 0x20 r.tag r.addr 0 (slice (leBytes r.bytes x.2.1) 0 64)

/-- CSR_WR (R439). -/
def execCsrWr (r : HlHdr) (value : Nat) (s : State) : Out := s.runOn (r.half < 2) fun d =>
  if d.hlState r.half ≠ 2 then d
  else
    match d.windowRefuse r with
    | some e => e
    | none =>
      let x := d.csrWrite (d.windowAddr r.addr) r.bytes value
      (x.2.countUnmapped x.1).hlSend r.half 0x21 r.tag r.addr 0 []

/-! ### Control cores (Table 06-9: CSR window access) -/

/-- The address of a control core's access: an offset of the window. -/
def Dev.csrEa (d : Dev) (c t ra : Nat) (imm : Int) : Nat := d.ea c t ra imm

/-- CSRR (R440): one that is misaligned faults its thread. -/
def execCsrr (c t rd ra : Nat) (imm : Int) (wide par : Bool) (s : State) : Out :=
  s.runOn (insnOk c t [rd, ra] && immOk imm) fun d => d.issue c t (par := par) fun d =>
  let n := if wide then 8 else 4
  let a := d.csrEa c t ra imm
  if a % n ≠ 0 then d.faultHere c t 2
  else
    let x := if a < 0x10000000 then d.csrRead (d.windowAddr a) n else (.unmapped, 0, d)
    (((x.2.2.countUnmapped x.1).setG c t rd x.2.1)).pcNext c t

/-- CSRW (R440). -/
def execCsrw (c t rb ra : Nat) (imm : Int) (wide par : Bool) (s : State) : Out :=
  s.runOn (insnOk c t [rb, ra] && immOk imm) fun d => d.issue c t (par := par) fun d =>
  let n := if wide then 8 else 4
  let a := d.csrEa c t ra imm
  let v := (d.g c t rb).toNat
  if a % n ≠ 0 then d.faultHere c t 2
  else
    let d := d.pcNext c t
    let x := if a < 0x10000000 then d.csrWrite (d.windowAddr a) n v else (.unmapped, d)
    x.2.countUnmapped x.1

/-! ### Command ring entries (Table 16-4, R442) -/

/-- The entry in execution, if its OP is this one. -/
def Dev.cmdOf (d : Dev) (op : Nat) : Option CmdEntry :=
  match d.hl.cmd with
  | some c => if c.op = op then some c else none
  | none => none

/-- An entry's STATUS for an access. -/
def CsrStatus.code : CsrStatus → Nat
  | .ok => 0x00
  | .unmapped => 0x02
  | .misaligned => 0x03

/-- NOP (R442). -/
def execNop (s : State) : Out := s.run fun d =>
  match d.cmdOf 0 with
  | some c => d.cmdEnd c 0x00 none
  | none => d

/-- A read entry of n bytes. -/
def Dev.cmdRead (d : Dev) (c : CmdEntry) (n : Nat) : Dev :=
  let x := d.csrRead c.addr n
  x.2.2.cmdEnd c x.1.code (if x.1 = .ok then some x.2.1 else none)

/-- A write entry of n bytes. -/
def Dev.cmdWrite (d : Dev) (c : CmdEntry) (n : Nat) : Dev :=
  let x := d.csrWrite c.addr n (c.word 2)
  x.2.cmdEnd c x.1.code none

/-- READ32 (R442). -/
def execRead32 (s : State) : Out := s.run fun d =>
  match d.cmdOf 1 with
  | some c => d.cmdRead c 4
  | none => d

/-- READ64 (R442). -/
def execRead64 (s : State) : Out := s.run fun d =>
  match d.cmdOf 2 with
  | some c => d.cmdRead c 8
  | none => d

/-- WRITE32 (R442). -/
def execWrite32 (s : State) : Out := s.run fun d =>
  match d.cmdOf 3 with
  | some c => d.cmdWrite c 4
  | none => d

/-- WRITE64 (R442). -/
def execWrite64 (s : State) : Out := s.run fun d =>
  match d.cmdOf 4 with
  | some c => d.cmdWrite c 8
  | none => d

/-- What RMW64 writes (R442). -/
def rmwValue (old data mask : Nat) : Nat := ((BitVec.ofNat 64 old &&& ~~~BitVec.ofNat 64 mask) ||| (BitVec.ofNat 64 data &&& BitVec.ofNat 64 mask)).toNat

/-- RMW64 (R442): one grant of the arbiter; the value read is returned. -/
def execRmw64 (s : State) : Out := s.run fun d =>
  match d.cmdOf 5 with
  | some c =>
    let x := d.csrRead c.addr 8
    if x.1 ≠ .ok then x.2.2.cmdEnd c x.1.code none
    else ((x.2.2.csrWrite c.addr 8 (rmwValue x.2.1 (c.word 2) (c.word 3))).2).cmdEnd c 0x00 (some x.2.1)
  | none => d

/-- An entry waits: it has begun, or PAUSE ends it at once (R443). -/
def Dev.cmdWaits (d : Dev) (c : CmdEntry) (data : Option Nat) : Dev :=
  if d.flag F.HL_CMD_CTL_PAUSE then d.cmdEnd c 0x04 data
  else { d with hl := { d.hl with cmd := some { c with started := true, sampled := d.beat } } }

/-- WAIT_BEAT (R442). -/
def execWaitBeat (s : State) : Out := s.run fun d =>
  match d.cmdOf 6 with
  | some c => if c.word 2 ≤ d.beat then d.cmdEnd c 0x00 none else d.cmdWaits c none
  | none => d

/-- WAIT_BEAT_END (R442): BEAT_NOW reaches DATA. -/
def execWaitBeatEnd (s : State) : Out := s.run fun d =>
  match d.cmdOf 6 with
  | some c => if c.started && c.word 2 ≤ d.beat then d.cmdEnd c 0x00 none else d
  | none => d

/-- One read of POLL64: its match, or TIMEOUT after LIMIT beats. -/
def Dev.pollRead (d : Dev) (c : CmdEntry) : Dev :=
  let x := d.csrRead c.addr 8
  let hit := (BitVec.ofNat 64 x.2.1 &&& BitVec.ofNat 64 (c.word 3)).toNat = c.word 2 % 2 ^ 64
  if x.1 ≠ .ok then x.2.2.cmdEnd c x.1.code none
  else if hit then x.2.2.cmdEnd c 0x00 (some x.2.1)
  else if atLeast1 (bits (c.word 4) 31 0) ≤ c.polled then x.2.2.cmdEnd c 0x04 (some x.2.1)
  else x.2.2.cmdWaits c (some x.2.1)

/-- POLL64 (R442): the first read. -/
def execPoll64 (s : State) : Out := s.run fun d =>
  match d.cmdOf 7 with
  | some c => if c.started then d else d.pollRead c
  | none => d

/-- POLL64_SAMPLE (R442): the read of a later beat. -/
def execPoll64Sample (s : State) : Out := s.run fun d =>
  match d.cmdOf 7 with
  | some c => if c.started && c.sampled < d.beat then d.pollRead { c with polled := c.polled + 1 } else d
  | none => d

/-! ### I3C (R448 to R450) -/

/-- An I3C frame is answered at the private read that follows. -/
def Dev.i3cPend (d : Dev) (bs : List Byte) : Dev := { d with hl := { d.hl with i3cAnswer := some bs } }

/-- Status of an I3C access (R449). -/
def CsrStatus.i3c (st : CsrStatus) : Nat := if st = .ok then 0x00 else 0x02

/-- I3C_CSR_READ (R449). -/
def execI3cCsrRead (addr : Nat) (s : State) : Out := s.run fun d =>
  let x := d.csrRead (addr % 2 ^ 32) 4
  x.2.2.i3cPend (leBytes 1 x.1.i3c ++ leBytes 4 x.2.1)

/-- I3C_CSR_WRITE (R449). -/
def execI3cCsrWrite (addr value : Nat) (s : State) : Out := s.run fun d =>
  let x := d.csrWrite (addr % 2 ^ 32) 4 value
  x.2.i3cPend (leBytes 1 x.1.i3c)

/-- I3C_TELEMETRY (R449, R450). -/
def execI3cTelemetry (s : State) : Out := s.run fun d => d.i3cPend (leBytes 1 0 ++ slice d.hl.telemetry 0 64)

/-- I3C_PRIVATE_READ (R449): the pending answer, or status 0x03. -/
def execI3cPrivateRead (s : State) : Out := s.run fun d =>
  { d with hl := { d.hl with i3cAnswer := none } }.emit (.i3c (d.hl.i3cAnswer.getD (leBytes 1 3)))

/-- In-band interrupts are enabled or disabled by bit 0 of the event byte (R448). -/
def Dev.i3cEvents (d : Dev) (events : Nat) (on : Bool) : Dev :=
  if bitOf events 0 then { d with hl := { d.hl with i3cEvents := on } } else d

/-- ENEC (R448). -/
def execEnec (events : Nat) (s : State) : Out := s.run fun d => d.i3cEvents events true

/-- DISEC (R448). -/
def execDisec (events : Nat) (s : State) : Out := s.run fun d => d.i3cEvents events false

/-- A dynamic address is assigned. -/
def Dev.i3cAssign (d : Dev) (dyn : Nat) : Dev := (d.putD F.I3C_STATUS_ASSIGNED 1).putD F.I3C_STATUS_ADDR dyn

/-- A dynamic address is held. -/
def Dev.i3cAssigned (d : Dev) : Bool := d.flag F.I3C_STATUS_ASSIGNED

/-- The static address (R448). -/
def Dev.i3cStatic (d : Dev) : Nat := 0x50 + d.boot.env.straps % 4

/-- RSTDAA (R448). -/
def execRstdaa (s : State) : Out := s.run fun d => (d.putD F.I3C_STATUS_ASSIGNED 0).putD F.I3C_STATUS_ADDR 0

/-- SETDASA (R448): the static address is this device's, and it has no dynamic address. -/
def execSetdasa (static dyn : Nat) (s : State) : Out := s.run fun d =>
  if static = d.i3cStatic && !d.i3cAssigned then d.i3cAssign dyn else d

/-- ENTDAA (R448). -/
def execEntdaa (dyn : Nat) (s : State) : Out := s.run fun d => if d.i3cAssigned then d else d.i3cAssign dyn

/-- SETNEWDA (R448). -/
def execSetnewda (dyn : Nat) (s : State) : Out := s.run fun d => if d.i3cAssigned then d.i3cAssign dyn else d

/-- PID (R448). -/
def Dev.i3cPid (d : Dev) : Nat :=
  leAt (fwBody d.boot.part) 8 2 % 2 ^ 15 * 2 ^ 33 + 0x3288 * 2 ^ 16 + d.boot.env.straps % 4 * 2 ^ 12

/-- A CCC that reads is answered. -/
def Dev.i3cSay (d : Dev) (bs : List Byte) : Dev := d.emit (.i3c bs)

/-- GETPID (R448): six bytes, the highest first. -/
def execGetpid (s : State) : Out := s.run fun d => d.i3cSay (leBytes 6 d.i3cPid).reverse

/-- GETBCR (R448). -/
def execGetbcr (s : State) : Out := s.run fun d => d.i3cSay (leBytes 1 0x06)

/-- GETDCR (R448). -/
def execGetdcr (s : State) : Out := s.run fun d => d.i3cSay (leBytes 1 0x00)

/-- A CCC whose bytes the manual does not give is answered with free values. -/
def Dev.i3cFree (d : Dev) (n : Nat) : Dev :=
  let (v, d) := d.fresh (8 * n)
  d.i3cSay (leBytes n v)

/-- GETSTATUS (R448): two bytes. -/
def execGetstatus (s : State) : Out := s.run fun d => d.i3cFree 2

/-- GETMWL (R448): two bytes. -/
def execGetmwl (s : State) : Out := s.run fun d => d.i3cFree 2

/-- GETMRL (R448): two bytes and the largest in-band payload. -/
def execGetmrl (s : State) : Out := s.run fun d => d.i3cFree 3

/-! ### JTAG (R452 to R454, R447) -/

/-- An instruction is selected; one that is no boundary test leaves the balls to their functions. -/
def Dev.jtagSelect (d : Dev) (code : Nat) : Dev := { d with hl := { d.hl with ir := code, ballsTaken := false } }

/-- The first selection of CSR_ACCESS or HBM_1500 since reset is logged (R447); before step 4 it waits for START (R473). -/
def Dev.debugAttach (d : Dev) (code : Nat) : Dev :=
  if d.hl.attached then d
  else
    let d := { d with hl := { d.hl with attached := true } }
    if d.boot.count = 0 then { d with boot := { d.boot with attach := some code } } else d.logAppend 0x20 [] (leBytes 1 code)

/-- A boundary test takes the balls (R453): every port and half leaves service. -/
def Dev.takeBalls (d : Dev) : Dev :=
  let d := { d with hl := { d.hl with ballsTaken := true } }
  let d := d.each (List.range 16) (fun d n => if d.portState n = 5 then d.setPortState n 0 else d.portLeave n 0)
  (d.hlDown 0).hlDown 1

/-- IDCODE (R452): the 32 bits shifted out. -/
def execIdcode (s : State) : Out := s.run fun d => (d.jtagSelect 0x01).emit (.jtag 32 0x13288D7B)

/-- SAMPLE/PRELOAD (R452): the boundary chain; no other state changes. -/
def execSamplePreload (s : State) : Out := s.run fun d => d.jtagSelect 0x02

/-- EXTEST (R453). -/
def execExtest (s : State) : Out := s.run fun d => (d.jtagSelect 0x03).takeBalls

/-- CLAMP (R453). -/
def execClamp (s : State) : Out := s.run fun d => (d.jtagSelect 0x04).takeBalls

/-- HIGHZ (R453). -/
def execHighz (s : State) : Out := s.run fun d => (d.jtagSelect 0x05).takeBalls

/-- What Capture-DR of CSR_ACCESS loads (R454). -/
def Dev.jtagCapture (d : Dev) : Nat := b2n d.hl.jtagDone * 2 ^ 71 + b2n d.hl.jtagErr * 2 ^ 70 + d.hl.jtagData % 2 ^ 32

/-- CSR_ACCESS (R447, R454): selected, with what Capture-DR loads shifted out. -/
def execCsrAccess (s : State) : Out := s.run fun d => ((d.jtagSelect 0x20).debugAttach 0x20).emit (.jtag 72 d.jtagCapture)

/-- HBM_1500 (R447, R454): it reaches the wrapper of the channel in JTAG_CTL where that is MAPPED_OUT or in TEST; otherwise it acts as BYPASS. -/
def execHbm1500 (s : State) : Out := s.run fun d =>
  let d := (d.jtagSelect 0x21).debugAttach 0x21
  let ch := d.get F.JTAG_CTL_CHANNEL
  if d.chanState ch = 5 || d.chanState ch = 6 then d.emit (.wrapper ch) else d

/-- BYPASS (R452). -/
def execBypass (s : State) : Out := s.run fun d => d.jtagSelect 0xFF

/-- JTAG_CSR_GO (R454): one 4-byte access at Update-DR. -/
def execJtagCsrGo (write : Bool) (addr value : Nat) (s : State) : Out := s.run fun d =>
  if d.hl.ir ≠ 0x20 then d
  else
    let a := addr % 2 ^ 32
    let (st, v, d) : CsrStatus × Nat × Dev :=
      if write then (let x := d.csrWrite a 4 (value % 2 ^ 32); (x.1, 0, x.2)) else d.csrRead a 4
    { d with hl := { d.hl with jtagDone := true, jtagErr := decide (st ≠ .ok), jtagData := v } }

end Sys2Proof.Machine
end

