-- ==== Sys2Proof/Machine/Dispatch.lean ====
section
/-!
DEFINITION. Sys2Proof/Machine/Dispatch.lean: one arm per command of the opcode table, each one direct call of its meaning.
-/

namespace Sys2Proof.Machine

/-- The effect of a command on everything but the queue. -/
def exec (i : Instr) (s : State) : Host.Outcome State Fault Refusal :=
  match i with
  | .registerWrite addr width value => Sys2Proof.Machine.execRegisterWrite addr width value s
  | .rcRead addr width => Sys2Proof.Machine.execRcRead addr width s
  | .beatNowRead wide => Sys2Proof.Machine.execBeatNowRead wide s
  | .imageLoadFull => Sys2Proof.Machine.execImageLoadFull s
  | .imageLoadPartial => Sys2Proof.Machine.execImageLoadPartial s
  | .imageCancel => Sys2Proof.Machine.execImageCancel s
  | .imageFetchComplete bytes err => Sys2Proof.Machine.execImageFetchComplete bytes err s
  | .imageApplyDone => Sys2Proof.Machine.execImageApplyDone s
  | .imageSwitchBeat => Sys2Proof.Machine.execImageSwitchBeat s
  | .imageSwitchComplete => Sys2Proof.Machine.execImageSwitchComplete s
  | .qualWindowEnd cand count stopped => Sys2Proof.Machine.execQualWindowEnd cand count stopped s
  | .missingEdge src => Sys2Proof.Machine.execMissingEdge src s
  | .clockResume env => Sys2Proof.Machine.execClockResume env s
  | .beatTick => Sys2Proof.Machine.execBeatTick s
  | .beatBoundary => Sys2Proof.Machine.execBeatBoundary s
  | .beatSet count => Sys2Proof.Machine.execBeatSet count s
  | .beatInEdge => Sys2Proof.Machine.execBeatInEdge s
  | .probe port id => Sys2Proof.Machine.execProbe port id s
  | .echo port id turn => Sys2Proof.Machine.execEcho port id turn s
  | .echoTimeout port id => Sys2Proof.Machine.execEchoTimeout port id s
  | .sync port hops holdover interval beat frac => Sys2Proof.Machine.execSync port hops holdover interval beat frac s
  | .beatStopEnd => Sys2Proof.Machine.execBeatStopEnd s
  | .upstreamTimeout port => Sys2Proof.Machine.execUpstreamTimeout port s
  | .late n p => Sys2Proof.Machine.execLate n p s
  | .patternArm quarter => Sys2Proof.Machine.execPatternArm quarter s
  | .patternDisarm quarter => Sys2Proof.Machine.execPatternDisarm quarter s
  | .patternEntryIssue quarter => Sys2Proof.Machine.execPatternEntryIssue quarter s
  | .deadlineEnd quarter slot => Sys2Proof.Machine.execDeadlineEnd quarter slot s
  | .bridgeFail bridge => Sys2Proof.Machine.execBridgeFail bridge s
  | .mm core => Sys2Proof.Machine.execMm core s
  | .mark core => Sys2Proof.Machine.execMark core s
  | .mxeRowEntry core aErr wErr feed => Sys2Proof.Machine.execMxeRowEntry core aErr wErr feed s
  | .mxeDrainStart core => Sys2Proof.Machine.execMxeDrainStart core s
  | .mxeDrainComplete core => Sys2Proof.Machine.execMxeDrainComplete core s
  | .mxeAbort core => Sys2Proof.Machine.execMxeAbort core s
  | .mxeErrClear core => Sys2Proof.Machine.execMxeErrClear core s
  | .numLsSet value => Sys2Proof.Machine.execNumLsSet value s
  | .numLsClean value => Sys2Proof.Machine.execNumLsClean value s
  | .vadd core thread fields err => Sys2Proof.Machine.execVadd core thread fields err s
  | .vsub core thread fields err => Sys2Proof.Machine.execVsub core thread fields err s
  | .vmul core thread fields err => Sys2Proof.Machine.execVmul core thread fields err s
  | .vfma core thread fields err => Sys2Proof.Machine.execVfma core thread fields err s
  | .vmin core thread fields err => Sys2Proof.Machine.execVmin core thread fields err s
  | .vmax core thread fields err => Sys2Proof.Machine.execVmax core thread fields err s
  | .vdiv core thread fields err => Sys2Proof.Machine.execVdiv core thread fields err s
  | .vsqrt core thread fields err => Sys2Proof.Machine.execVsqrt core thread fields err s
  | .vexp2 core thread fields err => Sys2Proof.Machine.execVexp2 core thread fields err s
  | .vlog2 core thread fields err => Sys2Proof.Machine.execVlog2 core thread fields err s
  | .vrsqrt core thread fields err => Sys2Proof.Machine.execVrsqrt core thread fields err s
  | .vcmp core thread fields err => Sys2Proof.Machine.execVcmp core thread fields err s
  | .vsel core thread fields err => Sys2Proof.Machine.execVsel core thread fields err s
  | .vaddh core thread fields err => Sys2Proof.Machine.execVaddh core thread fields err s
  | .vmulh core thread fields err => Sys2Proof.Machine.execVmulh core thread fields err s
  | .vfmah core thread fields err => Sys2Proof.Machine.execVfmah core thread fields err s
  | .vcvt core thread fields err => Sys2Proof.Machine.execVcvt core thread fields err s
  | .vpack core thread fields err => Sys2Proof.Machine.execVpack core thread fields err s
  | .vunpk core thread fields err => Sys2Proof.Machine.execVunpk core thread fields err s
  | .vperm core thread fields err => Sys2Proof.Machine.execVperm core thread fields err s
  | .vshuf core thread fields err => Sys2Proof.Machine.execVshuf core thread fields err s
  | .vld core thread fields err => Sys2Proof.Machine.execVld core thread fields err s
  | .vst core thread fields err => Sys2Proof.Machine.execVst core thread fields err s
  | .vcomp core thread fields err => Sys2Proof.Machine.execVcomp core thread fields err s
  | .vexpd core thread fields err => Sys2Proof.Machine.execVexpd core thread fields err s
  | .vsetc core thread fields err => Sys2Proof.Machine.execVsetc core thread fields err s
  | .vsbr core thread fields err => Sys2Proof.Machine.execVsbr core thread fields err s
  | .vsbw core thread fields err => Sys2Proof.Machine.execVsbw core thread fields err s
  | .vsbc core thread fields err => Sys2Proof.Machine.execVsbc core thread fields err s
  | .vxr core thread fields err => Sys2Proof.Machine.execVxr core thread fields err s
  | .vmstat core thread fields err => Sys2Proof.Machine.execVmstat core thread fields err s
  | .vmaxpy core thread fields err => Sys2Proof.Machine.execVmaxpy core thread fields err s
  | .vfin core thread fields err => Sys2Proof.Machine.execVfin core thread fields err s
  | .ttrans core thread fields err => Sys2Proof.Machine.execTtrans core thread fields err s
  | .xsum core thread fields err => Sys2Proof.Machine.execXsum core thread fields err s
  | .xmax core thread fields err => Sys2Proof.Machine.execXmax core thread fields err s
  | .xmin core thread fields err => Sys2Proof.Machine.execXmin core thread fields err s
  | .xcnt core thread fields err => Sys2Proof.Machine.execXcnt core thread fields err s
  | .xflag core thread fields err => Sys2Proof.Machine.execXflag core thread fields err s
  | .xargmax core thread fields err => Sys2Proof.Machine.execXargmax core thread fields err s
  | .xcolacc core thread fields err => Sys2Proof.Machine.execXcolacc core thread fields err s
  | .xclr core thread fields err => Sys2Proof.Machine.execXclr core thread fields err s
  | .vectorInsnComplete core xlr stall => Sys2Proof.Machine.execVectorInsnComplete core xlr stall s
  | .vxeErrClear core => Sys2Proof.Machine.execVxeErrClear core s
  | .xlrErrClear core => Sys2Proof.Machine.execXlrErrClear core s
  | .vxeAbort core => Sys2Proof.Machine.execVxeAbort core s
  | .ctcIntegerOp core thread op rd ra src par => Sys2Proof.Machine.execCtcIntegerOp core thread op rd ra src par s
  | .ctcBranch core thread cond ra rb imm par => Sys2Proof.Machine.execCtcBranch core thread cond ra rb imm par s
  | .jumpAndLink core thread rd imm => Sys2Proof.Machine.execJumpAndLink core thread rd imm s
  | .jumpRegister core thread ra par => Sys2Proof.Machine.execJumpRegister core thread ra par s
  | .ctcLoad core thread size rd ra imm err stall par => Sys2Proof.Machine.execCtcLoad core thread size rd ra imm err stall par s
  | .ctcStore core thread size rs ra imm err par => Sys2Proof.Machine.execCtcStore core thread size rs ra imm err par s
  | .globalLoadReturn core slot stall => Sys2Proof.Machine.execGlobalLoadReturn core slot stall s
  | .storeAck core slot stall => Sys2Proof.Machine.execStoreAck core slot stall s
  | .aaddI core thread rd ra rb imm par => Sys2Proof.Machine.execAaddI core thread rd ra rb imm par s
  | .aaddF core thread rd ra rb imm par => Sys2Proof.Machine.execAaddF core thread rd ra rb imm par s
  | .aminI core thread rd ra rb imm par => Sys2Proof.Machine.execAminI core thread rd ra rb imm par s
  | .amaxI core thread rd ra rb imm par => Sys2Proof.Machine.execAmaxI core thread rd ra rb imm par s
  | .aminF core thread rd ra rb imm par => Sys2Proof.Machine.execAminF core thread rd ra rb imm par s
  | .amaxF core thread rd ra rb imm par => Sys2Proof.Machine.execAmaxF core thread rd ra rb imm par s
  | .aswap core thread rd ra rb imm par => Sys2Proof.Machine.execAswap core thread rd ra rb imm par s
  | .acas core thread rd ra rb imm par => Sys2Proof.Machine.execAcas core thread rd ra rb imm par s
  | .tadd core thread tap imm => Sys2Proof.Machine.execTadd core thread tap imm s
  | .tset core thread tap imm => Sys2Proof.Machine.execTset core thread tap imm s
  | .twait core thread tap imm => Sys2Proof.Machine.execTwait core thread tap imm s
  | .tpost core thread lci tap => Sys2Proof.Machine.execTpost core thread lci tap s
  | .tpostDeliver core tap => Sys2Proof.Machine.execTpostDeliver core tap s
  | .toll core thread rd ch => Sys2Proof.Machine.execToll core thread rd ch s
  | .tolla core thread ch tap => Sys2Proof.Machine.execTolla core thread ch tap s
  | .tollRelease ch => Sys2Proof.Machine.execTollRelease ch s
  | .tollTimeout ch => Sys2Proof.Machine.execTollTimeout ch s
  | .tollReset mask => Sys2Proof.Machine.execTollReset mask s
  | .sget core thread rd summ => Sys2Proof.Machine.execSget core thread rd summ s
  | .cmx core thread ra par => Sys2Proof.Machine.execCmx core thread ra par s
  | .csx core thread ra par => Sys2Proof.Machine.execCsx core thread ra par s
  | .cdb core thread ra par => Sys2Proof.Machine.execCdb core thread ra par s
  | .vfence core thread => Sys2Proof.Machine.execVfence core thread s
  | .mfence core thread => Sys2Proof.Machine.execMfence core thread s
  | .fence core thread => Sys2Proof.Machine.execFence core thread s
  | .halt core thread => Sys2Proof.Machine.execHalt core thread s
  | .yield core thread => Sys2Proof.Machine.execYield core thread s
  | .csrr core thread rd ra imm wide par => Sys2Proof.Machine.execCsrr core thread rd ra imm wide par s
  | .csrw core thread rb ra imm wide par => Sys2Proof.Machine.execCsrw core thread rb ra imm wide par s
  | .threadWake core thread => Sys2Proof.Machine.execThreadWake core thread s
  | .ctcRunStart core thread => Sys2Proof.Machine.execCtcRunStart core thread s
  | .ctcRunStop core thread => Sys2Proof.Machine.execCtcRunStop core thread s
  | .tapCmdSet core tap value => Sys2Proof.Machine.execTapCmdSet core tap value s
  | .tapCmdAdd core tap value => Sys2Proof.Machine.execTapCmdAdd core tap value s
  | .kvrArm quarter slot => Sys2Proof.Machine.execKvrArm quarter slot s
  | .kvrRelease quarter slot => Sys2Proof.Machine.execKvrRelease quarter slot s
  | .kvHeaderWrite port p => Sys2Proof.Machine.execKvHeaderWrite port p s
  | .kvPayloadWrite port p => Sys2Proof.Machine.execKvPayloadWrite port p s
  | .kvBusyResend core => Sys2Proof.Machine.execKvBusyResend core s
  | .streamGatePass core ctx => Sys2Proof.Machine.execStreamGatePass core ctx s
  | .streamLineLand core tag err => Sys2Proof.Machine.execStreamLineLand core tag err s
  | .prefetchIssue core ctx => Sys2Proof.Machine.execPrefetchIssue core ctx s
  | .prefetchFill core tag => Sys2Proof.Machine.execPrefetchFill core tag s
  | .prefetchTune core => Sys2Proof.Machine.execPrefetchTune core s
  | .pfAutoClear core => Sys2Proof.Machine.execPfAutoClear core s
  | .relayHop core chain => Sys2Proof.Machine.execRelayHop core chain s
  | .sxuAbort core => Sys2Proof.Machine.execSxuAbort core s
  | .translationWalkDone acc err => Sys2Proof.Machine.execTranslationWalkDone acc err s
  | .xltInval all granule => Sys2Proof.Machine.execXltInval all granule s
  | .invalComplete => Sys2Proof.Machine.execInvalComplete s
  | .dmaDoorbell core mask => Sys2Proof.Machine.execDmaDoorbell core mask s
  | .dmaChannelSelect core => Sys2Proof.Machine.execDmaChannelSelect core s
  | .dmaDescRead core err => Sys2Proof.Machine.execDmaDescRead core err s
  | .copy core err werr => Sys2Proof.Machine.execCopy core err werr s
  | .drain core => Sys2Proof.Machine.execDrain core s
  | .dmaCopyComplete core => Sys2Proof.Machine.execDmaCopyComplete core s
  | .dmaDrainComplete core => Sys2Proof.Machine.execDmaDrainComplete core s
  | .dmaRingWrite core ch ctl value => Sys2Proof.Machine.execDmaRingWrite core ch ctl value s
  | .dmaDisable core => Sys2Proof.Machine.execDmaDisable core s
  | .nsScrub core line outcome => Sys2Proof.Machine.execNsScrub core line outcome s
  | .shcRequest acc err slack => Sys2Proof.Machine.execShcRequest acc err slack s
  | .atomicRequest acc err => Sys2Proof.Machine.execAtomicRequest acc err s
  | .tierRequestTimeout acc => Sys2Proof.Machine.execTierRequestTimeout acc s
  | .alloc dp client => Sys2Proof.Machine.execAlloc dp client s
  | .free dp => Sys2Proof.Machine.execFree dp s
  | .promote dp => Sys2Proof.Machine.execPromote dp s
  | .evict dp => Sys2Proof.Machine.execEvict dp s
  | .poolEnable => Sys2Proof.Machine.execPoolEnable s
  | .poolDisable => Sys2Proof.Machine.execPoolDisable s
  | .poolClientWrite client min max => Sys2Proof.Machine.execPoolClientWrite client min max s
  | .poolEvictSelect tier => Sys2Proof.Machine.execPoolEvictSelect tier s
  | .poolMoveComplete dp data => Sys2Proof.Machine.execPoolMoveComplete dp data s
  | .poolMoveFailed dp => Sys2Proof.Machine.execPoolMoveFailed dp s
  | .mchCommandIssue ch pc can => Sys2Proof.Machine.execMchCommandIssue ch pc can s
  | .requestUrgent ch pc id => Sys2Proof.Machine.execRequestUrgent ch pc id s
  | .hbmRefresh ch pc bank due issue => Sys2Proof.Machine.execHbmRefresh ch pc bank due issue s
  | .hbmReadDecode ch pc id cw => Sys2Proof.Machine.execHbmReadDecode ch pc id cw s
  | .hbmScrub ch pc => Sys2Proof.Machine.execHbmScrub ch pc s
  | .channelTrainDone ch bad0 bad1 ca silent => Sys2Proof.Machine.execChannelTrainDone ch bad0 bad1 ca silent s
  | .retrain ch => Sys2Proof.Machine.execRetrain ch s
  | .testEnter ch => Sys2Proof.Machine.execTestEnter ch s
  | .testExit ch => Sys2Proof.Machine.execTestExit ch s
  | .stop => Sys2Proof.Machine.execStop s
  | .apply => Sys2Proof.Machine.execApply s
  | .mchApplyDone => Sys2Proof.Machine.execMchApplyDone s
  | .hbmTempRead stack reading => Sys2Proof.Machine.execHbmTempRead stack reading s
  | .tgStart ch value => Sys2Proof.Machine.execTgStart ch value s
  | .tgStop ch value => Sys2Proof.Machine.execTgStop ch value s
  | .tgDone ch rx => Sys2Proof.Machine.execTgDone ch rx s
  | .portEnable port => Sys2Proof.Machine.execPortEnable port s
  | .portDisable port => Sys2Proof.Machine.execPortDisable port s
  | .portTrainingDone port => Sys2Proof.Machine.execPortTrainingDone port s
  | .portTrainingFail port reason => Sys2Proof.Machine.execPortTrainingFail port reason s
  | .portTrainingRetry port => Sys2Proof.Machine.execPortTrainingRetry port s
  | .keyx port msg idx cnt bytes => Sys2Proof.Machine.execKeyx port msg idx cnt bytes s
  | .keyxResend port => Sys2Proof.Machine.execKeyxResend port s
  | .keyingTimeout port => Sys2Proof.Machine.execKeyingTimeout port s
  | .portRetrain port lockLost => Sys2Proof.Machine.execPortRetrain port lockLost s
  | .portRetrainCmd port => Sys2Proof.Machine.execPortRetrainCmd port s
  | .frameSend port => Sys2Proof.Machine.execFrameSend port s
  | .frameReceive port f => Sys2Proof.Machine.execFrameReceive port f s
  | .rekeyStart port => Sys2Proof.Machine.execRekeyStart port s
  | .keyExhausted port => Sys2Proof.Machine.execKeyExhausted port s
  | .fabRead port p err => Sys2Proof.Machine.execFabRead port p err s
  | .fabWrite port p err => Sys2Proof.Machine.execFabWrite port p err s
  | .fabAtomic port p => Sys2Proof.Machine.execFabAtomic port p s
  | .fabReadResp port p => Sys2Proof.Machine.execFabReadResp port p s
  | .fabWriteAck port p => Sys2Proof.Machine.execFabWriteAck port p s
  | .fabAtomicResp port p => Sys2Proof.Machine.execFabAtomicResp port p s
  | .fabNack port p => Sys2Proof.Machine.execFabNack port p s
  | .quarantineEnd port => Sys2Proof.Machine.execQuarantineEnd port s
  | .blockResend tag => Sys2Proof.Machine.execBlockResend tag s
  | .lexLoadCmd quarter epoch bases => Sys2Proof.Machine.execLexLoadCmd quarter epoch bases s
  | .lexLoadStart quarter => Sys2Proof.Machine.execLexLoadStart quarter s
  | .lexLoadDone quarter err => Sys2Proof.Machine.execLexLoadDone quarter err s
  | .lcxEpochNext quarter next => Sys2Proof.Machine.execLcxEpochNext quarter next s
  | .lcxEpochAdvance quarter stalled => Sys2Proof.Machine.execLcxEpochAdvance quarter stalled s
  | .post slot => Sys2Proof.Machine.execPost slot s
  | .release slot => Sys2Proof.Machine.execRelease slot s
  | .reset slot => Sys2Proof.Machine.execReset slot s
  | .colBufferGrant quarter => Sys2Proof.Machine.execColBufferGrant quarter s
  | .collectivePiece port p mism => Sys2Proof.Machine.execCollectivePiece port p mism s
  | .freTileFinish slot tile => Sys2Proof.Machine.execFreTileFinish slot tile s
  | .sealChild port p => Sys2Proof.Machine.execSealChild port p s
  | .restart port p => Sys2Proof.Machine.execRestart port p s
  | .replay port p => Sys2Proof.Machine.execReplay port p s
  | .voteUp port p => Sys2Proof.Machine.execVoteUp port p s
  | .voteDown port p => Sys2Proof.Machine.execVoteDown port p s
  | .collectiveAnswer port p => Sys2Proof.Machine.execCollectiveAnswer port p s
  | .collectiveResend tag => Sys2Proof.Machine.execCollectiveResend tag s
  | .shdGather core pass group => Sys2Proof.Machine.execShdGather core pass group s
  | .openBank bank version => Sys2Proof.Machine.execOpenBank bank version s
  | .ready bank => Sys2Proof.Machine.execReady bank s
  | .drop bank => Sys2Proof.Machine.execDrop bank s
  | .clearLedger => Sys2Proof.Machine.execClearLedger s
  | .retired => Sys2Proof.Machine.execRetired s
  | .undoClose => Sys2Proof.Machine.execUndoClose s
  | .powerSample core other => Sys2Proof.Machine.execPowerSample core other s
  | .powerBinBoundary => Sys2Proof.Machine.execPowerBinBoundary s
  | .vcPgoodRise => Sys2Proof.Machine.execVcPgoodRise s
  | .voltageWaitTimeout => Sys2Proof.Machine.execVoltageWaitTimeout s
  | .trimRaise => Sys2Proof.Machine.execTrimRaise s
  | .monitorSlackLow core => Sys2Proof.Machine.execMonitorSlackLow core s
  | .droopDetect core mv => Sys2Proof.Machine.execDroopDetect core mv s
  | .droopRecover core => Sys2Proof.Machine.execDroopRecover core s
  | .dieTempRead quarter reading => Sys2Proof.Machine.execDieTempRead quarter reading s
  | .pwrCapWrite window value => Sys2Proof.Machine.execPwrCapWrite window value s
  | .pwrManual on => Sys2Proof.Machine.execPwrManual on s
  | .rewind n p => Sys2Proof.Machine.execRewind n p s
  | .rewindComplete => Sys2Proof.Machine.execRewindComplete s
  | .knell configLost => Sys2Proof.Machine.execKnell configLost s
  | .knellReceive n p => Sys2Proof.Machine.execKnellReceive n p s
  | .repaired => Sys2Proof.Machine.execRepaired s
  | .remirrored => Sys2Proof.Machine.execRemirrored s
  | .readyMap => Sys2Proof.Machine.execReadyMap s
  | .restoreDone ok hdrA hdrB data => Sys2Proof.Machine.execRestoreDone ok hdrA hdrB data s
  | .fltProgressWrite step attempt => Sys2Proof.Machine.execFltProgressWrite step attempt s
  | .oscLockLoss c => Sys2Proof.Machine.execOscLockLoss c s
  | .heartbeat n p => Sys2Proof.Machine.execHeartbeat n p s
  | .livenessTimeout n => Sys2Proof.Machine.execLivenessTimeout n s
  | .ping n p => Sys2Proof.Machine.execPing n p s
  | .pong n p => Sys2Proof.Machine.execPong n p s
  | .pongTimeout n => Sys2Proof.Machine.execPongTimeout n s
  | .assign n p entry => Sys2Proof.Machine.execAssign n p entry s
  | .accept n p => Sys2Proof.Machine.execAccept n p s
  | .decline n p => Sys2Proof.Machine.execDecline n p s
  | .assignTimeout lost => Sys2Proof.Machine.execAssignTimeout lost s
  | .takeoverTimeout lost => Sys2Proof.Machine.execTakeoverTimeout lost s
  | .claimed n p => Sys2Proof.Machine.execClaimed n p s
  | .takeoverDone n p => Sys2Proof.Machine.execTakeoverDone n p s
  | .repairDone n p => Sys2Proof.Machine.execRepairDone n p s
  | .takeoverFailed n p => Sys2Proof.Machine.execTakeoverFailed n p s
  | .hlHalfEnable h => Sys2Proof.Machine.execHlHalfEnable h s
  | .hlHalfDisable h => Sys2Proof.Machine.execHlHalfDisable h s
  | .hlTrainingDone h lanes => Sys2Proof.Machine.execHlTrainingDone h lanes s
  | .hlTrainingFail h => Sys2Proof.Machine.execHlTrainingFail h s
  | .hlRetrain h => Sys2Proof.Machine.execHlRetrain h s
  | .hlFlitReceive h f => Sys2Proof.Machine.execHlFlitReceive h f s
  | .hlAckSend h => Sys2Proof.Machine.execHlAckSend h s
  | .rdShared r => Sys2Proof.Machine.execRdShared r s
  | .rdOwn r => Sys2Proof.Machine.execRdOwn r s
  | .rdOnce r => Sys2Proof.Machine.execRdOnce r s
  | .wrLine r data => Sys2Proof.Machine.execWrLine r data s
  | .wrMasked r mask data => Sys2Proof.Machine.execWrMasked r mask data s
  | .wbDirty r data => Sys2Proof.Machine.execWbDirty r data s
  | .wbClean r => Sys2Proof.Machine.execWbClean r s
  | .csrRd r => Sys2Proof.Machine.execCsrRd r s
  | .csrWr r value => Sys2Proof.Machine.execCsrWr r value s
  | .rspData half tag data => Sys2Proof.Machine.execRspData half tag data s
  | .rspAck half tag => Sys2Proof.Machine.execRspAck half tag s
  | .rspSnp half tag dirty data => Sys2Proof.Machine.execRspSnp half tag dirty data s
  | .nack half tag reason => Sys2Proof.Machine.execNack half tag reason s
  | .snoopTimeout tag => Sys2Proof.Machine.execSnoopTimeout tag s
  | .hlQuarantineEnd => Sys2Proof.Machine.execHlQuarantineEnd s
  | .hlCmdDoorbell => Sys2Proof.Machine.execHlCmdDoorbell s
  | .hlCmdRingWrite ctl value => Sys2Proof.Machine.execHlCmdRingWrite ctl value s
  | .hlCmdPause on => Sys2Proof.Machine.execHlCmdPause on s
  | .nop => Sys2Proof.Machine.execNop s
  | .read32 => Sys2Proof.Machine.execRead32 s
  | .read64 => Sys2Proof.Machine.execRead64 s
  | .write32 => Sys2Proof.Machine.execWrite32 s
  | .write64 => Sys2Proof.Machine.execWrite64 s
  | .rmw64 => Sys2Proof.Machine.execRmw64 s
  | .waitBeat => Sys2Proof.Machine.execWaitBeat s
  | .waitBeatEnd => Sys2Proof.Machine.execWaitBeatEnd s
  | .poll64 => Sys2Proof.Machine.execPoll64 s
  | .poll64Sample => Sys2Proof.Machine.execPoll64Sample s
  | .hlEvtRingWrite ctl value => Sys2Proof.Machine.execHlEvtRingWrite ctl value s
  | .hlEvtDoorbell n => Sys2Proof.Machine.execHlEvtDoorbell n s
  | .eventNotify => Sys2Proof.Machine.execEventNotify s
  | .i3cCsrRead addr => Sys2Proof.Machine.execI3cCsrRead addr s
  | .i3cCsrWrite addr value => Sys2Proof.Machine.execI3cCsrWrite addr value s
  | .i3cTelemetry => Sys2Proof.Machine.execI3cTelemetry s
  | .i3cPrivateRead => Sys2Proof.Machine.execI3cPrivateRead s
  | .enec events => Sys2Proof.Machine.execEnec events s
  | .disec events => Sys2Proof.Machine.execDisec events s
  | .rstdaa => Sys2Proof.Machine.execRstdaa s
  | .setdasa static dyn => Sys2Proof.Machine.execSetdasa static dyn s
  | .entdaa dyn => Sys2Proof.Machine.execEntdaa dyn s
  | .setnewda dyn => Sys2Proof.Machine.execSetnewda dyn s
  | .getpid => Sys2Proof.Machine.execGetpid s
  | .getbcr => Sys2Proof.Machine.execGetbcr s
  | .getdcr => Sys2Proof.Machine.execGetdcr s
  | .getstatus => Sys2Proof.Machine.execGetstatus s
  | .getmwl => Sys2Proof.Machine.execGetmwl s
  | .getmrl => Sys2Proof.Machine.execGetmrl s
  | .ibiRaise => Sys2Proof.Machine.execIbiRaise s
  | .idcode => Sys2Proof.Machine.execIdcode s
  | .samplePreload => Sys2Proof.Machine.execSamplePreload s
  | .extest => Sys2Proof.Machine.execExtest s
  | .clamp => Sys2Proof.Machine.execClamp s
  | .highz => Sys2Proof.Machine.execHighz s
  | .csrAccess => Sys2Proof.Machine.execCsrAccess s
  | .hbm1500 => Sys2Proof.Machine.execHbm1500 s
  | .bypass => Sys2Proof.Machine.execBypass s
  | .jtagCsrGo write addr value => Sys2Proof.Machine.execJtagCsrGo write addr value s
  | .resetRelease env => Sys2Proof.Machine.execResetRelease env s
  | .checkpoint => Sys2Proof.Machine.execCheckpoint s
  | .latchSample => Sys2Proof.Machine.execLatchSample s
  | .startStepTimeout step => Sys2Proof.Machine.execStartStepTimeout step s
  | .startFailReset => Sys2Proof.Machine.execStartFailReset s
  | .loadStage2 => Sys2Proof.Machine.execLoadStage2 s
  | .stage2FetchDone bytes err => Sys2Proof.Machine.execStage2FetchDone bytes err s
  | .serviceReady => Sys2Proof.Machine.execServiceReady s
  | .bootReset => Sys2Proof.Machine.execBootReset s
  | .enterDamped => Sys2Proof.Machine.execEnterDamped s
  | .flashWrite region => Sys2Proof.Machine.execFlashWrite region s
  | .readout => Sys2Proof.Machine.execReadout s
  | .diag => Sys2Proof.Machine.execDiag s
  | .clearReset => Sys2Proof.Machine.execClearReset s
  | .secLogIndexWrite index => Sys2Proof.Machine.execSecLogIndexWrite index s
  | .quoteGo => Sys2Proof.Machine.execQuoteGo s
  | .quoteDone => Sys2Proof.Machine.execQuoteDone s
  | .resetNAssert board => Sys2Proof.Machine.execResetNAssert board s
  | .railFault => Sys2Proof.Machine.execRailFault s
  | .receiverLockChange haune n gained inWindow => Sys2Proof.Machine.execReceiverLockChange haune n gained inWindow s
  | .commandAddressParity ch pc what => Sys2Proof.Machine.execCommandAddressParity ch pc what s
  | .hlTrainingRetry h => Sys2Proof.Machine.execHlTrainingRetry h s
  | .remirroredMessage n p => Sys2Proof.Machine.execRemirroredMessage n p s
  | .dampedCommandDone err results => Sys2Proof.Machine.execDampedCommandDone err results s

end Sys2Proof.Machine
end

