-- ==== Sys2Proof/WellFormed.lean ====
section
/-!
DEFINITION. Sys2Proof/WellFormed.lean: which commands name a unit the device has: quarters (4), cores (272), threads (8), ports (16), Haune halves
(2), channels (128), pseudo channels (2), slots, banks and pages, and instruction operands that their encoding admits. The bounds are written here
once more, apart from the meanings, which stop on the same commands.
-/

namespace Sys2Proof

open Machine

/-- A signed number of n bits. -/
def signedFits (v : Int) (n : Nat) : Bool := decide (-(2 ^ (n - 1)) ≤ v) && decide (v < 2 ^ (n - 1))

/-- An instruction of thread t of core c whose registers are G0 to G31 (R142). -/
def insnIn (c t : Nat) (rs : List Nat) : Bool := decide (c < 272) && decide (t < 8) && rs.all (fun r => decide (r < 32))

/-- A command of the device: every operand that names a unit names one the device has. -/
def Instr.wf : Instr → Bool
  | .registerWrite _ width _ => width = 4 || width = 8
  | .rcRead _ width => width = 4 || width = 8
  | .beatNowRead .. => true
  | .imageLoadFull => true
  | .imageLoadPartial => true
  | .imageCancel => true
  | .imageFetchComplete .. => true
  | .imageApplyDone => true
  | .imageSwitchBeat => true
  | .imageSwitchComplete => true
  | .qualWindowEnd .. => true
  | .missingEdge .. => true
  | .clockResume .. => true
  | .beatTick => true
  | .beatBoundary => true
  | .beatSet .. => true
  | .beatInEdge => true
  | .probe port _ => port < 16
  | .echo port _ _ => port < 16
  | .echoTimeout port _ => port < 16
  | .sync port _ _ _ _ _ => port < 16
  | .beatStopEnd => true
  | .upstreamTimeout port => port < 16
  | .late n _ => n ≤ 16
  | .patternArm quarter => quarter < 4
  | .patternDisarm quarter => quarter < 4
  | .patternEntryIssue quarter => quarter < 4
  | .deadlineEnd quarter slot => quarter < 4 && slot < 64
  | .bridgeFail bridge => bridge < 4
  | .mm core => core < 272
  | .mark core => core < 272
  | .mxeRowEntry core _ _ _ => core < 272
  | .mxeDrainStart core => core < 272
  | .mxeDrainComplete core => core < 272
  | .mxeAbort core => core < 272
  | .mxeErrClear core => core < 272
  | .numLsSet .. => true
  | .numLsClean .. => true
  | .vadd core thread _ _ => core < 272 && thread < 8
  | .vsub core thread _ _ => core < 272 && thread < 8
  | .vmul core thread _ _ => core < 272 && thread < 8
  | .vfma core thread _ _ => core < 272 && thread < 8
  | .vmin core thread _ _ => core < 272 && thread < 8
  | .vmax core thread _ _ => core < 272 && thread < 8
  | .vdiv core thread _ _ => core < 272 && thread < 8
  | .vsqrt core thread _ _ => core < 272 && thread < 8
  | .vexp2 core thread _ _ => core < 272 && thread < 8
  | .vlog2 core thread _ _ => core < 272 && thread < 8
  | .vrsqrt core thread _ _ => core < 272 && thread < 8
  | .vcmp core thread _ _ => core < 272 && thread < 8
  | .vsel core thread _ _ => core < 272 && thread < 8
  | .vaddh core thread _ _ => core < 272 && thread < 8
  | .vmulh core thread _ _ => core < 272 && thread < 8
  | .vfmah core thread _ _ => core < 272 && thread < 8
  | .vcvt core thread _ _ => core < 272 && thread < 8
  | .vpack core thread _ _ => core < 272 && thread < 8
  | .vunpk core thread _ _ => core < 272 && thread < 8
  | .vperm core thread _ _ => core < 272 && thread < 8
  | .vshuf core thread _ _ => core < 272 && thread < 8
  | .vld core thread _ _ => core < 272 && thread < 8
  | .vst core thread _ _ => core < 272 && thread < 8
  | .vcomp core thread _ _ => core < 272 && thread < 8
  | .vexpd core thread _ _ => core < 272 && thread < 8
  | .vsetc core thread _ _ => core < 272 && thread < 8
  | .vsbr core thread _ _ => core < 272 && thread < 8
  | .vsbw core thread _ _ => core < 272 && thread < 8
  | .vsbc core thread _ _ => core < 272 && thread < 8
  | .vxr core thread _ _ => core < 272 && thread < 8
  | .vmstat core thread _ _ => core < 272 && thread < 8
  | .vmaxpy core thread _ _ => core < 272 && thread < 8
  | .vfin core thread _ _ => core < 272 && thread < 8
  | .ttrans core thread _ _ => core < 272 && thread < 8
  | .xsum core thread _ _ => core < 272 && thread < 8
  | .xmax core thread _ _ => core < 272 && thread < 8
  | .xmin core thread _ _ => core < 272 && thread < 8
  | .xcnt core thread _ _ => core < 272 && thread < 8
  | .xflag core thread _ _ => core < 272 && thread < 8
  | .xargmax core thread _ _ => core < 272 && thread < 8
  | .xcolacc core thread _ _ => core < 272 && thread < 8
  | .xclr core thread _ _ => core < 272 && thread < 8
  | .vectorInsnComplete core _ _ => core < 272
  | .vxeErrClear core => core < 272
  | .xlrErrClear core => core < 272
  | .vxeAbort core => core < 272
  | .ctcIntegerOp core thread _ rd ra src _ => insnIn core thread [rd, ra] && (match src with | .reg rb => decide (rb < 32) | .imm v => signedFits v 41)
  | .ctcBranch core thread _ ra rb imm _ => insnIn core thread [ra, rb] && signedFits imm 41
  | .jumpAndLink core thread rd imm => insnIn core thread [rd] && signedFits imm 41
  | .jumpRegister core thread ra _ => insnIn core thread [ra]
  | .ctcLoad core thread size rd ra imm _ _ _ => insnIn core thread [rd, ra] && signedFits imm 41 && [1, 2, 4, 8].contains size
  | .ctcStore core thread size rs ra imm _ _ => insnIn core thread [rs, ra] && signedFits imm 41 && [1, 2, 4, 8].contains size
  | .globalLoadReturn core slot _ => core < 272 && slot < 64
  | .storeAck core slot _ => core < 272 && slot < 64
  | .aaddI core thread rd ra rb imm _ => insnIn core thread [rd, ra, rb] && signedFits imm 41
  | .aaddF core thread rd ra rb imm _ => insnIn core thread [rd, ra, rb] && signedFits imm 41
  | .aminI core thread rd ra rb imm _ => insnIn core thread [rd, ra, rb] && signedFits imm 41
  | .amaxI core thread rd ra rb imm _ => insnIn core thread [rd, ra, rb] && signedFits imm 41
  | .aminF core thread rd ra rb imm _ => insnIn core thread [rd, ra, rb] && signedFits imm 41
  | .amaxF core thread rd ra rb imm _ => insnIn core thread [rd, ra, rb] && signedFits imm 41
  | .aswap core thread rd ra rb imm _ => insnIn core thread [rd, ra, rb] && signedFits imm 41
  | .acas core thread rd ra rb imm _ => insnIn core thread [rd, ra, rb] && signedFits imm 41
  | .tadd core thread tap imm => core < 272 && thread < 8 && tap < 64 && signedFits imm 32
  | .tset core thread tap imm => core < 272 && thread < 8 && tap < 64 && signedFits imm 32
  | .twait core thread tap imm => core < 272 && thread < 8 && tap < 64 && signedFits imm 32
  | .tpost core thread _ tap => core < 272 && thread < 8 && tap < 64
  | .tpostDeliver core tap => core < 272 && tap < 64
  | .toll core thread rd ch => insnIn core thread [rd] && ch < 16
  | .tolla core thread ch tap => core < 272 && thread < 8 && ch < 16 && tap < 64
  | .tollRelease ch => ch < 16
  | .tollTimeout ch => ch < 16
  | .tollReset .. => true
  | .sget core thread rd summ => insnIn core thread [rd] && summ < 16
  | .cmx core thread ra _ => insnIn core thread [ra]
  | .csx core thread ra _ => insnIn core thread [ra]
  | .cdb core thread ra _ => insnIn core thread [ra]
  | .vfence core thread => core < 272 && thread < 8
  | .mfence core thread => core < 272 && thread < 8
  | .fence core thread => core < 272 && thread < 8
  | .halt core thread => core < 272 && thread < 8
  | .yield core thread => core < 272 && thread < 8
  | .csrr core thread rd ra imm _ _ => insnIn core thread [rd, ra] && signedFits imm 41
  | .csrw core thread rb ra imm _ _ => insnIn core thread [rb, ra] && signedFits imm 41
  | .threadWake core thread => core < 272 && thread < 8
  | .ctcRunStart core thread => core < 272 && thread < 8
  | .ctcRunStop core thread => core < 272 && thread < 8
  | .tapCmdSet core tap _ => core < 272 && tap < 64
  | .tapCmdAdd core tap _ => core < 272 && tap < 64
  | .kvrArm quarter slot => quarter < 4 && slot < 128
  | .kvrRelease quarter slot => quarter < 4 && slot < 128
  | .kvHeaderWrite port _ => port < 16
  | .kvPayloadWrite port _ => port < 16
  | .kvBusyResend core => core < 272
  | .streamGatePass core ctx => core < 272 && ctx < 16
  | .streamLineLand core _ _ => core < 272
  | .prefetchIssue core ctx => core < 272 && ctx < 16
  | .prefetchFill core _ => core < 272
  | .prefetchTune core => core < 272
  | .pfAutoClear core => core < 272
  | .relayHop core chain => core < 272 && chain < 4
  | .sxuAbort core => core < 272
  | .translationWalkDone .. => true
  | .xltInval .. => true
  | .invalComplete => true
  | .dmaDoorbell core _ => core < 272
  | .dmaChannelSelect core => core < 272
  | .dmaDescRead core _ => core < 272
  | .copy core _ _ => core < 272
  | .drain core => core < 272
  | .dmaCopyComplete core => core < 272
  | .dmaDrainComplete core => core < 272
  | .dmaRingWrite core ch _ _ => core < 272 && ch < 16
  | .dmaDisable core => core < 272
  | .nsScrub core _ _ => core < 272
  | .shcRequest .. => true
  | .atomicRequest .. => true
  | .tierRequestTimeout .. => true
  | .alloc dp client => dp < 524288 && client < 64
  | .free dp => dp < 524288
  | .promote dp => dp < 524288
  | .evict dp => dp < 524288
  | .poolEnable => true
  | .poolDisable => true
  | .poolClientWrite client _ _ => client < 64
  | .poolEvictSelect tier => tier = 3 || tier = 4
  | .poolMoveComplete dp _ => dp < 524288
  | .poolMoveFailed dp => dp < 524288
  | .mchCommandIssue ch pc _ => ch < 128 && pc < 2
  | .requestUrgent ch pc _ => ch < 128 && pc < 2
  | .hbmRefresh ch pc bank _ _ => ch < 128 && pc < 2 && bank < 48
  | .hbmReadDecode ch pc _ _ => ch < 128 && pc < 2
  | .hbmScrub ch pc => ch < 128 && pc < 2
  | .channelTrainDone ch _ _ _ _ => ch < 128
  | .retrain ch => ch < 128
  | .testEnter ch => ch < 128
  | .testExit ch => ch < 128
  | .stop => true
  | .apply => true
  | .mchApplyDone => true
  | .hbmTempRead stack _ => stack < 8
  | .tgStart ch _ => ch < 128
  | .tgStop ch _ => ch < 128
  | .tgDone ch _ => ch < 128
  | .portEnable port => port < 16
  | .portDisable port => port < 16
  | .portTrainingDone port => port < 16
  | .portTrainingFail port _ => port < 16
  | .portTrainingRetry port => port < 16
  | .keyx port _ _ _ _ => port < 16
  | .keyxResend port => port < 16
  | .keyingTimeout port => port < 16
  | .portRetrain port _ => port < 16
  | .portRetrainCmd port => port < 16
  | .frameSend port => port < 16
  | .frameReceive port _ => port < 16
  | .rekeyStart port => port < 16
  | .keyExhausted port => port < 16
  | .fabRead port _ _ => port < 16
  | .fabWrite port _ _ => port < 16
  | .fabAtomic port _ => port < 16
  | .fabReadResp port _ => port ≤ 16
  | .fabWriteAck port _ => port ≤ 16
  | .fabAtomicResp port _ => port ≤ 16
  | .fabNack port _ => port ≤ 16
  | .quarantineEnd port => port < 16
  | .blockResend .. => true
  | .lexLoadCmd quarter _ _ => quarter < 4
  | .lexLoadStart quarter => quarter < 4
  | .lexLoadDone quarter _ => quarter < 4
  | .lcxEpochNext quarter _ => quarter < 4
  | .lcxEpochAdvance quarter _ => quarter < 4
  | .post slot => slot < 256
  | .release slot => slot < 256
  | .reset slot => slot < 256
  | .colBufferGrant quarter => quarter < 4
  | .collectivePiece port _ _ => port < 16
  | .freTileFinish slot _ => slot < 256
  | .sealChild port _ => port < 16
  | .restart port _ => port < 16
  | .replay port _ => port < 16
  | .voteUp port _ => port < 16
  | .voteDown port _ => port < 16
  | .collectiveAnswer port _ => port ≤ 16
  | .collectiveResend .. => true
  | .shdGather core pass group => core < 272 && pass < 2 && group < 1024
  | .openBank bank _ => bank < 2
  | .ready bank => bank < 2
  | .drop bank => bank < 2
  | .clearLedger => true
  | .retired => true
  | .undoClose => true
  | .powerSample .. => true
  | .powerBinBoundary => true
  | .vcPgoodRise => true
  | .voltageWaitTimeout => true
  | .trimRaise => true
  | .monitorSlackLow core => core < 272
  | .droopDetect core _ => core < 272
  | .droopRecover core => core < 272
  | .dieTempRead quarter _ => quarter < 4
  | .pwrCapWrite .. => true
  | .pwrManual .. => true
  | .rewind n _ => n < 17
  | .rewindComplete => true
  | .knell _ => true
  | .knellReceive n _ => n < 16
  | .repaired => true
  | .remirrored => true
  | .readyMap => true
  | .restoreDone .. => true
  | .fltProgressWrite .. => true
  | .oscLockLoss c => c < 272
  | .heartbeat n _ => n < 16
  | .livenessTimeout n => n < 16
  | .ping n _ => n < 17
  | .pong n _ => n < 17
  | .pongTimeout n => n < 16
  | .assign n _ _ => n < 17
  | .accept n _ => n < 17
  | .decline n _ => n < 17
  | .assignTimeout .. => true
  | .takeoverTimeout .. => true
  | .claimed n _ => n < 16
  | .takeoverDone n _ => n < 16
  | .repairDone n _ => n < 16
  | .takeoverFailed n _ => n < 16
  | .hlHalfEnable h => h < 2
  | .hlHalfDisable h => h < 2
  | .hlTrainingDone h _ => h < 2
  | .hlTrainingFail h => h < 2
  | .hlRetrain h => h < 2
  | .hlFlitReceive h _ => h < 2
  | .hlAckSend h => h < 2
  | .rdShared r => r.half < 2
  | .rdOwn r => r.half < 2
  | .rdOnce r => r.half < 2
  | .wrLine r _ => r.half < 2
  | .wrMasked r _ _ => r.half < 2
  | .wbDirty r _ => r.half < 2
  | .wbClean r => r.half < 2
  | .csrRd r => r.half < 2
  | .csrWr r _ => r.half < 2
  | .rspData half _ _ => half < 2
  | .rspAck half _ => half < 2
  | .rspSnp half _ _ _ => half < 2
  | .nack half _ _ => half < 2
  | .snoopTimeout .. => true
  | .hlQuarantineEnd => true
  | .hlCmdDoorbell => true
  | .hlCmdRingWrite .. => true
  | .hlCmdPause .. => true
  | .nop => true
  | .read32 => true
  | .read64 => true
  | .write32 => true
  | .write64 => true
  | .rmw64 => true
  | .waitBeat => true
  | .waitBeatEnd => true
  | .poll64 => true
  | .poll64Sample => true
  | .hlEvtRingWrite .. => true
  | .hlEvtDoorbell .. => true
  | .eventNotify => true
  | .i3cCsrRead .. => true
  | .i3cCsrWrite .. => true
  | .i3cTelemetry => true
  | .i3cPrivateRead => true
  | .enec .. => true
  | .disec .. => true
  | .rstdaa => true
  | .setdasa .. => true
  | .entdaa .. => true
  | .setnewda .. => true
  | .getpid => true
  | .getbcr => true
  | .getdcr => true
  | .getstatus => true
  | .getmwl => true
  | .getmrl => true
  | .ibiRaise => true
  | .idcode => true
  | .samplePreload => true
  | .extest => true
  | .clamp => true
  | .highz => true
  | .csrAccess => true
  | .hbm1500 => true
  | .bypass => true
  | .jtagCsrGo .. => true
  | .resetRelease .. => true
  | .checkpoint => true
  | .latchSample => true
  | .startStepTimeout .. => true
  | .startFailReset => true
  | .loadStage2 => true
  | .stage2FetchDone .. => true
  | .serviceReady => true
  | .bootReset => true
  | .enterDamped => true
  | .flashWrite .. => true
  | .readout => true
  | .diag => true
  | .clearReset => true
  | .secLogIndexWrite .. => true
  | .quoteGo => true
  | .quoteDone => true
  | .resetNAssert .. => true
  | .railFault => true
  | .receiverLockChange haune n _ _ => if haune then decide (n < 2) else decide (n < 16)
  | .commandAddressParity ch pc _ => ch < 128 && pc < 2
  | .hlTrainingRetry h => h < 2
  | .remirroredMessage n _ => n < 17
  | .dampedCommandDone .. => true

end Sys2Proof
end

