-- ==== Sys2Proof/Safety.lean ====
section
/-!
DEFINITION. Sys2Proof/Safety.lean: what a safe run is: one in which every command that waits names units the device has, and no step stops.
-/

namespace Sys2Proof.Machine

/-- Every command that waits is a command of the device. -/
def State.queueOk (s : State) : Bool := s.pending.all (fun c => c.wf)

/-- A state from which the next step answers a next state. -/
def State.runs (s : State) : Prop := ∃ t, step s = .next t

/-- Pinned scratch in canonical form: addresses strictly rising, and no entry equal to what the unlisted address reads as. -/
def Dev.scratchOk (d : Dev) : Nat → List Host.Cell → Bool
  | _, [] => true
  | lo, (a, v) :: m => decide (lo ≤ a) && decide (v ≠ Mem.init (d.scratchSpace a) a) && d.scratchOk (a + 1) m

/-- Every memory of the device in its canonical form: HBM, pinned scratch, and the staging and near store of each core. -/
def Dev.memoryOk (d : Dev) : Bool :=
  Memory.wf (4 * d.mem.epoch) d.mem.hbm && d.scratchOk 0 d.mem.scratch &&
    d.cores.all (fun k => Memory.wf (4 * k.1 + 2) k.2.stg && Memory.wf (4 * k.1 + 3) k.2.ns)

/-! ### Frames: what a command leaves alone -/

/-- The state with another device and the same queue. -/
abbrev State.withDev (s : State) (d : Dev) : State := { s with dev := d }

/-- A field of a register instance lies apart from another: at another address, or in other bits of the same register. -/
def Fld.apart (g : Fld) (u i : Nat) (x : Fld × Nat × Nat) : Prop :=
  g.reg.addr u i ≠ x.1.reg.addr x.2.1 x.2.2 ∨ (g.reg = x.1.reg ∧ (x.1.hi < g.lo ∨ g.hi < x.1.lo))

/-- From d to e no field of any register changes but those listed (field, unit, index). -/
def Dev.onlyFields (d e : Dev) (fs : List (Fld × Nat × Nat)) : Prop :=
  ∀ (g : Fld) (u i : Nat), g.lo ≤ g.hi → (∀ x ∈ fs, g.apart u i x) → e.get g u i = d.get g u i

/-- A byte of a memory of the device: HBM, pinned scratch, and a core's staging and near store. -/
inductive MemPlace where
  | hbm (a : Nat)
  | scratch (a : Nat)
  | stg (core a : Nat)
  | ns (core a : Nat)
deriving DecidableEq, Repr

/-- What a byte of memory reads as. -/
def Dev.byteAt (d : Dev) : MemPlace → Byte
  | .hbm a => bread (4 * d.mem.epoch) d.mem.hbm a
  | .scratch a => bread (d.scratchSpace a) d.mem.scratch a
  | .stg c a => bread (4 * c + 2) (d.core c).stg a
  | .ns c a => bread (4 * c + 3) (d.core c).ns a

/-- Every byte of memory reads the same. -/
def Dev.sameBytes (d e : Dev) : Prop := ∀ p, e.byteAt p = d.byteAt p

/-- Tap counter k of core c takes the value v, saturated at the ends of 32 bits; a saturation sets the counter's bit in TAP_OVF (R150). -/
def Dev.tapTakes (d e : Dev) (c k : Nat) (v : Int) : Prop :=
  e.tap c k = max (-(2 ^ 31)) (min (2 ^ 31 - 1) v) ∧
    bitOf (e.get F.TAP_OVF_V c) k = (bitOf (d.get F.TAP_OVF_V c) k || decide (v < -(2 ^ 31) ∨ 2 ^ 31 - 1 < v))

/-! ### Shapes of commands -/

/-- The commands that issue a vector or cross-lane instruction, with the opcode of Table 06-4: opcode, core, thread, the other fields of the
word, and what the outside reports of a read. -/
def vectorForm : Instr → Option (Nat × Nat × Nat × Nat × Nat)
  | .vadd c t x e => some (0x80, c, t, x, e)
  | .vsub c t x e => some (0x81, c, t, x, e)
  | .vmul c t x e => some (0x82, c, t, x, e)
  | .vfma c t x e => some (0x83, c, t, x, e)
  | .vmin c t x e => some (0x84, c, t, x, e)
  | .vmax c t x e => some (0x85, c, t, x, e)
  | .vdiv c t x e => some (0x86, c, t, x, e)
  | .vsqrt c t x e => some (0x87, c, t, x, e)
  | .vexp2 c t x e => some (0x88, c, t, x, e)
  | .vlog2 c t x e => some (0x89, c, t, x, e)
  | .vrsqrt c t x e => some (0x8A, c, t, x, e)
  | .vcmp c t x e => some (0x8C, c, t, x, e)
  | .vsel c t x e => some (0x8D, c, t, x, e)
  | .vaddh c t x e => some (0x90, c, t, x, e)
  | .vmulh c t x e => some (0x91, c, t, x, e)
  | .vfmah c t x e => some (0x92, c, t, x, e)
  | .vcvt c t x e => some (0x98, c, t, x, e)
  | .vpack c t x e => some (0x99, c, t, x, e)
  | .vunpk c t x e => some (0x9A, c, t, x, e)
  | .vperm c t x e => some (0xA0, c, t, x, e)
  | .vshuf c t x e => some (0xA1, c, t, x, e)
  | .vld c t x e => some (0xA8, c, t, x, e)
  | .vst c t x e => some (0xA9, c, t, x, e)
  | .vcomp c t x e => some (0xAC, c, t, x, e)
  | .vexpd c t x e => some (0xAD, c, t, x, e)
  | .vsetc c t x e => some (0xAE, c, t, x, e)
  | .vsbr c t x e => some (0xB0, c, t, x, e)
  | .vsbw c t x e => some (0xB1, c, t, x, e)
  | .vsbc c t x e => some (0xB2, c, t, x, e)
  | .vxr c t x e => some (0xB3, c, t, x, e)
  | .vmstat c t x e => some (0xB4, c, t, x, e)
  | .vmaxpy c t x e => some (0xB5, c, t, x, e)
  | .vfin c t x e => some (0xB6, c, t, x, e)
  | .ttrans c t x e => some (0xB8, c, t, x, e)
  | .xsum c t x e => some (0xC0, c, t, x, e)
  | .xmax c t x e => some (0xC1, c, t, x, e)
  | .xmin c t x e => some (0xC2, c, t, x, e)
  | .xcnt c t x e => some (0xC3, c, t, x, e)
  | .xflag c t x e => some (0xC4, c, t, x, e)
  | .xargmax c t x e => some (0xC5, c, t, x, e)
  | .xcolacc c t x e => some (0xC6, c, t, x, e)
  | .xclr c t x e => some (0xC7, c, t, x, e)
  | _ => none

/-- The commands that issue an atomic whose registers check, with its operation (Table 09-2): core, thread, RD, RA, RB and IMM. -/
def atomicForm : Instr → Option (AtomOp × Nat × Nat × Nat × Nat × Nat × Int)
  | .aaddI c t rd ra rb v false => some (.addI, c, t, rd, ra, rb, v)
  | .aaddF c t rd ra rb v false => some (.addF, c, t, rd, ra, rb, v)
  | .aminI c t rd ra rb v false => some (.minI, c, t, rd, ra, rb, v)
  | .amaxI c t rd ra rb v false => some (.maxI, c, t, rd, ra, rb, v)
  | .aminF c t rd ra rb v false => some (.minF, c, t, rd, ra, rb, v)
  | .amaxF c t rd ra rb v false => some (.maxF, c, t, rd, ra, rb, v)
  | .aswap c t rd ra rb v false => some (.swap, c, t, rd, ra, rb, v)
  | .acas c t rd ra rb v false => some (.cas, c, t, rd, ra, rb, v)
  | _ => none

/-- The instructions of CTC that read a register in which a parity error is found (R424), with their core and thread. -/
def parityForm : Instr → Option (Nat × Nat)
  | .aaddI c t _ _ _ _ true => some (c, t)
  | .aaddF c t _ _ _ _ true => some (c, t)
  | .aminI c t _ _ _ _ true => some (c, t)
  | .amaxI c t _ _ _ _ true => some (c, t)
  | .aminF c t _ _ _ _ true => some (c, t)
  | .amaxF c t _ _ _ _ true => some (c, t)
  | .aswap c t _ _ _ _ true => some (c, t)
  | .acas c t _ _ _ _ true => some (c, t)
  | .ctcIntegerOp c t _ _ _ _ true => some (c, t)
  | .ctcBranch c t _ _ _ _ true => some (c, t)
  | .jumpRegister c t _ true => some (c, t)
  | .ctcLoad c t _ _ _ _ _ _ true => some (c, t)
  | .ctcStore c t _ _ _ _ _ true => some (c, t)
  | .cmx c t _ true => some (c, t)
  | .csx c t _ true => some (c, t)
  | .cdb c t _ true => some (c, t)
  | .csrr c t _ _ _ _ true => some (c, t)
  | .csrw c t _ _ _ _ true => some (c, t)
  | _ => none

/-- CTC of core c issues from thread t: the core's clocks run, the thread is the one selected (R147), and its program counter is aligned. -/
def Dev.issues (d : Dev) (c t : Nat) : Prop :=
  c < 272 ∧ t < 8 ∧ (d.core c).ctc.selected = some t ∧ d.clockGated c = false ∧ (d.takeThread c t).pc c t % 8 = 0

/-- The fields that the issue of any instruction of thread t of core c may change: its program counter, the thread switches and CTC_STATUS. -/
def issueFields (c t : Nat) : List (Fld × Nat × Nat) :=
  [(F.CTC_PC_V, c, t), (F.CTC_SWITCHES_V, c, 0), (F.CTC_STATUS_RUNNING, c, 0), (F.CTC_STATUS_BLOCKED, c, 0), (F.CTC_STATUS_FAULTED, c, 0)]

end Sys2Proof.Machine
end

