-- ==== Sys2Proof/Certificates/Slice0/Obligations.lean ====
section
/-!
DEFINITION. Sys2Proof/Certificates/Slice0/Obligations.lean: the statements for the provers: what the rules of the manual say that the block does, stated of every
state; the tests show for each a state that meets its hypotheses.
-/

open Sys2Proof Sys2Proof.Machine

/-- For every state whose queue begins with a command c, step is exec of c on the state with the queue's rest. On an empty queue step answers the same state: the model's choice (log 2), for the commands that the outside sends are all that happens.
Rests on spec/opcode_table.json. -/
def Obligations.StepRunsTheFrontCommand : Prop :=
  (∀ (s : State) (c : Instr) (rest : List Instr), s.pending = c :: rest → step s = exec c { s with pending := rest }) ∧
  (∀ s : State, s.pending = [] → step s = .next s)

/-- For every command i of the table and every state: where every unit that i names is one the device has (Instr.wf), exec answers a next state whose queue is the queue it was given. No command of the table is refused, none faults, and none adds to the queue or drops from it.
Rests on spec/opcode_table.json, R10. -/
def Obligations.WellFormedCommandsComplete : Prop :=
  ∀ (i : Instr) (s : State), i.wf = true → ∃ t, exec i s = .next t ∧ t.pending = s.pending

/-- A command with an operand that names no unit of the device (Instr.wf false: a quarter above 3, a core above 271, a port above 15 and so on) ends in the fault noSuchUnit in every state: the model's choice (log 3) for what the manual gives no device.
Rests on R482, R483, R484. -/
def Obligations.IllFormedCommandsStop : Prop :=
  ∀ (i : Instr) (s : State), i.wf = false → exec i s = .fault .noSuchUnit

/-- Whenever a step answers a next state, its queue is the old queue without its front command: commands are taken first in, first out, and none is added, repeated or lost.
Rests on spec/opcode_table.json. -/
def Obligations.StepConsumesTheFront : Prop :=
  ∀ s t : State, step s = .next t → t.pending = s.pending.tail

/-- The invariant: every waiting command names units of the device. It holds at reset, and from every state in which it holds step answers a next state in which it holds. From every state whose waiting commands all name units of the device, as many steps as commands wait lead to a state with an empty queue: no step on the way stops. For fewer steps, the commands not yet taken still wait, in their order.
Rests on spec/opcode_table.json, R10. -/
def Obligations.WellFormedQueueRunsToItsEnd : Prop :=
  State.reset.queueOk = true ∧ (∀ s : State, s.queueOk = true → ∃ t, step s = .next t ∧ t.queueOk = true) ∧
  (∀ s : State, s.queueOk = true → ∃ t, Host.Core.run Sys2Proof.core s.pending.length s = .next t ∧ t.pending = []) ∧
  (∀ (s : State) (k : Nat), s.queueOk = true → k ≤ s.pending.length → ∃ t, Host.Core.run Sys2Proof.core k s = .next t ∧ t.pending = s.pending.drop k)

/-- State.reset holds every register at the reset value of its fields (the table of the chapter that owns it), has no command waiting, lists nothing in HBM or pinned scratch, and holds no factor table in either slot of a quarter.
Rests on 00_scope.md Registers and access codes, R306, 18_register_map.md. -/
def Obligations.ResetLeavesEveryRegisterAtItsResetValue : Prop :=
  (∀ (r : Reg) (u i : Nat), State.reset.dev.reg r u i = r.rst) ∧ State.reset.pending = [] ∧
  State.reset.dev.mem.hbm = [] ∧ State.reset.dev.mem.scratch = [] ∧ State.reset.dev.memoryOk = true ∧ (∀ q e, (State.reset.dev.lex q).slotOf e = none)

/-- For a field [hi:lo] of a register, a write of `new` under the byte mask `win`: an RO, WO or RC field keeps its contents; each bit of a W1C field is cleared where 1 is written and keeps its value elsewhere; an RW field takes the written bits where the mask covers them and keeps the others, except that a reserved encoding becomes the field's reset value; an RWL field does as RW while unlocked and keeps its contents while locked. In every case no bit outside the field changes.
Rests on R6, R7, R8. -/
def Obligations.FieldAccessCodes : Prop :=
  ∀ (f : FieldInfo) (r : Reg) (locked : Bool) (win new cur : RegVal), f.lo ≤ f.hi → f.hi < 256 → f.rst < 2 ^ (f.hi - f.lo + 1) →
    (f.acc = .ro ∨ f.acc = .wo ∨ f.acc = .rc → f.write r locked win new cur = cur) ∧
    (f.acc = .rwl → locked = true → f.write r locked win new cur = cur) ∧
    (f.acc = .w1c → ∀ b, f.lo ≤ b → b ≤ f.hi → (f.write r locked win new cur).getLsbD b = (cur.getLsbD b && !(new.getLsbD b && win.getLsbD b))) ∧
    (f.acc = .rw ∨ (f.acc = .rwl ∧ locked = false) →
      let v := bits ((cur &&& ~~~win) ||| (new &&& win)).toNat f.hi f.lo
      bits (f.write r locked win new cur).toNat f.hi f.lo = if encodingOk r f.lo v then v else f.rst) ∧
    (∀ b, b < f.lo ∨ f.hi < b → (f.write r locked win new cur).getLsbD b = cur.getLsbD b)

/-- REGISTER_WRITE of 4 or 8 bytes: at an aligned address of a register (and, for 8 bytes, of one 64-bit register) the write's command or access codes apply; misaligned or at no register, the state is unchanged. RC_READ of a whole RC register answers its value and leaves its RC fields zero; nothing else changes.
Rests on R5, R6, R439, R440. -/
def Obligations.RegisterAccessesComplete : Prop :=
  (∀ (s : State) (addr n v : Nat), n = 4 ∨ n = 8 → addr % n ≠ 0 ∨ s.dev.regAt addr = none → exec (.registerWrite addr n v) s = .next s) ∧
  (∀ (s : State) (addr n v : Nat) (a : RegAt), n = 4 ∨ n = 8 → addr % n = 0 → s.dev.regAt addr = some a → 8 * n ≤ a.reg.info.width →
    exec (.registerWrite addr n v) s = .next (s.withDev (s.dev.csrStore ⟨a, n, v⟩))) ∧
  (∀ (s : State) (addr n : Nat) (a : RegAt), n = 4 ∨ n = 8 → addr % n = 0 → s.dev.regAt addr = some a → 8 * n = a.reg.info.width → a.off = 0 →
    a.reg.info.rc = true → (a.reg.info.width = 64 → n = 8) →
    exec (.rcRead addr n) s = .next (s.withDev
      ((s.dev.setReg a.reg a.unit a.index (s.dev.reg a.reg a.unit a.index &&& ~~~a.reg.info.rcMask)).emit
        (.read addr ((s.dev.reg a.reg a.unit a.index).toNat % 2 ^ (8 * n))))))

/-- With the device in service (no clock safe state, not damped), REGISTER_WRITE of 4 bytes at the address of BEAT_DL_CAP sets CAP_BEATS to the value's low bits, changes no other field of any register, no byte of memory and no other part of the device.
Rests on R5, R6, R481, 03_beat_clocks_arbitration.md BEAT registers. -/
def Obligations.RegisterWriteSetsOneField : Prop :=
  ∀ (s : State) (v : Nat), s.dev.clk.safe = false → s.dev.flag F.BOOT_STATUS_DAMPED = false →
    ∃ t, exec (.registerWrite (Reg.beatDlCap.addr 0 0) 4 v) s = .next t ∧ t.pending = s.pending ∧
      t.dev.get F.BEAT_DL_CAP_BEATS = v % 2 ^ (F.BEAT_DL_CAP_BEATS.hi - F.BEAT_DL_CAP_BEATS.lo + 1) ∧
      t.dev = { s.dev with regs := t.dev.regs } ∧ s.dev.onlyFields t.dev [(F.BEAT_DL_CAP_BEATS, 0, 0)]

/-- BEAT_NOW_READ, as one 64-bit access (wide) or of the lower half, in a device whose BEAT block answers: BEAT_FRAC then holds the 16-bit fraction of the same tick, the count is unchanged, the value answered is the count or its lower half, and no other register field changes.
Formalises R51. -/
def Obligations.BeatNowReadLatchesTheFraction : Prop :=
  ∀ (s : State) (wide : Bool), s.dev.clk.safe = false → s.dev.flag F.BOOT_STATUS_DAMPED = false →
    ∃ t, exec (.beatNowRead wide) s = .next t ∧ t.pending = s.pending ∧ t.dev.get F.BEAT_FRAC_FRAC = s.dev.frac16 ∧ t.dev.beat = s.dev.beat ∧
      t.dev.out = s.dev.out ++ [.read (Reg.beatNow.addr 0 0) (if wide then s.dev.beat else s.dev.beat % 2 ^ 32)] ∧
      s.dev.onlyFields t.dev [(F.BEAT_FRAC_FRAC, 0, 0)]

/-- IMAGE_LOAD_FULL, with no command in progress, the device READY, a page-aligned source and a quiescent device, and IMAGE_LOAD_PARTIAL, with no command in progress, the device READY, an image loaded and a page-aligned source: STATE becomes FETCH (1), the load's source, length and beat are those of the registers, a full load holds the command ring (R28), and no other register field, no byte of memory and no other part of the device changes. A command while another is in progress only sets BUSY_SEEN.
Rests on R27, R28, R40, R466, Table 02-17. -/
def Obligations.ImageLoadBegins : Prop :=
  (∀ s : State, s.dev.loading = false → s.dev.get F.BOOT_STATUS_STAGE = 6 → s.dev.get F.IMG_SRC_V % 4096 = 0 → s.dev.quiescent = true →
    ∃ t, exec .imageLoadFull s = .next t ∧ t.pending = s.pending ∧ t.dev.imgState = 1 ∧ s.dev.onlyFields t.dev [(F.IMG_STATUS_STATE, 0, 0)] ∧
      t.dev = { s.dev with regs := t.dev.regs, img := t.dev.img } ∧ t.dev.img.partialLoad = false ∧ t.dev.img.holdRing = true ∧
      t.dev.img.src = s.dev.get F.IMG_SRC_V ∧ t.dev.img.len = s.dev.get F.IMG_LEN_V ∧ t.dev.img.inForce = s.dev.img.inForce) ∧
  (∀ s : State, s.dev.imgState = 4 → s.dev.get F.BOOT_STATUS_STAGE = 6 → s.dev.get F.IMG_SRC_V % 4096 = 0 →
    ∃ t, exec .imageLoadPartial s = .next t ∧ t.pending = s.pending ∧ t.dev.imgState = 1 ∧ s.dev.onlyFields t.dev [(F.IMG_STATUS_STATE, 0, 0)] ∧
      t.dev = { s.dev with regs := t.dev.regs, img := t.dev.img } ∧ t.dev.img.partialLoad = true ∧ t.dev.img.holdRing = false ∧
      t.dev.img.atBeat = s.dev.get F.IMG_AT_BEAT_V ∧ t.dev.img.inForce = s.dev.img.inForce) ∧
  (∀ s : State, s.dev.loading = true → exec .imageLoadFull s = .next (s.withDev (s.dev.putD F.IMG_STATUS_BUSY_SEEN 1)) ∧
    exec .imageLoadPartial s = .next (s.withDev (s.dev.putD F.IMG_STATUS_BUSY_SEEN 1)))

/-- IMAGE_FETCH_COMPLETE in FETCH with bytes that pass every check (Table 02-15) leaves a full image staged in APPLY (3) with the locks open, and a partial one, whose beat is not past, staged in STAGED (5) with nothing yet in force. IMAGE_APPLY_DONE in APPLY puts the staged settings into force. IMAGE_SWITCH_BEAT in STAGED at its beat starts the switch; IMAGE_SWITCH_COMPLETE ends it when the mesh of the quarters concerned is empty or the beat is over. IMAGE_CANCEL of a staged image before its beat refuses it with CANCELLED and leaves LOADED.
Rests on R29, R31, R33, R34, R36, R37, Table 02-17. -/
def Obligations.ImageLoadProceeds : Prop :=
  (∀ (s : State) (bytes : List Byte) (st : Settings), s.dev.imgState = 1 → s.dev.checkImage bytes s.dev.img.len s.dev.img.partialLoad = .inl st →
    (s.dev.img.partialLoad = true → s.dev.img.atBeat = 0 ∨ s.dev.beat < s.dev.img.atBeat) →
    ∃ t, exec (.imageFetchComplete bytes false) s = .next t ∧ t.pending = s.pending ∧ t.dev.img.staged = some st ∧ t.dev.img.inForce = s.dev.img.inForce ∧
      t.dev.imgState = (if s.dev.img.partialLoad then 5 else 3) ∧ (s.dev.img.partialLoad = false → t.dev.img.locked = false)) ∧
  (∀ (s : State) (st : Settings), s.dev.img.staged = some st → s.dev.imgState = 3 → exec .imageApplyDone s = .next (s.withDev (s.dev.imgApply st))) ∧
  (∀ (s : State) (st : Settings), s.dev.img.staged = some st → s.dev.imgState = 5 → s.dev.img.switchBeat ≤ s.dev.beat →
    ∃ t, exec .imageSwitchBeat s = .next t ∧ t.dev.imgState = 6 ∧ t.dev.img.quiesced = (s.dev.imgLog st true).imgChanges st) ∧
  (∀ (s : State) (st : Settings), s.dev.img.staged = some st → s.dev.imgState = 6 → s.dev.meshBusy = false ∨ s.dev.img.switchBeat < s.dev.beat →
    exec .imageSwitchComplete s = .next (s.withDev (s.dev.imgSwitched st))) ∧
  (∀ s : State, s.dev.get F.BOOT_STATUS_STAGE = 6 → s.dev.imgState = 5 → s.dev.beat < s.dev.img.switchBeat →
    exec .imageCancel s = .next (s.withDev (s.dev.imgRefuse imgCancelled 0 4 s.dev.img.by_)))

/-- MISSING_EDGE of a source that is not selected clears its presence, its qualification and its run of windows and changes no other register field and no other part of the device. Of the selected source, with the other qualified, the device runs on from the other: SELECTED names it, CLK_SWITCHED is set with the event CLK_SWITCH, and the timer and every byte of memory are as they were. With none qualified, SELECTED is 0, SAFE_SEEN set, VALID clear, and the device is in the clock safe state with its timer stopped.
Rests on R46, R47, R48, 03_beat_clocks_arbitration.md Table 03-11. -/
def Obligations.ClockSourceFailures : Prop :=
  (∀ (s : State) (src : ClkSrc), s.dev.get F.BEAT_CLK_STATUS_SELECTED ≠ src.code →
    ∃ t, exec (.missingEdge src) s = .next t ∧ t.pending = s.pending ∧ t.dev.get src.present = 0 ∧ t.dev.get src.qual = 0 ∧ t.dev.get src.run = 0 ∧
      t.dev = { s.dev with regs := t.dev.regs } ∧ s.dev.onlyFields t.dev [(src.present, 0, 0), (src.qual, 0, 0), (src.run, 0, 0)]) ∧
  (∀ (s : State) (src : ClkSrc), s.dev.get F.BEAT_CLK_STATUS_SELECTED = src.code → s.dev.flag src.other.qual = true →
    let d := ((((s.dev.putD src.present 0).putD src.qual 0).putD src.run 0).putD F.BEAT_CLK_STATUS_SELECTED src.other.code).putD F.BEAT_CLK_STATUS_CLK_SWITCHED 1
    exec (.missingEdge src) s = .next (s.withDev (d.record .clkSwitch (devSource 15) [])) ∧ d.get F.BEAT_CLK_STATUS_SELECTED = src.other.code ∧
      d.get F.BEAT_CLK_STATUS_CLK_SWITCHED = 1 ∧ (d.record .clkSwitch (devSource 15) []).clk = s.dev.clk ∧ s.dev.sameBytes (d.record .clkSwitch (devSource 15) [])) ∧
  (∀ (s : State) (src : ClkSrc), s.dev.get F.BEAT_CLK_STATUS_SELECTED = src.code → s.dev.flag src.other.qual = false → s.dev.clk.safe = false →
    ∃ t, exec (.missingEdge src) s = .next t ∧ t.pending = s.pending ∧ t.dev.clk.safe = true ∧ t.dev.clk.running = false ∧
      t.dev.get F.BEAT_CLK_STATUS_SELECTED = 0 ∧ t.dev.get F.BEAT_CLK_STATUS_SAFE_SEEN = 1 ∧ t.dev.get F.BEAT_STATUS_VALID = 0)

/-- RECEIVER_LOCK_CHANGE of a HauneLink receiver shows in HREC_PRESENT whether any half is locked; of a port's receiver it notes the lock and whether its clock is in window, and CREC follows. QUAL_WINDOW_END judges the candidate's window and lets a start that waits for a clock go on; a window whose comparison clock stopped only shows whether the candidate received edges in it. CLOCK_RESUME in the clock safe state, once a source is qualified, runs step 2 and then steps 4 onward from a reset that keeps the clock sources.
Rests on R42, R43, R44, R45, R46, R48, R465. -/
def Obligations.ClockEventsComplete : Prop :=
  (∀ (s : State) (n : Nat) (gained inWindow : Bool), n < 2 → ∃ t, exec (.receiverLockChange true n gained inWindow) s = .next t ∧ t.pending = s.pending ∧
    t.dev.clk.hlLock = setBit s.dev.clk.hlLock n gained ∧ t.dev.get F.BEAT_CLK_STATUS_HREC_PRESENT = b2n (setBit s.dev.clk.hlLock n gained ≠ 0) ∧
    s.dev.onlyFields t.dev [(F.BEAT_CLK_STATUS_HREC_PRESENT, 0, 0)]) ∧
  (∀ (s : State) (n : Nat) (gained inWindow : Bool), n < 16 → exec (.receiverLockChange false n gained inWindow) s =
    .next (s.withDev (s.dev.clockEvent (·.receiverLock false n gained inWindow)))) ∧
  (∀ (s : State) (n : Nat) (inWindow : Bool), n < 16 →
    let d := { s.dev with clk := { s.dev.clk with rxLock := setBit s.dev.clk.rxLock n true, rxIn := setBit s.dev.clk.rxIn n inWindow } }
    exec (.receiverLockChange false n true inWindow) s = .next (s.withDev d.crecWants)) ∧
  (∀ (s : State) (cand : ClkSrc) (count : Nat), exec (.qualWindowEnd cand count false) s =
    .next (s.withDev ((s.dev.clockEvent (·.windowEnd cand count false)).clockPump))) ∧
  (∀ (s : State) (cand : ClkSrc) (count : Nat), exec (.qualWindowEnd cand count true) s =
    .next (s.withDev (s.dev.putD cand.present (if count = 0 then 0 else 1)).clockPump)) ∧
  (∀ (s : State) (env : StartEnv), s.dev.clk.safe = true → s.dev.qualified.isSome = true →
    exec (.clockResume env) s = .next (s.withDev ((s.dev.resumed env).step2).clockPump))

/-- At the end of a qualification window with a comparison clock present and running: a count within 6 of 65,536 adds one to the source's run (to at most 1,024) and at 1,024 qualifies it; a count outside, following a good window, sets the run to 0 without failing the source.
Rests on R44, R46. -/
def Obligations.QualificationWindows : Prop :=
  (∀ (d : Dev) (src : ClkSrc) (count : Nat), d.hasComparison src = true → 65530 ≤ count → count ≤ 65542 →
    (d.windowEnd src count false).get src.run = min 1024 (d.get src.run + 1) ∧
    (1023 ≤ d.get src.run → (d.windowEnd src count false).get src.qual = 1)) ∧
  (∀ (d : Dev) (src : ClkSrc) (count : Nat), d.hasComparison src = true → (count < 65530 ∨ 65542 < count) → d.badRun src = 0 →
    (d.windowEnd src count false).get src.run = 0 ∧ (d.windowEnd src count false).get src.qual = d.get src.qual)

/-- BEAT_TICK on a running timer: without an overflow of the 48-bit fraction, the fraction grows by the rate word and the beat count and every register are unchanged; with one, the fraction keeps the remainder and the work of a beat boundary runs, beginning with the count advanced by one. BEAT_BOUNDARY is the tick of an overflow, and changes nothing before it. A timer without a source does not move. A timer that R57 stopped stands while the expected stamp comes nearer by the nominal rate word a tick (the rate is the model's choice, log 63).
Rests on R50, R57. -/
def Obligations.TheTimerTicks : Prop :=
  (∀ s : State, s.dev.clk.running = true → s.dev.clk.stopped = false → s.dev.clk.frac.toNat + s.dev.clk.rate < 2 ^ 48 →
    ∃ t, exec .beatTick s = .next t ∧ t.pending = s.pending ∧ t.dev.clk.frac.toNat = s.dev.clk.frac.toNat + s.dev.clk.rate ∧ t.dev.regs = s.dev.regs ∧
      t.dev.mem = s.dev.mem ∧ t.dev.cores = s.dev.cores ∧ t.dev.fab = s.dev.fab) ∧
  (∀ s : State, s.dev.clk.running = true → s.dev.clk.stopped = false → 2 ^ 48 ≤ s.dev.clk.frac.toNat + s.dev.clk.rate →
    ∃ d : Dev, exec .beatTick s = .next (s.withDev d.boundary) ∧ exec .beatBoundary s = .next (s.withDev d.boundary) ∧ d.regs = s.dev.regs ∧
      d.clk.frac.toNat = (s.dev.clk.frac.toNat + s.dev.clk.rate) % 2 ^ 48) ∧
  (∀ s : State, s.dev.clk.frac.toNat + s.dev.clk.rate < 2 ^ 48 → exec .beatBoundary s = .next s) ∧
  (∀ s : State, s.dev.clk.running = false → exec .beatTick s = .next s) ∧
  (∀ s : State, s.dev.clk.running = true → s.dev.clk.stopped = true →
    exec .beatTick s = .next (s.withDev { s.dev with clk := { s.dev.clk with expected := s.dev.clk.expected + rateNominal } }) ∧ exec .beatBoundary s = .next s) ∧
  (∀ d : Dev, d.nextBeat.beat = (d.beat + 1) % 2 ^ 64)

/-- BEAT_SET on a master with no table armed, whether or not an arming waits, waits for the next boundary; on a follower, or with a table armed, it is ignored. BEAT_IN_EDGE steers a role 2 master to the nearest beat. A PROBE on an UP port notes its arrival and queues an ECHO on the beat class. An ECHO in time gives its port its delay, half the round trip less the turn, and the upstream is chosen again. ECHO_TIMEOUT forgets the probe. A SYNC is noted and the upstream chosen: a follower without one takes the best port at once. A SYNC from the upstream, which in holdover must be eligible, gives HOPS one more than the sender's, ends holdover and steers the timer; another SYNC does nothing more. BEAT_STOP_END lets a stopped timer go on once the expected stamp has reached it. UPSTREAM_TIMEOUT makes a silent port ineligible. A LATE for this chip is applied.
Rests on R52, R54, R55, R56, R57, R59, R68. -/
def Obligations.BeatMessages : Prop :=
  (∀ (s : State) (n : Nat), s.dev.role = 0 ∨ (∃ q, q < 4 ∧ s.dev.armed q = true) → exec (.beatSet n) s = .next s) ∧
  (∀ (s : State) (n : Nat), s.dev.role ≠ 0 → (∀ q, q < 4 → s.dev.armed q = false) →
    exec (.beatSet n) s = .next (s.withDev { s.dev with clk := { s.dev.clk with setPending := some (n % 2 ^ 64) } })) ∧
  (∀ s : State, s.dev.role = 2 → s.dev.clk.running = true →
    exec .beatInEdge s = .next (s.withDev (s.dev.follow ((s.dev.now + 32768) / 65536 * 65536) 625 16))) ∧
  (∀ (s : State) (n id : Nat), n < 16 → s.dev.portUp n = true →
    let d := s.dev.takeBeat n (.probe id)
    let rest := d.clk.echoes.filter (fun (p : ProbeOut) => !(p.port = n && p.id = id))
    exec (.probe n id) s = .next (s.withDev ({ d with clk := { d.clk with echoes := rest ++ [({ port := n, id := id, launch := s.dev.now } : ProbeOut)] } }.sendBeat n (.echo id 0)))) ∧
  (∀ (s : State) (n id turn : Nat) (p : ProbeOut), n < 16 → s.dev.clk.probes.find? (fun (p : ProbeOut) => p.port = n && p.id = id) = some p →
    s.dev.now < p.launch + 16 * 65536 → s.dev.portUp n = true → p.launch + turn ≤ s.dev.now →
    let b := s.dev.takeBeat n (.echo id turn)
    let d := { b with clk := { b.clk with probes := s.dev.clk.probes.filter (fun (x : ProbeOut) => x ≠ p) } }
    exec (.echo n id turn) s = .next (s.withDev
      ((d.put F.BEAT_PORT_DELAY_DELAY 0 n ((s.dev.now - p.launch - turn) / 2)).put F.BEAT_PORT_DELAY_VALID 0 n 1).reselect)) ∧
  (∀ (s : State) (n id : Nat), n < 16 → ∃ t, exec (.echoTimeout n id) s = .next t ∧ t.dev = { s.dev with clk := { s.dev.clk with probes := t.dev.clk.probes } } ∧
    (∀ p ∈ t.dev.clk.probes, p ∈ s.dev.clk.probes) ∧ (∀ p ∈ t.dev.clk.probes, p.port = n → p.id = id → s.dev.now < p.launch + 16 * 65536)) ∧
  (∀ (s : State) (n hops : Nat) (h : Bool) (i beat frac : Nat), n < 16 → s.dev.role = 0 → s.dev.portUp n = true → s.dev.clk.running = true →
    let b := (s.dev.takeBeat n (.sync hops h i beat frac)).noteSync { port := n, hops := hops, holdover := h, interval := i, arrival := s.dev.now }
    let d := if s.dev.get F.BEAT_STATUS_UPSTREAM = 0xFF ∧ b.bestPort.map (·.port) = some n then b.takeUpstream n else b.reselect
    let c := (d.putD F.BEAT_STATUS_HOPS (hops + 1)).putD F.BEAT_STATUS_HOLDOVER 0
    (d.get F.BEAT_STATUS_UPSTREAM = n → d.flag F.BEAT_STATUS_HOLDOVER = false ∨ d.clk.syncs.any (fun (x : SyncInfo) => x.port = n && d.eligible x) = true →
      exec (.sync n hops h i beat frac) s = .next (s.withDev (c.follow (beat * 65536 + frac + c.get F.BEAT_PORT_DELAY_DELAY 0 n) (625 * 2 ^ i) n))) ∧
    (d.get F.BEAT_STATUS_UPSTREAM ≠ n ∨ (d.flag F.BEAT_STATUS_HOLDOVER = true ∧ d.clk.syncs.any (fun (x : SyncInfo) => x.port = n && d.eligible x) = false) →
      exec (.sync n hops h i beat frac) s = .next (s.withDev d))) ∧
  (∀ s : State, (s.dev.clk.stopped = true → s.dev.beat * 2 ^ 48 + s.dev.clk.frac.toNat ≤ s.dev.clk.expected →
      exec .beatStopEnd s = .next (s.withDev { s.dev with clk := { s.dev.clk with stopped := false } })) ∧
    (s.dev.clk.stopped = false ∨ s.dev.clk.expected < s.dev.beat * 2 ^ 48 + s.dev.clk.frac.toNat → exec .beatStopEnd s = .next s)) ∧
  (∀ (s : State) (n : Nat) (i : SyncInfo), n < 16 → s.dev.clk.syncs.find? (fun (x : SyncInfo) => x.port = n) = some i →
    i.arrival + 4 * 2 ^ i.interval * 65536 ≤ s.dev.now → exec (.upstreamTimeout n) s = .next (s.withDev (s.dev.noteSync { i with fresh := false }).reselect)) ∧
  (∀ (s : State) (n : Nat) (p : Packet), n ≤ 16 → p.ptype = 8 → leAt p.data 0 1 = 4 → p.dst = (s.dev.takeMsg n p).chip →
    exec (.late n p) s = .next (s.withDev ((s.dev.takeMsg n p).lateIn p.src (LateMsg.parse p.data))))

/-- PATTERN_ARM of a quarter's table that is not armed, with a valid beat and an image in force, sets the quarter's bit of ARM and of PENDING and no other bit, field or part of the device; without them it sets ARM_REFUSED only. PATTERN_DISARM clears the two bits and stops the quarter's dispatcher.
Rests on R60, R62. -/
def Obligations.PatternArming : Prop :=
  (∀ (s : State) (q : Nat), q < 4 → bitOf (s.dev.get F.BEAT_PAT_ARM_ARM) q = false → s.dev.flag F.BEAT_STATUS_VALID = true → s.dev.img.inForce.isSome = true →
    ∃ t, exec (.patternArm q) s = .next t ∧ t.pending = s.pending ∧
      t.dev.get F.BEAT_PAT_ARM_ARM = setBit (s.dev.get F.BEAT_PAT_ARM_ARM) q true ∧
      t.dev.get F.BEAT_PAT_ARM_PENDING = setBit (s.dev.get F.BEAT_PAT_ARM_PENDING) q true ∧
      t.dev = { s.dev with regs := t.dev.regs } ∧ s.dev.onlyFields t.dev [(F.BEAT_PAT_ARM_ARM, 0, 0), (F.BEAT_PAT_ARM_PENDING, 0, 0)]) ∧
  (∀ (s : State) (q : Nat), q < 4 → bitOf (s.dev.get F.BEAT_PAT_ARM_ARM) q = false → (s.dev.flag F.BEAT_STATUS_VALID && s.dev.img.inForce.isSome) = false →
    exec (.patternArm q) s = .next (s.withDev (s.dev.putD F.BEAT_STATUS_ARM_REFUSED 1))) ∧
  (∀ (s : State) (q : Nat), q < 4 → ∃ t, exec (.patternDisarm q) s = .next t ∧ t.pending = s.pending ∧
      t.dev.get F.BEAT_PAT_ARM_ARM = setBit (s.dev.get F.BEAT_PAT_ARM_ARM) q false ∧
      t.dev.get F.BEAT_PAT_ARM_PENDING = setBit (s.dev.get F.BEAT_PAT_ARM_PENDING) q false ∧ mget {} t.dev.pat.disp q = {} ∧
      t.dev = { s.dev with regs := t.dev.regs, pat := { s.dev.pat with disp := t.dev.pat.disp } } ∧
      s.dev.onlyFields t.dev [(F.BEAT_PAT_ARM_ARM, 0, 0), (F.BEAT_PAT_ARM_PENDING, 0, 0)])

/-- PATTERN_ENTRY_ISSUE of an armed quarter whose next entry is due, in a tick in which the quarter has issued none, moves the dispatcher on, counts the entry late (BEAT_PAT_LATE, LATE_SEEN) if its beat is past or a step of the timer skipped its stamp, and takes its action; an entry not yet due, a quarter not armed, and a second entry in one tick do nothing. DEADLINE_END of an open deadline whose end has come frees it and writes DEADLINE_MISS; before its end, and on a slot without one, it does nothing. BRIDGE_FAIL of a bridge in use marks it for the next beat boundary, and the requests under way on it end; of a bridge out of use it does nothing.
Rests on R13, R61, R67. -/
def Obligations.PatternsDeadlinesAndBridges : Prop :=
  (∀ (s : State) (q : Nat) (e : PatEntry), q < 4 → (s.dev.patEntries q)[(mget {} s.dev.pat.disp q).i]? = some e → (mget {} s.dev.pat.disp q).armedAt.isSome = true →
    (mget {} s.dev.pat.disp q).used = false → s.dev.clk.running = true → s.dev.clk.stopped = false →
    let p := mget {} s.dev.pat.disp q
    let stamp := s.dev.entryStamp e p.k
    stamp ≤ s.dev.now → s.dev.patWaits stamp = false →
    let next : Dispatcher := if p.i + 1 < (s.dev.patEntries q).length then { p with i := p.i + 1, used := true } else { p with k := p.k + 1, i := 0, used := true }
    let d := { s.dev with pat := { s.dev.pat with disp := mset {} s.dev.pat.disp q next } }
    exec (.patternEntryIssue q) s = .next (s.withDev ((if stamp / 65536 < s.dev.beat ∨ (∃ x ∈ s.dev.pat.skips, x.1 < stamp ∧ stamp < x.2)
      then (d.count F.BEAT_PAT_LATE_V).putD F.BEAT_STATUS_LATE_SEEN 1 else d).patAction q e stamp))) ∧
  (∀ (s : State) (q : Nat), q < 4 → let p := mget {} s.dev.pat.disp q
    p.armedAt = none ∨ p.used = true ∨ s.dev.clk.running = false ∨ (∀ e, (s.dev.patEntries q)[p.i]? = some e → s.dev.now < s.dev.entryStamp e p.k) →
    exec (.patternEntryIssue q) s = .next s) ∧
  (∀ (s : State) (q i : Nat) (e : Nat × Deadline), q < 4 → i < 64 → s.dev.pat.deadlines.find? (fun e => e.1 = dlKey q i) = some e → e.2.fin ≤ s.dev.now →
    exec (.deadlineEnd q i) s = .next (s.withDev
      ({ s.dev with pat := { s.dev.pat with deadlines := s.dev.pat.deadlines.filter (fun x => x.1 ≠ dlKey q i) } }.record .deadlineMiss (evSource q 15 0x7F)
        [(1, i), (1, e.2.kind), (1, e.2.ref), (8, e.2.fin / 65536), (2, e.2.fin % 65536)]))) ∧
  (∀ (s : State) (q i : Nat), q < 4 → i < 64 → (∀ e, s.dev.pat.deadlines.find? (fun e => e.1 = dlKey q i) = some e → s.dev.now < e.2.fin) →
    exec (.deadlineEnd q i) s = .next s) ∧
  (∀ (s : State) (b : Nat), b < 4 →
    (bitOf s.dev.clk.bridgesOut b = false → ∃ t, exec (.bridgeFail b) s = .next t ∧ t.pending = s.pending ∧
      t.dev.clk = { s.dev.clk with bridgesPending := setBit s.dev.clk.bridgesPending b true } ∧
      t.dev = { s.dev with clk := t.dev.clk, sys := { s.dev.sys with accs := t.dev.sys.accs } } ∧
      t.dev.sys.accs = s.dev.sys.accs.map (fun a => match a.st with | .slice pa => { a with st := t.dev.towards a.q pa } | _ => a)) ∧
    (bitOf s.dev.clk.bridgesOut b = true → exec (.bridgeFail b) s = .next s))

/-- NUM_LS_SET with bit 31 set holds the exponent (at most 24) for the next step close and sets HOLD_PENDING; without bit 31 it changes nothing. NUM_LS_CLEAN stores the limit, at least 1 and at most 1,048,576, which the next close takes. Neither changes EXP, RUN or any other field.
Rests on R120. -/
def Obligations.LossScaleWrites : Prop :=
  (∀ (s : State) (v : Nat), bitOf v 31 = true → ∃ t, exec (.numLsSet v) s = .next t ∧ t.pending = s.pending ∧ t.dev.num.held = some (min 24 (bits v 4 0)) ∧
    t.dev.get F.NUM_STEP_STATUS_HOLD_PENDING = 1 ∧ t.dev = { s.dev with regs := t.dev.regs, num := { s.dev.num with held := t.dev.num.held } } ∧
    s.dev.onlyFields t.dev [(F.NUM_STEP_STATUS_HOLD_PENDING, 0, 0)]) ∧
  (∀ (s : State) (v : Nat), bitOf v 31 = false → exec (.numLsSet v) s = .next s) ∧
  (∀ (s : State) (v : Nat), ∃ t, exec (.numLsClean v) s = .next t ∧ t.pending = s.pending ∧
    t.dev.get F.NUM_LS_CLEAN_CLEAN_STEPS = min 1048576 (if bits v 20 0 = 0 then 1 else bits v 20 0) ∧ t.dev = { s.dev with regs := t.dev.regs } ∧
    s.dev.onlyFields t.dev [(F.NUM_LS_CLEAN_CLEAN_STEPS, 0, 0)])

/-- With the core's clocks running: MM of a head that passes its checks and has passes leaves it running, the rest of the queue in order, and every other core, every register but MXE_STATUS and all memory as they were; a head without passes does its work at once, when its set is free, and waits until then; a head that fails a check leaves the queue, sets ERR with the code and the command's first word, and starts nothing; a MARK at the head, an empty queue, a running command, PAUSE or ERR let nothing start. MXE_DRAIN_START of a waiting drain whose buffer no running vector instruction names marks it running, and of another does nothing. MXE_ERR_CLEAR clears ERR alone.
Rests on R88, R89, R90, R95, R96, R99. -/
def Obligations.MatrixCommandsStartAndDrain : Prop :=
  (∀ (s : State) (c : Nat) (q : MxeCmd) (rest : List MxeCmd), c < 272 → s.dev.clockGated c = false → (s.dev.core c).mxe.queue = q :: rest →
    s.dev.mxTakes c = true → (s.dev.core c).mxe.run = none → mxOpc q.words ≠ 2 → s.dev.mxCheck c q.words = 0 → mxKpass q.words ≠ 0 →
    ∃ t, exec (.mm c) s = .next t ∧ t.pending = s.pending ∧ (t.dev.core c).mxe.queue = rest ∧
      (t.dev.core c).mxe.run = some { cmd := q, started := decide (mxInit q.words = 2) } ∧ (∀ k, k ≠ c → t.dev.core k = s.dev.core k) ∧
      t.dev = { s.dev with regs := t.dev.regs, cores := t.dev.cores } ∧ s.dev.sameBytes t.dev ∧
      s.dev.onlyFields t.dev [(F.MXE_STATUS_QDEPTH, c, 0), (F.MXE_STATUS_HELD, c, 0), (F.MXE_STATUS_DRAINING, c, 0), (F.MXE_STATUS_BUSY, c, 0)]) ∧
  (∀ (s : State) (c : Nat) (q : MxeCmd) (rest : List MxeCmd), c < 272 → s.dev.clockGated c = false → (s.dev.core c).mxe.queue = q :: rest →
    s.dev.mxTakes c = true → (s.dev.core c).mxe.run = none → mxOpc q.words ≠ 2 → s.dev.mxCheck c q.words ≠ 0 →
    exec (.mm c) s = .next (s.withDev ((((((s.dev.updMxe c fun m => { m with queue := rest }).put F.MXE_STATUS_ERR c 0 1).put F.MXE_STATUS_ERR_CODE c 0
      (s.dev.mxCheck c q.words)).put F.MXE_ERR_CMD_V c 0 (wordOf q.words 0)).record .mxeCmdError (coreSource c 1)
      [(1, s.dev.mxCheck c q.words), (8, wordOf q.words 0)]).showMxe c))) ∧
  (∀ (s : State) (c : Nat) (q : MxeCmd) (rest : List MxeCmd), c < 272 → s.dev.clockGated c = false → (s.dev.core c).mxe.queue = q :: rest →
    s.dev.mxTakes c = true → (s.dev.core c).mxe.run = none → mxOpc q.words ≠ 2 → s.dev.mxCheck c q.words = 0 → mxKpass q.words = 0 →
    let d := s.dev.updMxe c fun m => { m with queue := rest }
    (mxInit q.words = 2 → exec (.mm c) s = .next (s.withDev ((d.mxFinish c q.words).showMxe c))) ∧
    (mxInit q.words ≠ 2 → s.dev.setFree c q.words = true → exec (.mm c) s = .next (s.withDev (((d.startTile c q.words).mxFinish c q.words).showMxe c))) ∧
    (mxInit q.words ≠ 2 → s.dev.setFree c q.words = false → exec (.mm c) s = .next (s.withDev (s.dev.showMxe c)))) ∧
  (∀ (s : State) (c : Nat), c < 272 → s.dev.clockGated c = false →
    (s.dev.core c).mxe.queue = [] ∨ s.dev.mxTakes c = false ∨ (s.dev.core c).mxe.run.isSome = true ∨ (∃ q rest, (s.dev.core c).mxe.queue = q :: rest ∧ mxOpc q.words = 2) →
    exec (.mm c) s = .next (s.withDev (s.dev.showMxe c))) ∧
  (∀ (s : State) (c : Nat) (x : MxeDrain) (rest : List MxeDrain), c < 272 → s.dev.clockGated c = false → (s.dev.core c).mxe.drains = x :: rest → x.running = false →
    ((s.dev.core c).vxe.vrun.toList ++ (s.dev.core c).vxe.xrun.toList).any (fun i => i.buffers.contains (mxDst x.words)) = false →
    ∃ t, exec (.mxeDrainStart c) s = .next t ∧ t.pending = s.pending ∧ (t.dev.core c).mxe.drains = { x with running := true } :: rest ∧
      (∀ k, k ≠ c → t.dev.core k = s.dev.core k) ∧ t.dev = { s.dev with regs := t.dev.regs, cores := t.dev.cores } ∧ s.dev.sameBytes t.dev) ∧
  (∀ (s : State) (c : Nat), c < 272 → s.dev.clockGated c = false → (∀ x rest, (s.dev.core c).mxe.drains = x :: rest → x.running = true ∨
    ((s.dev.core c).vxe.vrun.toList ++ (s.dev.core c).vxe.xrun.toList).any (fun i => i.buffers.contains (mxDst x.words)) = true) →
    exec (.mxeDrainStart c) s = .next s) ∧
  (∀ (s : State) (c : Nat), c < 272 → ∃ t, exec (.mxeErrClear c) s = .next t ∧ t.pending = s.pending ∧ t.dev.get F.MXE_STATUS_ERR c = 0 ∧
    t.dev = { s.dev with regs := t.dev.regs } ∧ s.dev.onlyFields t.dev [(F.MXE_STATUS_ERR, c, 0)])

/-- MARK at the head, with nothing running or draining, leaves the queue and pulses its tap. MXE_ROW_ENTRY counts the cycles that the row waited for operands; the row of a started command adds its products to the accumulators, the first row of a command that starts a tile does so once its set and buffer allow it, and counts a stall until then; under the fast limiter every other entry is passed over. MXE_DRAIN_COMPLETE writes the rows of the running drain into its buffer, frees its set and pulses. MXE_ABORT with no drain running and no load in progress leaves an empty engine with both sets at +0.
Rests on R75, R83, R88, R89, R90, R98, R101, R388. -/
def Obligations.MatrixEngineEvents : Prop :=
  (∀ (s : State) (c : Nat) (q : MxeCmd) (rest : List MxeCmd), c < 272 → s.dev.clockGated c = false → (s.dev.core c).mxe.queue = q :: rest → s.dev.mxTakes c = true →
    (s.dev.core c).mxe.run = none → (s.dev.core c).mxe.drains = [] → mxOpc q.words = 2 →
    let d := (s.dev.updMxe c fun m => { m with queue := rest }).showMxe c
    exec (.mark c) s = .next (s.withDev (if mxTapEn q.words then d.pulse c (mxTap q.words) else d))) ∧
  (∀ (s : State) (c aErr wErr feed : Nat) (r : MxeRun), c < 272 → s.dev.clockGated c = false → (s.dev.core c).mxe.run = some r →
    (s.dev.pwr.fast = true → (s.dev.core c).mxe.skip = true →
      exec (.mxeRowEntry c aErr wErr feed) s = .next (s.withDev (s.dev.updMxe c fun m => { m with skip := false }))) ∧
    (s.dev.pwr.fast = false ∨ (s.dev.core c).mxe.skip = false →
      let b := s.dev.updMxe c fun m => { m with skip := s.dev.pwr.fast }
      let d := if feed = 0 then b else b.count F.MXE_STALL_FEED_V c 0 feed
      (∀ t, r.started = true → (s.dev.core c).mxe.tile = some t → exec (.mxeRowEntry c aErr wErr feed) s = .next (s.withDev ((d.enterRow c r t aErr wErr).showMxe c))) ∧
      (r.started = false → let x := d.mayEnter c r.cmd.words
        (x.1 = false → exec (.mxeRowEntry c aErr wErr feed) s = .next (s.withDev (x.2.count F.MXE_STALL_DRAIN_V c))) ∧
        (∀ t, x.1 = true → ((x.2.startTile c r.cmd.words).core c).mxe.tile = some t →
          exec (.mxeRowEntry c aErr wErr feed) s = .next (s.withDev (((x.2.startTile c r.cmd.words).enterRow c r t aErr wErr).showMxe c)))))) ∧
  (∀ (s : State) (c : Nat) (x : MxeDrain) (rest : List MxeDrain), c < 272 → s.dev.clockGated c = false → (s.dev.core c).mxe.drains = x :: rest → x.running = true →
    let d := ((s.dev.each (List.range x.tile.m) (fun d r => d.drainRow c x r)).updMxe c fun m => { m with drains := rest }).showMxe c
    exec (.mxeDrainComplete c) s = .next (s.withDev ((if mxTapEn x.words then d.pulse c (mxTap x.words) else d).vecPump c))) ∧
  (∀ (s : State) (c : Nat), c < 272 → (∀ x rest, (s.dev.core c).mxe.drains = x :: rest → x.running = false) →
    (∀ r, (s.dev.core c).mxe.run = some r → r.started = false ∨ mxInit r.cmd.words ≠ 1 ∨ r.pass ≠ 0 ∨ r.sub ≠ 0 ∨ mxM r.cmd.words ≤ 2 * r.row) →
    exec (.mxeAbort c) s = .next (s.withDev (((s.dev.updMxe c fun _ => {}).showMxe c).vecPump c)))

/-- For an accumulator with sum s and compensation term c: where s is NaN or infinite the drained value is s; with compensation off it is s; otherwise it is the exact sum of s and c rounded to FP32, and where that rounding overflows it is the infinity of the sum's sign.
Formalises R85. -/
def Obligations.DrainedValues : Prop :=
  (∀ (a : Acc) (comp : Bool), a.s.val.special = true → a.drain comp = a.s) ∧
  (∀ a : Acc, a.drain false = a.s) ∧
  (∀ a : Acc, a.s.val.special = false → a.drain true = (a.s.val.add a.c.val).f32) ∧
  (∀ (a : Acc) (n : Bool) (m : Nat) (e : Int), a.s.val.special = false → a.s.val.add a.c.val = .fin n m e → l32.round m e = none →
    a.drain true = if n then f32ninf else f32inf)

/-- For every format of Table 05-1 and every element that is no NaN (and not the most negative integer of the two integer formats, which conversion never produces), converting the element's value back to the format gives the element itself, with neither a saturation nor a flush counted.
Rests on R103, R104, R106, R109, 05_numerics.md Tables 05-1, 05-2, 05-4. -/
def Obligations.NumberFormatsRoundTrip : Prop :=
  ∀ (f : Fmt) (v : Nat), v < 2 ^ f.bits → f.decode v ≠ .nan → (f = .mxint8 → v ≠ 0x80) → (f = .int32 → v ≠ 0x80000000) →
    f.encode (f.decode v) = { v := v, sat := false, flush := false }

/-- Merging a tile's row state B into a running state A: a NAN row makes the result NAN; two INF rows stay INF with the sums of exponentials added; one INF row wins; two MASKED rows stay MASKED with maximum -Inf and sum +0; a MASKED row gives the other unchanged; the class of the result of two NORMAL rows is NORMAL. The saved log-sum-exp is -Inf for a MASKED row, +Inf for INF and the canonical NaN for NAN.
Rests on R124, R125, R126, 05_numerics.md Tables 05-9, 05-10. -/
def Obligations.SoftmaxRowMerge : Prop :=
  ∀ (scale : F32) (a b : RowStat),
    (a.cls = clsNan ∨ b.cls = clsNan → (mergeRow scale a b).1.cls = clsNan ∧ (mergeRow scale a b).1.m = f32nan) ∧
    (a.cls = clsInf → b.cls = clsInf → (mergeRow scale a b).1.cls = clsInf ∧ (mergeRow scale a b).1.l = fadd a.l b.l) ∧
    (a.cls = clsInf → b.cls = clsNormal ∨ b.cls = clsMasked → (mergeRow scale a b).1.cls = clsInf ∧ (mergeRow scale a b).1.l = a.l) ∧
    (b.cls = clsInf → a.cls = clsNormal ∨ a.cls = clsMasked → (mergeRow scale a b).1.cls = clsInf ∧ (mergeRow scale a b).1.l = b.l) ∧
    (a.cls = clsMasked → b.cls = clsMasked → (mergeRow scale a b).1.cls = clsMasked ∧ (mergeRow scale a b).1.m = f32ninf ∧ (mergeRow scale a b).1.l = 0) ∧
    (a.cls = clsNormal → b.cls = clsMasked → (mergeRow scale a b).1 = { a with cls := clsNormal }) ∧
    (a.cls = clsMasked → b.cls = clsNormal → (mergeRow scale a b).1.m = b.m ∧ (mergeRow scale a b).1.l = b.l ∧ (mergeRow scale a b).1.cls = clsNormal) ∧
    (a.cls = clsNormal → b.cls = clsNormal → (mergeRow scale a b).1.cls = clsNormal ∧ (mergeRow scale a b).1.m = fmax a.m b.m) ∧
    (a.cls = clsMasked → finishLse scale a = f32ninf) ∧ (a.cls = clsInf → finishLse scale a = f32inf) ∧ (a.cls = clsNan → finishLse scale a = f32nan)

/-- For each of the 42 rows VADD to XCLR, issued by the thread that CTC selects while its queue has room (32 entries of VXE, 16 of XLR): the word with the row's opcode of Table 06-4 and the operand fields is appended to its unit's queue and to no other, the thread's program counter goes to the next instruction, and the units take what they may; a full queue blocks the thread. Where software pauses the units (PAUSE), nothing starts: the two queues are the old ones with that word at the end of its unit's, the thread's program counter has advanced by 8, and no byte of memory changes.
Rests on R128, R132, R146, R147, 06_vector_control.md Table 06-4. -/
def Obligations.VectorInstructionsIssue : Prop :=
  (∀ (i : Instr) (opc c t x e : Nat) (s : State), vectorForm i = some (opc, c, t, x, e) → s.dev.issues c t →
    let d := s.dev.takeThread c t
    (if 0xC0 ≤ opc then (d.core c).vxe.xq.length < 16 else (d.core c).vxe.vq.length < 32) →
    let w : VInsn := { id := (d.core c).vxe.nextId, word := opc * 2 ^ 56 + x % 2 ^ 56, err := e }
    let q := d.updVxe c fun v => if 0xC0 ≤ opc then { v with nextId := v.nextId + 1, xq := v.xq ++ [w] } else { v with nextId := v.nextId + 1, vq := v.vq ++ [w] }
    exec i s = .next (s.withDev (((q.pcNext c t).vecPump c).showCtc c))) ∧
  (∀ (i : Instr) (opc c t x e : Nat) (s : State), vectorForm i = some (opc, c, t, x, e) → s.dev.issues c t →
    let d := s.dev.takeThread c t
    (if 0xC0 ≤ opc then 16 ≤ (d.core c).vxe.xq.length else 32 ≤ (d.core c).vxe.vq.length) →
    exec i s = .next (s.withDev ((d.blockThread c t (.room (if 0xC0 ≤ opc then 1 else 0))).showCtc c))) ∧
  (∀ (i : Instr) (opc c t x e : Nat) (s : State), vectorForm i = some (opc, c, t, x, e) → s.dev.issues c t → s.dev.flag F.VXE_CTL_PAUSE c = true →
    (if 0xC0 ≤ opc then (s.dev.core c).vxe.xq.length < 16 else (s.dev.core c).vxe.vq.length < 32) →
    let w : VInsn := { id := (s.dev.core c).vxe.nextId, word := opc * 2 ^ 56 + x % 2 ^ 56, err := e }
    ∃ u, exec i s = .next u ∧ u.pending = s.pending ∧ u.dev.pc c t = (s.dev.pc c t + 8) % 2 ^ 64 ∧ s.dev.sameBytes u.dev ∧
      (u.dev.core c).vxe.vq = (s.dev.core c).vxe.vq ++ (if 0xC0 ≤ opc then [] else [w]) ∧
      (u.dev.core c).vxe.xq = (s.dev.core c).vxe.xq ++ (if 0xC0 ≤ opc then [w] else []) ∧
      (u.dev.core c).vxe.vec = (s.dev.core c).vxe.vec ∧ (u.dev.core c).vxe.pred = (s.dev.core c).vxe.pred)

/-- VECTOR_INSN_COMPLETE of a unit's running instruction frees the unit, counts the cycles that the head of its queue waited, sends the instruction's pulse if it has one, starts what may start next and serves threads that wait for a summary register. VXE_ERR_CLEAR and XLR_ERR_CLEAR let their unit's queue go on. VXE_ABORT leaves both queues and both units empty and no summary register held back.
Rests on R133, R134, R140, R155, R156. -/
def Obligations.VectorUnitEvents : Prop :=
  (∀ (s : State) (c stall : Nat) (xlr : Bool) (i : VInsn), c < 272 → s.dev.clockGated c = false →
    (if xlr then (s.dev.core c).vxe.xrun else (s.dev.core c).vxe.vrun) = some i →
    let d := s.dev.updVxe c fun v => if xlr then { v with xrun := none } else { v with vrun := none }
    let w := if stall = 0 then d else d.count F.VXE_STALL_V c 0 stall
    exec (.vectorInsnComplete c xlr stall) s = .next (s.withDev (((if i.tapEn then w.pulse c i.tap else w).vecPump c).serveSget c))) ∧
  (∀ (s : State) (c : Nat), c < 272 → exec (.vxeErrClear c) s = .next (s.withDev (s.dev.vecResume c false)) ∧
    exec (.xlrErrClear c) s = .next (s.withDev (s.dev.vecResume c true))) ∧
  (∀ (s : State) (c : Nat), c < 272 → ∃ u, exec (.vxeAbort c) s = .next u ∧ u.pending = s.pending ∧ (u.dev.core c).vxe.vq = [] ∧ (u.dev.core c).vxe.xq = [] ∧
    (u.dev.core c).vxe.vrun = none ∧ (u.dev.core c).vxe.xrun = none ∧ (u.dev.core c).vxe.vheld = [] ∧ (u.dev.core c).vxe.xheld = [])

/-- Lane l of the result of VADD, VSUB, VMUL, VFMA, VMAX, VDIV, VSQRT is that FP32 operation on lane l of the sources; VSEL takes lane l of A where the predicate bit is 1 and of B where it is 0; VPERM takes the lane of A that the low seven bits of B's lane name. Under a predicate, a destination lane whose bit is 0 keeps its old value and one whose bit is 1 takes the result.
Rests on R108, R135, R136, 06_vector_control.md Table 06-4. -/
def Obligations.LaneResults : Prop :=
  (∀ (i : VInsn) (a b c : List F32) (p : BitVec 128) (l : Nat), l < 128 →
    (i.opc = 0x80 → (lanesResult i a b c p).getD l 0 = fadd (a.getD l 0) (b.getD l 0)) ∧
    (i.opc = 0x81 → (lanesResult i a b c p).getD l 0 = fsub (a.getD l 0) (b.getD l 0)) ∧
    (i.opc = 0x82 → (lanesResult i a b c p).getD l 0 = fmul (a.getD l 0) (b.getD l 0)) ∧
    (i.opc = 0x83 → (lanesResult i a b c p).getD l 0 = ffma (a.getD l 0) (b.getD l 0) (c.getD l 0)) ∧
    (i.opc = 0x85 → (lanesResult i a b c p).getD l 0 = fmax (a.getD l 0) (b.getD l 0)) ∧
    (i.opc = 0x86 → (lanesResult i a b c p).getD l 0 = fdiv (a.getD l 0) (b.getD l 0)) ∧
    (i.opc = 0x87 → (lanesResult i a b c p).getD l 0 = fsqrt (a.getD l 0)) ∧
    (i.opc = 0x8D → (lanesResult i a b c p).getD l 0 = if p.getLsbD l then a.getD l 0 else b.getD l 0) ∧
    (i.opc = 0xA0 → (lanesResult i a b c p).getD l 0 = a.getD ((b.getD l 0).toNat % 128) 0)) ∧
  (∀ (p : BitVec 128) (old new : List F32) (l : Nat), l < 128 → (mergeLanes p old new).getD l 0 = if p.getLsbD l then new.getD l 0 else old.getD l 0)

/-- CTC_INTEGER_OP, issued by the selected thread whose registers check, completes for every operation and both forms of the second operand: RD holds the result (R0 still reads zero), every other general register of every thread of every core is unchanged, the program counter goes to the next instruction, and no byte of memory and no register field changes but those of the issue. A shift by 64 or more, whose result the manual does not state, writes a free value to RD and completes alike. The operations are those of Table 06-9, modulo 2^64.
Rests on R142, R147, 06_vector_control.md Table 06-9. -/
def Obligations.CtcIntegerResults : Prop :=
  (∀ (s : State) (c t : Nat) (op : IntInsn) (rd ra : Nat) (src : CtcSrc), s.dev.issues c t → rd < 32 → ra < 32 → src.ok = true →
    let b := match src with | .reg rb => s.dev.g c t rb | .imm v => BitVec.ofInt 64 v
    ∃ u, exec (.ctcIntegerOp c t op rd ra src false) s = .next u ∧ u.pending = s.pending ∧
      (∀ v, intResult op (s.dev.g c t ra) b = some v → u.dev.g c t rd = if rd = 0 then 0 else v) ∧
      (∀ c' t' r, ¬ (c' = c ∧ t' = t ∧ r = rd) → u.dev.g c' t' r = s.dev.g c' t' r) ∧ u.dev.g c t 0 = 0 ∧
      u.dev.pc c t = (s.dev.pc c t + 8) % 2 ^ 64 ∧ s.dev.sameBytes u.dev ∧ s.dev.onlyFields u.dev (issueFields c t) ∧
      u.dev = { s.dev with regs := u.dev.regs, cores := u.dev.cores, free := u.dev.free }) ∧
  (∀ a b : BitVec 64, intResult (.op .add) a b = some (a + b) ∧ intResult (.op .sub) a b = some (a - b) ∧ intResult (.op .mul) a b = some (a * b) ∧
    intResult (.op .and) a b = some (a &&& b) ∧ intResult (.op .or) a b = some (a ||| b) ∧ intResult (.op .xor) a b = some (a ^^^ b) ∧
    (b.toNat < 64 → intResult (.op .shl) a b = some (a <<< b.toNat) ∧ intResult (.op .shr) a b = some (a >>> b.toNat) ∧
      intResult (.op .sar) a b = some (a.sshiftRight b.toNat)) ∧
    (64 ≤ b.toNat → intResult (.op .shl) a b = none ∧ intResult (.op .shr) a b = none ∧ intResult (.op .sar) a b = none) ∧
    intResult (.set .lt) a b = some (if a.toInt < b.toInt then 1 else 0) ∧ intResult (.set .ltu) a b = some (if a.toNat < b.toNat then 1 else 0) ∧
    intResult (.set .ge) a b = some (if b.toInt ≤ a.toInt then 1 else 0) ∧ intResult (.set .geu) a b = some (if b.toNat ≤ a.toNat then 1 else 0) ∧
    intResult (.set .eq) a b = some (if a = b then 1 else 0) ∧ intResult (.set .ne) a b = some (if a = b then 0 else 1))

/-- Where the registers read check, CTC_BRANCH sets the program counter to PC + 8 IMM where its condition holds of RA and RB, else to the next instruction, and changes no general register. JUMP_AND_LINK does so unconditionally and writes the address of the next instruction to RD. JUMP_REGISTER sets it to RA. None changes memory or a field other than those of the issue.
Rests on R147, 06_vector_control.md Table 06-9. -/
def Obligations.CtcBranchesAndJumps : Prop :=
  (∀ (s : State) (c t : Nat) (cond : Cond) (ra rb : Nat) (imm : Int), s.dev.issues c t → ra < 32 → rb < 32 → immOk imm = true →
    ∃ u, exec (.ctcBranch c t cond ra rb imm false) s = .next u ∧ u.pending = s.pending ∧
      u.dev.pc c t = (if cond.holds (s.dev.g c t ra) (s.dev.g c t rb) then s.dev.target c t imm else (s.dev.pc c t + 8) % 2 ^ 64) ∧
      (∀ c' t' r, u.dev.g c' t' r = s.dev.g c' t' r) ∧ s.dev.sameBytes u.dev ∧ s.dev.onlyFields u.dev (issueFields c t) ∧
      u.dev = { s.dev with regs := u.dev.regs, cores := u.dev.cores }) ∧
  (∀ (s : State) (c t rd : Nat) (imm : Int), s.dev.issues c t → rd < 32 → immOk imm = true →
    ∃ u, exec (.jumpAndLink c t rd imm) s = .next u ∧ u.pending = s.pending ∧ u.dev.pc c t = s.dev.target c t imm ∧
      u.dev.g c t rd = (if rd = 0 then 0 else BitVec.ofNat 64 (s.dev.pc c t + 8)) ∧ (∀ c' t' r, ¬ (c' = c ∧ t' = t ∧ r = rd) → u.dev.g c' t' r = s.dev.g c' t' r) ∧
      s.dev.sameBytes u.dev ∧ s.dev.onlyFields u.dev (issueFields c t)) ∧
  (∀ (s : State) (c t ra : Nat), s.dev.issues c t → ra < 32 →
    ∃ u, exec (.jumpRegister c t ra false) s = .next u ∧ u.pending = s.pending ∧ u.dev.pc c t = (s.dev.g c t ra).toNat ∧
      (∀ c' t' r, u.dev.g c' t' r = s.dev.g c' t' r) ∧ s.dev.sameBytes u.dev ∧ s.dev.onlyFields u.dev (issueFields c t))

/-- CTC_STORE of 1, 2, 4 or 8 bytes by the selected thread at an address RA + IMM that is aligned and lies in the core's staging or near store: byte i of the register is at that address plus i afterwards, every other byte of every memory is unchanged, no general register changes, the memories keep their canonical form, and the program counter goes to the next instruction. A store to the staging store changes no register field but those of the issue; one to the near store may also count the error that the merge of a narrow write finds.
Rests on R4, R145, R146, R227, R229. -/
def Obligations.CtcStoresToItsOwnMemory : Prop :=
  ∀ (s : State) (c t size rs ra err : Nat) (imm : Int), s.dev.issues c t → rs < 32 → ra < 32 → immOk imm = true → sizeOk size = true →
    let a := s.dev.ea c t ra imm
    s.dev.accessFault c a size = 0 → bitOf a 63 = true →
    ∃ u, exec (.ctcStore c t size rs ra imm err false) s = .next u ∧ u.pending = s.pending ∧ u.dev.pc c t = (s.dev.pc c t + 8) % 2 ^ 64 ∧
      (∀ c' t' r, u.dev.g c' t' r = s.dev.g c' t' r) ∧
      (∀ o, s.dev.localAt c a = some (.stg o) →
        (∀ i, i < size → u.dev.byteAt (.stg c (o + i)) = BitVec.ofNat 8 ((s.dev.g c t rs).toNat / 256 ^ i)) ∧
        (∀ p, (∀ i, i < size → p ≠ .stg c (o + i)) → u.dev.byteAt p = s.dev.byteAt p) ∧ s.dev.onlyFields u.dev (issueFields c t)) ∧
      (∀ o, s.dev.localAt c a = some (.ns o) →
        (∀ i, i < size → u.dev.byteAt (.ns c (o + i)) = BitVec.ofNat 8 ((s.dev.g c t rs).toNat / 256 ^ i)) ∧
        (∀ p, (∀ i, i < size → p ≠ .ns c (o + i)) → u.dev.byteAt p = s.dev.byteAt p)) ∧
      s.dev.onlyFields u.dev (issueFields c t ++ [(F.NS_CE_CNT_V, c, 0), (F.MEM_STATUS_NS_CE, c, 0), (F.NS_UE_CNT_V, c, 0), (F.MEM_STATUS_NS_UE, c, 0),
        (F.MEM_ERR_ADDR_NS, c, 0), (F.MEM_ERR_ADDR_OFFSET, c, 0)]) ∧ (s.dev.memoryOk = true → u.dev.memoryOk = true)

/-- CTC_LOAD from a core-local address without a storage error writes the loaded value to RD; from a global address, as a global CTC_STORE and each of the eight atomics, it takes a miss slot or waits for one. GLOBAL_LOAD_RETURN of an ended load counts the bank stall it ends and frees the slot; good data go to RD, and the thread becomes ready where it waits for it; a failure faults the thread. STORE_ACK frees the slot of an acknowledged store, and a store that ended in TRANSLATION faults its thread. An access whose address is misaligned or outside its range, and a load that meets a storage error, fault the thread with the cause of Table 06-10. An instruction that reads a register with a parity error faults its thread with MEM_ERROR, and has no other effect.
Rests on R145, R146, R148, R210, R211, R227, R237, R424. -/
def Obligations.CtcLoadsAndAtomics : Prop :=
  (∀ (s : State) (c t size rd ra : Nat) (imm : Int) (err stall : Nat), s.dev.issues c t → rd < 32 → ra < 32 → immOk imm = true → sizeOk size = true →
    let d := s.dev.takeThread c t
    let a := d.ea c t ra imm
    let r := d.readError c a size err
    (d.accessFault c a size = 0 → bitOf a 63 = true → r.1 = false →
      let x := r.2.loadValue { thread := t, access := 0, size := size } (r.2.localRead c a size)
      exec (.ctcLoad c t size rd ra imm err stall false) s =
        .next (s.withDev ((((x.2.setG c t rd x.1).count F.CTC_STALL_LOCAL_V c 0 stall).pcNext c t).showCtc c))) ∧
    (d.accessFault c a size = 0 → bitOf a 63 = true → r.1 = true →
      exec (.ctcLoad c t size rd ra imm err stall false) s = .next (s.withDev ((r.2.faultHere c t 6).showCtc c))) ∧
    (d.accessFault c a size = 0 → bitOf a 63 = false → exec (.ctcLoad c t size rd ra imm err stall false) s =
      .next (s.withDev ((d.miss c t a (.read size) { thread := t, access := 0, rd := rd, size := size } err).showCtc c))) ∧
    (d.accessFault c a size ≠ 0 → exec (.ctcLoad c t size rd ra imm err stall false) s = .next (s.withDev ((d.faultHere c t (d.accessFault c a size)).showCtc c)))) ∧
  (∀ (s : State) (c t size rs ra err : Nat) (imm : Int), s.dev.issues c t → rs < 32 → ra < 32 → immOk imm = true → sizeOk size = true →
    let d := s.dev.takeThread c t
    let a := d.ea c t ra imm
    (d.accessFault c a size = 0 → bitOf a 63 = false → exec (.ctcStore c t size rs ra imm err false) s =
      .next (s.withDev ((d.miss c t a (.write (leBytes size (d.g c t rs).toNat)) { thread := t, access := 0, size := size, store := true } err).showCtc c))) ∧
    (d.accessFault c a size ≠ 0 → exec (.ctcStore c t size rs ra imm err false) s = .next (s.withDev ((d.faultHere c t (d.accessFault c a size)).showCtc c)))) ∧
  (∀ (i : Instr) (op : AtomOp) (c t rd ra rb : Nat) (imm : Int) (s : State), atomicForm i = some (op, c, t, rd, ra, rb, imm) → s.dev.issues c t →
    rd < 32 → ra < 32 → rb < 32 → immOk imm = true →
    let d := s.dev.takeThread c t
    let a := d.ea c t ra imm
    let n := if op.float then 4 else 8
    (d.accessFault c a n = 0 → bitOf a 63 = false →
      exec i s = .next (s.withDev ((d.miss c t a (.atomic op (d.g c t rb) (d.g c t rd)) { thread := t, access := 0, rd := rd, size := n, float := op.float } 0).showCtc c))) ∧
    (a % n = 0 → bitOf a 63 = true → exec i s = .next (s.withDev ((d.faultHere c t 3).showCtc c))) ∧
    (bitOf a 63 = false → d.accessFault c a n ≠ 0 → exec i s = .next (s.withDev ((d.faultHere c t (d.accessFault c a n)).showCtc c)))) ∧
  (∀ (i : Instr) (c t : Nat) (s : State), parityForm i = some (c, t) → i.wf = true → s.dev.issues c t →
    exec i s = .next (s.withDev ((s.dev.takeThread c t).faultHere c t 6))) ∧
  (∀ (s : State) (c k stall code : Nat) (m : MissSlot) (a : MemAcc) (bs : List Byte), c < 272 → k < 64 → s.dev.clockGated c = false →
    (s.dev.core c).ctc.slots.find? (fun s => s.1 = k) = some (k, m) → s.dev.acc m.access = some a → a.st = .done code bs →
    (m.store = false → let b := s.dev.countStall c stall
      let d := b.freeSlot c k m
      let x := d.loadValue m bs
      (code = 0 → (b.thread c m.thread).block = some (.load k) →
        exec (.globalLoadReturn c k stall) s = .next (s.withDev (((((x.2.setG c m.thread m.rd x.1).pcNext c m.thread).due c m.thread).settle).showCtc c))) ∧
      (code = 0 → (b.thread c m.thread).block ≠ some (.load k) →
        exec (.globalLoadReturn c k stall) s = .next (s.withDev (((x.2.setG c m.thread m.rd x.1).settle).showCtc c))) ∧
      (code ≠ 0 → exec (.globalLoadReturn c k stall) s =
        .next (s.withDev (((d.ctcFault c m.thread m.pc (if code = stTranslation then 5 else 6)).settle).showCtc c)))) ∧
    (m.store = true → let d := (s.dev.countStall c stall).freeSlot c k m
      exec (.storeAck c k stall) s = .next (s.withDev ((if code = stTranslation then d.ctcFault c m.thread m.pc 5 else d).settle.showCtc c))))

/-- TSET and TAP_CMD_SET set a tap counter and TADD and TAP_CMD_ADD add to it; the counter saturates at the ends of 32 bits, with its bit of TAP_OVF set. TPOST_DELIVER of a post on its way subtracts one; to a core that an image switch in progress takes off it is counted in MESH_DROP instead. None changes a general register, another counter or a byte of memory. TWAIT goes on at once where the counter is at the value or below, and blocks its thread otherwise. TPOST puts a pulse on its way to the core its LCI names, and faults its thread where the LCI names none; while the injection into its quarter's mesh is stopped it waits.
Rests on R34, R150, R151, 06_vector_control.md Table 06-11. -/
def Obligations.TapCounters : Prop :=
  (∀ (s : State) (i : Instr) (c k v : Nat) (w : Int), c < 272 → k < 64 →
    (i = .tapCmdSet c k v ∧ w = Machine.signed 31 v) ∨ (i = .tapCmdAdd c k v ∧ w = s.dev.tap c k + Machine.signed 31 v) →
    ∃ u, exec i s = .next u ∧ u.pending = s.pending ∧ s.dev.tapTakes u.dev c k w ∧ (∀ c' t' r, u.dev.g c' t' r = s.dev.g c' t' r) ∧ s.dev.sameBytes u.dev ∧
      s.dev.onlyFields u.dev [(F.TAP_VALUE_V, c, k), (F.TAP_OVF_V, c, 0)]) ∧
  (∀ (s : State) (i : Instr) (c t k : Nat) (imm w : Int), s.dev.issues c t → k < 64 → tapOk imm = true →
    (i = .tset c t k imm ∧ w = imm) ∨ (i = .tadd c t k imm ∧ w = s.dev.tap c k + imm) →
    ∃ u, exec i s = .next u ∧ u.pending = s.pending ∧ s.dev.tapTakes u.dev c k w ∧ u.dev.pc c t = (s.dev.pc c t + 8) % 2 ^ 64 ∧
      (∀ c' t' r, u.dev.g c' t' r = s.dev.g c' t' r) ∧ s.dev.sameBytes u.dev ∧ s.dev.onlyFields u.dev (issueFields c t ++ [(F.TAP_VALUE_V, c, k), (F.TAP_OVF_V, c, 0)])) ∧
  (∀ (s : State) (c t k : Nat) (imm : Int), s.dev.issues c t → k < 64 → tapOk imm = true → ∃ u, exec (.twait c t k imm) s = .next u ∧ u.pending = s.pending ∧
    u.dev.pc c t = (s.dev.pc c t + 8) % 2 ^ 64 ∧ (u.dev.thread c t).block = (if s.dev.tap c k ≤ imm then none else some (.twait k imm)) ∧
    (∀ c' t' r, u.dev.g c' t' r = s.dev.g c' t' r) ∧ s.dev.sameBytes u.dev ∧ s.dev.onlyFields u.dev (issueFields c t)) ∧
  (∀ (s : State) (c t l k : Nat), s.dev.issues c t → k < 64 →
    (s.dev.meshHeld (c / 68) = true → exec (.tpost c t l k) s = .next s) ∧
    (s.dev.meshHeld (c / 68) = false → s.dev.lciCore (c / 68) l = none → exec (.tpost c t l k) s = .next (s.withDev (((s.dev.takeThread c t).faultHere c t 7).showCtc c))) ∧
    (∀ n, s.dev.meshHeld (c / 68) = false → s.dev.lciCore (c / 68) l = some n → ∃ u, exec (.tpost c t l k) s = .next u ∧ u.pending = s.pending ∧
      u.dev.posts = s.dev.posts ++ [(⟨n, k⟩ : TapPost)] ∧ u.dev.pc c t = (s.dev.pc c t + 8) % 2 ^ 64 ∧ (∀ c' t' r, u.dev.g c' t' r = s.dev.g c' t' r) ∧
      (∀ c' k', u.dev.tap c' k' = s.dev.tap c' k') ∧ s.dev.sameBytes u.dev ∧ s.dev.onlyFields u.dev (issueFields c t))) ∧
  (∀ (s : State) (c k : Nat), c < 272 → k < 64 → s.dev.posts.contains (⟨c, k⟩ : TapPost) = true → ∃ u, exec (.tpostDeliver c k) s = .next u ∧ u.pending = s.pending ∧
    u.dev.posts = s.dev.posts.erase (⟨c, k⟩ : TapPost) ∧ (∀ c' t' r, u.dev.g c' t' r = s.dev.g c' t' r) ∧ s.dev.sameBytes u.dev ∧
    (s.dev.goesOff c = false → s.dev.tapTakes u.dev c k (s.dev.tap c k - 1) ∧ s.dev.onlyFields u.dev [(F.TAP_VALUE_V, c, k), (F.TAP_OVF_V, c, 0)]) ∧
    (s.dev.goesOff c = true → s.dev.onlyFields u.dev [(F.MESH_DROP_V, 0, 0)])) ∧
  (∀ (s : State) (c k : Nat), c < 272 → k < 64 → s.dev.posts.contains (⟨c, k⟩ : TapPost) = false → exec (.tpostDeliver c k) s = .next s)

/-- TOLL by a member of the channel blocks its thread and arrives; TOLLA arrives without blocking; either, by a core that is no member, faults its thread. TOLL_RELEASE of a generation with arrivals and no member missing ends it as released; TOLL_TIMEOUT of one whose window has ended with a member missing ends it as failed with its event, and of another does nothing; TOLL_RESET ends the pending generations of the channels written 1 as failed. A release while a member is missing changes nothing.
Rests on R152, R153, R154. -/
def Obligations.TollBarrier : Prop :=
  (∀ (s : State) (c t rd b m : Nat), s.dev.issues c t → rd < 32 → b < 16 → (s.dev.takeThread c t).tollMember b c = some m →
    exec (.toll c t rd b) s = .next (s.withDev (((((s.dev.takeThread c t).pcNext c t).blockThread c t (.toll rd b)).tollArrive b
      { core := c, member := m, thread := some t, rd := rd }).showCtc c))) ∧
  (∀ (s : State) (c t b k m : Nat), s.dev.issues c t → b < 16 → k < 64 → (s.dev.takeThread c t).tollMember b c = some m →
    exec (.tolla c t b k) s = .next (s.withDev ((((s.dev.takeThread c t).pcNext c t).tollArrive b { core := c, member := m, thread := none, tap := k }).showCtc c))) ∧
  (∀ (s : State) (i : Instr) (c t rd b k : Nat), s.dev.issues c t → rd < 32 → b < 16 → k < 64 → (s.dev.takeThread c t).tollMember b c = none →
    i = .toll c t rd b ∨ i = .tolla c t b k → exec i s = .next (s.withDev (((s.dev.takeThread c t).faultHere c t 8).showCtc c))) ∧
  (∀ (s : State) (b : Nat), b < 16 → (s.dev.toll b).now ≠ [] → s.dev.tollMissing b = [] → exec (.tollRelease b) s = .next (s.withDev (s.dev.tollOver b false))) ∧
  (∀ (s : State) (b : Nat), b < 16 → s.dev.tollMissing b ≠ [] → exec (.tollRelease b) s = .next s) ∧
  (∀ (s : State) (b : Nat), b < 16 → s.dev.tollLate b = true → exec (.tollTimeout b) s = .next (s.withDev (s.dev.tollExpire b))) ∧
  (∀ (s : State) (b : Nat), b < 16 → s.dev.tollLate b = false → exec (.tollTimeout b) s = .next s) ∧
  (∀ (d : Dev) (b : Nat), d.tollLate b = true ↔ (d.toll b).now ≠ [] ∧ d.tollMissing b ≠ [] ∧ d.get F.TOLL_TIMEOUT_BEATS ≠ 0 ∧
    (d.toll b).first + 65536 * d.get F.TOLL_TIMEOUT_BEATS ≤ d.now) ∧
  (∀ (s : State) (mask : Nat), exec (.tollReset mask) s = .next (s.withDev
    (s.dev.each ((List.range 16).filter (fun b => bitOf mask b && !(s.dev.toll b).now.isEmpty)) (fun d b => d.tollOver b true))))

/-- VFENCE, MFENCE and FENCE with nothing open of what they wait for only advance the program counter; otherwise they also block the thread. HALT stops the thread. YIELD leaves no current thread. THREAD_WAKE makes a blocked thread whose condition has cleared ready. CTC_RUN_START loads a thread's program counter from CTC_START and makes it live and ready, whatever it did before; CTC_RUN_STOP stops a thread. SGET of a valid summary register writes it to RD, and of one that awaits its result blocks the thread.
Rests on R140, R147, R149, 06_vector_control.md Table 06-8. -/
def Obligations.CtcFencesAndThreads : Prop :=
  (∀ (s : State) (c t : Nat), s.dev.issues c t →
    (∃ u, exec (.vfence c t) s = .next u ∧ u.pending = s.pending ∧ u.dev.pc c t = (s.dev.pc c t + 8) % 2 ^ 64 ∧
      (u.dev.thread c t).block = (if (s.dev.core c).vxe.open_ = [] then none else some (.vfence (s.dev.core c).vxe.nextId)) ∧ s.dev.sameBytes u.dev) ∧
    (∃ u, exec (.mfence c t) s = .next u ∧ u.pending = s.pending ∧ u.dev.pc c t = (s.dev.pc c t + 8) % 2 ^ 64 ∧
      (u.dev.thread c t).block = (if (s.dev.core c).ctc.slots.any (fun e => e.2.thread = t) then some .mfence else none) ∧ s.dev.sameBytes u.dev) ∧
    (∃ u, exec (.fence c t) s = .next u ∧ u.pending = s.pending ∧ u.dev.pc c t = (s.dev.pc c t + 8) % 2 ^ 64 ∧
      (u.dev.thread c t).block = (if (s.dev.core c).vxe.open_ = [] ∧ (s.dev.core c).ctc.slots.any (fun e => e.2.thread = t) = false then none
        else some (.fence (s.dev.core c).vxe.nextId)) ∧ s.dev.sameBytes u.dev) ∧
    (∃ u, exec (.halt c t) s = .next u ∧ u.pending = s.pending ∧ u.dev.pc c t = (s.dev.pc c t + 8) % 2 ^ 64 ∧ (u.dev.thread c t).live = false ∧
      (∀ c' t' r, u.dev.g c' t' r = s.dev.g c' t' r) ∧ s.dev.sameBytes u.dev) ∧
    (∃ u, exec (.yield c t) s = .next u ∧ u.pending = s.pending ∧ u.dev.pc c t = (s.dev.pc c t + 8) % 2 ^ 64 ∧ (u.dev.core c).ctc.cur = none ∧
      (∀ c' t' r, u.dev.g c' t' r = s.dev.g c' t' r) ∧ s.dev.sameBytes u.dev)) ∧
  (∀ (s : State) (c t : Nat), c < 272 → t < 8 → s.dev.clockGated c = false → s.dev.unblocked c t = true →
    ∃ u, exec (.threadWake c t) s = .next u ∧ u.pending = s.pending ∧ (u.dev.thread c t).block = none ∧ (u.dev.thread c t).g = (s.dev.thread c t).g) ∧
  (∀ (s : State) (c t : Nat), c < 272 → t < 8 → s.dev.clockGated c = false → s.dev.unblocked c t = false → exec (.threadWake c t) s = .next s) ∧
  (∀ (s : State) (c t : Nat), c < 272 → t < 8 →
    ∃ u, exec (.ctcRunStart c t) s = .next u ∧ u.pending = s.pending ∧ (u.dev.thread c t).live = true ∧ (u.dev.thread c t).block = none ∧
      u.dev.pc c t = s.dev.get F.CTC_START_V c t ∧ bitOf (u.dev.get F.CTC_CTL_RUN c) t = true ∧ (∀ c' t' r, u.dev.g c' t' r = s.dev.g c' t' r) ∧ s.dev.sameBytes u.dev) ∧
  (∀ (s : State) (c t : Nat), c < 272 → t < 8 → ∃ u, exec (.ctcRunStop c t) s = .next u ∧ u.pending = s.pending ∧ (u.dev.thread c t).live = false ∧
    bitOf (u.dev.get F.CTC_CTL_RUN c) t = false ∧ s.dev.sameBytes u.dev) ∧
  (∀ (s : State) (c t rd k : Nat), s.dev.issues c t → rd < 32 → k < 16 → (s.dev.core c).vxe.summValid k = true →
    ∃ u, exec (.sget c t rd k) s = .next u ∧ u.pending = s.pending ∧ u.dev.g c t rd = (if rd = 0 then 0 else (s.dev.core c).vxe.summAt k) ∧
      u.dev.pc c t = (s.dev.pc c t + 8) % 2 ^ 64 ∧ (∀ c' t' r, ¬ (c' = c ∧ t' = t ∧ r = rd) → u.dev.g c' t' r = s.dev.g c' t' r) ∧ s.dev.sameBytes u.dev) ∧
  (∀ (s : State) (c t rd k : Nat), s.dev.issues c t → rd < 32 → k < 16 → (s.dev.core c).vxe.summValid k = false →
    exec (.sget c t rd k) s = .next (s.withDev ((((s.dev.takeThread c t).pcNext c t).blockThread c t (.sget rd k)).showCtc c)))

/-- Where the registers read check, CMX of an aligned, readable command with room in the queue appends its four words to the matrix queue, and blocks its thread where there is none. CSX of an aligned, readable descriptor that SXU accepts goes on, and waits where no context is free. CDB rings the channel in RA. CSRR writes the register read to RD, and CSRW writes the register from RB, at an aligned offset of the window; a misaligned one faults its thread, and one beyond the window reads as zero, writes nothing and is counted as unmapped. A command or descriptor that is misaligned, out of range or unreadable faults the thread with the cause of Table 06-10, and so does a channel above 15.
Rests on R95, R190, R215, R440, 06_vector_control.md Table 06-9. -/
def Obligations.CtcIssuesToUnits : Prop :=
  (∀ (s : State) (c t ra : Nat), s.dev.issues c t → ra < 32 →
    let d := s.dev.takeThread c t
    let a := (d.g c t ra).toNat
    (d.localFault c a 32 = 0 → (d.core c).mxe.queue.length < 16 →
      let q : MxeCmd := { words := (List.range 4).map (fun i => leAt (d.localRead c a 32) (8 * i) 8) }
      exec (.cmx c t ra false) s = .next (s.withDev ((((d.updCore c fun k => { k with mxe := { k.mxe with queue := k.mxe.queue ++ [q] } }).put F.MXE_STATUS_QDEPTH c 0
        ((d.core c).mxe.queue.length + 1)).pcNext c t).showCtc c))) ∧
    (d.localFault c a 32 = 0 → 16 ≤ (d.core c).mxe.queue.length → exec (.cmx c t ra false) s = .next (s.withDev ((d.blockThread c t (.room 2)).showCtc c))) ∧
    (d.localFault c a 32 ≠ 0 → exec (.cmx c t ra false) s = .next (s.withDev ((d.faultHere c t (d.localFault c a 32)).showCtc c))) ∧
    (d.localFault c a 64 = 0 → (d.acceptStream c a).1 = true →
      exec (.csx c t ra false) s = .next (s.withDev ((((d.acceptStream c a).2.pcNext c t).settle).showCtc c))) ∧
    (d.localFault c a 64 = 0 → (d.acceptStream c a).1 = false →
      exec (.csx c t ra false) s = .next (s.withDev (((d.acceptStream c a).2.blockThread c t (.room 3)).showCtc c))) ∧
    (d.localFault c a 64 ≠ 0 → exec (.csx c t ra false) s = .next (s.withDev ((d.faultHere c t (d.localFault c a 64)).showCtc c))) ∧
    (15 < a → exec (.cdb c t ra false) s = .next (s.withDev ((d.faultHere c t 1).showCtc c))) ∧
    (a ≤ 15 → exec (.cdb c t ra false) s = .next (s.withDev (((d.dmaRing c a).pcNext c t).showCtc c)))) ∧
  (∀ (s : State) (c t rd ra : Nat) (imm : Int) (wide : Bool), s.dev.issues c t → rd < 32 → ra < 32 → immOk imm = true →
    let d := s.dev.takeThread c t
    let n := if wide then 8 else 4
    let a := d.ea c t ra imm
    (a % n = 0 → a < 0x10000000 →
      let x := d.csrRead (d.windowAddr a) n
      exec (.csrr c t rd ra imm wide false) s = .next (s.withDev ((((x.2.2.countUnmapped x.1).setG c t rd x.2.1).pcNext c t).showCtc c))) ∧
    (a % n = 0 → 0x10000000 ≤ a → exec (.csrr c t rd ra imm wide false) s =
      .next (s.withDev ((((d.count F.HL_CSR_UNMAPPED_V).setG c t rd 0).pcNext c t).showCtc c))) ∧
    (a % n ≠ 0 → exec (.csrr c t rd ra imm wide false) s = .next (s.withDev ((d.faultHere c t 2).showCtc c)))) ∧
  (∀ (s : State) (c t rb ra : Nat) (imm : Int) (wide : Bool), s.dev.issues c t → rb < 32 → ra < 32 → immOk imm = true →
    let d := s.dev.takeThread c t
    let n := if wide then 8 else 4
    let a := d.ea c t ra imm
    (a % n = 0 → a < 0x10000000 →
      let x := (d.pcNext c t).csrWrite ((d.pcNext c t).windowAddr a) n (d.g c t rb).toNat
      exec (.csrw c t rb ra imm wide false) s = .next (s.withDev ((x.2.countUnmapped x.1).showCtc c))) ∧
    (a % n = 0 → 0x10000000 ≤ a → exec (.csrw c t rb ra imm wide false) s =
      .next (s.withDev (((d.pcNext c t).count F.HL_CSR_UNMAPPED_V).showCtc c))) ∧
    (a % n ≠ 0 → exec (.csrw c t rb ra imm wide false) s = .next (s.withDev ((d.faultHere c t 2).showCtc c))))

/-- CSR_RD on an UP half, well formed, aligned, its TAG not open and its offset below 256 MiB, is answered RSP_DATA with the value of the register that the offset reaches, and changes no byte of memory. CSR_WR makes the write that REGISTER_WRITE makes and is answered RSP_ACK. An access that the window refuses reads and writes no register: it leaves every byte of memory as it was and is answered NACK. On a half that is not UP nothing happens.
Rests on R439, R440, 16_haunelink_control.md Table 16-5. -/
def Obligations.WindowAccesses : Prop :=
  (∀ (s : State) (r : HlHdr), r.half < 2 → s.dev.hlState r.half = 2 → s.dev.windowRefuse r = none →
    ∃ t, exec (.csrRd r) s = .next t ∧ t.pending = s.pending ∧ s.dev.sameBytes t.dev ∧
      t.dev.out = s.dev.out ++ [.hl r.half 0x20 r.tag r.addr 0 (slice (leBytes r.bytes (s.dev.csrRead (s.dev.windowAddr r.addr) r.bytes).2.1) 0 64)]) ∧
  (∀ (s : State) (r : HlHdr) (v : Nat), r.half < 2 → s.dev.hlState r.half = 2 → s.dev.windowRefuse r = none →
    let x := s.dev.csrWrite (s.dev.windowAddr r.addr) r.bytes v
    exec (.csrWr r v) s = .next (s.withDev ((x.2.countUnmapped x.1).hlSend r.half 0x21 r.tag r.addr 0 []))) ∧
  (∀ (s : State) (r : HlHdr) (v : Nat), r.half < 2 → s.dev.hlState r.half = 2 → s.dev.windowRefuse r ≠ none →
    exec (.csrWr r v) s = exec (.csrRd r) s ∧
    ∃ t reason, exec (.csrRd r) s = .next t ∧ t.pending = s.pending ∧ s.dev.sameBytes t.dev ∧ t.dev.out = s.dev.out ++ [.hl r.half 0x23 r.tag r.addr reason []] ∧
      s.dev.onlyFields t.dev [(F.HL_VIOL_V, 0, 0), (F.HL_VIOL_LAST_CODE, 0, 0)]) ∧
  (∀ (s : State) (r : HlHdr) (v : Nat), r.half < 2 → s.dev.hlState r.half ≠ 2 → exec (.csrRd r) s = .next s ∧ exec (.csrWr r v) s = .next s)

/-- With the entry of its OP in execution, each ring command ends it: NOP with OK; READ32 and READ64 with the register's value; WRITE32 and WRITE64 having written DATA; RMW64 having replaced the bits of MASK by those of DATA, with the value read; WAIT_BEAT with OK once the beat count has reached DATA (WAIT_BEAT_END where it waited); POLL64 and POLL64_SAMPLE with the value read, once it matches under MASK. A wait that has not ended is kept as begun, unless the ring is paused. Without such an entry nothing happens.
Rests on R442, R443, 16_haunelink_control.md Table 16-4. -/
def Obligations.RingEntries : Prop :=
  (∀ (s : State) (c : CmdEntry), s.dev.hl.cmd = some c →
    let rd := fun n => s.dev.csrRead c.addr n
    (c.op = 0 → exec .nop s = .next (s.withDev (s.dev.cmdEnd c 0 none))) ∧
    (c.op = 1 → (rd 4).1 = .ok → exec .read32 s = .next (s.withDev ((rd 4).2.2.cmdEnd c 0 (some (rd 4).2.1)))) ∧
    (c.op = 2 → (rd 8).1 = .ok → exec .read64 s = .next (s.withDev ((rd 8).2.2.cmdEnd c 0 (some (rd 8).2.1)))) ∧
    (c.op = 3 → (s.dev.csrWrite c.addr 4 (c.word 2)).1 = .ok →
      exec .write32 s = .next (s.withDev ((s.dev.csrWrite c.addr 4 (c.word 2)).2.cmdEnd c 0 none))) ∧
    (c.op = 4 → (s.dev.csrWrite c.addr 8 (c.word 2)).1 = .ok →
      exec .write64 s = .next (s.withDev ((s.dev.csrWrite c.addr 8 (c.word 2)).2.cmdEnd c 0 none))) ∧
    (c.op = 5 → (rd 8).1 = .ok → ∃ v : BitVec 64,
      (∀ b, v.getLsbD b = if (BitVec.ofNat 64 (c.word 3)).getLsbD b then (BitVec.ofNat 64 (c.word 2)).getLsbD b else (BitVec.ofNat 64 (rd 8).2.1).getLsbD b) ∧
      exec .rmw64 s = .next (s.withDev (((rd 8).2.2.csrWrite c.addr 8 v.toNat).2.cmdEnd c 0 (some (rd 8).2.1)))) ∧
    (c.op = 6 → c.word 2 ≤ s.dev.beat → exec .waitBeat s = .next (s.withDev (s.dev.cmdEnd c 0 none))) ∧
    (c.op = 6 → s.dev.beat < c.word 2 → s.dev.flag F.HL_CMD_CTL_PAUSE = false →
      exec .waitBeat s = .next (s.withDev { s.dev with hl := { s.dev.hl with cmd := some { c with started := true, sampled := s.dev.beat } } })) ∧
    (c.op = 6 → c.started = true → c.word 2 ≤ s.dev.beat → exec .waitBeatEnd s = .next (s.withDev (s.dev.cmdEnd c 0 none))) ∧
    (c.op = 7 → (rd 8).1 = .ok → BitVec.ofNat 64 (rd 8).2.1 &&& BitVec.ofNat 64 (c.word 3) = BitVec.ofNat 64 (c.word 2) →
      (c.started = false → exec .poll64 s = .next (s.withDev ((rd 8).2.2.cmdEnd c 0 (some (rd 8).2.1)))) ∧
      (c.started = true → c.sampled < s.dev.beat →
        exec .poll64Sample s = .next (s.withDev ((rd 8).2.2.cmdEnd { c with polled := c.polled + 1 } 0 (some (rd 8).2.1)))))) ∧
  (∀ (s : State) (i : Instr), s.dev.hl.cmd = none →
    i ∈ [Instr.nop, .read32, .read64, .write32, .write64, .rmw64, .waitBeat, .waitBeatEnd, .poll64, .poll64Sample] → exec i s = .next s)

/-- HL_CMD_DOORBELL of an idle ring that is paused leaves it PENDING; with RING_ERR it is ignored. HL_CMD_RING_WRITE of an idle ring sets the base, HEAD to 0, and clears RING_ERR; while the ring is ACTIVE a write of the base is ignored. HL_CMD_PAUSE sets PAUSE, and ends nothing where no entry waits. HL_EVT_RING_WRITE sets the base or size, TAIL to 0, FREE to the ring's entries, and clears EVT_ERR. HL_EVT_DOORBELL adds to FREE up to the ring's entries. EVENT_NOTIFY and IBI_RAISE act once owed and due. None changes a byte of memory.
Rests on R441, R442, R443, R445, R446, R451. -/
def Obligations.RingsAndInterrupts : Prop :=
  (∀ s : State, (s.dev.flag F.HL_CMD_STATUS_RING_ERR = true → exec .hlCmdDoorbell s = .next s) ∧
    (s.dev.flag F.HL_CMD_STATUS_RING_ERR = false → s.dev.flag F.HL_CMD_CTL_PAUSE = true →
      ∃ t, exec .hlCmdDoorbell s = .next t ∧ t.pending = s.pending ∧ t.dev.get F.HL_CMD_STATUS_PENDING = 1 ∧ t.dev = { s.dev with regs := t.dev.regs } ∧
        s.dev.onlyFields t.dev [(F.HL_CMD_STATUS_PENDING, 0, 0)])) ∧
  (∀ (s : State) (v : Nat), (s.dev.flag F.HL_CMD_STATUS_ACTIVE = true → exec (.hlCmdRingWrite false v) s = .next s) ∧
    (s.dev.flag F.HL_CMD_STATUS_ACTIVE = false → ∃ t, exec (.hlCmdRingWrite false v) s = .next t ∧ t.pending = s.pending ∧
      t.dev.get F.HL_CMD_BASE_V = v % 2 ^ (F.HL_CMD_BASE_V.hi - F.HL_CMD_BASE_V.lo + 1) ∧ t.dev.get F.HL_CMD_HEAD_HEAD = 0 ∧
      t.dev.get F.HL_CMD_STATUS_RING_ERR = 0 ∧ t.dev = { s.dev with regs := t.dev.regs } ∧
      s.dev.onlyFields t.dev [(F.HL_CMD_BASE_V, 0, 0), (F.HL_CMD_HEAD_HEAD, 0, 0), (F.HL_CMD_STATUS_RING_ERR, 0, 0)])) ∧
  (∀ s : State, s.dev.hl.cmd = none → ∃ t, exec (.hlCmdPause true) s = .next t ∧ t.pending = s.pending ∧ t.dev.get F.HL_CMD_CTL_PAUSE = 1 ∧
    t.dev = { s.dev with regs := t.dev.regs } ∧ s.dev.onlyFields t.dev [(F.HL_CMD_CTL_PAUSE, 0, 0)]) ∧
  (∀ (s : State) (v : Nat), ∃ t, exec (.hlEvtRingWrite false v) s = .next t ∧ t.pending = s.pending ∧
    t.dev.get F.HL_EVT_BASE_V = v % 2 ^ (F.HL_EVT_BASE_V.hi - F.HL_EVT_BASE_V.lo + 1) ∧ t.dev.get F.HL_EVT_TAIL_TAIL = 0 ∧
    t.dev.get F.HL_EVT_CTL_EVT_ERR = 0 ∧ (s.dev.get F.HL_EVT_CTL_LOG2SIZE ≤ 12 → t.dev.get F.HL_EVT_TAIL_FREE = 2 ^ s.dev.get F.HL_EVT_CTL_LOG2SIZE) ∧ t.dev.hl.evtSet = true ∧
    s.dev.onlyFields t.dev [(F.HL_EVT_BASE_V, 0, 0), (F.HL_EVT_TAIL_TAIL, 0, 0), (F.HL_EVT_TAIL_FREE, 0, 0), (F.HL_EVT_CTL_EVT_ERR, 0, 0)]) ∧
  (∀ (s : State) (n : Nat), n < 8192 → s.dev.hl.evtSet = true → s.dev.get F.HL_EVT_CTL_LOG2SIZE ≤ 12 → s.dev.get F.HL_EVT_TAIL_FREE + n ≤ 2 ^ s.dev.get F.HL_EVT_CTL_LOG2SIZE →
    ∃ t, exec (.hlEvtDoorbell n) s = .next t ∧ t.pending = s.pending ∧ t.dev.get F.HL_EVT_TAIL_FREE = s.dev.get F.HL_EVT_TAIL_FREE + n ∧
      t.dev = { s.dev with regs := t.dev.regs } ∧ s.dev.onlyFields t.dev [(F.HL_EVT_TAIL_FREE, 0, 0)]) ∧
  (∀ s : State, s.dev.flt.notifyOwed = true → s.dev.flag F.HL_EVT_CTL_NOTIFY_EN = true → s.dev.flt.notifyLast = none →
    ∃ t, exec .eventNotify s = .next t ∧ t.pending = s.pending ∧ t.dev.flt.notifyOwed = false ∧ t.dev.flt.notifyLast = some s.dev.beat ∧ t.dev.regs = s.dev.regs ∧ s.dev.sameBytes t.dev) ∧
  (∀ (s : State) (c : Nat), s.dev.flt.ibiPending = some c → s.dev.hl.i3cEvents = true → s.dev.flag F.I3C_CTL_IBI_EN = true →
    ((∀ b, s.dev.flt.ibiLast = some b → b + 1000 ≤ s.dev.beat) → exec .ibiRaise s =
      .next (s.withDev { s.dev with flt := { s.dev.flt with ibiPending := none, ibiLast := some s.dev.beat }, out := s.dev.out ++ [.ibi c] })) ∧
    (∀ b, s.dev.flt.ibiLast = some b → s.dev.beat < b + 1000 → exec .ibiRaise s = .next s))

/-- RSTDAA leaves no dynamic address. SETDASA to this device's static address 0x50 + STRAP, and ENTDAA, assign one where none is held; SETNEWDA replaces one held. An I3C_CSR_WRITE of a 32-bit register makes the write of four bytes and keeps status 0x00 for the next I3C_PRIVATE_READ; I3C_CSR_READ keeps the status and the value; I3C_TELEMETRY the status and the 64-byte block; I3C_PRIVATE_READ answers what is kept, and status 0x03 where nothing is. ENEC and DISEC of event bit 0 enable and disable in-band interrupts. GETPID, GETBCR and GETDCR answer the identity; GETSTATUS, GETMWL and GETMRL answer two, two and three bytes that the manual leaves free, and change no register.
Rests on R448, R449, R450. -/
def Obligations.I3cAddressesAndAccesses : Prop :=
  (∀ s : State, ∃ t, exec .rstdaa s = .next t ∧ t.pending = s.pending ∧ t.dev.get F.I3C_STATUS_ASSIGNED = 0 ∧ t.dev.get F.I3C_STATUS_ADDR = 0 ∧
    t.dev = { s.dev with regs := t.dev.regs } ∧ s.dev.onlyFields t.dev [(F.I3C_STATUS_ASSIGNED, 0, 0), (F.I3C_STATUS_ADDR, 0, 0)]) ∧
  (∀ (s : State) (i : Instr) (a : Nat), a < 128 →
    ((i = .setdasa (0x50 + s.dev.boot.env.straps % 4) a ∨ i = .entdaa a) ∧ s.dev.get F.I3C_STATUS_ASSIGNED = 0) ∨ (i = .setnewda a ∧ s.dev.get F.I3C_STATUS_ASSIGNED ≠ 0) →
    ∃ t, exec i s = .next t ∧ t.pending = s.pending ∧ t.dev.get F.I3C_STATUS_ASSIGNED = 1 ∧ t.dev.get F.I3C_STATUS_ADDR = a ∧
      t.dev = { s.dev with regs := t.dev.regs } ∧ s.dev.onlyFields t.dev [(F.I3C_STATUS_ASSIGNED, 0, 0), (F.I3C_STATUS_ADDR, 0, 0)]) ∧
  (∀ (s : State) (a b : Nat), (s.dev.get F.I3C_STATUS_ASSIGNED ≠ 0 → exec (.setdasa b a) s = .next s ∧ exec (.entdaa a) s = .next s) ∧
    (b ≠ 0x50 + s.dev.boot.env.straps % 4 → exec (.setdasa b a) s = .next s) ∧ (s.dev.get F.I3C_STATUS_ASSIGNED = 0 → exec (.setnewda a) s = .next s)) ∧
  (∀ (s : State) (a v : Nat), a < 2 ^ 32 → (s.dev.csrRead a 4).1 = .ok →
    (∃ t, exec (.i3cCsrRead a) s = .next t ∧ t.pending = s.pending ∧ t.dev.hl.i3cAnswer = some (0 :: leBytes 4 (s.dev.csrRead a 4).2.1) ∧ s.dev.sameBytes t.dev) ∧
    (∃ t, exec (.i3cCsrWrite a v) s = .next t ∧ t.pending = s.pending ∧ t.dev.hl.i3cAnswer = some [0] ∧
      t.dev = { (s.dev.csrWrite a 4 v).2 with hl := { (s.dev.csrWrite a 4 v).2.hl with i3cAnswer := some [0] } })) ∧
  (∀ s : State, exec .i3cTelemetry s = .next (s.withDev { s.dev with hl := { s.dev.hl with i3cAnswer := some (0 :: slice s.dev.hl.telemetry 0 64) } })) ∧
  (∀ s : State, exec .i3cPrivateRead s =
    .next (s.withDev { s.dev with hl := { s.dev.hl with i3cAnswer := none }, out := s.dev.out ++ [.i3c (s.dev.hl.i3cAnswer.getD [3])] })) ∧
  (∀ (s : State) (e : Nat), bitOf e 0 = true → exec (.enec e) s = .next (s.withDev { s.dev with hl := { s.dev.hl with i3cEvents := true } }) ∧
    exec (.disec e) s = .next (s.withDev { s.dev with hl := { s.dev.hl with i3cEvents := false } })) ∧
  (∀ s : State, exec .getpid s = .next (s.withDev { s.dev with out := s.dev.out ++ [.i3c (leBytes 6 s.dev.i3cPid).reverse] }) ∧
    exec .getbcr s = .next (s.withDev { s.dev with out := s.dev.out ++ [.i3c [0x06]] }) ∧ exec .getdcr s = .next (s.withDev { s.dev with out := s.dev.out ++ [.i3c [0]] })) ∧
  (∀ (s : State) (i : Instr) (n : Nat), (i, n) ∈ [(Instr.getstatus, 2), (.getmwl, 2), (.getmrl, 3)] →
    ∃ bs, bs.length = n ∧ exec i s = .next (s.withDev { s.dev with free := s.dev.free + 1, out := s.dev.out ++ [.i3c bs] }))

/-- Each JTAG instruction sets the instruction register. IDCODE shifts out 0x13288D7B; SAMPLE_PRELOAD and BYPASS change nothing else but giving the balls back. EXTEST, CLAMP and HIGHZ take the balls: with both halves of HauneLink DOWN, no port is UP afterwards, the halves stay DOWN, and no byte of memory changes. CSR_ACCESS shifts out the result of the last access. HBM_1500, once the debug attach is logged, reaches the wrapper of the channel in JTAG_CTL where that is mapped out or in test, and bypasses otherwise. The first selection of either is logged, or kept for the log while that has no entry yet. JTAG_CSR_GO with CSR_ACCESS selected makes one access of four bytes and keeps its data and error; with another instruction selected it changes nothing.
Rests on R447, R452, R453, R454. -/
def Obligations.JtagInstructions : Prop :=
  (∀ s : State, exec .idcode s = .next (s.withDev { s.dev with hl := { s.dev.hl with ir := 1, ballsTaken := false }, out := s.dev.out ++ [.jtag 32 0x13288D7B] }) ∧
    exec .samplePreload s = .next (s.withDev { s.dev with hl := { s.dev.hl with ir := 2, ballsTaken := false } }) ∧
    exec .bypass s = .next (s.withDev { s.dev with hl := { s.dev.hl with ir := 0xFF, ballsTaken := false } })) ∧
  (∀ (s : State) (i : Instr) (code : Nat), (i, code) ∈ [(Instr.extest, 3), (.clamp, 4), (.highz, 5)] →
    s.dev.get F.HL_STATUS_STATE0 = 0 → s.dev.get F.HL_STATUS_STATE1 = 0 →
    ∃ t, exec i s = .next t ∧ t.pending = s.pending ∧ t.dev.hl.ir = code ∧ t.dev.hl.ballsTaken = true ∧ t.dev.upPorts = [] ∧
      t.dev.get F.HL_STATUS_STATE0 = 0 ∧ t.dev.get F.HL_STATUS_STATE1 = 0 ∧ s.dev.sameBytes t.dev) ∧
  (∀ s : State, s.dev.hl.attached = true → exec .csrAccess s = .next (s.withDev
      { s.dev with hl := { s.dev.hl with ir := 0x20, ballsTaken := false }, out := s.dev.out ++ [.jtag 72 s.dev.jtagCapture] }) ∧
    (let d := { s.dev with hl := { s.dev.hl with ir := 0x21, ballsTaken := false } }
      let ch := s.dev.get F.JTAG_CTL_CHANNEL
      exec .hbm1500 s = .next (s.withDev (if s.dev.chanState ch = 5 ∨ s.dev.chanState ch = 6 then { d with out := d.out ++ [.wrapper ch] } else d)))) ∧
  (∀ s : State, s.dev.hl.attached = false → s.dev.boot.count = 0 →
    (∃ t, exec .csrAccess s = .next t ∧ t.pending = s.pending ∧ t.dev.hl.ir = 0x20 ∧ t.dev.hl.attached = true ∧ t.dev.boot.attach = some 0x20 ∧ t.dev.regs = s.dev.regs) ∧
    (∃ t, exec .hbm1500 s = .next t ∧ t.pending = s.pending ∧ t.dev.hl.ir = 0x21 ∧ t.dev.hl.attached = true ∧ t.dev.boot.attach = some 0x21 ∧ t.dev.regs = s.dev.regs)) ∧
  (∀ s : State, s.dev.hl.attached = false → s.dev.boot.count ≠ 0 →
    (∃ t, exec .csrAccess s = .next t ∧ t.pending = s.pending ∧ t.dev.hl.ir = 0x20 ∧ t.dev.hl.attached = true ∧ t.dev.boot.count = s.dev.boot.count + 1) ∧
    (∃ t, exec .hbm1500 s = .next t ∧ t.pending = s.pending ∧ t.dev.hl.ir = 0x21 ∧ t.dev.hl.attached = true ∧ t.dev.boot.count = s.dev.boot.count + 1)) ∧
  (∀ (s : State) (w : Bool) (a v : Nat), s.dev.hl.ir ≠ 0x20 → exec (.jtagCsrGo w a v) s = .next s) ∧
  (∀ (s : State) (a v : Nat), s.dev.hl.ir = 0x20 → a < 2 ^ 32 → v < 2 ^ 32 → (s.dev.csrRead a 4).1 = .ok →
    (∃ t, exec (.jtagCsrGo false a v) s = .next t ∧ t.pending = s.pending ∧ t.dev.hl.jtagDone = true ∧ t.dev.hl.jtagErr = false ∧
      t.dev.hl.jtagData = (s.dev.csrRead a 4).2.1 ∧ s.dev.sameBytes t.dev) ∧
    (∃ t, exec (.jtagCsrGo true a v) s = .next t ∧ t.pending = s.pending ∧ t.dev.regs = (s.dev.csrWrite a 4 v).2.regs ∧ t.dev.hl.jtagDone = true ∧
      t.dev.hl.jtagErr = false))

/-- STREAM_GATE_PASS with the release counter at zero or less passes one buffer and adds 1 to the counter; with the counter above zero no buffer passes. STREAM_LINE_LAND of a READ line unconverted and unchained, with no byte written meanwhile, writes its bytes at its row; of a line that failed, and of a WRITE line acknowledged, it counts the bytes of the row as done with the code; of a line whose stream was aborted it only frees the tag. PREFETCH_ISSUE sends the next line of the window and remembers it. PREFETCH_FILL frees the tag of a line that has arrived. PREFETCH_TUNE, after 1,024 fetches, doubles, halves or keeps each effective depth and clears the interval. PF_AUTO_CLEAR returns each context to its PF_DEPTH. RELAY_HOP hands the oldest ready line to the next member, drops it where there is none, and counts a wait where that member cannot take it: its hop buffer is full, it has no RELAY of that stream, or its gate holds the row. A RELAY of the same geometry takes the line. SXU_ABORT leaves no context, of the chains only lines that merely pass through, sends no pulse and no write-back.
Rests on R193, R194, R195, R198, R199, R200, R201, R204, R207, R208, R209. -/
def Obligations.StreamUnit : Prop :=
  (∀ (s : State) (c k : Nat) (st : Stream), c < 272 → k < 16 → s.dev.clockGated c = false → s.dev.ctx c k = some st → st.relEn = true →
    (st.gated < st.buffers → s.dev.tap c st.relTap ≤ 0 → exec (.streamGatePass c k) s =
      .next (s.withDev ((((s.dev.setCtx c k { st with gated := st.gated + 1 }).tapAdd c st.relTap 1).pumpAll c).settle))) ∧
    (0 < s.dev.tap c st.relTap → exec (.streamGatePass c k) s = .next (s.withDev s.dev.settle))) ∧
  (∀ (s : State) (c tag : Nat) (t : SxuTag) (st : Stream) (a : MemAcc) (bs : List Byte), c < 272 → s.dev.clockGated c = false →
    (s.dev.core c).sxu.tags.find? (fun t => t.tag = tag && !t.ahead) = some t → t.reading = false → s.dev.acc t.access = some a →
    (∀ err, s.dev.tagCtx c t = some st → st.kind = 1 → st.conv = 0 → st.chainEn = false → a.st = .done 0 bs → a.touched = [] → s.dev.windowLine t = false →
      exec (.streamLineLand c tag err) s = .next (s.withDev
        (((((s.dev.freeTagOf c t).localWrite c (st.rowLocal t.row + t.off) bs err).rowBytesDone c t.ctx t.row t.len 0).pumpAll c).settle))) ∧
    (∀ err code, s.dev.tagCtx c t = some st → st.chainEn = false → a.st = .done code bs → (st.kind = 3 ∨ code ≠ 0) →
      exec (.streamLineLand c tag err) s = .next (s.withDev (((((s.dev.freeTagOf c t).rowBytesDone c t.ctx t.row t.len code).pumpAll c).settle)))) ∧
    (∀ err code, s.dev.tagCtx c t = none → a.st = .done code bs →
      exec (.streamLineLand c tag err) s = .next (s.withDev ((((s.dev.freeTagOf c t).pumpAll c).settle))))) ∧
  (∀ (s : State) (c k tag row off line : Nat) (st : Stream), c < 272 → k < 16 → s.dev.clockGated c = false → s.dev.ctx c k = some st →
    (s.dev.core c).sxu.freeTag = some tag → s.dev.flag F.SXU_CTL_PAUSE c = false → st.depth ≠ 0 → st.kind = 1 ∨ st.kind = 2 →
    ((s.dev.core c).sxu.tags.filter (·.ahead)).length < min 256 (s.dev.get F.SXU_PF_CTL_MAX_TAGS c) →
    s.dev.nextAhead c st ((st.window.2 - st.window.1) * (st.rowBytes / 64 + 2) + 1) st.pfRow st.pfOff = some (row, off, line) →
    let d := (s.dev.setCtx c k { st with pfRow := row, pfOff := off, ahead := st.ahead ++ [line] }).updSxu c
      fun x => { x with tags := x.tags ++ [{ tag := tag, ctx := k, sid := st.id, row := row, off := off, len := 64, access := s.dev.sys.nextAcc, ahead := true }] }
    exec (.prefetchIssue c k) s = .next (s.withDev (((d.access (.stream c tag) (some c) (c / 68) (64 * line) (.read 64) true).2.showSxu c).settle))) ∧
  (∀ (s : State) (c tag code : Nat) (t : SxuTag) (a : MemAcc) (bs : List Byte), c < 272 → s.dev.clockGated c = false →
    (s.dev.core c).sxu.tags.find? (fun t => t.tag = tag && t.ahead) = some t → s.dev.acc t.access = some a → a.st = .done code bs →
    exec (.prefetchFill c tag) s = .next (s.withDev (((s.dev.freeTagOf c t).pumpAll c).settle))) ∧
  (∀ (s : State) (c : Nat), c < 272 → s.dev.clockGated c = false →
    ((s.dev.core c).sxu.ivIssued < 1024 → exec (.prefetchTune c) s = .next s) ∧
    (1024 ≤ (s.dev.core c).sxu.ivIssued → ∃ u, exec (.prefetchTune c) s = .next u ∧ u.pending = s.pending ∧ u.dev = { s.dev with cores := u.dev.cores } ∧
      s.dev.sameBytes u.dev ∧ (u.dev.core c).sxu.ivIssued = 0 ∧ (u.dev.core c).sxu.ivLate = 0 ∧ (u.dev.core c).sxu.ivUnused = 0 ∧
      ∀ k st, s.dev.ctx c k = some st →
        let deep := if s.dev.flag F.SXU_PF_CTL_AUTO c = false ∨ st.pfDepth = 0 then st.depth
        else if 128 < (s.dev.core c).sxu.ivLate then min 64 (2 * st.depth)
        else if 256 < (s.dev.core c).sxu.ivUnused then max 1 (st.depth / 2) else st.depth
        u.dev.ctx c k = some { st with depth := deep })) ∧
  (∀ (s : State) (c : Nat), c < 272 → ∃ u, exec (.pfAutoClear c) s = .next u ∧ u.pending = s.pending ∧ u.dev.get F.SXU_PF_CTL_AUTO c = 0 ∧
    (∀ k st, s.dev.ctx c k = some st → u.dev.ctx c k = some { st with depth := st.pfDepth }) ∧ s.dev.sameBytes u.dev ∧
    s.dev.onlyFields u.dev [(F.SXU_PF_CTL_AUTO, c, 0)] ∧ u.dev = { s.dev with regs := u.dev.regs, cores := u.dev.cores }) ∧
  (∀ (s : State) (c n : Nat), c < 272 → n < 4 → s.dev.clockGated c = false →
    (s.dev.meshHeld (c / 68) = true ∨ (s.dev.core c).sxu.relay.find? (fun l => l.chain = n && l.ready) = none → exec (.relayHop c n) s = .next s) ∧
    (∀ l, s.dev.meshHeld (c / 68) = false → (s.dev.core c).sxu.relay.find? (fun l => l.chain = n && l.ready) = some l →
      let gone := s.dev.updSxu c fun x => { x with relay := x.relay.erase l }
      (s.dev.chainNext c n = none → exec (.relayHop c n) s = .next (s.withDev gone)) ∧
      (∀ lci, s.dev.chainNext c n = some lci →
        (∀ m d, s.dev.lciCore (c / 68) lci = some m → gone.relayTake m n l = some d → exec (.relayHop c n) s = .next (s.withDev d)) ∧
        (s.dev.lciCore (c / 68) lci = none ∨ (∃ m, s.dev.lciCore (c / 68) lci = some m ∧ gone.relayTake m n l = none) →
          exec (.relayHop c n) s = .next (s.withDev (s.dev.count F.SXU_RELAY_WAIT_V c)))))) ∧
  (∀ (d : Dev) (m n : Nat) (l : RelayLine),
    ((d.core m).sxu.hopFull n = true → d.relayTake m n l = none) ∧
    ((d.core m).sxu.hopFull n = false → (d.core m).sxu.passing.contains (n, l.ord) = false →
      ((d.core m).sxu.relayFor n l.ord = none → d.relayTake m n l = none) ∧
      (∀ k st, (d.core m).sxu.relayFor n l.ord = some (k, st) → st.rowBytes = l.rowBytes → st.rows = l.rows → st.conv = l.conv →
        (st.relEn = true → st.gated ≤ st.bufOf l.row → d.relayTake m n l = none) ∧
        (st.relEn = false ∨ st.bufOf l.row < st.gated →
          let st' := { st with serves := some l.ord }
          d.relayTake m n l = some (((d.setCtx m k st').relayLand m k st' l).showSxu m))))) ∧
  (∀ (s : State) (c : Nat), c < 272 → ∃ u, exec (.sxuAbort c) s = .next u ∧ u.pending = s.pending ∧ (u.dev.core c).sxu.ctx = [] ∧
    (u.dev.core c).sxu.relay = (s.dev.core c).sxu.relay.filter (fun l => (s.dev.core c).sxu.passing.contains (l.chain, l.ord)) ∧
    (∀ t ∈ (u.dev.core c).sxu.tags, t.reading = false ∧ t ∈ (s.dev.core c).sxu.tags) ∧ u.dev.get F.SXU_STATUS_CONTEXTS c = 0 ∧
    s.dev.onlyFields u.dev [(F.SXU_STATUS_CONTEXTS, c, 0), (F.SXU_STATUS_TAGS, c, 0), (F.SXU_STATUS_BUSY, c, 0)])

/-- TRANSLATION_WALK_DONE of an access of this chip: an uncorrectable read ends it with MEM_ERROR; an entry that is not valid, with TRANSLATION; an entry in motion holds it; otherwise the entry is held and the access goes where its tier says. A walk that an invalidation overtook only counts. XLT_INVAL drops the entries it names from the caches of every core and quarter and sets INVAL_BUSY; while INVAL_BUSY is set it only sets INVAL_REFUSED. INVAL_COMPLETE clears INVAL_BUSY once no walk and no request under the old entries is open, and does nothing before. No byte of HBM or scratch changes by either.
Rests on R187, R188, R189, 08_streams_dma.md Table 08-9. -/
def Obligations.TranslationAndInvalidation : Prop :=
  (∀ (s : State) (id : Nat) (a : MemAcc), s.dev.acc id = some a → a.st = .walk → s.dev.sys.staleWalks.contains a.id = false →
    let g := a.at_ % 2 ^ 40 / 65536
    let d := s.dev.bringLine (s.dev.entryAddr g / 64)
    a.at_ / 2 ^ 40 = s.dev.chip → bits a.at_ 39 36 ≠ 0xF → g < s.dev.granules →
    exec (.translationWalkDone id true) s = .next (s.withDev (s.dev.failAcc a 0x06).settle.freWake) ∧
    (d.tableEntry g = none → exec (.translationWalkDone id false) s = .next (s.withDev (d.failAcc a 0x06).settle.freWake)) ∧
    (∀ e, d.tableEntry g = some e →
      (xltValid e = false → exec (.translationWalkDone id false) s = .next (s.withDev (d.failAcc a 0x05).settle.freWake)) ∧
      (xltValid e = true → xltMotion e = true → a.ahead = false →
        exec (.translationWalkDone id false) s = .next (s.withDev (d.updAcc a.id fun a => { a with st := .motion }).settle.freWake)) ∧
      (xltValid e = true → xltMotion e = false → a.ahead = false ∨ xltTier e = 3 → exec (.translationWalkDone id false) s =
        .next (s.withDev ((d.xltInstall a.core a.q g e).routeAcc a e).settle.freWake)))) ∧
  (∀ (s : State) (id : Nat) (a : MemAcc) (err : Bool), s.dev.acc id = some a → a.st = .walk → s.dev.sys.staleWalks.contains a.id = true →
    exec (.translationWalkDone id err) s = .next (s.withDev
      ((({ s.dev with sys := { s.dev.sys with staleWalks := s.dev.sys.staleWalks.filter (· ≠ a.id) } } : Dev).count F.XLT_WALKS_V).settle.freWake))) ∧
  (∀ (s : State) (all : Bool) (g : Nat), s.dev.get F.XLT_STATUS_INVAL_BUSY = 0 →
    ∃ u, exec (.xltInval all g) s = .next u ∧ u.pending = s.pending ∧ u.dev.get F.XLT_STATUS_INVAL_BUSY = 1 ∧ u.dev.mem = s.dev.mem ∧
      (∀ c h, h ∈ (u.dev.core c).stc → all = false ∧ h.granule ≠ g) ∧ (∀ q h, h ∈ mget [] u.dev.sys.qtc q → all = false ∧ h.granule ≠ g) ∧
      s.dev.onlyFields u.dev [(F.XLT_STATUS_INVAL_BUSY, 0, 0)]) ∧
  (∀ (s : State) (all : Bool) (g : Nat), s.dev.get F.XLT_STATUS_INVAL_BUSY ≠ 0 →
    ∃ u, exec (.xltInval all g) s = .next u ∧ u.pending = s.pending ∧ u.dev.get F.XLT_STATUS_INVAL_REFUSED = 1 ∧ u.dev = { s.dev with regs := u.dev.regs } ∧
      s.dev.onlyFields u.dev [(F.XLT_STATUS_INVAL_REFUSED, 0, 0)]) ∧
  (∀ s : State, s.dev.sys.staleWalks = [] → (∀ id ∈ s.dev.sys.draining, s.dev.acc id = none ∨ ∃ a k bs, s.dev.acc id = some a ∧ a.st = .done k bs) →
    ∃ u, exec .invalComplete s = .next u ∧ u.pending = s.pending ∧ u.dev.get F.XLT_STATUS_INVAL_BUSY = 0 ∧ u.dev.sys.draining = [] ∧ s.dev.sameBytes u.dev ∧
      s.dev.onlyFields u.dev [(F.XLT_STATUS_INVAL_BUSY, 0, 0)]) ∧
  (∀ s : State, s.dev.sys.staleWalks ≠ [] ∨ (∃ id ∈ s.dev.sys.draining, ∃ a, s.dev.acc id = some a ∧ ∀ k bs, a.st ≠ .done k bs) → exec .invalComplete s = .next s)

/-- DMA_DOORBELL sets PENDING of each channel rung that is neither in error nor in service, and no other; it notes a ring of the channel in service, and does nothing while the engine is disabled. DMA_CHANNEL_SELECT of an idle engine serves the channel that arbitration gives and clears its PENDING bit, and fetches a descriptor in global memory; with none pending or the engine in service it does nothing. DMA_DESC_READ of a descriptor in the core's own memory without OWN frees the engine, or reads again where it was rung meanwhile; with OWN, it becomes the job in hand, and one that fails a check completes with its code; one outside the stores or unreadable ends in a ring error. DMA_RING_WRITE of an idle channel sets base or size, HEAD to 0, and clears the channel's error bit; of a channel PENDING or ACTIVE it is ignored. DMA_DISABLE drops all work: no channel is PENDING or ACTIVE and no write is open.
Rests on R212, R214, R215, R216, R221, R222, R223. -/
def Obligations.DmaChannels : Prop :=
  (∀ (s : State) (c mask : Nat), c < 272 → s.dev.get F.DMA_CTL_DISABLE c = 0 →
    ∃ u, exec (.dmaDoorbell c mask) s = .next u ∧ u.pending = s.pending ∧ u.dev = { s.dev with regs := u.dev.regs, cores := u.dev.cores } ∧ s.dev.sameBytes u.dev ∧
      s.dev.onlyFields u.dev [(F.DMA_STATUS_PENDING, c, 0)] ∧
      (∀ ch, ch < 16 → bitOf (u.dev.get F.DMA_STATUS_PENDING c) ch =
        (bitOf (s.dev.get F.DMA_STATUS_PENDING c) ch || (bitOf mask ch && !bitOf (s.dev.get F.DMA_RING_ERR_CH c) ch && s.dev.dmaActive c ≠ ch))) ∧
      (s.dev.dmaActive c < 16 → (u.dev.core c).dma.rung =
        ((s.dev.core c).dma.rung || (bitOf mask (s.dev.dmaActive c) && !bitOf (s.dev.get F.DMA_RING_ERR_CH c) (s.dev.dmaActive c))))) ∧
  (∀ (s : State) (c mask : Nat), c < 272 → s.dev.get F.DMA_CTL_DISABLE c ≠ 0 → exec (.dmaDoorbell c mask) s = .next s) ∧
  (∀ (s : State) (c ch : Nat), c < 272 → s.dev.clockGated c = false → s.dev.dmaActive c = 0x1F →
    arbiter 16 (s.dev.core c).dma.ptr (fun ch => bitOf (s.dev.get F.DMA_STATUS_PENDING c) ch) = some ch →
    (isLocalAddr (s.dev.dmaDescAt c ch) = true →
      ∃ u, exec (.dmaChannelSelect c) s = .next u ∧ u.pending = s.pending ∧ u.dev.dmaActive c = ch ∧ bitOf (u.dev.get F.DMA_STATUS_PENDING c) ch = false ∧
        u.dev.get F.DMA_STATUS_BUSY c = 1 ∧ (u.dev.core c).dma.reading = true ∧ (u.dev.core c).dma.ptr = (ch + 1) % 16 ∧ s.dev.sameBytes u.dev ∧
        s.dev.onlyFields u.dev [(F.DMA_STATUS_PENDING, c, 0), (F.DMA_STATUS_ACTIVE, c, 0), (F.DMA_STATUS_BUSY, c, 0)]) ∧
    (isLocalAddr (s.dev.dmaDescAt c ch) = false →
      let d := ((s.dev.put F.DMA_STATUS_PENDING c 0 (setBit (s.dev.get F.DMA_STATUS_PENDING c) ch false)).put F.DMA_STATUS_ACTIVE c 0 ch).updDma c
        fun m => { m with ptr := (ch + 1) % 16 }
      let d := d.updDma c fun m => { m with reading := true, rung := false, job := none, backs := 0, backBad := false }
      exec (.dmaChannelSelect c) s = .next (s.withDev ((d.access (.dmaDesc c ch) (some c) (c / 68) (s.dev.dmaDescAt c ch) (.read 32)).2.showDma c)))) ∧
  (∀ (s : State) (c : Nat), c < 272 → s.dev.clockGated c = false →
    s.dev.dmaActive c ≠ 0x1F ∨ (∀ ch, ch < 16 → bitOf (s.dev.get F.DMA_STATUS_PENDING c) ch = false) → exec (.dmaChannelSelect c) s = .next s) ∧
  (∀ (s : State) (c err : Nat), c < 272 → s.dev.clockGated c = false → (s.dev.core c).dma.reading = true → s.dev.dmaActive c ≠ 0x1F →
    let ch := s.dev.dmaActive c
    let a := s.dev.dmaDescAt c ch
    let r := s.dev.readError c a 32 err
    let ws := (List.range 4).map (fun i => leAt (r.2.localRead c a 32) (8 * i) 8)
    let e := r.2.updDma c fun m => { m with reading := false, job := some { words := ws } }
    isLocalAddr a = true →
    (s.dev.localOk c a 32 = false ∨ r.1 = true → exec (.dmaDescRead c err) s = .next (s.withDev (r.2.dmaRingError c ch).settle)) ∧
    (s.dev.localOk c a 32 = true → r.1 = false → bitOf (wordOf ws 0) 63 = false →
      exec (.dmaDescRead c err) s = .next (s.withDev (if (r.2.core c).dma.rung then r.2.dmaFetch c ch else r.2.dmaFree c).settle)) ∧
    (s.dev.localOk c a 32 = true → r.1 = false → bitOf (wordOf ws 0) 63 = true →
      (e.dmaCheck c { words := ws } = 0 → exec (.dmaDescRead c err) s = .next (s.withDev e.settle)) ∧
      (e.dmaCheck c { words := ws } = 1 → exec (.dmaDescRead c err) s = .next (s.withDev (e.dmaComplete c ch { words := ws } 1 0).settle)) ∧
      (e.dmaCheck c { words := ws } = 2 →
        exec (.dmaDescRead c err) s = .next (s.withDev (e.dmaComplete c ch { words := ws } 2 (e.dmaOutside c { words := ws })).settle)))) ∧
  (∀ (s : State) (c ch : Nat) (ctl : Bool) (v : Nat), c < 272 → ch < 16 →
    (bitOf (s.dev.get F.DMA_STATUS_PENDING c) ch = true ∨ s.dev.dmaActive c = ch → exec (.dmaRingWrite c ch ctl v) s = .next s) ∧
    (bitOf (s.dev.get F.DMA_STATUS_PENDING c) ch = false → s.dev.dmaActive c ≠ ch →
      ∃ u, exec (.dmaRingWrite c ch ctl v) s = .next u ∧ u.pending = s.pending ∧ u.dev.get F.DMA_RING_HEAD_HEAD c ch = 0 ∧
        bitOf (u.dev.get F.DMA_RING_ERR_CH c) ch = false ∧
        (if ctl then u.dev.get F.DMA_RING_CTL_LOG2SIZE c ch = (if v % 16 ≤ 12 then v % 16 else 0)
          else u.dev.get F.DMA_RING_BASE_V c ch = v % 2 ^ (F.DMA_RING_BASE_V.hi - F.DMA_RING_BASE_V.lo + 1)) ∧
        u.dev = { s.dev with regs := u.dev.regs } ∧ s.dev.onlyFields u.dev
          [(if ctl then F.DMA_RING_CTL_LOG2SIZE else F.DMA_RING_BASE_V, c, ch), (F.DMA_RING_HEAD_HEAD, c, ch), (F.DMA_RING_ERR_CH, c, 0)])) ∧
  (∀ (s : State) (c : Nat), c < 272 → ∃ u, exec (.dmaDisable c) s = .next u ∧ u.pending = s.pending ∧ u.dev.get F.DMA_CTL_DISABLE c = 1 ∧
    u.dev.get F.DMA_STATUS_PENDING c = 0 ∧ u.dev.dmaActive c = 0x1F ∧ (u.dev.core c).dma.job = none ∧ (u.dev.core c).dma.unacked = [])

/-- COPY of a job with bytes left to read whose source is in the core's own memory reads the whole lines of the next part, up to its 64-byte boundary, or the next part of its stripe, and passes them on; from global memory it sends the read. With nothing left, or while its stripe waits, it does nothing. DMA_COPY_COMPLETE of a COPY with every byte read and gone completes its descriptor with the lowest failing byte's code, or good; of a stripe, with the code of its refusal, or good once every byte is accepted; and waits until then. DRAIN of a DRAIN descriptor begins to wait; DMA_DRAIN_COMPLETE completes it once no write of its channel is open, with the first failure in the order in which the writes left, or good, and waits until then.
Rests on R217, R218, R219, R220, R221. -/
def Obligations.DmaMovesAndDrains : Prop :=
  (∀ (s : State) (c err werr : Nat) (j : DmaJob), c < 272 → s.dev.clockGated c = false → (s.dev.core c).dma.job = some j →
    let ch := s.dev.dmaActive c
    let hold := j.kv && (j.kvWait.isSome || j.kvCode ≠ 0 || (j.next ≠ 0 && j.kvSent < 64))
    let a := j.src + j.next
    let n := if j.kv then j.kvChunk else min (j.len - j.next) (64 - a % 64)
    let base := a / 64 * 64
    let whole := (a + n - base + 63) / 64 * 64
    let d := s.dev.updJob c fun j => { j with next := j.next + n, reading := j.reading + 1 }
    (j.opc = 1 → j.next < j.len → hold = false → isLocalAddr a = true →
      let r := d.readError c base whole err
      let b := r.2.localSpoilt c base whole j.touched
      exec (.copy c err werr) s = .next (s.withDev ((b.2.dmaLanded c ch j.next n (if r.1 then 0x06 else 0) b.1 werr).settle))) ∧
    (j.opc = 1 → j.next < j.len → hold = false → isLocalAddr a = false →
      exec (.copy c err werr) s = .next (s.withDev ((d.access (.dmaRead c ch j.next n) (some c) (c / 68) base (.read whole) false err).2.settle))) ∧
    (j.opc ≠ 1 ∨ j.len ≤ j.next ∨ hold = true → exec (.copy c err werr) s = .next (s.withDev s.dev.settle)) ∧
    (j.opc = 1 → j.kv = false → j.next = j.len → j.reading = 0 →
      exec (.dmaCopyComplete c) s = .next (s.withDev (s.dev.dmaComplete c ch j (j.err.getD (0, 0)).2 (j.err.getD (0, 0)).1).settle)) ∧
    (j.opc = 1 → j.kv = false → j.next ≠ j.len ∨ j.reading ≠ 0 → exec (.dmaCopyComplete c) s = .next (s.withDev s.dev.settle)) ∧
    (j.kv = true → j.kvCode = 0 → exec (.dmaCopyComplete c) s =
      .next (s.withDev (if j.kvSent = j.len then s.dev.dmaComplete c ch j 0 0 else s.dev).settle)) ∧
    (j.kv = true → j.kvCode ≠ 0 → j.kvCode < 0x100 →
      exec (.dmaCopyComplete c) s = .next (s.withDev (s.dev.dmaComplete c ch j 0x0A j.kvCode).settle)) ∧
    (j.opc = 2 → exec (.drain c) s = .next (s.withDev (s.dev.updJob c fun j => { j with draining := true }))) ∧
    (j.opc = 2 → j.draining = true → mget 0 (s.dev.core c).dma.unacked ch = 0 →
      let f := mget (0, 0, 0) (s.dev.core c).dma.failed ch
      exec (.dmaDrainComplete c) s =
        .next (s.withDev ((s.dev.updDma c fun m => { m with failed := mset (0, 0, 0) m.failed ch (0, 0, 0) }).dmaComplete c ch j f.2.2 f.2.1).settle)) ∧
    (j.opc = 2 → j.draining = false ∨ mget 0 (s.dev.core c).dma.unacked ch ≠ 0 → exec (.dmaDrainComplete c) s = .next (s.withDev s.dev.settle)))

/-- KVR_ARM of an IDLE slot whose range lies in its core's near store makes it ARMED with the layer, attempt, step and round of its registers; of any other slot, and of one whose range does not lie there, it sets ARM_REFUSED and changes nothing else. KVR_RELEASE makes a slot IDLE; one that was filling counts in KVR_ABORTS and has its later writes rejected. KV_HEADER_WRITE at the base of a slot or in none, and KV_PAYLOAD_WRITE beyond a base, for this chip are taken from their port and served; for another chip either goes on its way. KV_BUSY_RESEND, four beats after BUSY, begins the stripe again at its header and counts.
Rests on R168, R170, R171, 07_attention_kv.md Table 07-3. -/
def Obligations.KvRollSlots : Prop :=
  (∀ (s : State) (q i c : Nat), q < 4 → i < 128 → s.dev.get F.KVR_STATE_STATE q i = 0 → s.dev.lciCore q (s.dev.get F.KVR_ADDR_LCI q i) = some c →
    s.dev.get F.KVR_ADDR_OFFSET q i + 64 + s.dev.get F.KVR_LEN_LEN q i ≤ s.dev.nsSize c →
    ∃ u, exec (.kvrArm q i) s = .next u ∧ u.pending = s.pending ∧ u.dev.get F.KVR_STATE_STATE q i = 1 ∧ (u.dev.kvSlot q i).layer = s.dev.get F.KVR_EXPECT_LAYER q i ∧
      (u.dev.kvSlot q i).attempt = s.dev.get F.KVR_EXPECT_ATTEMPT q i ∧ (u.dev.kvSlot q i).step = s.dev.get F.KVR_EXPECT_STEP q i ∧
      (u.dev.kvSlot q i).round = s.dev.get F.KVR_SEL_ROUND q i ∧ s.dev.sameBytes u.dev ∧ s.dev.onlyFields u.dev [(F.KVR_STATE_STATE, q, i)]) ∧
  (∀ (s : State) (q i : Nat), q < 4 → i < 128 → s.dev.get F.KVR_STATE_STATE q i ≠ 0 ∨ s.dev.lciCore q (s.dev.get F.KVR_ADDR_LCI q i) = none ∨
      (∃ c, s.dev.lciCore q (s.dev.get F.KVR_ADDR_LCI q i) = some c ∧ s.dev.nsSize c < s.dev.get F.KVR_ADDR_OFFSET q i + 64 + s.dev.get F.KVR_LEN_LEN q i) →
    ∃ u, exec (.kvrArm q i) s = .next u ∧ u.pending = s.pending ∧ u.dev.get F.KVR_STATE_ARM_REFUSED q i = 1 ∧ u.dev = { s.dev with regs := u.dev.regs } ∧
      s.dev.onlyFields u.dev [(F.KVR_STATE_ARM_REFUSED, q, i)]) ∧
  (∀ (s : State) (q i : Nat), q < 4 → i < 128 → ∃ u, exec (.kvrRelease q i) s = .next u ∧ u.pending = s.pending ∧ u.dev.get F.KVR_STATE_STATE q i = 0 ∧
    (s.dev.get F.KVR_STATE_STATE q i = 2 → (u.dev.kvSlot q i).aborted = true) ∧ s.dev.sameBytes u.dev ∧
    s.dev.onlyFields u.dev [(F.KVR_STATE_STATE, q, i), (F.KVR_ABORTS_V, q, 0)]) ∧
  (∀ (s : State) (n : Nat) (p : Packet), n < 16 → s.dev.clk.safe = false → p.ptype = 2 → p.vc = 4 →
    (p.dst = s.dev.chip → s.dev.kvAtBase p = true →
      exec (.kvHeaderWrite n p) s = .next (s.withDev ((s.dev.takeRx n p).kvArrive n p)) ∧ exec (.kvPayloadWrite n p) s = .next s) ∧
    (p.dst = s.dev.chip → s.dev.kvAtBase p = false →
      exec (.kvPayloadWrite n p) s = .next (s.withDev ((s.dev.takeRx n p).kvArrive n p)) ∧ exec (.kvHeaderWrite n p) s = .next s) ∧
    (p.dst ≠ s.dev.chip → exec (.kvHeaderWrite n p) s = .next (s.withDev ((s.dev.takeRx n p).kvForward n p)) ∧
      exec (.kvPayloadWrite n p) s = .next (s.withDev ((s.dev.takeRx n p).kvForward n p)))) ∧
  (∀ (s : State) (c b : Nat) (j : DmaJob), c < 272 → s.dev.clockGated c = false → (s.dev.core c).dma.job = some j → j.kv = true → j.kvWait = some b → b ≤ s.dev.beat →
    ∃ u, exec (.kvBusyResend c) s = .next u ∧ u.pending = s.pending ∧ (u.dev.core c).dma.job = some { j with next := 0, kvSent := 0, kvWait := none, reading := 0 } ∧
      s.dev.sameBytes u.dev ∧ s.dev.onlyFields u.dev [(F.KVR_RETRIES_V, c / 68, 0)]) ∧
  (∀ (s : State) (c b : Nat) (j : DmaJob), c < 272 → s.dev.clockGated c = false → (s.dev.core c).dma.job = some j → j.kvWait = some b → s.dev.beat < b →
    exec (.kvBusyResend c) s = .next s)

/-- NS_SCRUB of a line counts each word whose check bits are inverted, sets NS_UE, and changes no byte; with none, an error that the read finds is counted as corrected or uncorrectable; with nothing found, or without SCRUB_EN, it changes nothing. SHC_REQUEST and ATOMIC_REQUEST have their home slice accept the read, write or atomic of an access that is at its slice. TIER_REQUEST_TIMEOUT ends an access to a lower tier with LINK_ERROR once its window has ended, and changes nothing before. The result of each atomic is that of Table 09-2, with the old value answered.
Rests on R227, R229, R230, R231, R236, R237, R241, 09_onchip_memory_tiers.md Table 09-1. -/
def Obligations.SharedMemoryRequests : Prop :=
  (∀ (s : State) (c line err : Nat), c < 272 → s.dev.get F.MEM_CTL_SCRUB_EN c ≠ 0 → 64 * line + 64 ≤ s.dev.nsSize c →
    let ws := s.dev.badWords c (.ns (64 * line)) 64
    let errs := [(F.NS_UE_CNT_V, c, 0), (F.MEM_STATUS_NS_UE, c, 0), (F.MEM_ERR_ADDR_NS, c, 0), (F.MEM_ERR_ADDR_OFFSET, c, 0)]
    let top := 2 ^ (F.NS_UE_CNT_V.hi - F.NS_UE_CNT_V.lo + 1) - 1
    (ws ≠ [] → s.dev.get F.NS_UE_CNT_V c ≤ top → err = 0 ∨ err = 2 → ∃ u, exec (.nsScrub c line err) s = .next u ∧ u.pending = s.pending ∧
      u.dev.get F.MEM_STATUS_NS_UE c = 1 ∧ u.dev.get F.NS_UE_CNT_V c = min top (s.dev.get F.NS_UE_CNT_V c + ws.length) ∧
      u.dev = { s.dev with regs := u.dev.regs } ∧ s.dev.onlyFields u.dev errs) ∧
    (ws = [] → err = 2 → ∃ u, exec (.nsScrub c line err) s = .next u ∧ u.pending = s.pending ∧ u.dev.get F.MEM_STATUS_NS_UE c = 1 ∧
      u.dev.get F.NS_UE_CNT_V c = min top (s.dev.get F.NS_UE_CNT_V c + 1) ∧ s.dev.sameBytes u.dev ∧ s.dev.onlyFields u.dev errs) ∧
    (ws = [] → err = 1 → ∃ u, exec (.nsScrub c line err) s = .next u ∧ u.pending = s.pending ∧ u.dev.get F.MEM_STATUS_NS_CE c = 1 ∧
      u.dev = { s.dev with regs := u.dev.regs } ∧ s.dev.onlyFields u.dev [(F.NS_CE_CNT_V, c, 0), (F.MEM_STATUS_NS_CE, c, 0)]) ∧
    (ws = [] → err = 0 → exec (.nsScrub c line err) s = .next s)) ∧
  (∀ (s : State) (c line err : Nat), c < 272 → s.dev.get F.MEM_CTL_SCRUB_EN c = 0 → exec (.nsScrub c line err) s = .next s) ∧
  (∀ (s : State) (id pa err slack : Nat) (a : MemAcc), s.dev.clk.safe = false → s.dev.acc id = some a → a.st = .slice pa →
    ((∀ op v w, a.op ≠ .atomic op v w) → exec (.shcRequest id err slack) s =
      .next (s.withDev ((s.dev.updAcc id fun a => { a with slack := slack }).sliceAccept { a with slack := slack } pa err).settle)) ∧
    (∀ op v w, a.op = .atomic op v w → exec (.atomicRequest id err) s = .next (s.withDev (s.dev.sliceAccept a pa err).settle))) ∧
  (∀ (s : State) (id tag : Nat) (a : MemAcc), s.dev.acc id = some a → a.st = .remote tag → a.addr / 2 ^ 40 = s.dev.chip →
    (a.issued + 65536 * atLeast1 (s.dev.get F.POOL_TIMEOUT_BEATS) ≤ s.dev.now → exec (.tierRequestTimeout id) s = .next (s.withDev
      ({ s.dev with fab := { s.dev.fab with reqs := s.dev.fab.reqs.filter (fun r => r.waiter ≠ Waiter.access id) },
                    hl := { s.dev.hl with reqs := s.dev.hl.reqs.filter (fun r => r.waiter ≠ Waiter.access id) } }.accDone id 0x09 []))) ∧
    (s.dev.now < a.issued + 65536 * atLeast1 (s.dev.get F.POOL_TIMEOUT_BEATS) → exec (.tierRequestTimeout id) s = .next s)) ∧
  (∀ (v w : BitVec 64) (line : List Byte) (off : Nat),
    let m := BitVec.ofNat 64 (leAt line off 8)
    let after := fun (r : BitVec 64) => (overlay line off (leBytes 8 r.toNat), leBytes 8 (leAt line off 8))
    AccOp.apply (.atomic .addI v w) none line off = after (m + v) ∧ AccOp.apply (.atomic .minI v w) none line off = after (if v.toInt < m.toInt then v else m) ∧
    AccOp.apply (.atomic .maxI v w) none line off = after (if m.toInt < v.toInt then v else m) ∧ AccOp.apply (.atomic .swap v w) none line off = after v ∧
    AccOp.apply (.atomic .cas v w) none line off = after (if m = v then w else m)) ∧
  (∀ (op : AtomOp) (f : F32 → F32 → F32) (v w : BitVec 64) (line : List Byte) (off : Nat), (op, f) = (.addF, fadd) ∨ (op, f) = (.minF, fmin) ∨ (op, f) = (.maxF, fmax) →
    AccOp.apply (.atomic op v w) none line off =
      (overlay line off (leBytes 4 (f (BitVec.ofNat 32 (leAt line off 4)) (v.setWidth 32)).toNat), leBytes 8 (leAt line off 4)))

/-- ALLOC, FREE, PROMOTE and EVICT join the engine's queue, or set REFUSED where the pool is disabled or 32 commands wait. POOL_ENABLE the first time reads the frame registers and sets the bitmaps, and later only lets the engine go on. POOL_DISABLE of an engine with nothing queued stops it and changes no byte; commands that have not begun end DISABLED. POOL_CLIENT_WRITE sets a client's quotas and OVERCOMMIT where the minima exceed the T3 frames, and the engine goes on. POOL_EVICT_SELECT of a tier below its low water begins the move of its oldest eligible page, or sets STUCK, with the pages in motion passed over counted; of a tier that is not short, or that a selected move is leaving, it does nothing. POOL_MOVE_COMPLETE and POOL_MOVE_FAILED end the move of their page.
Rests on R243, R245, R246, R247, R248, R250, R251, R253. -/
def Obligations.PoolEngine : Prop :=
  (∀ (s : State) (i : Instr) (op client dp : Nat), (i, op) ∈ [(Instr.alloc dp client, 0), (.free dp, 1), (.promote dp, 2), (.evict dp, 3)] → (op ≠ 0 → client = 0) →
    dp < 524288 → client < 64 →
    (s.dev.flag F.POOL_CTL_ENABLE = true → s.dev.pool.queue.length < 32 → exec i s = .next (s.withDev
      (({ s.dev with pool := { s.dev.pool with queue := s.dev.pool.queue ++ [{ op := op, client := client, dp := dp }] } } : Dev).poolPump.settle))) ∧
    (s.dev.flag F.POOL_CTL_ENABLE = false ∨ 32 ≤ s.dev.pool.queue.length →
      exec i s = .next (s.withDev (s.dev.putD F.POOL_STATUS_REFUSED 1).settle))) ∧
  (∀ s : State, let d := s.dev.putD F.POOL_CTL_ENABLE 1
    (s.dev.pool.known = false → exec .poolEnable s =
      .next (s.withDev ({ d with pool := { d.pool with known := true, segs := s.dev.readSegs, used := [] } } : Dev).clearBitmap.poolPump)) ∧
    (s.dev.pool.known = true → exec .poolEnable s = .next (s.withDev d.poolPump))) ∧
  (∀ s : State, s.dev.pool.queue = [] → s.dev.pool.later = [] → ∃ t, exec .poolDisable s = .next t ∧ t.pending = s.pending ∧ t.dev.get F.POOL_CTL_ENABLE = 0 ∧
    (s.dev.pool.known = true → t.dev.get F.POOL_STATUS_ENABLED = if s.dev.pool.moves = [] then 0 else 1) ∧ t.dev.pool.moves = s.dev.pool.moves ∧ s.dev.sameBytes t.dev) ∧
  (∀ s : State, s.dev.pool.later = [] → (∀ k ∈ s.dev.pool.queue, k.st = 0 ∨ k.st = 2 ∨ k.st = 3) → let d := s.dev.putD F.POOL_CTL_ENABLE 0
    exec .poolDisable s = .next (s.withDev ({ d with pool := { d.pool with queue := d.pool.queue.map (fun k => { k with st := 5, code := 7 }) } } : Dev).poolPump)) ∧
  (∀ (s : State) (k mn mx : Nat), k < 64 → ∃ d : Dev, exec (.poolClientWrite k mn mx) s = .next (s.withDev d.poolPump) ∧ (s.dev.pool.known = false → d.poolPump = d) ∧
    d.get F.POOL_CLIENT_MIN_PAGES 0 k = mn % 2 ^ (F.POOL_CLIENT_MIN_PAGES.hi - F.POOL_CLIENT_MIN_PAGES.lo + 1) ∧
    d.get F.POOL_CLIENT_MAX_PAGES 0 k = mx % 2 ^ (F.POOL_CLIENT_MAX_PAGES.hi - F.POOL_CLIENT_MAX_PAGES.lo + 1) ∧
    d.get F.POOL_STATUS_OVERCOMMIT = (if s.dev.get F.POOL_T3_FRAMES_T3 < ((List.range 64).map (fun i => d.get F.POOL_CLIENT_MIN_PAGES 0 i)).foldl (· + ·) 0 then 1 else 0) ∧
    d = { s.dev with regs := d.regs } ∧
    s.dev.onlyFields d [(F.POOL_CLIENT_MIN_PAGES, 0, k), (F.POOL_CLIENT_MAX_PAGES, 0, k), (F.POOL_STATUS_OVERCOMMIT, 0, 0)]) ∧
  (∀ (s : State) (t : Nat), t = 3 ∨ t = 4 →
    (s.dev.flag F.POOL_CTL_ENABLE = false ∨ s.dev.pool.known = false ∨ s.dev.poolShort t = false ∨ (s.dev.pool.moves ++ s.dev.pool.later).any (fun m => m.sel && m.fromTier = t) = true →
      exec (.poolEvictSelect t) s = .next s) ∧
    (s.dev.flag F.POOL_CTL_ENABLE = true → s.dev.pool.known = true → s.dev.poolShort t = true →
      (s.dev.pool.moves ++ s.dev.pool.later).any (fun m => m.sel && m.fromTier = t) = false → ∀ skips,
      let d := if skips = 0 then s.dev else s.dev.count F.POOL_SKIPS_V 0 0 skips
      (∀ dp, s.dev.choosePage t (fun _ => true) = (some dp, skips) → exec (.poolEvictSelect t) s = .next (s.withDev (d.decideMove dp (t + 1) false true).2.poolPump)) ∧
      (s.dev.choosePage t (fun _ => true) = (none, skips) → exec (.poolEvictSelect t) s = .next (s.withDev (d.putD F.POOL_STATUS_STUCK 1).showPool)))) ∧
  (∀ (s : State) (dp : Nat) (bs : List Byte), dp < 524288 →
    (∀ m, s.dev.pool.moves.find? (fun m => m.dp = dp) = some m →
      exec (.poolMoveComplete dp bs) s = .next (s.withDev (s.dev.moveDone m bs).settle) ∧ exec (.poolMoveFailed dp) s = .next (s.withDev (s.dev.moveFails m).settle)) ∧
    (s.dev.pool.moves.find? (fun m => m.dp = dp) = none → exec (.poolMoveComplete dp bs) s = .next s ∧ exec (.poolMoveFailed dp) s = .next s))

/-- A pool command that acts (op 0 ALLOC, 1 FREE, 2 PROMOTE, 3 EVICT) ends with code 1, BAD_PAGE, and leaves the device as it was: if its page is at or above the granules mapped divided by 32; if it is ALLOC and the page is not ABSENT; if it is one of the others and the page is ABSENT. An ALLOC of an ABSENT page in range for a client that is not valid ends with code 2, BAD_CLIENT.
Formalises R249. -/
def Obligations.PoolBadPageAndBadClient : Prop :=
  ∀ (d : Dev) (k : PoolCmd), k.op ≤ 3 →
    (d.granules / 32 ≤ k.dp ∨ (k.op = 0 ∧ (d.page k.dp).state ≠ 0) ∨ (k.op ≠ 0 ∧ (d.page k.dp).state = 0) → d.poolAct k = ({ k with st := 5, code := 1 }, d)) ∧
    (k.dp < d.granules / 32 → k.op = 0 → (d.page k.dp).state = 0 → d.get F.POOL_CLIENT_INFO_VALID 0 k.client = 0 → d.poolAct k = ({ k with st := 5, code := 2 }, d))

/-- For every slot list without repeats (R258): a physical address below C x 2.25 GiB lies in unit u = a / 256, at unit w = u / C of the channel in slot k = (u mod C + w) mod C; its pseudo-channel, column chunk, bank and row are those of R259; the inverse of that channel and unit is the unit's first address; every unit of every channel of the list is the place of exactly the addresses of one unit; and an address at or above C x 2.25 GiB has no place.
Formalises R257, R259. -/
def Obligations.HbmInterleaveIsOneToOne : Prop :=
  ∀ d : Dev, d.sys.slots.Nodup →
    (∀ a, a < d.sys.slots.length * chBytes → ∃ p, d.place a = some p ∧
      let c := d.sys.slots.length
      let u := a / 256
      let w := u / c
      p.unit = w ∧ d.sys.slots[(u % c + w) % c]? = some p.chan ∧ w < chBytes / 256 ∧ p.pc = w % 2 ∧ p.chunk = w / 2 % 4 ∧ p.bank = w / 8 % 48 ∧ p.row = w / 384 ∧
      d.unitAddr p.chan p.unit = some (a / 256 * 256)) ∧
    (∀ ch w, ch ∈ d.sys.slots → w < chBytes / 256 → ∃ k, d.sys.slots[k]? = some ch ∧
      let base := 256 * (w * d.sys.slots.length + (k + d.sys.slots.length - w % d.sys.slots.length) % d.sys.slots.length)
      d.unitAddr ch w = some base ∧ base + 255 < d.sys.slots.length * chBytes ∧
      ∀ a, (∃ p, d.place a = some p ∧ p.chan = ch ∧ p.unit = w) ↔ base ≤ a ∧ a < base + 256) ∧
    (∀ a, d.sys.slots.length * chBytes ≤ a → d.place a = none)

/-- MCH_COMMAND_ISSUE of a channel in service, or of one that drains its queues for a retrain, passes one command slot. REQUEST_URGENT marks a request that has waited its bound. HBM_REFRESH issued closes the bank's row and pays one interval; one postponed only notes the interval; in self refresh there is none. HBM_READ_DECODE of a clean codeword takes its 32 bytes; the last of a line sends it to its slice, the last of a scrubber's unit ends its read. HBM_SCRUB, once in a beat, moves its pointer on and offers its unit to its queue. CHANNEL_TRAIN_DONE with no lane lost, and for a retrain with its queues drained, puts the channel in service, or in test; a silent stack or a failed command bus maps the channel out, or fails a channel in service. RETRAIN, TEST_ENTER, TEST_EXIT and TG_START are refused in other states. STOP and APPLY act or are refused in the order of Table 10-12; MCH_APPLY_DONE rebuilds the slot list in key order and leaves HBM undefined. HBM_TEMP_READ at the stack's beats moves the level by one below 96 degrees, and sets EMERGENCY from there. TG_STOP lets the line in hand end; TG_DONE ends a run of counted passes or a stopped one. COMMAND_ADDRESS_PARITY undoes the command, to issue once more; the second time it asks for a retrain.
Rests on R256, R258, R263, R265, R268, R271, R273, R274, R277, R278, R279, R281. -/
def Obligations.HbmChannels : Prop :=
  (∀ (s : State) (ch pc can : Nat), ch < 128 → pc < 2 →
    let draining := s.dev.chanState ch = 1 ∧ ((s.dev.chanOf ch).why = 1 ∨ (s.dev.chanOf ch).why = 3)
    (s.dev.noSource = false → (s.dev.chLive ch = true ∧ s.dev.get F.MCH_GSTATE_STATE = 0) ∨ draining →
      exec (.mchCommandIssue ch pc can) s = .next (s.withDev (s.dev.commandSlot ch pc can))) ∧
    (s.dev.noSource = true ∨ (¬ (s.dev.chLive ch = true ∧ s.dev.get F.MCH_GSTATE_STATE = 0) ∧ ¬ draining) → exec (.mchCommandIssue ch pc can) s = .next s)) ∧
  (∀ (p : PseudoCh) (r : MchReq), (p.open_.find? (fun e => e.1 = r.bank) = none → (p.command r).open_ = p.open_.filter (fun e => e.1 ≠ r.bank) ++ [(r.bank, r.row)]) ∧
    (∀ row, p.open_.find? (fun e => e.1 = r.bank) = some (r.bank, row) →
      (row ≠ r.row → (p.command r).open_ = p.open_.filter (fun e => e.1 ≠ r.bank)) ∧ (row = r.row → (p.command r).open_ = p.open_ ∧ (p.command r).slots.head? = some true))) ∧
  (∀ (s : State) (ch pc id : Nat), ch < 128 → pc < 2 → ∃ t, exec (.requestUrgent ch pc id) s = .next t ∧ t.pending = s.pending ∧
    (∀ r ∈ ((s.dev.chanOf ch).pc pc).queue, r.id = id → r.accepted ≠ 0 → r.accepted - 1 + 98304 ≤ s.dev.now → ({ r with urgent := true } : MchReq) ∈ ((t.dev.chanOf ch).pc pc).queue) ∧
    (∀ r ∈ ((s.dev.chanOf ch).pc pc).queue, r.id ≠ id → r ∈ ((t.dev.chanOf ch).pc pc).queue) ∧ t.dev.regs = s.dev.regs ∧ s.dev.sameBytes t.dev) ∧
  (∀ (s : State) (ch pc bank : Nat) (due issue : Bool), ch < 128 → pc < 2 → bank < 48 →
    (s.dev.chLive ch = false ∨ s.dev.get F.MCH_GSTATE_STATE ≠ 0 → exec (.hbmRefresh ch pc bank due issue) s = .next s) ∧
    (s.dev.chLive ch = true → s.dev.get F.MCH_GSTATE_STATE = 0 →
      let owed := mget 8 ((s.dev.chanOf ch).pc pc).owed bank + b2n due
      (owed = 17 ∨ (issue = true ∧ 0 < owed) → ∃ t, exec (.hbmRefresh ch pc bank due issue) s = .next t ∧ t.pending = s.pending ∧
        mget 8 ((t.dev.chanOf ch).pc pc).owed bank = owed - 1 ∧
        ((t.dev.chanOf ch).pc pc).open_ = ((s.dev.chanOf ch).pc pc).open_.filter (fun e => e.1 ≠ bank) ∧ t.dev.regs = s.dev.regs ∧ s.dev.sameBytes t.dev) ∧
      (owed ≠ 17 → issue = false ∨ owed = 0 → ∃ t, exec (.hbmRefresh ch pc bank due issue) s = .next t ∧ t.pending = s.pending ∧
        mget 8 ((t.dev.chanOf ch).pc pc).owed bank = owed ∧ ((t.dev.chanOf ch).pc pc).open_ = ((s.dev.chanOf ch).pc pc).open_ ∧ t.dev.regs = s.dev.regs ∧
        s.dev.sameBytes t.dev))) ∧
  (∀ (s : State) (ch pc id : Nat), ch < 128 → pc < 2 →
    (((s.dev.chanOf ch).pc pc).awaited id = none → ∀ cw, exec (.hbmReadDecode ch pc id cw) s = .next s) ∧
    (∀ r, ((s.dev.chanOf ch).pc pc).awaited id = some r →
      let line := r.line + r.got.length / 64
      let r' : MchReq := { r with got := r.got ++ slice (s.dev.hbmLine line) (r.got.length % 64) 32 }
      s.dev.mem.poison.contains line = false →
      (r'.got.length < 32 * r.bursts → exec (.hbmReadDecode ch pc id { errs := [] }) s = .next (s.withDev (s.dev.updPc ch pc (·.update id (some r'))))) ∧
      (32 * r.bursts ≤ r'.got.length → r.scrub = false → exec (.hbmReadDecode ch pc id { errs := [] }) s =
        .next (s.withDev (((s.dev.updPc ch pc (·.update id none)).fillDone line r'.got r.bad).settle))) ∧
      (32 * r.bursts ≤ r'.got.length → r.scrub = true → exec (.hbmReadDecode ch pc id { errs := [] }) s = .next (s.withDev (s.dev.scrubbed ch pc r'))))) ∧
  (∀ (s : State) (ch pc : Nat), ch < 128 → pc < 2 →
    let p := (s.dev.chanOf ch).pc pc
    let idle := s.dev.flag F.MCH_CTL_SCRUB_EN (ch / 32) = false ∨ s.dev.chLive ch = false ∨ s.dev.get F.MCH_GSTATE_STATE ≠ 0 ∨ p.scrubBeat = s.dev.beat + 1
    (idle → exec (.hbmScrub ch pc) s = .next s) ∧
    (¬ idle → ∀ a pl, s.dev.unitAddr ch (2 * p.scrub + pc) = some a → s.dev.place a = some pl →
      let d := s.dev.updPc ch pc fun p => { p with scrub := (p.scrub + 1) % 4718592, scrubBeat := s.dev.beat + 1 }
      let r : MchReq := { id := s.dev.sys.nextReq, line := a / 64, bank := pl.bank, row := pl.row, scrub := true }
      exec (.hbmScrub ch pc) s = .next (s.withDev (({ d with sys := { d.sys with nextReq := s.dev.sys.nextReq + 1 } } : Dev).updPc ch pc
        fun p => { p with queue := p.queue ++ [r] }.accept s.dev.now)))) ∧
  (∀ (s : State) (ch : Nat), ch < 128 → s.dev.chanState ch = 1 → s.dev.noSource = false →
    let c := s.dev.chanOf ch
    let service := c.why = 1 ∨ c.why = 3
    (service → ∀ r ∈ c.pc0.queue ++ c.pc1.queue, r.accepted = 0) →
    (s.dev.erasures ch 0 = [] → s.dev.erasures ch 1 = [] →
      ∃ t, exec (.channelTrainDone ch [] [] false false) s = .next t ∧ t.pending = s.pending ∧ t.dev.chanState ch = (if c.why = 2 then 6 else 2) ∧ s.dev.sameBytes t.dev) ∧
    (∀ b0 b1 ca silent, ca = true ∨ silent = true → let reason := if c.why = 3 then 4 else if silent then 3 else 2
      (service → exec (.channelTrainDone ch b0 b1 ca silent) s = .next (s.withDev (s.dev.channelFails ch reason))) ∧
      (c.why = 0 ∨ c.why = 2 → ∃ t, exec (.channelTrainDone ch b0 b1 ca silent) s = .next t ∧ t.pending = s.pending ∧ t.dev.chanState ch = 5 ∧
        t.dev.chGet F.MCH_CH_STATE_REASON ch = reason ∧ bitOf (t.dev.get F.MCH_MAP_V) ch = (bitOf (s.dev.get F.MCH_MAP_V) ch && decide (c.why = 2)) ∧ s.dev.sameBytes t.dev))) ∧
  (∀ (s : State) (ch v : Nat), ch < 128 → let st := (F.MCH_CH_STATE_STATE, ch / 32, ch % 32)
    (s.dev.chLive ch = true → ∃ t, exec (.retrain ch) s = .next t ∧ t.pending = s.pending ∧ t.dev.chGet F.MCH_CH_STATE_RETRAIN_PENDING ch = 1 ∧ (t.dev.chanOf ch).why = 1 ∧
      s.dev.onlyFields t.dev [(F.MCH_CH_STATE_RETRAIN_PENDING, ch / 32, ch % 32)]) ∧
    (s.dev.chanState ch = 5 → ∃ t, exec (.testEnter ch) s = .next t ∧ t.pending = s.pending ∧ t.dev.chanState ch = 1 ∧ (t.dev.chanOf ch).why = 2 ∧ s.dev.onlyFields t.dev [st]) ∧
    (s.dev.chanState ch = 6 → ∃ t, exec (.testExit ch) s = .next t ∧ t.pending = s.pending ∧ t.dev.chanState ch = 5 ∧ t.dev.chGet F.MCH_CH_STATE_TG_RUN ch = 0 ∧
      (t.dev.chanOf ch).tg = none) ∧
    (s.dev.chanState ch = 6 → ∃ t, exec (.tgStart ch v) s = .next t ∧ t.pending = s.pending ∧ t.dev.chGet F.MCH_CH_STATE_TG_RUN ch = 1 ∧ t.dev.chGet F.MCH_TG_CTL_START ch = 1 ∧
      t.dev.chGet F.MCH_TG_CTL_SEED ch = bits v 31 8 ∧ t.dev.chGet F.MCH_TG_LANES0_LANES ch = 0 ∧ (t.dev.chanOf ch).tg.isSome = true ∧ s.dev.sameBytes t.dev) ∧
    (∀ i, (i = .retrain ch ∧ s.dev.chLive ch = false) ∨ (i = .testEnter ch ∧ s.dev.chanState ch ≠ 5) ∨ (i = .testExit ch ∧ s.dev.chanState ch ≠ 6) ∨
      (i = .tgStart ch v ∧ s.dev.chanState ch ≠ 6) → ∃ t, exec i s = .next t ∧ t.pending = s.pending ∧ t.dev.chGet F.MCH_CH_STATE_CMD_REFUSED ch = 1 ∧ t.dev.chanState ch = s.dev.chanState ch) ∧
    (∃ t, exec (.tgStop ch v) s = .next t ∧ t.pending = s.pending ∧ (t.dev.chanOf ch).tg = (s.dev.chanOf ch).tg.map (fun r => { r with stopping := true }) ∧
      t.dev.chGet F.MCH_CH_STATE_TG_RUN ch = s.dev.chGet F.MCH_CH_STATE_TG_RUN ch ∧ s.dev.sameBytes t.dev) ∧
    (∀ rx, ((s.dev.chanOf ch).tg = none ∨ (∃ r, (s.dev.chanOf ch).tg = some r ∧ r.loops = 0 ∧ r.stopping = false) → exec (.tgDone ch rx) s = .next s) ∧
      (∀ r, (s.dev.chanOf ch).tg = some r → r.loops ≠ 0 ∨ r.stopping = true → ∃ t, exec (.tgDone ch rx) s = .next t ∧ t.pending = s.pending ∧
        t.dev.chGet F.MCH_CH_STATE_TG_DONE ch = 1 ∧ t.dev.chGet F.MCH_CH_STATE_TG_RUN ch = 0 ∧ t.dev.chGet F.MCH_TG_CTL_START ch = 0 ∧ (t.dev.chanOf ch).tg = none ∧
        s.dev.sameBytes t.dev))) ∧
  (∀ (s : State), s.dev.get F.MCH_GSTATE_STATE ≠ 2 → s.dev.get F.IMG_STATUS_STATE = 0 → s.dev.quiescent = true → s.dev.get F.POOL_CTL_ENABLE = 0 → s.dev.get F.POOL_STATUS_BUSY = 0 →
    ∃ t, exec .stop s = .next t ∧ t.pending = s.pending ∧ t.dev.get F.MCH_GSTATE_STATE = 1 ∧ t.dev.sys.shc = [] ∧ t.dev.mem = s.dev.mem ∧
      s.dev.onlyFields t.dev [(F.MCH_GSTATE_STATE, 0, 0)]) ∧
  (∀ (s : State) (i : Instr) (r : Nat), let g := s.dev.get F.MCH_GSTATE_STATE
    (i = .stop ∧ g = 2 ∧ r = 6) ∨ (i = .stop ∧ g ≠ 2 ∧ s.dev.get F.IMG_STATUS_STATE ≠ 0 ∧ r = 1) ∨
      (i = .stop ∧ g ≠ 2 ∧ s.dev.get F.IMG_STATUS_STATE = 0 ∧ s.dev.quiescent = false ∧ r = 2) ∨
      (i = .stop ∧ g ≠ 2 ∧ s.dev.get F.IMG_STATUS_STATE = 0 ∧ s.dev.quiescent = true ∧ (s.dev.get F.POOL_CTL_ENABLE ≠ 0 ∨ s.dev.get F.POOL_STATUS_BUSY ≠ 0) ∧ r = 3) ∨
      (i = .apply ∧ s.dev.noSource = false ∧ ((g = 2 ∧ r = 6) ∨ (g ≠ 1 ∧ g ≠ 2 ∧ r = 4) ∨ (g = 1 ∧ s.dev.get F.MCH_MAP_V = 0 ∧ r = 5))) →
    ∃ t, exec i s = .next t ∧ t.pending = s.pending ∧ t.dev.get F.MCH_GSTATE_REFUSED = 1 ∧ t.dev.get F.MCH_GSTATE_REASON = r ∧ t.dev = { s.dev with regs := t.dev.regs } ∧
      s.dev.onlyFields t.dev [(F.MCH_GSTATE_REFUSED, 0, 0), (F.MCH_GSTATE_REASON, 0, 0)]) ∧
  (∀ (s : State), (s.dev.noSource = true → exec .apply s = .next s) ∧
    (s.dev.noSource = false → s.dev.get F.MCH_GSTATE_STATE = 1 → s.dev.get F.MCH_MAP_V ≠ 0 →
      ∃ t, exec .apply s = .next t ∧ t.pending = s.pending ∧ t.dev.get F.MCH_GSTATE_STATE = 2 ∧ s.dev.sameBytes t.dev ∧
        ∀ ch, ch < 128 → bitOf (s.dev.get F.MCH_MAP_V) ch = true → s.dev.chanState ch = 0 ∨ s.dev.chanState ch = 5 → t.dev.chanState ch = 1)) ∧
  (∀ (s : State), let d := s.dev.rebuildSlots
    (s.dev.applyOver = true → exec .mchApplyDone s = .next (s.withDev (if s.dev.boot.q8 = 0 then d else d.showService d.withChannels).step9Done)) ∧
    (s.dev.applyOver = false → exec .mchApplyDone s = .next s) ∧
    d.sys.slots = ((List.range 128).map keyChannel).filter (fun ch => bitOf (s.dev.get F.MCH_MAP_V) ch && s.dev.chLive ch) ∧ d.sys.slots.Nodup ∧
    d.mem.hbm = [] ∧ d.mem.epoch = s.dev.mem.epoch + 1 ∧ d.get F.MCH_GSTATE_STATE = 0) ∧
  (∀ (s : State) (st : Nat), st < 8 → let q := st / 2; let h := st % 2
    (s.dev.tempBeat st = false → ∀ x, exec (.hbmTempRead st x) s = .next s) ∧
    (s.dev.tempBeat st = true →
      (∀ r, r < 96 → s.dev.get F.MCH_TEMP_EMERGENCY q h = 0 → ∃ t, exec (.hbmTempRead st (some r)) s = .next t ∧ t.pending = s.pending ∧ t.dev.get F.MCH_TEMP_TEMP q h = r ∧
        t.dev.get F.MCH_TEMP_EMERGENCY q h = 0 ∧ t.dev.get F.MCH_TEMP_LEVEL q h =
          (let l := s.dev.get F.MCH_TEMP_LEVEL q h; if 86 ≤ r ∧ l < 7 then l + 1 else if r ≤ 83 ∧ 0 < l then l - 1 else l) ∧ s.dev.sameBytes t.dev) ∧
      (∀ r, 96 ≤ r → ∃ t, exec (.hbmTempRead st (some r)) s = .next t ∧ t.pending = s.pending ∧ t.dev.flag F.MCH_TEMP_EMERGENCY q h = true ∧
        (s.dev.get F.MCH_TEMP_EMERGENCY q h = 0 → t.dev.get F.MCH_TEMP_LEVEL q h = 7) ∧ s.dev.sameBytes t.dev) ∧
      ((mget {} s.dev.sys.sensors st).fails < 2 → ∃ t, exec (.hbmTempRead st none) s = .next t ∧ t.pending = s.pending ∧
        (mget {} t.dev.sys.sensors st).fails = (mget {} s.dev.sys.sensors st).fails + 1 ∧ t.dev.regs = s.dev.regs))) ∧
  (∀ (s : State) (ch pc id : Nat) (r : MchReq), ch < 128 → pc < 2 → (((s.dev.chanOf ch).pc pc).bursts ++ ((s.dev.chanOf ch).pc pc).queue).find? (fun r => r.id = id) = some r →
    (r.parity = 2 → exec (.commandAddressParity ch pc (.request id)) s = .next (s.withDev ((s.dev.updPc ch pc (·.undo r 0)).parityRetrain ch))) ∧
    (r.parity = 0 → exec (.commandAddressParity ch pc (.request id)) s = .next (s.withDev (s.dev.updPc ch pc (·.undo r 1)))) ∧
    (r.parity = 1 → exec (.commandAddressParity ch pc (.request id)) s = .next s)) ∧
  (∀ (s : State) (ch pc bank : Nat), ch < 128 → pc < 2 → bank < 48 → let p := (s.dev.chanOf ch).pc pc
    let again := fun (n : Nat) => s.dev.updPc ch pc fun p => { p with refs := mset 0 p.refs bank n, owed := mset 8 p.owed bank (mget 8 p.owed bank + 1) }
    (mget 0 p.refs bank = 1 → exec (.commandAddressParity ch pc (.refresh bank)) s = .next (s.withDev (again 2))) ∧
    (mget 0 p.refs bank = 3 → exec (.commandAddressParity ch pc (.refresh bank)) s = .next (s.withDev ((again 0).parityRetrain ch)))) ∧
  (∀ (d : Dev) (ch : Nat), ch < 128 → d.chLive ch = true → ((d.parityRetrain ch).chanOf ch).why = 3 ∧ (d.parityRetrain ch).chGet F.MCH_CH_STATE_RETRAIN_PENDING ch = 1) ∧
  (∀ (p : PseudoCh) (r : MchReq) (n : Nat), let open1 := p.open_.filter (fun e => e.1 ≠ r.bank)
    (r.last = .activate → (p.undo r n).open_ = open1) ∧ (∀ row, r.last = .precharge row → (p.undo r n).open_ = open1 ++ [(r.bank, row)]) ∧
    (r.last = .column → r ∈ p.bursts → (p.undo r n).open_ = p.open_ ∧
      (p.undo r n).queue = { r with cols := r.cols - 1, parity := n, got := r.got.take (32 * (r.cols - 1)) } :: p.queue))

/-- PORT_ENABLE takes a DISABLED port to TRAINING, and otherwise, or without a clock source, only sets ENABLE; PORT_DISABLE leaves any port DISABLED. PORT_TRAINING_DONE of a port whose receiver has locked and whose partner's PARAM has come, with at least six lanes each way and another device's serial, takes a TRAINING port to KEYING and a RETRAINING one back to UP with the lanes and the partner recorded; a loopback and too few lanes fail the attempt. PORT_TRAINING_FAIL counts a failure, and the third leaves the port FAILED with its REASON; PORT_TRAINING_RETRY ends the wait. PORT_RETRAIN and PORT_RETRAIN_CMD take an UP port to RETRAINING and leave any other as it was; a loss of lock is a clock event too. KEYX in key setup collects its fragment, and with the last the message is acted on; elsewhere it is a violation. KEYX_RESEND sends an unanswered message again. KEYING_TIMEOUT fails a KEYING port whose exchange was taken up. REKEY_START and KEY_EXHAUSTED act at their counts; QUARANTINE_END ends a quarantine whose beats have passed. No byte of memory changes by any named with its state.
Rests on R41, R286, R287, R288, R318, R319, R321, 11_carillon_fabric.md Table 11-2. -/
def Obligations.PortStates : Prop :=
  (∀ (s : State) (n : Nat), n < 16 →
    (s.dev.noSource = false → s.dev.portState n = 0 → ∃ t, exec (.portEnable n) s = .next t ∧ t.pending = s.pending ∧ t.dev.portState n = 1 ∧
      t.dev.pget F.FAB_PORT_CTL_ENABLE n = 1 ∧ t.dev.pget F.FAB_PORT_STATUS_REASON n = 0 ∧ (t.dev.port n).fails = 0 ∧ (t.dev.port n).lock = none ∧
      (t.dev.port n).param = none ∧ s.dev.sameBytes t.dev) ∧
    (s.dev.noSource = true ∨ s.dev.portState n ≠ 0 → ∃ t, exec (.portEnable n) s = .next t ∧ t.pending = s.pending ∧ t.dev.pget F.FAB_PORT_CTL_ENABLE n = 1 ∧
      t.dev = { s.dev with regs := t.dev.regs } ∧ s.dev.onlyFields t.dev [(F.FAB_PORT_CTL_ENABLE, n / 4, n % 4)]) ∧
    (∃ t, exec (.portDisable n) s = .next t ∧ t.pending = s.pending ∧ t.dev.portState n = 0 ∧ t.dev.pget F.FAB_PORT_CTL_ENABLE n = 0 ∧ s.dev.sameBytes t.dev) ∧
    (∃ t, exec (.portTrainingRetry n) s = .next t ∧ t.pending = s.pending ∧ t.dev.port n = { s.dev.port n with retryWait := false } ∧ t.dev.regs = s.dev.regs ∧ s.dev.sameBytes t.dev) ∧
    (∀ i, i = .portRetrain n false ∨ i = .portRetrainCmd n →
      (s.dev.portState n = 3 → ∃ t, exec i s = .next t ∧ t.pending = s.pending ∧ t.dev.portState n = 4 ∧ (t.dev.port n).retry = (s.dev.port n).retry ∧ s.dev.sameBytes t.dev) ∧
      (s.dev.portState n ≠ 3 → exec i s = .next s)) ∧
    exec (.portRetrain n true) s = .next (s.withDev ((s.dev.startRetrain n).clockEvent (·.receiverLock false n false false))) ∧
    (∀ reason, reason < 16 → (s.dev.portState n = 1 → ∃ t, exec (.portTrainingFail n reason) s = .next t ∧ t.pending = s.pending ∧
        (if (s.dev.port n).fails < 2 then t.dev.portState n = 1 ∧ (t.dev.port n).fails = (s.dev.port n).fails + 1 ∧ (t.dev.port n).retryWait = true
          else t.dev.portState n = 5 ∧ t.dev.pget F.FAB_PORT_STATUS_REASON n = reason)) ∧
      (s.dev.portState n = 4 → ∃ t, exec (.portTrainingFail n reason) s = .next t ∧ t.pending = s.pending ∧
        (if (s.dev.port n).fails < 2 then t.dev.portState n = 4 ∧ (t.dev.port n).fails = (s.dev.port n).fails + 1
          else t.dev.portState n = 5 ∧ t.dev.pget F.FAB_PORT_STATUS_REASON n = 6)) ∧
      (s.dev.portState n ≠ 1 → s.dev.portState n ≠ 4 → exec (.portTrainingFail n reason) s = .next s)) ∧
    (s.dev.portState n = 2 → (s.dev.port n).key.taken = true →
      ∃ t, exec (.keyingTimeout n) s = .next t ∧ t.pending = s.pending ∧ t.dev.portState n = 5 ∧ t.dev.pget F.FAB_PORT_STATUS_REASON n = 5) ∧
    (s.dev.portState n ≠ 2 ∨ (s.dev.port n).key.taken = false → exec (.keyingTimeout n) s = .next s)) ∧
  (∀ (s : State) (n : Nat), n < 16 → (s.dev.port n).lock = none ∨ (s.dev.port n).param = none ∨ (s.dev.portState n ≠ 1 ∧ s.dev.portState n ≠ 4) →
    exec (.portTrainingDone n) s = .next s) ∧
  (∀ (s : State) (n rx serial chip pport tx : Nat), n < 16 → s.dev.portState n = 1 ∨ s.dev.portState n = 4 → (s.dev.port n).lock = some rx →
    (s.dev.port n).param = some (serial, chip, pport, tx) →
    let rx' := ((s.dev.port n).aged s.dev.laneWindow).lanes (s.dev.portState n = 4)
    let tx' := (tx % 256) &&& (255 ^^^ (s.dev.port n).outTx)
    (serial = s.dev.serial → exec (.portTrainingDone n) s = .next (s.withDev (s.dev.trainingFails n 3))) ∧
    (serial ≠ s.dev.serial → popCount 8 rx' < 6 ∨ popCount 8 tx' < 6 → exec (.portTrainingDone n) s = .next (s.withDev (s.dev.trainingFails n 2))) ∧
    (serial ≠ s.dev.serial → 6 ≤ popCount 8 rx' → 6 ≤ popCount 8 tx' → ∃ t, exec (.portTrainingDone n) s = .next t ∧ t.pending = s.pending ∧ s.dev.sameBytes t.dev ∧
      t.dev.pget F.FAB_PORT_STATUS_RX_LANES n = rx' % 256 ∧ t.dev.pget F.FAB_PORT_STATUS_TX_LANES n = tx' % 256 ∧ (serial < 2 ^ 64 → t.dev.pget F.FAB_PORT_PSERIAL_V n = serial) ∧
      (s.dev.portState n = 1 → t.dev.portState n = 2 ∧ t.dev.pget F.FAB_PORT_STATUS_KEY_PHASE n = 0 ∧ (t.dev.port n).key.installed = false ∧
        (t.dev.port n).key.taken = s.dev.flag F.SEC_ID_STATUS_READY ∧
        (s.dev.flag F.SEC_ID_STATUS_READY = true → serial < 2 ^ 64 → (t.dev.port n).key.initiator = decide (s.dev.serial < serial))) ∧
      (s.dev.portState n = 4 → t.dev.portState n = 3 ∧ (t.dev.port n).fails = 0 ∧ (t.dev.port n).resend = (t.dev.port n).retry))) ∧
  (∀ (s : State) (n msg idx cnt : Nat) (bs : List Byte), n < 16 →
    let got := if idx = 0 then bs else (s.dev.port n).key.rxMsg ++ bs
    let d := s.dev.setPort n { s.dev.port n with key := { (s.dev.port n).key with rxMsg := got } }
    let inUp := s.dev.portState n = 3 ∧ (msg = 1 ∨ (s.dev.port n).key.rekey = true)
    (s.dev.portState n = 2 ∨ inUp → idx + 1 ≠ cnt → exec (.keyx n msg idx cnt bs) s = .next (s.withDev d)) ∧
    (s.dev.portState n = 2 → idx + 1 = cnt → exec (.keyx n msg idx cnt bs) s = .next (s.withDev (d.kxInKeying n msg got))) ∧
    (inUp → idx + 1 = cnt → exec (.keyx n msg idx cnt bs) s = .next (s.withDev (d.kxInUp n msg got))) ∧
    (s.dev.portState n ≠ 2 → ¬ inUp → exec (.keyx n msg idx cnt bs) s = .next (s.withDev (s.dev.violation n 0x09 0x1FFFF)))) ∧
  (∀ (s : State) (n : Nat), n < 16 → ((s.dev.port n).key.unanswered = none → exec (.keyxResend n) s = .next s) ∧
    (∀ msg, (s.dev.port n).key.unanswered = some msg → ∃ t, exec (.keyxResend n) s = .next t ∧ t.pending = s.pending ∧
      (t.dev.port n).linkq = (s.dev.port n).linkq ++ kxFragments msg (if (s.dev.port n).key.rekey then (s.dev.port n).key.ek else (s.dev.port n).key.message msg) ∧
      t.dev.regs = s.dev.regs ∧ s.dev.sameBytes t.dev)) ∧
  (∀ (s : State) (n : Nat), n < 16 →
    (s.dev.portState n = 3 → 2 ^ 31 ≤ (s.dev.port n).key.ctrTx → (s.dev.port n).key.rekey = false → ∃ t, exec (.rekeyStart n) s = .next t ∧ t.pending = s.pending ∧
      (t.dev.port n).key.rekey = true ∧ (t.dev.port n).key.unanswered = some 1 ∧ t.dev.regs = s.dev.regs ∧ s.dev.sameBytes t.dev) ∧
    (s.dev.portState n ≠ 3 ∨ (s.dev.port n).key.ctrTx < 2 ^ 31 ∨ (s.dev.port n).key.rekey = true → exec (.rekeyStart n) s = .next s) ∧
    (s.dev.portState n = 3 → 2 ^ 32 - 1 ≤ (s.dev.port n).key.ctrTx → ∃ t, exec (.keyExhausted n) s = .next t ∧ t.pending = s.pending ∧ t.dev.portState n = 2 ∧
      (t.dev.port n).retry = (s.dev.port n).retry ∧ s.dev.sameBytes t.dev) ∧
    (s.dev.portState n ≠ 3 ∨ (s.dev.port n).key.ctrTx < 2 ^ 32 - 1 → exec (.keyExhausted n) s = .next s)) ∧
  (∀ (s : State) (n : Nat), n < 16 →
    (s.dev.pget F.FAB_PORT_STATUS_QUAR n ≠ 0 → (s.dev.port n).quarEnd ≤ s.dev.beat → ∃ t, exec (.quarantineEnd n) s = .next t ∧ t.pending = s.pending ∧
      t.dev.pget F.FAB_PORT_STATUS_QUAR n = 0 ∧ s.dev.onlyFields t.dev [(F.FAB_PORT_STATUS_QUAR, n / 4, n % 4)] ∧ s.dev.sameBytes t.dev) ∧
    (s.dev.pget F.FAB_PORT_STATUS_QUAR n = 0 ∨ s.dev.beat < (s.dev.port n).quarEnd → exec (.quarantineEnd n) s = .next s))

/-- FRAME_SEND of an UP port with nothing to send again sends one frame of at most 128 flits: with room in the retry buffer one with the next SEQ, kept last in the retry buffer, and SEQ advances modulo 4,096; with none a NULL frame. With frames to send again it sends the oldest of them with its own SEQ, its link-local beat payloads given way to IDLE, and advances nothing. A TRAINING or RETRAINING port sends NULL frames, with PARAM once its receiver has locked; a KEYING one NULL frames with its key exchange. FRAME_RECEIVE of an intact sequenced frame without flits in UP advances the SEQ expected if it carries it, and leaves it otherwise; a frame with an uncorrectable codeword is not accepted. An intact NULL frame in TRAINING locks its lanes and gives PARAM. A port DISABLED, FAILED or waiting to train again neither sends nor receives, and without a clock source none sends.
Rests on R41, R287, R290, R293, R294, R295, R298, R318. -/
def Obligations.FramesAndRetry : Prop :=
  (∀ (s : State) (n : Nat), n < 16 → s.dev.noSource = false → s.dev.portState n = 3 → (s.dev.port n).closing = false → (s.dev.port n).key.ctrTx < 2 ^ 32 - 1 →
    ((s.dev.port n).resend = [] → (s.dev.port n).retry.length < 32 → ∃ t tr fs, exec (.frameSend n) s = .next t ∧ t.pending = s.pending ∧
      t.dev.out = s.dev.out ++ [.frame n tr fs] ∧ fs.length ≤ 128 ∧ tr.seq = (s.dev.port n).txSeq ∧ tr.null = false ∧
      (t.dev.port n).retry = (s.dev.port n).retry ++ [⟨(s.dev.port n).txSeq, fs⟩] ∧ (t.dev.port n).txSeq = ((s.dev.port n).txSeq + 1) % 4096 ∧ s.dev.sameBytes t.dev) ∧
    ((s.dev.port n).resend = [] → 32 ≤ (s.dev.port n).retry.length → ∃ t tr fs, exec (.frameSend n) s = .next t ∧ t.pending = s.pending ∧
      t.dev.out = s.dev.out ++ [.frame n tr fs] ∧ fs.length ≤ 128 ∧ tr.null = true ∧
      (t.dev.port n).retry = (s.dev.port n).retry ∧ (t.dev.port n).txSeq = (s.dev.port n).txSeq ∧ s.dev.sameBytes t.dev) ∧
    (∀ f fs, (s.dev.port n).resend = f :: fs → ∃ t tr, exec (.frameSend n) s = .next t ∧ t.pending = s.pending ∧
      t.dev.out = s.dev.out ++ [.frame n tr (f.flits.map Flit.resent)] ∧ tr.seq = f.seq ∧
      (t.dev.port n).resend = fs ∧ (t.dev.port n).retry = (s.dev.port n).retry ∧ (t.dev.port n).txSeq = (s.dev.port n).txSeq ∧ s.dev.sameBytes t.dev)) ∧
  (∀ (s : State) (n : Nat), n < 16 → s.dev.noSource = false → (s.dev.port n).closing = false → (s.dev.port n).key.ctrTx < 2 ^ 32 - 1 →
    ((s.dev.portState n = 1 ∧ (s.dev.port n).retryWait = false) ∨ s.dev.portState n = 4 → ∃ t tr, exec (.frameSend n) s = .next t ∧ t.pending = s.pending ∧ tr.null = true ∧
      t.dev.out = s.dev.out ++ [.frame n tr (if (s.dev.port n).lock.isSome
        then [.link (.param s.dev.serial s.dev.paramChip n ((s.dev.port n).lanes (s.dev.portState n = 4)))] else [])] ∧ s.dev.sameBytes t.dev) ∧
    (s.dev.portState n = 2 → ∃ t tr, exec (.frameSend n) s = .next t ∧ t.pending = s.pending ∧ tr.null = true ∧
      (s.dev.out ++ [.frame n tr (((s.dev.port n).linkq.take 4).map Flit.link)]) <+: t.dev.out ∧ s.dev.sameBytes t.dev)) ∧
  (∀ (s : State) (n : Nat) (f : RxFrame), n < 16 → s.dev.portState n = 3 → (s.dev.port n).retryWait = false → f.laneCe = [] → f.flits = [] → f.crcOk = true → f.tagOk = true →
    f.trailer.plain = false → f.trailer.null = false → f.trailer.nak = false → (s.dev.port n).key.stale f.trailer.keyPhase = false →
    (f.fecUe = 0 → f.trailer.seq = (s.dev.port n).rxSeq → ∃ t, exec (.frameReceive n f) s = .next t ∧ t.pending = s.pending ∧
      (t.dev.port n).rxSeq = ((s.dev.port n).rxSeq + 1) % 4096 ∧ (t.dev.port n).nakSent = false ∧ t.dev.portState n = 3 ∧ s.dev.sameBytes t.dev) ∧
    (f.fecUe = 0 → f.trailer.seq ≠ (s.dev.port n).rxSeq → ∃ t, exec (.frameReceive n f) s = .next t ∧ t.pending = s.pending ∧
      (t.dev.port n).rxSeq = (s.dev.port n).rxSeq ∧ ((s.dev.port n).nakSent = false → (t.dev.port n).nakNow = true) ∧ s.dev.sameBytes t.dev) ∧
    (f.fecUe ≠ 0 → ∃ t, exec (.frameReceive n f) s = .next t ∧ t.pending = s.pending ∧
      (t.dev.port n).rxSeq = (s.dev.port n).rxSeq ∧ ((s.dev.port n).nakSent = false → (t.dev.port n).nakNow = true) ∧ s.dev.sameBytes t.dev)) ∧
  (∀ (s : State) (n serial chip pport lanes : Nat) (f : RxFrame), n < 16 → s.dev.portState n = 1 → (s.dev.port n).retryWait = false → (s.dev.port n).key.installed = false →
    f.fecUe = 0 → f.crcOk = true → f.laneCe = [] → f.trailer.null = true → f.flits = [.link (.param serial chip pport lanes)] →
    ∃ t, exec (.frameReceive n f) s = .next t ∧ t.pending = s.pending ∧ (t.dev.port n).lock = some f.lanes ∧ (t.dev.port n).param = some (serial, chip, pport, lanes) ∧
      t.dev.portState n = 1 ∧ s.dev.sameBytes t.dev) ∧
  (∀ (s : State) (n : Nat) (f : RxFrame), n < 16 →
    (s.dev.portState n = 0 ∨ 4 < s.dev.portState n ∨ (s.dev.portState n = 1 ∧ (s.dev.port n).retryWait = true) → exec (.frameSend n) s = .next s ∧ exec (.frameReceive n f) s = .next s) ∧
    (s.dev.noSource = true → exec (.frameSend n) s = .next s))

/-- FAB_READ, FAB_WRITE and FAB_ATOMIC take their packet from its port. One for another chip is refused with TTL where HOPS is 0 and goes on with HOPS one less otherwise. A read, plain write or atomic for this chip becomes an access at its address; one of no bytes is answered at once; an atomic of another length is refused, a misaligned one answered with an error, and one with a reserved OPC is a violation and refused. An answer ends the access that its request serves, with the status of Table 08-4; an answer whose TAG matches no request is a violation of its port, outside quarantine, and ends nothing. BLOCK_RESEND of a kept block whose time has come sends its copy again. While the fabric's clocks are stopped none of these acts.
Rests on R48, R228, R237, R300, R304, R311, R313, 11_carillon_fabric.md Table 11-13. -/
def Obligations.PacketsAndAnswers : Prop :=
  (∀ (s : State) (i : Instr) (n err : Nat) (p : Packet), n < 16 → s.dev.clk.safe = false →
    (i = .fabRead n p err ∧ p.ptype = 1) ∨ (i = .fabWrite n p err ∧ p.ptype = 2 ∧ p.vc ≠ 4) ∨ (i = .fabAtomic n p ∧ p.ptype = 3) → p.dst ≠ s.dev.chip →
    (p.hops = 0 → exec i s = .next (s.withDev (((s.dev.takeRx n p).count F.FAB_TTL_DROP_V).sendNack p 0x41))) ∧
    (p.hops ≠ 0 → exec i s = .next (s.withDev ((s.dev.takeRx n p).sendPacket { p with hops := p.hops - 1 } (some n))))) ∧
  (∀ (s : State) (n err : Nat) (p : Packet), n < 16 → s.dev.clk.safe = false → p.dst = s.dev.chip →
    (p.ptype = 1 → exec (.fabRead n p err) s = .next (s.withDev (if p.len = 0 then (s.dev.takeRx n p).respond p 0 [] else (s.dev.takeRx n p).packetAccess n p (.read p.len) err))) ∧
    (p.ptype = 2 → p.vc ≠ 4 → p.block = false → exec (.fabWrite n p err) s = .next (s.withDev (if p.len = 0 then (s.dev.takeRx n p).respond p 0 []
      else (s.dev.takeRx n p).packetAccess n p (.write (slice p.data 0 p.len)) err))) ∧
    (∀ op, p.ptype = 3 → (p.aop, op) ∈ [(0x40, AtomOp.addI), (0x41, .addF), (0x42, .minI), (0x43, .maxI), (0x44, .minF), (0x45, .maxF), (0x46, .swap), (0x47, .cas)] →
      let size := if op.float then 4 else 8
      let first := BitVec.ofNat 64 (leAt p.data 0 8)
      (p.len ≠ (if op = .cas then 16 else 8) → exec (.fabAtomic n p) s = .next (s.withDev ((s.dev.takeRx n p).sendNack p 0x45))) ∧
      (p.len = (if op = .cas then 16 else 8) → p.addr % size ≠ 0 → exec (.fabAtomic n p) s = .next (s.withDev ((s.dev.takeRx n p).respond p 1 []))) ∧
      (p.len = 8 → op ≠ .cas → p.addr % size = 0 → exec (.fabAtomic n p) s = .next (s.withDev ((s.dev.takeRx n p).packetAccess n p (.atomic op first 0) 0))) ∧
      (p.len = 16 → op = .cas → p.addr % size = 0 →
        exec (.fabAtomic n p) s = .next (s.withDev ((s.dev.takeRx n p).packetAccess n p (.atomic op (BitVec.ofNat 64 (leAt p.data 8 8)) first) 0)))) ∧
    (p.ptype = 3 → p.aop < 0x40 ∨ 0x47 < p.aop → exec (.fabAtomic n p) s =
      .next (s.withDev (((s.dev.takeRx n p).violation n 3 p.src).sendNack p 0x43)))) ∧
  (∀ (s : State) (i : Instr) (n ty : Nat) (p : Packet), (i, ty) ∈ [(Instr.fabReadResp n p, 4), (.fabWriteAck n p, 5), (.fabAtomicResp n p, 6), (.fabNack n p, 7)] →
    n ≤ 16 → s.dev.clk.safe = false → p.ptype = ty →
    let fits := fun (r : Req) => r.tag = p.tag && (p.ptype = 7 || p.ptype = (if r.ptype = 0x0B then 5 else r.ptype + 3))
    (∀ r id a, s.dev.fab.reqs.find? fits = some r → r.waiter = .access id → s.dev.acc id = some a → exec i s = .next (s.withDev
      (((s.dev.takeFrom n p).dropReq r.tag).accDone id (answerStatus (a.addr / 2 ^ 40 ≠ s.dev.chip) p) p.data))) ∧
    (s.dev.fab.reqs.find? fits = none → n < 16 → s.dev.pget F.FAB_PORT_STATUS_QUAR n = 0 → ∃ t, exec i s = .next t ∧ t.pending = s.pending ∧ t.dev.fab.reqs = s.dev.fab.reqs ∧
      t.dev.pget F.FAB_VIOL_LAST_CODE n = 6 ∧ s.dev.sameBytes t.dev)) ∧
  (∀ p : Packet, (p.ptype = 7 → answerStatus true p = 9 ∧ answerStatus false p = 9) ∧ (p.ptype ≠ 7 → p.code = 0 → answerStatus true p = 0 ∧ answerStatus false p = 0) ∧
    (p.ptype ≠ 7 → p.code = 1 → answerStatus true p = 6 ∧ answerStatus false p = 6)) ∧
  (∀ (s : State) (tag : Nat) (r : Req) (p : Packet), s.dev.clk.safe = false → s.dev.fab.reqs.find? (fun r => r.tag = tag) = some r → r.copy = some p → r.busy = false → r.resendAt ≠ 0 →
    let rs := s.dev.fab.reqs.map (fun (x : Req) => if x.tag = tag then { x with resendAt := 0, issued := s.dev.now } else x)
    (r.resendAt ≤ s.dev.beat → exec (.blockResend tag) s =
      .next (s.withDev ((({ s.dev with fab := { s.dev.fab with reqs := rs } } : Dev).count F.LCX_RESENDS_V r.quarter).originate p))) ∧
    (s.dev.beat < r.resendAt → exec (.blockResend tag) s = .next s)) ∧
  (∀ (s : State) (i : Instr) (n err tag : Nat) (p : Packet), s.dev.clk.safe = true → n < 16 →
    i ∈ [Instr.fabRead n p err, .fabWrite n p err, .fabAtomic n p, .fabReadResp n p, .fabWriteAck n p, .fabAtomicResp n p, .fabNack n p, .blockResend tag] → exec i s = .next s)

/-- A block of epoch E, with no load in progress, decodes with slot E mod 2 if that slot's table has epoch E; it is answered NO_TABLE if the slot is empty or E is ahead by 1 to 32,767 modulo 65,536, and STALE_EPOCH otherwise. LEX_LOAD_CMD asks for a load, or sets REFUSED while one is in progress. LEX_LOAD_START begins it unless a queued block names the epoch held. LEX_LOAD_DONE of a running load, once its lines are fetched from the device address, leaves the table read in slot E mod 2, or that slot empty with LOAD_ERR. LCX_EPOCH_NEXT takes CUR + 1 alone; LCX_EPOCH_ADVANCE makes it current once no block of CUR - 1 is open and the slot holds it; the cycles in which LCX waits, for that or for its slot to hold CUR, count in LCX_STALL.
Rests on R306, R307, R308, R309. -/
def Obligations.FactorTables : Prop :=
  (∀ (d : Dev) (q e : Nat), d.get F.LEX_STATUS_LOAD_BUSY q = 0 →
    ((d.lex q).slotOf e = none → d.epochCheck q e = .inr 0x64) ∧
    (∀ t, (d.lex q).slotOf e = some t → e < 65536 → t.epoch < 65536 →
      (e = t.epoch → d.epochCheck q e = .inl t) ∧ (e ≠ t.epoch → (e + 65536 - t.epoch) % 65536 ≤ 32767 → d.epochCheck q e = .inr 0x64) ∧
      (32767 < (e + 65536 - t.epoch) % 65536 → d.epochCheck q e = .inr 0x65))) ∧
  (∀ (s : State) (q e b : Nat), q < 4 →
    (s.dev.get F.LEX_STATUS_LOAD_BUSY q = 0 → ∃ t, exec (.lexLoadCmd q e b) s = .next t ∧ t.pending = s.pending ∧ t.dev.get F.LEX_STATUS_LOAD_BUSY q = 1 ∧
      (t.dev.lex q).loadEpoch = e % 65536 ∧ (t.dev.lex q).loadBases = b % 128 ∧ (t.dev.lex q).loadAddr = s.dev.get F.LEX_LOAD_ADDR_V q ∧ (t.dev.lex q).loadRunning = false ∧
      (∀ x, (t.dev.lex q).slotOf x = (s.dev.lex q).slotOf x) ∧ s.dev.onlyFields t.dev [(F.LEX_STATUS_LOAD_BUSY, q, 0)]) ∧
    (s.dev.get F.LEX_STATUS_LOAD_BUSY q ≠ 0 → ∃ t, exec (.lexLoadCmd q e b) s = .next t ∧ t.pending = s.pending ∧ t.dev.get F.LEX_STATUS_REFUSED q = 1 ∧
      t.dev = { s.dev with regs := t.dev.regs } ∧ s.dev.onlyFields t.dev [(F.LEX_STATUS_REFUSED, q, 0)])) ∧
  (∀ (s : State) (q : Nat), q < 4 → s.dev.clk.safe = false →
    (s.dev.get F.LEX_STATUS_LOAD_BUSY q ≠ 0 → (∀ t, (s.dev.lex q).slotOf (s.dev.lex q).loadEpoch = some t → t.epoch ∉ (s.dev.lex q).queued) →
      ∃ u, exec (.lexLoadStart q) s = .next u ∧ u.pending = s.pending ∧ u.dev.lex q = { s.dev.lex q with loadRunning := true } ∧ u.dev.regs = s.dev.regs) ∧
    (s.dev.get F.LEX_STATUS_LOAD_BUSY q = 0 ∨ (∃ t, (s.dev.lex q).slotOf (s.dev.lex q).loadEpoch = some t ∧ t.epoch ∈ (s.dev.lex q).queued) →
      exec (.lexLoadStart q) s = .next s)) ∧
  (∀ (s : State) (q : Nat) (err : Bool), q < 4 → s.dev.clk.safe = false →
    let l := s.dev.lex q
    let a := s.dev.chip * 2 ^ 40 + l.loadAddr % 2 ^ 40
    (l.loadRunning = false → exec (.lexLoadDone q err) s = .next s) ∧
    (l.loadRunning = true → ∀ d, (s.dev.freFetch (256 + q) q a (256 * l.loadBases) = (false, d) → exec (.lexLoadDone q err) s = .next (s.withDev d)) ∧
      (s.dev.freFetch (256 + q) q a (256 * l.loadBases) = (true, d) →
        let r := d.freLines (256 + q) q a (256 * l.loadBases)
        (err = false → (∀ x ∈ r.1, x.1 = 0) → ∃ e : Dev, exec (.lexLoadDone q err) s = .next (s.withDev (e.lcxWake q)) ∧ e.get F.LEX_STATUS_LOAD_BUSY q = 0 ∧
          (e.lex q).slotOf l.loadEpoch = some { epoch := l.loadEpoch, bases := l.loadBases, values := r.1.flatMap lineVals } ∧
          (e.lex q).slotOf (l.loadEpoch + 1) = l.slotOf (l.loadEpoch + 1) ∧
          (l.loadEpoch < 65536 → (if l.loadEpoch % 2 = 1 then e.get F.LEX_EPOCH_SLOT1 q else e.get F.LEX_EPOCH_SLOT0 q) = l.loadEpoch) ∧ r.2.sameBytes e) ∧
        (err = true ∨ (∃ x ∈ r.1, x.1 ≠ 0) → ∃ t, exec (.lexLoadDone q err) s = .next t ∧ t.pending = s.pending ∧ t.dev.get F.LEX_STATUS_LOAD_BUSY q = 0 ∧
          (t.dev.lex q).slotOf l.loadEpoch = none ∧ t.dev.get F.LEX_STATUS_LOAD_ERR q = 1)))) ∧
  (∀ (s : State) (q nx : Nat), q < 4 →
    (nx % 65536 = (s.dev.get F.LCX_EPOCH_CUR q + 1) % 65536 → ∃ t, exec (.lcxEpochNext q nx) s = .next t ∧ t.pending = s.pending ∧ t.dev.get F.LEX_STATUS_ADV_PENDING q = 1 ∧
      t.dev.get F.LCX_EPOCH_NEXT q = nx % 65536 ∧ t.dev.get F.LCX_EPOCH_CUR q = s.dev.get F.LCX_EPOCH_CUR q ∧ t.dev = { s.dev with regs := t.dev.regs }) ∧
    (nx % 65536 ≠ (s.dev.get F.LCX_EPOCH_CUR q + 1) % 65536 → ∃ t, exec (.lcxEpochNext q nx) s = .next t ∧ t.pending = s.pending ∧ t.dev.get F.LEX_STATUS_ADV_REFUSED q = 1 ∧
      t.dev = { s.dev with regs := t.dev.regs } ∧ s.dev.onlyFields t.dev [(F.LEX_STATUS_ADV_REFUSED, q, 0)])) ∧
  (∀ (s : State) (q stalled : Nat), q < 4 → s.dev.clk.safe = false →
    let cur := s.dev.get F.LCX_EPOCH_CUR q
    let nxt := (cur + 1) % 65536
    let holds := fun (e : Nat) => ∃ t, (s.dev.lex q).slotOf e = some t ∧ t.epoch = e
    let stall := s.dev.count F.LCX_STALL_V q 0 stalled
    (s.dev.get F.LEX_STATUS_ADV_PENDING q ≠ 0 → s.dev.blockOpen q ((cur + 65535) % 65536) = false → holds nxt → exec (.lcxEpochAdvance q stalled) s =
      .next (s.withDev (((stall.put F.LCX_EPOCH_CUR q 0 nxt).put F.LEX_STATUS_ADV_PENDING q 0 0).lcxWake q))) ∧
    (s.dev.get F.LEX_STATUS_ADV_PENDING q ≠ 0 → s.dev.blockOpen q ((cur + 65535) % 65536) = true ∨ ¬ holds nxt → exec (.lcxEpochAdvance q stalled) s = .next (s.withDev stall)) ∧
    (s.dev.get F.LEX_STATUS_ADV_PENDING q = 0 → (holds cur → exec (.lcxEpochAdvance q stalled) s = .next s) ∧
      (¬ holds cur → exec (.lcxEpochAdvance q stalled) s = .next (s.withDev stall))))

/-- POST of a free slot with a good descriptor leaves it POSTED with that descriptor and REASON, REPLAYS and OVF 0; any other POST is refused with REASON 0x80. RELEASE of a slot that is not POSTED, or is an UPDATE, is missed; a VOTE runs; a FACTOR REDUCE of an epoch not current fails, and a BCAST of the step last skipped is skipped; other REDUCE and BCAST slots run where their reservation fits and nothing waits before them, and wait otherwise. COL_BUFFER_GRANT runs the waiting slot released first where its space is free. RESET frees a slot, keeps its descriptor words, and lets VOTE slots go on. A packet that fails an early check of Table 12-6 is refused with its code, and a REPLAY for a slot that has FAILED or been SKIPPED with ABORTED; a good REDUCE piece, plain or FACTOR, is held or added, and a good BCAST piece lands. FRE_TILE_FINISH writes a complete tile to DST once SRC is here; where one has no translation the slot fails. SEAL of a REDUCE is consumed once every piece of its child is added, waits while pieces are held, and is refused while some are missing; RESTART of a child awaited ends the wait; REPLAY sends again; VOTE_UP is noted; VOTE_DOWN takes the vote. COLLECTIVE_ANSWER ends its packet; COLLECTIVE_RESEND sends a BUSY packet again.
Rests on R326, R327, R328, R331, R333, R335, R340, R341, R344, R348, R352, R356. -/
def Obligations.CollectiveSlotsAndMessages : Prop :=
  (∀ (s : State) (i : Nat), i < 256 →
    let st := s.dev.colState i
    let free := st = 0 ∨ st = 5 ∨ st = 6 ∨ (st = 4 ∧ (s.dev.colSlot i).kind ≠ 1)
    (free → s.dev.colDescOk (s.dev.colRegs i) = true → ∃ t, exec (.post i) s = .next t ∧ t.pending = s.pending ∧ t.dev.colState i = 1 ∧
      t.dev.colSlot i = s.dev.colRegs i ∧ t.dev.get F.COL_STATE_REASON 0 i = 0 ∧ t.dev.get F.COL_STATE_REPLAYS 0 i = 0 ∧ t.dev.get F.COL_STATE_OVF 0 i = 0 ∧
      (∀ k, k ≠ i → t.dev.colSlot k = s.dev.colSlot k) ∧ s.dev.sameBytes t.dev ∧
      s.dev.onlyFields t.dev [(F.COL_STATE_STATE, 0, i), (F.COL_STATE_REASON, 0, i), (F.COL_STATE_REPLAYS, 0, i), (F.COL_STATE_OVF, 0, i)]) ∧
    (¬ free ∨ s.dev.colDescOk (s.dev.colRegs i) = false → ∃ t, exec (.post i) s = .next t ∧ t.pending = s.pending ∧ t.dev.get F.COL_STATE_REASON 0 i = 0x80 ∧
      t.dev.get F.COL_STATUS_POST_REFUSED = 1 ∧ t.dev = { s.dev with regs := t.dev.regs } ∧
      s.dev.onlyFields t.dev [(F.COL_STATE_REASON, 0, i), (F.COL_STATUS_POST_REFUSED, 0, 0)])) ∧
  (∀ (s : State) (i : Nat), i < 256 → let c := s.dev.colSlot i
    (s.dev.colState i ≠ 1 ∨ c.kind = 4 → exec (.release i) s = .next (s.withDev (s.dev.releaseMissed i))) ∧
    (s.dev.colState i = 1 → c.kind = 3 → exec (.release i) s = .next (s.withDev (s.dev.setColState i 3).votesGo)) ∧
    (s.dev.colState i = 1 → c.kind = 1 → c.factor = true → c.epoch ≠ s.dev.get F.LCX_EPOCH_CUR c.quarter → exec (.release i) s = .next (s.withDev (s.dev.colFail i 0x81))) ∧
    (s.dev.colState i = 1 → c.kind = 2 → s.dev.get F.NUM_STEP_STATUS_LAST_SKIPPED = 1 → s.dev.get F.NUM_STEP_V = c.step →
      exec (.release i) s = .next (s.withDev ((s.dev.setColState i 6).collectiveEnds i))) ∧
    (s.dev.colState i = 1 → (c.kind = 1 ∧ (c.factor = false ∨ c.epoch = s.dev.get F.LCX_EPOCH_CUR c.quarter)) ∨
        (c.kind = 2 ∧ (s.dev.get F.NUM_STEP_STATUS_LAST_SKIPPED = 0 ∨ s.dev.get F.NUM_STEP_V ≠ c.step)) →
      let d := ({ s.dev with col := { s.dev.col with nextRel := s.dev.col.nextRel + 1 } } : Dev).setCol i ({ c with rel := s.dev.col.nextRel } : ColSlot)
      (d.colWaiting c.quarter = [] → d.freReserved c.quarter + d.colKib c ≤ 16384 → exec (.release i) s = .next (s.withDev (d.colRun i))) ∧
      (d.colWaiting c.quarter ≠ [] ∨ 16384 < d.freReserved c.quarter + d.colKib c → ∃ t, exec (.release i) s = .next t ∧ t.pending = s.pending ∧ t.dev.colState i = 2 ∧
        (t.dev.colSlot i).rel = s.dev.col.nextRel ∧ s.dev.sameBytes t.dev ∧ s.dev.onlyFields t.dev [(F.COL_STATE_STATE, 0, i)]))) ∧
  (∀ (s : State) (i : Nat), i < 256 → ∃ e : Dev, exec (.reset i) s = .next (s.withDev e.votesGo) ∧ e.colState i = 0 ∧
    e.colSlot i = ({ desc0 := (s.dev.colSlot i).desc0, desc1 := (s.dev.colSlot i).desc1 } : ColSlot) ∧ s.dev.sameBytes e) ∧
  (∀ (s : State) (q k : Nat) (c : ColSlot), q < 4 → s.dev.clk.safe = false → (s.dev.colWaiting q = [] → exec (.colBufferGrant q) s = .next s) ∧
    ((k, c) ∈ s.dev.colWaiting q → (∀ x ∈ s.dev.colWaiting q, x = (k, c) ∨ c.rel < x.2.rel) →
      (s.dev.freReserved q + s.dev.colKib c ≤ 16384 → exec (.colBufferGrant q) s = .next (s.withDev (s.dev.colRun k))) ∧
      (16384 < s.dev.freReserved q + s.dev.colKib c → exec (.colBufferGrant q) s = .next s))) ∧
  (∀ (s : State) (n : Nat) (p : Packet), n < 16 → p.ptype = 0x0B → p.block = false → p.dst = s.dev.chip → s.dev.clk.safe = false →
    let d := s.dev.takeRx n p
    let c := s.dev.colSlot p.slot
    (s.dev.colEarly p ≠ 0 → (p.mtype = 0 → exec (.collectivePiece n p none) s = .next (s.withDev (d.colRefuse p (s.dev.colEarly p)))) ∧
      (∀ i m, (i, m) ∈ [(Instr.sealChild n p, 1), (.restart n p, 2), (.replay n p, 3), (.voteUp n p, 4), (.voteDown n p, 5)] → p.mtype = m →
        exec i s = .next (s.withDev (d.colRefuse p (s.dev.colEarly p))))) ∧
    (s.dev.colEarly p = 0 → s.dev.colEnded p.slot = false → bits p.addr 35 34 = c.quarter → p.len % 256 = 0 → 256 ≤ p.len → p.len ≤ 4096 → 256 * p.row + p.len ≤ c.bytes →
      (c.kind = 1 → s.dev.freBusy (c.src + 256 * p.row) = false → (∀ l, s.dev.childLevel c p.src = some l →
          exec (.collectivePiece n p none) s = .next (s.withDev (d.reducePiece p l (p.len / 256)
            ((List.range (64 * (p.len / 256))).map (fun i => BitVec.ofNat 32 (leAt p.data (4 * i) 4))) none))) ∧
        (s.dev.childLevel c p.src = none → exec (.collectivePiece n p none) s = .next (s.withDev (d.colRefuse p 5)))) ∧
      (c.kind = 1 → s.dev.freBusy (c.src + 256 * p.row) = true → exec (.collectivePiece n p none) s = .next s) ∧
      (c.kind = 2 → s.dev.freBusy (c.dst + 256 * p.row) = false → s.dev.freBusy (c.dst + 256 * p.row + p.len - 1) = false →
        (s.dev.fromParent c p.src = true → exec (.collectivePiece n p none) s = .next (s.withDev (d.bcastPiece p))) ∧
        (s.dev.fromParent c p.src = false → exec (.collectivePiece n p none) s = .next (s.withDev (d.colRefuse p 5))))) ∧
    (s.dev.colEarly p = 0 → s.dev.colEnded p.slot = true → s.dev.fromParent c p.src = true → c.controlOk p = true → p.mtype = 3 →
      exec (.replay n p) s = .next (s.withDev (d.colRefuse p 7))) ∧
    (s.dev.colEarly p = 0 → s.dev.colEnded p.slot = false → c.controlOk p = true → (∀ l, s.dev.childLevel c p.src = some l →
      (p.mtype = 1 → c.kind = 1 → l ∉ c.await → l ∉ c.sealed_ → c.allAdded l = true →
        exec (.sealChild n p) s = .next (s.withDev ((d.sealTake p.slot l p).colGo p.slot))) ∧
      (p.mtype = 1 → c.kind = 1 → l ∉ c.await → l ∉ c.sealed_ → c.allAdded l = false → (∀ x ∈ c.sealWait, x.1 ≠ l) → c.receivedRows l = 64 * c.tiles →
        exec (.sealChild n p) s = .next (s.withDev (d.setCol p.slot ({ c with sealWait := c.sealWait ++ [(l, p)] } : ColSlot)))) ∧
      (p.mtype = 1 → c.kind = 1 → l ∉ c.await → l ∈ c.sealed_ ∨ (c.allAdded l = false ∧ ((∃ x ∈ c.sealWait, x.1 = l) ∨ c.receivedRows l ≠ 64 * c.tiles)) →
        exec (.sealChild n p) s = .next (s.withDev (d.colRefuse p 6))) ∧
      (p.mtype = 2 → s.dev.colState p.slot = 3 → l ∈ c.await → exec (.restart n p) s = .next (s.withDev
        (((d.setCol p.slot ({ c with await := c.await.filter (· ≠ l) } : ColSlot)).colOk p).colGo p.slot))) ∧
      (p.mtype = 4 → l ∉ c.voted → exec (.voteUp n p) s = .next (s.withDev
        (((d.setCol p.slot ({ c with voted := c.voted ++ [l], voteOr := c.voteOr || leAt p.data 2 1 = 1 } : ColSlot)).colOk p).votesGo))) ∧
      (p.mtype = 4 → l ∈ c.voted → exec (.voteUp n p) s = .next (s.withDev (d.colRefuse p 6)))) ∧
      (s.dev.fromParent c p.src = true →
        (p.mtype = 3 → exec (.replay n p) s = .next (s.withDev ((d.colOk p).colReplay p.slot))) ∧
        (p.mtype = 5 → c.voteTaken = false → exec (.voteDown n p) s = .next (s.withDev ((d.colOk p).voteTake p.slot (leAt p.data 2 1 = 1)))) ∧
        (p.mtype = 5 → c.voteTaken = true → exec (.voteDown n p) s = .next (s.withDev (d.colRefuse p 6)))))) ∧
  (∀ (s : State) (n : Nat) (p : Packet), n < 16 → p.ptype = 0x0B → p.block = true → p.dst = s.dev.chip → s.dev.clk.safe = false →
    let d := s.dev.takeRx n p
    let c := s.dev.colSlot p.slot
    let q := bits p.addr 35 34
    c.kind = 1 → s.dev.freBusy (c.src + 256 * p.row) = false →
    (∀ code, d.lexBlock q p = .inr code → exec (.collectivePiece n p none) s = .next (s.withDev (d.blockFails n q p code))) ∧
    (∀ r0 k cnt vs l, d.lexBlock q p = .inl (.rows r0 k cnt vs) → s.dev.colEarly p = 0 → s.dev.colEnded p.slot = false → q = c.quarter → r0 = p.row % 64 → r0 + k ≤ 64 →
      256 * p.row + 256 * k ≤ c.bytes → s.dev.childLevel c p.src = some l →
      exec (.collectivePiece n p none) s = .next (s.withDev ((d.count F.LEX_BLOCKS_V q).reducePiece p l k vs none)))) ∧
  (∀ (s : State) (i tile : Nat), i < 256 → s.dev.clk.safe = false → let c := s.dev.colSlot i
    (s.dev.colState i ≠ 3 → exec (.freTileFinish i tile) s = .next s) ∧
    (s.dev.colState i = 3 → c.kind = 1 → tile < c.tiles → tile ∉ c.finished → s.dev.turnOf c tile = none → s.dev.freBusy (c.src + 16384 * tile) = false →
      s.dev.freBusy (c.dst + 16384 * tile) = false → (∀ d0, s.dev.colReady i tile = (false, d0) → exec (.freTileFinish i tile) s = .next (s.withDev d0)) ∧
      (∀ d0 vs d e, s.dev.colReady i tile = (true, d0) → d0.colPart i tile = (some vs, d) →
        Dev.freWriteN i c.quarter 256 (c.dst + 16384 * tile) (vs.flatMap (fun v => leBytes 4 v.toNat)) (true, d) = (true, e) → exec (.freTileFinish i tile) s = .next (s.withDev
          ((e.updCol i fun c => { c with part := c.part.filter (fun x => x.1 ≠ tile), finished := c.finished ++ [tile] }).colGo i))) ∧
      (∀ d0 vs d e, s.dev.colReady i tile = (true, d0) → d0.colPart i tile = (some vs, d) →
        Dev.freWriteN i c.quarter 256 (c.dst + 16384 * tile) (vs.flatMap (fun v => leBytes 4 v.toNat)) (true, d) = (false, e) →
        exec (.freTileFinish i tile) s = .next (s.withDev (e.colFail i 0x83))) ∧
      (∀ d0 d, s.dev.colReady i tile = (true, d0) → d0.colPart i tile = (none, d) → exec (.freTileFinish i tile) s = .next (s.withDev (d.colFail i 0x83))))) ∧
  (∀ (s : State) (n i : Nat) (p : Packet), n ≤ 16 → s.dev.clk.safe = false → p.ptype = 5 ∨ p.ptype = 7 →
    ((∃ r ∈ s.dev.fab.reqs, r.tag = p.tag ∧ r.waiter = .collective i) → exec (.collectiveAnswer n p) s = .next (s.withDev (s.dev.takeAnswer n p))) ∧
    ((∀ r ∈ s.dev.fab.reqs, r.tag ≠ p.tag) → exec (.collectiveAnswer n p) s = .next s)) ∧
  (∀ (s : State) (tag : Nat) (r : Req) (p : Packet), s.dev.clk.safe = false → s.dev.fab.reqs.find? (fun r => r.tag = tag) = some r → r.copy = some p →
    (r.busy = true → r.resendAt ≠ 0 → r.resendAt ≤ s.dev.beat → exec (.collectiveResend tag) s = .next (s.withDev
      (((s.dev.updReq tag fun r => { r with resendAt := 0, busy := false }).count F.COL_RESENDS_V).originate p))) ∧
    (s.dev.beat < r.resendAt ∨ r.busy = false → exec (.collectiveResend tag) s = .next s))

/-- The current bank is the READY one with the higher version, bank 0 if both hold the same. OPEN of another bank leaves it FILLING with its version; of the current bank it is refused; READY takes a FILLING bank without MISMATCH only; DROP empties a bank. The first forward gather of a group enters the current bank's version in the ledger, and a later gather of that version succeeds; CLEAR_LEDGER clears every entry. RETIRED and UNDO_CLOSE end the snapshot, the latter restoring what it holds. POWER_SAMPLE adds to its bin, once in a beat; POWER_BIN_BOUNDARY in a beat of another bin ends it and shows its mean. VC_PGOOD_RISE and VOLTAGE_WAIT_TIMEOUT end a raise at their time. TRIM_RAISE and MONITOR_SLACK_LOW move the trim, or the core's STEPS, or fail the core; the regulator is asked for the new code but in a safe state. DROOP_DETECT and DROOP_RECOVER stretch and release a core's clock. DIE_TEMP_READ shows the reading, sets and clears DIE_HOT, and at 115 degrees trips. PWR_CAP_WRITE and PWR_MANUAL set their fields.
Rests on R366, R368, R369, R375, R377, R379, R382, R384, R386, R387, R394, R398. -/
def Obligations.BanksLedgerAndPower : Prop :=
  (∀ d : Dev, (d.bankReady 0 = true → d.bankReady 1 = true → d.currentBank = some (if d.bankVer 0 < d.bankVer 1 then 1 else 0)) ∧
    (∀ b, b < 2 → d.bankReady b = true → d.bankReady (1 - b) = false → d.currentBank = some b) ∧ (d.bankReady 0 = false → d.bankReady 1 = false → d.currentBank = none)) ∧
  (∀ (s : State) (b v : Nat), b < 2 → v < 2 ^ 32 →
    let fs := [(F.SHD_BANK_VER_V, 0, b), (F.SHD_BANK_STATE_MISMATCH, 0, b), (F.SHD_BANK_STATE_STATE, 0, b), (F.SHD_STATUS_CUR_VALID, 0, 0), (F.SHD_STATUS_CUR, 0, 0)]
    (s.dev.currentBank ≠ some b → ∃ t, exec (.openBank b v) s = .next t ∧ t.pending = s.pending ∧ t.dev.bankVer b = v ∧ t.dev.get F.SHD_BANK_STATE_STATE 0 b = 1 ∧
      t.dev.get F.SHD_BANK_STATE_MISMATCH 0 b = 0 ∧ t.dev = { s.dev with regs := t.dev.regs } ∧ s.dev.onlyFields t.dev fs) ∧
    (s.dev.currentBank = some b → exec (.openBank b v) s = .next (s.withDev (s.dev.putD F.SHD_STATUS_REFUSED 1))) ∧
    (s.dev.get F.SHD_BANK_STATE_STATE 0 b = 1 → s.dev.get F.SHD_BANK_STATE_MISMATCH 0 b = 0 → ∃ t, exec (.ready b) s = .next t ∧ t.pending = s.pending ∧
      t.dev.bankReady b = true ∧ t.dev.get F.SHD_STATUS_CUR_VALID = 1 ∧ t.dev = { s.dev with regs := t.dev.regs } ∧ s.dev.onlyFields t.dev fs) ∧
    (s.dev.get F.SHD_BANK_STATE_STATE 0 b ≠ 1 ∨ s.dev.get F.SHD_BANK_STATE_MISMATCH 0 b = 1 → exec (.ready b) s = .next (s.withDev (s.dev.putD F.SHD_STATUS_REFUSED 1))) ∧
    (∃ t, exec (.drop b) s = .next t ∧ t.pending = s.pending ∧ t.dev.get F.SHD_BANK_STATE_STATE 0 b = 0 ∧
      t.dev.currentBank ≠ some b ∧ t.dev = { s.dev with regs := t.dev.regs } ∧ s.dev.onlyFields t.dev fs)) ∧
  (∀ (s : State) (c g b : Nat), c < 272 → g < 1024 → g < s.dev.groups → s.dev.currentBank = some b →
    (s.dev.get F.SHD_LEDGER_FWD_VALID 0 g = 0 → ∃ t, exec (.shdGather c 0 g) s = .next t ∧ t.pending = s.pending ∧ t.dev.get F.SHD_LEDGER_FWD_VALID 0 g = 1 ∧
      t.dev.get F.SHD_LEDGER_FWD_VER 0 g = s.dev.bankVer b ∧ t.dev.get F.SHD_LEDGER_FWD_BANK 0 g = b ∧ t.dev.get F.SHD_GRESULT_STATUS c = 0 ∧ t.dev.get F.SHD_GRESULT_BANK c = b ∧
      t.dev.get F.SHD_GRESULT_VERSION c = s.dev.bankVer b ∧ t.dev = { s.dev with regs := t.dev.regs }) ∧
    (∀ pass, pass < 2 → s.dev.get F.SHD_LEDGER_FWD_VALID 0 g = 1 → s.dev.bankVer b = s.dev.get F.SHD_LEDGER_FWD_VER 0 g →
      exec (.shdGather c pass g) s = .next (s.withDev (s.dev.gatherResult c 0 b (s.dev.bankVer b)))) ∧
    (s.dev.get F.SHD_LEDGER_FWD_VALID 0 g = 0 → exec (.shdGather c 1 g) s = .next (s.withDev (s.dev.gatherResult c 4 0 0)))) ∧
  (∀ s : State,
    (∃ t, exec .clearLedger s = .next t ∧ t.pending = s.pending ∧ (∀ g, g < 1024 → t.dev.reg .shdLedger 0 g = 0) ∧ t.dev = { s.dev with regs := t.dev.regs }) ∧
    (∃ t, exec .retired s = .next t ∧ t.pending = s.pending ∧ t.dev.num.snapshot = none ∧ t.dev.get F.SHD_STATUS_SNAPSHOT = 0 ∧ s.dev.sameBytes t.dev ∧
      s.dev.onlyFields t.dev [(F.SHD_STATUS_SNAPSHOT, 0, 0)]) ∧
    (s.dev.num.snapshot = none → exec .undoClose s = .next (s.withDev (s.dev.putD F.SHD_STATUS_REFUSED 1))) ∧
    (∀ p, s.dev.num.snapshot = some p → p.groups.length ≤ 1024 → p.exp < 32 → p.step < 2 ^ 32 → ∃ t, exec .undoClose s = .next t ∧ t.pending = s.pending ∧
      t.dev.num.snapshot = none ∧ t.dev.get F.SHD_STATUS_SNAPSHOT = 0 ∧ t.dev.get F.NUM_LS_EXP = p.exp ∧ t.dev.get F.NUM_STEP_V = p.step ∧ t.dev.num.held = p.held ∧
      t.dev.num.clean = p.clean ∧ s.dev.sameBytes t.dev)) ∧
  (∀ (s : State) (core other : Nat), (s.dev.pwr.sampled = some s.dev.beat → exec (.powerSample core other) s = .next s) ∧
    (s.dev.pwr.sampled ≠ some s.dev.beat → ∃ t, exec (.powerSample core other) s = .next t ∧ t.pending = s.pending ∧ t.dev.pwr.sum = s.dev.pwr.sum + (core + other) ∧
    t.dev.pwr.coreSum = s.dev.pwr.coreSum + core ∧ t.dev.pwr.beats = s.dev.pwr.beats + 1 ∧ s.dev.sameBytes t.dev ∧
    s.dev.onlyFields t.dev [(F.PWR_FAST_BEATS_V, 0, 0), (F.PWR_STATUS_FAST_SEEN, 0, 0), (F.PWR_ENERGY_V, 0, 0)])) ∧
  (∀ s : State, (s.dev.beat / 1000 = s.dev.pwr.bin → exec .powerBinBoundary s = .next s) ∧
    (s.dev.beat / 1000 ≠ s.dev.pwr.bin → exec .powerBinBoundary s = .next (s.withDev s.dev.binBoundary)) ∧ (s.dev.pwr.plans = [] → s.dev.get F.PWR_CTL_MANUAL = 1 ∨ s.dev.pwr.loaded = false →
    let mean := if s.dev.pwr.beats = 0 then 0 else s.dev.pwr.sum / s.dev.pwr.beats
    s.dev.binBoundary.pwr.sum = 0 ∧ s.dev.binBoundary.pwr.beats = 0 ∧ s.dev.binBoundary.get F.PWR_NOW_W = mean / 1000 % 65536 ∧
    (s.dev.pwr.restart = false → s.dev.binBoundary.pwr.bins = (mean :: s.dev.pwr.bins).take s.dev.winBins) ∧ s.dev.sameBytes s.dev.binBoundary)) ∧
  (∀ (s : State) (i : Instr) (wait : Nat), (i, wait) ∈ [(Instr.vcPgoodRise, 1), (.voltageWaitTimeout, 20)] →
    (∀ op b, s.dev.pwr.raising = some (op, b) → op < 8 →
      (b + wait ≤ s.dev.beat → ∃ t, exec i s = .next t ∧ t.pending = s.pending ∧ t.dev.op = op ∧ t.dev.pwr = { s.dev.pwr with raising := none } ∧ s.dev.sameBytes t.dev) ∧
      (s.dev.beat < b + wait → exec i s = .next s)) ∧
    (s.dev.pwr.raising = none → exec i s = .next s)) ∧
  (∀ s : State, (s.dev.trims = true → 65536 ≤ s.dev.pwr.slack → s.dev.get F.PWR_TRIM_TRIM < 10 → ∃ t, exec .trimRaise s = .next t ∧ t.pending = s.pending ∧
      t.dev.get F.PWR_TRIM_TRIM = s.dev.get F.PWR_TRIM_TRIM + 1 ∧ t.dev.pwr.slack = 0 ∧ t.dev.out = s.dev.out ++ (if s.dev.clk.safe then [] else [.regulator (opCode s.dev.vidOp - (s.dev.get F.PWR_TRIM_TRIM + 1))]) ∧
      s.dev.onlyFields t.dev [(F.PWR_TRIM_TRIM, 0, 0)] ∧ s.dev.sameBytes t.dev) ∧
    (s.dev.trims = false ∨ s.dev.pwr.slack < 65536 ∨ 10 ≤ s.dev.get F.PWR_TRIM_TRIM → exec .trimRaise s = .next s)) ∧
  (∀ (s : State) (c : Nat), c < 272 → (s.dev.trims = false ∨ s.dev.gated c = true → exec (.monitorSlackLow c) s = .next s) ∧
    (s.dev.trims = true → s.dev.gated c = false →
      (0 < s.dev.get F.PWR_TRIM_TRIM → ∃ t, exec (.monitorSlackLow c) s = .next t ∧ t.pending = s.pending ∧ t.dev.get F.PWR_TRIM_TRIM = s.dev.get F.PWR_TRIM_TRIM - 1 ∧
        t.dev.pwr.slack = 0 ∧ t.dev.out = s.dev.out ++ (if s.dev.clk.safe then [] else [.regulator (opCode s.dev.vidOp - (s.dev.get F.PWR_TRIM_TRIM - 1))]) ∧
        s.dev.onlyFields t.dev [(F.PWR_TRIM_TRIM, 0, 0)] ∧ s.dev.sameBytes t.dev) ∧
      (s.dev.get F.PWR_TRIM_TRIM = 0 → 4 ≤ s.dev.get F.PWR_CORE_FREQ_STEPS c → exec (.monitorSlackLow c) s = .next (s.withDev
        ((({ s.dev with pwr := { s.dev.pwr with slack := 0 } } : Dev).record .coreMarginLow (coreSource c 14) []).failCore c))) ∧
      (s.dev.get F.PWR_TRIM_TRIM = 0 → s.dev.get F.PWR_CORE_FREQ_STEPS c < 4 → ∃ t, exec (.monitorSlackLow c) s = .next t ∧ t.pending = s.pending ∧
        t.dev.get F.PWR_CORE_FREQ_STEPS c = s.dev.get F.PWR_CORE_FREQ_STEPS c + 1 ∧ t.dev.pwr.slack = 0 ∧
        s.dev.onlyFields t.dev [(F.PWR_CORE_FREQ_STEPS, c, 0), (F.PWR_CORE_FREQ_MHZ, c, 0)] ∧ s.dev.sameBytes t.dev))) ∧
  (∀ (s : State) (c mv : Nat), c < 272 →
    (atLeast1 (s.dev.get F.PWR_CTL_DROOP_MV) < mv → c ∉ s.dev.pwr.stretched → ∃ t, exec (.droopDetect c mv) s = .next t ∧ t.pending = s.pending ∧
      t.dev.pwr.stretched = s.dev.pwr.stretched ++ [c] ∧ s.dev.onlyFields t.dev [(F.PWR_DROOP_CNT_V, c, 0), (F.PWR_CORE_FREQ_MHZ, c, 0)] ∧ s.dev.sameBytes t.dev) ∧
    (mv ≤ atLeast1 (s.dev.get F.PWR_CTL_DROOP_MV) ∨ c ∈ s.dev.pwr.stretched → exec (.droopDetect c mv) s = .next s) ∧
    (c ∈ s.dev.pwr.stretched → ∃ t, exec (.droopRecover c) s = .next t ∧ t.pending = s.pending ∧ c ∉ t.dev.pwr.stretched ∧
      s.dev.onlyFields t.dev [(F.PWR_CORE_FREQ_MHZ, c, 0)] ∧ s.dev.sameBytes t.dev) ∧
    (c ∉ s.dev.pwr.stretched → exec (.droopRecover c) s = .next s)) ∧
  (∀ (s : State) (q r : Nat), q < 4 →
    (r ≤ 75 → ∃ t, exec (.dieTempRead q r) s = .next t ∧ t.pending = s.pending ∧ t.dev.get F.PWR_DIE_TEMP_TEMP = r ∧ t.dev.get F.PWR_DIE_TEMP_QUARTER = q ∧
      t.dev.get F.PWR_STATUS_DIE_HOT = 0 ∧ t.dev = { s.dev with regs := t.dev.regs } ∧
      s.dev.onlyFields t.dev [(F.PWR_DIE_TEMP_TEMP, 0, 0), (F.PWR_DIE_TEMP_QUARTER, 0, 0), (F.PWR_STATUS_DIE_HOT, 0, 0)]) ∧
    (r < 115 → let hi := max 80 (min 100 (s.dev.get F.PWR_THERM_DIE_T_HI))
      ∃ t, exec (.dieTempRead q r) s = .next t ∧ t.pending = s.pending ∧ t.dev.get F.PWR_DIE_TEMP_TEMP = r ∧ t.dev.get F.PWR_DIE_TEMP_QUARTER = q ∧
        t.dev.get F.PWR_STATUS_DIE_HOT = (if hi ≤ r then 1 else if r ≤ hi - 5 then 0 else s.dev.get F.PWR_STATUS_DIE_HOT) ∧ s.dev.sameBytes t.dev) ∧
    (115 ≤ r → r < 256 → s.dev.pwr.tripped = false → ∃ t, exec (.dieTempRead q r) s = .next t ∧ t.pending = s.pending ∧ t.dev.pwr.tripped = true ∧ t.dev.clk.safe = true ∧
      .pin "THERMTRIP_N" 0 ∈ t.dev.out)) ∧
  (∀ (s : State) (v : Nat), (v < 4096 → ∃ t, exec (.pwrCapWrite false v) s = .next t ∧ t.pending = s.pending ∧ t.dev.get F.PWR_CAP_CAP_W = v ∧ t.dev.pwr.restart = true ∧
      s.dev.onlyFields t.dev [(F.PWR_CAP_CAP_W, 0, 0)] ∧ s.dev.sameBytes t.dev) ∧
    (v < 64 → ∃ t, exec (.pwrCapWrite true v) s = .next t ∧ t.pending = s.pending ∧ t.dev.get F.PWR_WINDOW_WINDOW_S = v ∧ t.dev.pwr.restart = true ∧
      s.dev.onlyFields t.dev [(F.PWR_WINDOW_WINDOW_S, 0, 0)] ∧ s.dev.sameBytes t.dev) ∧
    (∀ on, ∃ t, exec (.pwrManual on) s = .next t ∧ t.pending = s.pending ∧ t.dev.get F.PWR_CTL_MANUAL = (if on then 1 else 0) ∧ t.dev = { s.dev with regs := t.dev.regs } ∧
      s.dev.onlyFields t.dev [(F.PWR_CTL_MANUAL, 0, 0)]))

/-- A flooded message whose key was seen does nothing more; a new one is entered, acted on if its JOB is this device's, and forwarded by every other UP port while HOPS is not 0. An order greater than FLT_PROGRESS is obeyed: FLT_PROGRESS takes it, and a device in SERVICE, REWINDING, HELD or READY is REWINDING. REWIND_COMPLETE leaves a REWINDING device HELD or READY with the ledger clear; FLT_PROGRESS_WRITE takes a READY device to SERVICE. KNELL leaves the device FENCED with its cause. A routed message for another chip goes on with HOPS one less or is dropped at 0. HEARTBEAT keeps its fields; LIVENESS_TIMEOUT sends a PING where one is owed, PING is answered with a PONG; a PING not yet due decides nothing. ASSIGN, ACCEPT, DECLINE and their timeouts move the assignment on; READY_MAP and RESTORE_DONE move the restore on, and a second failure is a knell with cause 5.
Rests on R407, R408, R409, R410, R411, R412, R414, R415, R416, R419, R420, R422. -/
def Obligations.RewindLivenessAndTakeover : Prop :=
  (∀ (s : State) (i : Instr) (n ty : Nat) (p : Packet), n < 16 → (faultMsg p).ctype = ty →
    (i, ty) ∈ [(Instr.rewind n p, 0x10), (.claimed n p, 0x11), (.takeoverDone n p, 0x12), (.repairDone n p, 0x13), (.takeoverFailed n p, 0x14), (.knellReceive n p, 0x30)] →
    let d := s.dev.takeMsg n p
    let m := faultMsg p
    let e := d.noteKey m
    let fwd := fun (x : Dev) => if p.hops = 0 then x else x.each (x.upPorts.filter (· ≠ n)) (fun x k => x.enqueue k { p with hops := p.hops - 1 })
    (d.keySeen m = true → exec i s = .next (s.withDev d)) ∧
    (d.keySeen m = false → m.job ≠ d.job → exec i s = .next (s.withDev (fwd e))) ∧
    (d.keySeen m = false → m.job = d.job →
      (ty = 0x10 → let x := if e.orderGreater m.step m.attempt then e.obey m.step m.attempt else e
        exec i s = .next (s.withDev (fwd (if m.hold = 2 then x.addHold ⟨m.chip, true⟩ else x)))) ∧
      (ty = 0x11 → exec i s = .next (s.withDev (fwd (e.hearClaimed m)))) ∧ (ty = 0x12 → exec i s = .next (s.withDev (fwd (e.removeHold ⟨m.chip, false⟩)))) ∧
      (ty = 0x13 → exec i s = .next (s.withDev (fwd (e.removeHold ⟨m.chip, true⟩)))) ∧
      (ty = 0x14 → exec i s = .next (s.withDev (fwd (e.recordOnly .takeoverFailed (devSource 0) [])))) ∧
      (ty = 0x30 → exec i s = .next (s.withDev (fwd (e.actKnell m)))))) ∧
  (∀ (d : Dev) (st a : Nat), st < 2 ^ 32 → a < 2 ^ 16 → (d.obey st a).get F.FLT_PROGRESS_STEP = st ∧ (d.obey st a).get F.FLT_PROGRESS_ATTEMPT = a ∧
    (d.fltState ≤ 3 → (d.obey st a).fltState = 1) ∧ (3 < d.fltState → (d.obey st a).fltState = d.fltState)) ∧
  (∀ (s : State) (p : Packet), (s.dev.rewindStates = true → exec (.rewind 16 p) s = .next s) ∧
    (s.dev.rewindStates = false → exec (.rewind 16 p) s = .next (s.withDev (s.dev.originateOrder false)))) ∧
  (∀ s : State, (s.dev.fltState ≠ 1 → exec .rewindComplete s = .next s) ∧
    (s.dev.fltState = 1 → ∃ t, exec .rewindComplete s = .next t ∧ t.pending = s.pending ∧ (t.dev.fltState = 2 ∨ t.dev.fltState = 3) ∧ ∀ g, g < 1024 → t.dev.reg .shdLedger 0 g = 0)) ∧
  (∀ (s : State) (st a : Nat), st < 2 ^ 32 → a < 2 ^ 16 → ∃ t, exec (.fltProgressWrite st a) s = .next t ∧ t.pending = s.pending ∧ t.dev.get F.FLT_PROGRESS_STEP = st ∧
    t.dev.get F.FLT_PROGRESS_ATTEMPT = a ∧ t.dev.fltState = (if s.dev.fltState = 3 then 0 else s.dev.fltState) ∧ s.dev.sameBytes t.dev ∧
    s.dev.onlyFields t.dev [(F.FLT_PROGRESS_STEP, 0, 0), (F.FLT_PROGRESS_ATTEMPT, 0, 0), (F.FLT_STATUS_STATE, 0, 0)]) ∧
  (∀ (s : State) (c : Nat), c < 272 → (s.dev.gated c = true → exec (.oscLockLoss c) s = .next s) ∧
    (s.dev.gated c = false → exec (.oscLockLoss c) s = .next (s.withDev (s.dev.failCore c)))) ∧
  (∀ s : State, (s.dev.failedBound = true → exec .repaired s = .next s) ∧
    (s.dev.failedBound = false → ⟨s.dev.chip, true⟩ ∈ s.dev.flt.holds → ∃ t, exec .repaired s = .next t ∧ t.pending = s.pending ∧ ⟨s.dev.chip, true⟩ ∉ t.dev.flt.holds) ∧
    (∀ lost, ∃ t, exec (.knell lost) s = .next t ∧ t.pending = s.pending ∧ t.dev.fltState = 7 ∧ t.dev.get F.FLT_STATUS_LAST_CAUSE = (if lost then 7 else 6))) ∧
  (∀ (s : State) (n : Nat) (p : Packet), n < 16 → let m := faultMsg p
    (m.ctype = 1 → ∃ t, exec (.heartbeat n p) s = .next t ∧ t.pending = s.pending ∧ (t.dev.port n).liveFrom = some s.dev.now ∧ (t.dev.port n).hbChip = m.chip ∧
      (t.dev.port n).hbInc = m.inc ∧ (t.dev.port n).hbSerial = m.serial ∧ t.dev.regs = s.dev.regs ∧ s.dev.sameBytes t.dev) ∧
    (s.dev.pingOwed n = false → exec (.livenessTimeout n) s = .next s) ∧
    (s.dev.pingOwed n = true → let d := s.dev.count F.FLT_LIVE_MISS_V
      let e := d.setPort n ({ d.port n with pingAt := some d.now, leftUp := false } : Port)
      exec (.livenessTimeout n) s = .next (s.withDev (e.sendRouted (e.message 2 e.chip (e.get F.FLT_INCARNATION_INC) e.serial) (e.partner n)))) ∧
    (s.dev.pongDue n = false ∨ s.dev.otherPing n = true → exec (.pongTimeout n) s = .next s) ∧
    (exec (.pongTimeout n) s = .next (s.withDev (s.dev.pongLost n)))) ∧
  (∀ (s : State) (i : Instr) (n ty : Nat) (p : Packet) (entry : List Byte), n < 17 → (faultMsg p).ctype = ty → (i, ty) ∈ [(Instr.ping n p, 2), (.pong n p, 3),
      (.assign n p entry, 0x20), (.accept n p, 0x21), (.decline n p, 0x22), (.remirroredMessage n p, 0x23)] →
    let d := s.dev.takeMsg n p
    let m := faultMsg p
    (p.dst ≠ d.chip → exec i s = .next (s.withDev (if p.hops = 0 then d.count F.FAB_TTL_DROP_V
      else d.sendPacket { p with hops := p.hops - 1 } (if n < 16 then some n else none)))) ∧
    (p.dst = d.chip → (ty = 2 → exec i s = .next (s.withDev (d.sendRouted (d.message 3 d.chip (d.get F.FLT_INCARNATION_INC) d.serial) p.src))) ∧
      (ty = 3 → (∀ k, k < 16 → (d.port k).pingAt = none) → exec i s = .next (s.withDev d)) ∧
      (ty = 0x20 → exec i s = .next (s.withDev (d.takeAssign m entry))) ∧
      (∀ a, d.answered m.chip p.src = some a → (ty = 0x21 → exec i s = .next (s.withDev (if d.beat < a.sentAt + 64 then d.accepted a else d))) ∧
        (ty = 0x22 → exec i s = .next (s.withDev (d.nextStandby a)))) ∧
      (d.answered m.chip p.src = none → ty = 0x21 ∨ ty = 0x22 → exec i s = .next (s.withDev d)) ∧
      (ty = 0x23 → exec i s = .next (s.withDev (d.noteRemirrored m.chip))))) ∧
  (∀ (s : State) (n k : Nat) (p : Packet), n < 16 → k < 16 → (faultMsg p).ctype = 3 → p.dst = s.dev.chip → s.dev.partner k = p.src →
    (s.dev.port k).pingAt.isSome = true → (∀ j, j < 16 → s.dev.pongDue j = false) → ∃ t, exec (.pong n p) s = .next t ∧ t.pending = s.pending ∧ (t.dev.port k).pingAt = none ∧
      (t.dev.port k).liveFrom = (if s.dev.portState k = 3 ∨ s.dev.portState k = 4 then some s.dev.now else none)) ∧
  (∀ (s : State) (lost : Nat) (a : Assign), s.dev.assignOf lost = some a →
    (a.acceptedAt = none → a.sentAt + 64 ≤ s.dev.beat → exec (.assignTimeout lost) s = .next (s.withDev (s.dev.nextStandby a))) ∧
    (s.dev.beat < a.sentAt + 64 → exec (.assignTimeout lost) s = .next s) ∧
    (∀ b, a.acceptedAt = some b → b + s.dev.takeoverLimit ≤ s.dev.beat → s.dev.flt.holdSince = [] →
      exec (.takeoverTimeout lost) s = .next (s.withDev (s.dev.nextStandby a)))) ∧
  (∀ (s : State) (lost b : Nat), s.dev.assignOf lost = none → (lost, b) ∈ s.dev.flt.holdSince → b + s.dev.takeoverLimit ≤ s.dev.beat → ∃ t,
    exec (.takeoverTimeout lost) s = .next t ∧ t.pending = s.pending ∧ (∀ x ∈ t.dev.flt.holdSince, x.1 ≠ lost) ∧ t.dev.fltState = s.dev.fltState) ∧
  (∀ s : State, exec .remirrored s = .next (s.withDev (s.dev.sendRouted (s.dev.message 0x23 s.dev.chip (s.dev.get F.FLT_INCARNATION_INC) s.dev.serial)
    ((s.dev.img.inForce.map (·.buddy)).getD 0)))) ∧
  (∀ (s : State) (tk : Takeover) (ok : Bool) (a b data : List Byte), s.dev.flt.takeover = some tk → s.dev.fltState = 6 →
    (tk.restore = 0 → exec .readyMap s = .next (s.withDev { s.dev with flt := { s.dev.flt with takeover := some { tk with restore := 1 } } })) ∧
    (tk.restore ≠ 0 → exec .readyMap s = .next s) ∧
    (tk.restore = 1 → ok = false → exec (.restoreDone ok a b data) s = .next (s.withDev { s.dev with flt := { s.dev.flt with takeover := some { tk with restore := 2 } } })) ∧
    (tk.restore = 2 → ok = false → exec (.restoreDone ok a b data) s = .next (s.withDev (s.dev.knell 5))) ∧
    (tk.restore = 1 ∨ tk.restore = 2 → ok = true → mirrorOk a (s.dev.get F.FLT_PROGRESS_STEP) = true → mirrorOk b (s.dev.get F.FLT_PROGRESS_STEP) = false →
      data.length = leAt a 24 8 → let d := Dev.physWriteAll (data.length / 64 + 2) s.dev (leAt a 32 8) data
      exec (.restoreDone ok a b data) s = .next (s.withDev ({ d with flt := { d.flt with takeover := some { tk with restore := 3 } } } : Dev).takeoverCheck))) ∧
  (∀ (s : State) (ok : Bool) (a b data : List Byte), s.dev.flt.takeover = none → exec .readyMap s = .next s ∧ exec (.restoreDone ok a b data) s = .next s)

/-- Enabling a DOWN half trains it; a good training brings it UP on its lanes, the third failure in a row leaves it FAILED, HL_RETRAIN retrains it, and disabling a half leaves it DOWN, one that carries traffic through a failover. A flit with the SEQ expected advances it, one with a bad CRC is reported once by a NAK, an ACK or NAK frees what it names, an ACK goes out after 64 flit periods, and HL_ACK_SEND reports the last flit accepted. On a half that is not UP no request or answer is taken. A malformed line request is refused with NACK 1, one beyond the memory or its 4 KiB with 2, one whose TAG is open with 8, any but a write-back in quarantine with 9, a caching read of a core window with 7 and a WB_DIRTY there with 6; a good one becomes an access of the companion at its home, or of the mailbox in damped mode. An answer ends the request with its TAG, a snoop answer its snoop; a TAG that matches none is a violation. SNOOP_TIMEOUT ends a snoop whose time has passed, and HL_QUARANTINE_END a quarantine whose beats have.
Rests on R427, R429, R430, R432, R433, R434, R435, R436, R438, R455, R456. -/
def Obligations.HauneLinkHalvesAndRequests : Prop :=
  (∀ (s : State) (h : Nat), h < 2 → let en := if h = 0 then F.HL_CTL_HALF0_EN else F.HL_CTL_HALF1_EN
    let st := if h = 0 then F.HL_STATUS_STATE0 else F.HL_STATUS_STATE1
    (s.dev.hlState h = 0 → s.dev.clk.safe = false → s.dev.hl.ballsTaken = false → ∃ t, exec (.hlHalfEnable h) s = .next t ∧ t.pending = s.pending ∧ t.dev.hlState h = 1 ∧
      t.dev.get en = 1 ∧ t.dev.hlHalf h = ({ } : HlHalf) ∧ s.dev.onlyFields t.dev [(en, 0, 0), (st, 0, 0)] ∧ s.dev.sameBytes t.dev) ∧
    (s.dev.hlState h ≠ 0 ∨ s.dev.clk.safe = true ∨ s.dev.hl.ballsTaken = true → exec (.hlHalfEnable h) s = .next (s.withDev (s.dev.putD en 1))) ∧
    (s.dev.hlState h = 0 ∨ s.dev.hlState h = 4 → ∃ t, exec (.hlHalfDisable h) s = .next t ∧ t.pending = s.pending ∧ t.dev.hlState h = 0 ∧ t.dev.get en = 0 ∧
      s.dev.onlyFields t.dev [(en, 0, 0), (st, 0, 0)] ∧ t.dev = { s.dev with regs := t.dev.regs }) ∧
    (s.dev.hlState h = 1 ∨ s.dev.hlState h = 2 ∨ s.dev.hlState h = 3 → exec (.hlHalfDisable h) s = .next (s.withDev ((s.dev.putD en 0).hlFailover h 0))) ∧
    (s.dev.hlState h = 1 → (s.dev.hlHalf h).retryWait = false → s.dev.boot.step = 14 →
      ((s.dev.hlHalf h).left = 0 → ∃ t, exec (.hlTrainingDone h 15) s = .next t ∧ t.pending = s.pending ∧ t.dev.hlState h = 2 ∧
        t.dev.get (if h = 0 then F.HL_STATUS_LANES0 else F.HL_STATUS_LANES1) = 15 ∧ (t.dev.hlHalf h).fails = 0 ∧ s.dev.sameBytes t.dev) ∧
      ((s.dev.hlHalf h).fails < 2 → exec (.hlTrainingFail h) s = .next (s.withDev (s.dev.setHlHalf h ({ s.dev.hlHalf h with fails := (s.dev.hlHalf h).fails + 1, retryWait := true } : HlHalf)))) ∧
      (2 ≤ (s.dev.hlHalf h).fails → ∃ t, exec (.hlTrainingFail h) s = .next t ∧ t.pending = s.pending ∧ t.dev.hlState h = 4 ∧ s.dev.onlyFields t.dev [(st, 0, 0)])) ∧
    (s.dev.hlState h = 3 → s.dev.boot.step = 14 →
      ((s.dev.hlHalf h).fails < 2 → exec (.hlTrainingFail h) s = .next (s.withDev (s.dev.setHlHalf h ({ s.dev.hlHalf h with fails := (s.dev.hlHalf h).fails + 1 } : HlHalf)))) ∧
      (2 ≤ (s.dev.hlHalf h).fails → exec (.hlTrainingFail h) s = .next (s.withDev (s.dev.hlFailover h 4)))) ∧
    (s.dev.hlState h = 1 → exec (.hlTrainingRetry h) s = .next (s.withDev (s.dev.setHlHalf h ({ s.dev.hlHalf h with retryWait := false } : HlHalf)))) ∧
    (s.dev.hlState h ≠ 1 → exec (.hlTrainingRetry h) s = .next s) ∧
    (s.dev.hlState h = 2 → ∃ t, exec (.hlRetrain h) s = .next t ∧ t.pending = s.pending ∧ t.dev.hlState h = 3 ∧ (t.dev.hlHalf h).retry = (s.dev.hlHalf h).retry ∧
      s.dev.onlyFields t.dev [(st, 0, 0)] ∧ s.dev.sameBytes t.dev) ∧
    (s.dev.hlState h ≠ 2 → exec (.hlRetrain h) s = .next s ∧ exec (.hlAckSend h) s = .next s ∧ ∀ f, exec (.hlFlitReceive h f) s = .next s) ∧
    (s.dev.hlState h = 2 → (∃ t, exec (.hlAckSend h) s = .next t ∧ t.pending = s.pending ∧ t.dev.out = s.dev.out ++ [.hlAck h (((s.dev.hlHalf h).rxSeq + 1023) % 1024) false] ∧
        t.dev.regs = s.dev.regs ∧ s.dev.sameBytes t.dev) ∧
      (∀ f : HlFlit, let v := s.dev.hlHalf h
        let late := fun (seq : Nat) => if 63 ≤ v.sinceAck then [.hlAck h seq false] else []
        (f.crcOk = true → f.kind = 1 ∨ f.kind = 2 → f.seq = v.rxSeq → ∃ t, exec (.hlFlitReceive h f) s = .next t ∧ t.pending = s.pending ∧
          (t.dev.hlHalf h).rxSeq = (v.rxSeq + 1) % 1024 ∧ (t.dev.hlHalf h).nakSent = false ∧ (t.dev.hlHalf h).crcRun = 0 ∧
          (bits (leAt f.bytes 64 2) 3 0 = 0 → (f.kind = 1 → f.badHeaders = []) → t.dev.out = s.dev.out ++ late (v.rxSeq % 1024) ∧ t.dev.regs = s.dev.regs)) ∧
        (f.crcOk = true → f.kind = 3 → ∃ t go, exec (.hlFlitReceive h f) s = .next t ∧ t.pending = s.pending ∧
          (t.dev.hlHalf h).retry = flitsAfter f.acked v.retry ++ go ∧ (v.wait = [] → go = []) ∧
          (f.nak = false → (t.dev.hlHalf h).nakRun = 0 ∧ t.dev.regs = s.dev.regs) ∧
          (f.nak = true → v.nakRun < 7 → t.dev.hlState h = 2 ∧ s.dev.onlyFields t.dev [(F.HL_RETRY_V, 0, h)])) ∧
        (f.crcOk = false → v.crcRun < 31 → ∃ t, exec (.hlFlitReceive h f) s = .next t ∧ t.pending = s.pending ∧ t.dev.hlState h = 2 ∧
          (t.dev.hlHalf h).crcRun = v.crcRun + 1 ∧ (t.dev.hlHalf h).rxSeq = v.rxSeq ∧ t.dev.out = s.dev.out ++
            (if v.nakSent then late ((v.rxSeq + 1023) % 1024) else [.hlAck h ((v.rxSeq + 1023) % 1024) true]) ∧ s.dev.onlyFields t.dev [(F.HL_CRC_ERR_V, 0, h)])))) ∧
  (∀ (s : State) (i : Instr) (r : HlHdr) (op mask want : Nat) (data : List Byte) (o : AccOp) (run : Bool) (len : Nat), r.half < 2 →
    (i, op, o, run, len, want) ∈ [(Instr.rdShared r, 1, AccOp.read 64, false, 0, 0), (.rdOwn r, 2, .read 64, false, 0, 0), (.rdOnce r, 3, .read (64 * r.lines), true, 0, 0),
      (.wrLine r data, 4, .write data, true, data.length, 64 * r.lines), (.wrMasked r mask data, 5, .masked (mask % 2 ^ 64) data, false, data.length, 64),
      (.wbDirty r data, 6, .write data, false, data.length, 64), (.wbClean r, 7, .read 0, false, 0, 0)] →
    (s.dev.hlState r.half ≠ 2 → exec i s = .next s) ∧
    (s.dev.hlState r.half = 2 →
      (r.badLine run len want = true → exec i s = .next (s.withDev ((s.dev.hlViolation 1).hlNack r 1))) ∧
      (r.badLine run len want = false →
        (2 ^ 40 ≤ r.addr ∨ 4096 < r.addr % 4096 + 64 * r.lines → exec i s = .next (s.withDev ((s.dev.hlViolation 2).hlNack r 2))) ∧
        (r.addr < 2 ^ 40 → r.addr % 4096 + 64 * r.lines ≤ 4096 →
          (s.dev.tagOpen r.tag = true → exec i s = .next (s.withDev ((s.dev.hlViolation 5).hlNack r 8))) ∧
          (s.dev.tagOpen r.tag = false → s.dev.get F.HL_STATUS_QUAR = 1 → op < 6 → exec i s = .next (s.withDev ((s.dev.count F.HL_QUAR_DROP_V).hlNack r 9))) ∧
          (s.dev.tagOpen r.tag = false → s.dev.get F.HL_STATUS_QUAR = 0 ∨ 6 ≤ op →
            (s.dev.get F.BOOT_STATUS_DAMPED = 1 → exec i s = .next (s.withDev (s.dev.mailRequest r op o))) ∧
            (s.dev.get F.BOOT_STATUS_DAMPED = 0 → bits r.addr 39 36 = 15 → op = 1 ∨ op = 2 → exec i s = .next (s.withDev ((s.dev.hlViolation 3).hlNack r 7))) ∧
            (s.dev.get F.BOOT_STATUS_DAMPED = 0 → bits r.addr 39 36 = 15 → op = 6 → exec i s = .next (s.withDev ((s.dev.hlViolation 4).hlNack r 6))) ∧
            (s.dev.get F.BOOT_STATUS_DAMPED = 0 → bits r.addr 39 36 = 15 → op = 7 → exec i s = .next (s.withDev (s.dev.hlSend r.half 0x21 r.tag r.addr 0 []))) ∧
            (s.dev.get F.BOOT_STATUS_DAMPED = 0 → bits r.addr 39 36 ≠ 15 ∨ op = 3 ∨ op = 4 ∨ op = 5 → exec i s = .next (s.withDev
              ((s.dev.openTag r).access (.companion r.half r.tag op) none 0 (s.dev.chip * 2 ^ 40 + r.addr) o).2.settle))))))) ∧
  (∀ (s : State) (i : Instr) (h tag reason code : Nat) (data got : List Byte), h < 2 → (i, code, got) ∈ [(Instr.rspData h tag data, 0, data), (.rspAck h tag, 0, []),
      (.nack h tag reason, if reason = 5 then stMemError else stLinkError, [])] →
    (s.dev.hlState h ≠ 2 → exec i s = .next s) ∧
    (s.dev.hlState h = 2 → (∀ r, s.dev.hlReqOf tag = some r → exec i s = .next (s.withDev (s.dev.hlReqEnds r code got))) ∧
      (s.dev.hlReqOf tag = none → exec i s = .next (s.withDev (s.dev.hlViolation 7))))) ∧
  (∀ (s : State) (h tag : Nat) (dirty : Bool) (data : List Byte), h < 2 → (s.dev.hlState h ≠ 2 → exec (.rspSnp h tag dirty data) s = .next s) ∧
    (∀ x, s.dev.hl.snoops.find? (fun (x : Snoop) => x.tag = tag) = some x →
      (s.dev.hlState h = 2 → exec (.rspSnp h tag dirty data) s = .next (s.withDev (s.dev.snoopDone x dirty (slice data 0 64)))) ∧
      (x.issued + 65536 * atLeast1 (s.dev.get F.HL_CTL_SNP_BEATS) ≤ s.dev.now → exec (.snoopTimeout tag) s = .next (s.withDev (s.dev.snoopFails x))) ∧
      (s.dev.now < x.issued + 65536 * atLeast1 (s.dev.get F.HL_CTL_SNP_BEATS) → exec (.snoopTimeout tag) s = .next s)) ∧
    (s.dev.hl.snoops.find? (fun (x : Snoop) => x.tag = tag) = none → exec (.snoopTimeout tag) s = .next s ∧
      (s.dev.hlState h = 2 → exec (.rspSnp h tag dirty data) s = .next (s.withDev (s.dev.hlViolation 7))))) ∧
  (∀ s : State, (s.dev.get F.HL_STATUS_QUAR = 1 → s.dev.hl.quarEnd ≤ s.dev.beat → ∃ t, exec .hlQuarantineEnd s = .next t ∧ t.pending = s.pending ∧
      t.dev.get F.HL_STATUS_QUAR = 0 ∧ t.dev = { s.dev with regs := t.dev.regs } ∧ s.dev.onlyFields t.dev [(F.HL_STATUS_QUAR, 0, 0)]) ∧
    (s.dev.get F.HL_STATUS_QUAR = 0 ∨ s.dev.beat < s.dev.hl.quarEnd → exec .hlQuarantineEnd s = .next s))

/-- RESET_RELEASE begins step 1. CHECKPOINT or LATCH_SAMPLE with an empty latch claims the start for the Q0 or the Q1 belfry, raises the start counter by one and goes to step 3, or to damped mode where it read 3 or more or the flash is unreadable. A failed step leaves STAGE FAILED with its REASON and a record in the flash; START_FAIL_RESET, BOOT_RESET, ENTER_DAMPED, CLEAR_RESET, RESET_N_ASSERT and RAIL_FAULT reset every register and keep the flash, ENTER_DAMPED with counter 3 and CLEAR_RESET with 0. LOAD_STAGE2 is accepted in step 11 only; STAGE2_FETCH_DONE ends it with a RESULT, and an accepted stage 2 runs; SERVICE_READY sets the counter to 0 and the device is ready. A damped command is accepted in damped mode one at a time, and ends with its RESULT. SEC_LOG_INDEX_WRITE shows its entry; QUOTE_GO takes the 128 bytes to sign and QUOTE_DONE ends the quote.
Rests on R458, R459, R462, R463, R464, R466, R468, R474, R475, R476, R478, R479. -/
def Obligations.StartStage2ResetsAndDampedMode : Prop :=
  (∀ (s : State) (env : StartEnv), (s.dev.boot.step = 0 → exec (.resetRelease env) s = .next (s.withDev { s.dev with boot := { s.dev.boot with env := env, latch := 0, resetN := true, step := 1 } })) ∧
    (s.dev.boot.step ≠ 0 → exec (.resetRelease env) s = .next s)) ∧
  (∀ (s : State) (i : Instr) (l a : Nat), (i, l, a) ∈ [(Instr.checkpoint, 1, 0), (.latchSample, 2, 1)] →
    (s.dev.boot.step = 1 → s.dev.boot.latch = 0 → s.dev.boot.env.rom0 = true → s.dev.boot.env.rom1 = true → s.dev.qualified = none → ∃ t, exec i s = .next t ∧ t.pending = s.pending ∧
      t.dev.boot.latch = l ∧ t.dev.get F.BOOT_STATUS_ACTIVE = a ∧ s.dev.sameBytes t.dev ∧
      (s.dev.boot.flash.readable = true → s.dev.boot.flash.value < 3 → t.dev.boot.step = 3 ∧ t.dev.get F.BOOT_COUNT_READ = s.dev.boot.flash.value ∧
        t.dev.get F.BOOT_COUNT_WRITTEN = s.dev.boot.flash.value + 1 ∧ t.dev.boot.flash.value = s.dev.boot.flash.value + 1 ∧ t.dev.get F.BOOT_STATUS_STAGE = 1) ∧
      (s.dev.boot.flash.readable = true → 3 ≤ s.dev.boot.flash.value → t.dev.boot.step = 16 ∧ t.dev.get F.BOOT_STATUS_DAMPED = 1 ∧
        t.dev.get F.BOOT_STATUS_REASON = if s.dev.boot.asked then 0x0C else 0x0B) ∧
      (s.dev.boot.flash.readable = false → t.dev.boot.step = 16 ∧ t.dev.get F.BOOT_STATUS_DAMPED = 1 ∧ t.dev.get F.BOOT_STATUS_REASON = 0x02 ∧ t.dev.boot.flash = s.dev.boot.flash)) ∧
    (s.dev.boot.step ≠ 1 ∨ s.dev.boot.latch ≠ 0 → exec i s = .next s)) ∧
  (∀ (s : State) (step : Nat), (s.dev.stepInHand step = true → ∃ t, exec (.startStepTimeout step) s = .next t ∧ t.pending = s.pending ∧ t.dev.boot.step = 15 ∧
      t.dev.get F.BOOT_STATUS_STAGE = 7 ∧ t.dev.get F.BOOT_STATUS_REASON = stepReason step ∧ t.dev.boot.flash.failSeq = (s.dev.boot.flash.failSeq + 1) % 2 ^ 32 ∧
      s.dev.sameBytes t.dev ∧ s.dev.onlyFields t.dev [(F.BOOT_STATUS_STAGE, 0, 0), (F.BOOT_STATUS_REASON, 0, 0)]) ∧
    (s.dev.stepInHand step = false → exec (.startStepTimeout step) s = .next s) ∧ (s.dev.boot.step ≠ 15 → exec .startFailReset s = .next s)) ∧
  (∀ (s : State) (i : Instr) (f : Flash), (i = .startFailReset ∧ s.dev.boot.step = 15 ∧ f = s.dev.boot.flash) ∨ (i = .bootReset ∧ f = s.dev.boot.flash) ∨
      (i = .enterDamped ∧ f = s.dev.boot.flash.append 3) ∨ (i = .clearReset ∧ s.dev.dampedAccepts 7 = true ∧ f = s.dev.boot.flash.append 0) ∨
      (i = .resetNAssert none ∧ f = s.dev.boot.flash) ∨ i = .resetNAssert (some f) ∨ (i = .railFault ∧ f = s.dev.boot.flash) →
    ∃ t, exec i s = .next t ∧ t.pending = s.pending ∧ (∀ (r : Reg) (u k : Nat), t.dev.reg r u k = r.rst) ∧ t.dev.boot.flash = f ∧ t.dev.boot.step = 0 ∧ t.dev.cores = [] ∧
      t.dev.mem.hbm = [] ∧ t.dev.mem.scratch = [] ∧ (i = .enterDamped → t.dev.boot.asked = true) ∧ (i = .railFault → t.dev.boot.asked = false) ∧
      (i = .resetNAssert none ∨ i = .railFault → t.dev.out = s.dev.out ++ [.regulator 0])) ∧
  (∀ s : State,
    (s.dev.boot.step = 11 → s.dev.get F.BOOT_STATUS_BUSY = 0 →
      (s.dev.get F.BOOT_ARG_V % 4096 = 0 → ∃ t, exec .loadStage2 s = .next t ∧ t.pending = s.pending ∧ t.dev.get F.BOOT_STATUS_BUSY = 1 ∧
        t.dev.boot.s2addr = s.dev.get F.BOOT_ARG_V ∧ t.dev.boot.s2len = s.dev.get F.BOOT_LEN_BYTES ∧ s.dev.onlyFields t.dev [(F.BOOT_STATUS_BUSY, 0, 0)]) ∧
      (s.dev.get F.BOOT_ARG_V % 4096 ≠ 0 → exec .loadStage2 s = .next (s.withDev (s.dev.bootResult 9)))) ∧
    (s.dev.boot.step ≠ 11 ∨ s.dev.get F.BOOT_STATUS_BUSY = 1 → exec .loadStage2 s = .next (s.withDev (s.dev.putD F.BOOT_STATUS_CMD_REFUSED 1))) ∧
    (s.dev.boot.step = 11 → s.dev.get F.BOOT_STATUS_BUSY = 1 → ∀ bytes, exec (.stage2FetchDone bytes true) s = .next (s.withDev (s.dev.bootResult 5)) ∧
      (s.dev.boot.s2len ≤ 2097152 → 64 + sigLen ≤ s.dev.boot.s2len → let r := fwCheck (bytes.take s.dev.boot.s2len) magicS2 (some 2) 2097152
        (r ≠ 0 → exec (.stage2FetchDone bytes false) s = .next (s.withDev (s.dev.bootResult r))) ∧
        (r = 0 → ∃ t, exec (.stage2FetchDone bytes false) s = .next t ∧ t.pending = s.pending ∧ t.dev.boot.step = 13 ∧ t.dev.get F.BOOT_STATUS_STAGE = 5 ∧
          t.dev.get F.BOOT_STATUS_RESULT = 0 ∧ t.dev.get F.BOOT_STATUS_BUSY = 0 ∧ t.dev.get F.BOOT_S2_VERSION_V = leAt bytes 8 4 ∧ t.dev.boot.count = s.dev.boot.count + 1))) ∧
    (s.dev.boot.step ≠ 11 → ∀ bytes err, exec (.stage2FetchDone bytes err) s = .next s) ∧
    (s.dev.boot.step = 13 → ∃ t, exec .serviceReady s = .next t ∧ t.pending = s.pending ∧ t.dev.boot.step = 14 ∧ t.dev.get F.BOOT_STATUS_STAGE = 6 ∧
      t.dev.boot.flash = s.dev.boot.flash.append 0 ∧ s.dev.onlyFields t.dev [(F.BOOT_STATUS_STAGE, 0, 0)] ∧ s.dev.sameBytes t.dev) ∧
    (s.dev.boot.step ≠ 13 → exec .serviceReady s = .next s)) ∧
  (∀ (f : Flash) (v : Nat), f.readable = true → (f.append v).value = v ∧ (f.used + 16 ≤ 4096 → (f.append v).sector = f.sector ∧ (f.append v).used = f.used + 16) ∧
    (4096 < f.used + 16 → (f.append v).sector = 1 - f.sector ∧ (f.append v).used = 16)) ∧
  (∀ (s : State) (i : Instr) (op region : Nat), (i, op, region) ∈ [(Instr.flashWrite region, 4, region), (.readout, 5, 0), (.diag, 6, 0)] →
    (s.dev.dampedAccepts op = true → ∃ t, exec i s = .next t ∧ t.pending = s.pending ∧ t.dev.boot.damped = some (op, region) ∧ t.dev.get F.BOOT_STATUS_BUSY = 1 ∧
      s.dev.onlyFields t.dev [(F.BOOT_STATUS_BUSY, 0, 0)] ∧ s.dev.sameBytes t.dev) ∧
    (s.dev.dampedAccepts op = false → exec i s = .next (s.withDev (s.dev.putD F.BOOT_STATUS_CMD_REFUSED 1)))) ∧
  (∀ s : State, s.dev.dampedAccepts 7 = false → exec .clearReset s = .next (s.withDev (s.dev.putD F.BOOT_STATUS_CMD_REFUSED 1))) ∧
  (∀ (s : State) (err : Bool) (bs : List Byte), let d := ({ s.dev with boot := { s.dev.boot with damped := none } } : Dev)
    let off := s.dev.get F.BOOT_ARG_V
    let n := s.dev.get F.BOOT_LEN_BYTES
    (s.dev.boot.damped = none → exec (.dampedCommandDone err bs) s = .next s) ∧
    (∀ g, s.dev.boot.damped = some (4, g) →
      (g = 0 ∨ 4 < g → exec (.dampedCommandDone err bs) s = .next (s.withDev (d.bootResult 7))) ∧
      (1 ≤ g → g ≤ 4 → off % 4096 ≠ 0 ∨ 0x300000 < off + n → exec (.dampedCommandDone err bs) s = .next (s.withDev (d.bootResult 9))) ∧
      (1 ≤ g → g ≤ 4 → off % 4096 = 0 → off + n ≤ 0x300000 → d.regionCheck g (d.mailRead off n) = 0 → err = false → ∃ t, exec (.dampedCommandDone err bs) s = .next t ∧
        t.pending = s.pending ∧ t.dev.boot.flash = s.dev.boot.flash.program g (d.mailRead off n) ∧ t.dev.get F.BOOT_STATUS_RESULT = 0 ∧ t.dev.get F.BOOT_STATUS_BUSY = 0 ∧
        s.dev.sameBytes t.dev)) ∧
    (∀ op g out, (op = 5 ∧ out = d.readoutBytes) ∨ (op = 6 ∧ out = bs) → s.dev.boot.damped = some (op, g) → off + out.length ≤ 0x300000 →
      ∃ t, exec (.dampedCommandDone err bs) s = .next t ∧ t.pending = s.pending ∧ t.dev.mailRead off out.length = out ∧ t.dev.get F.BOOT_STATUS_RESULT = 0 ∧
        t.dev.get F.BOOT_STATUS_DONE = 1 ∧ t.dev.boot.damped = none)) ∧
  (∀ s : State, (∀ i, ∃ t, exec (.secLogIndexWrite i) s = .next t ∧ t.pending = s.pending ∧ t.dev.get F.SEC_LOG_INDEX_V = i % 2 ^ 64 ∧ t.dev = { s.dev with regs := t.dev.regs } ∧
      (s.dev.boot.count < i % 2 ^ 64 → s.dev.boot.log.length ≤ s.dev.boot.count → t.dev.get F.SEC_QUOTE_CTL_GONE = 1) ∧
      (∀ e, i % 2 ^ 64 = s.dev.boot.count → s.dev.boot.count ≠ 0 → s.dev.boot.log.length ≤ s.dev.boot.count → s.dev.boot.log.getLast? = some e →
        ∀ k, k < 32 → t.dev.get F.SEC_LOG_ENTRY_V 0 k = leAt e (4 * k) 4)) ∧
    (s.dev.get F.SEC_QUOTE_CTL_BUSY = 0 → s.dev.get F.SEC_ID_STATUS_READY = 1 → ∃ t, exec .quoteGo s = .next t ∧ t.pending = s.pending ∧ t.dev.boot.quote = s.dev.quoteHead ∧
      t.dev.get F.SEC_QUOTE_CTL_BUSY = 1 ∧ s.dev.onlyFields t.dev [(F.SEC_QUOTE_CTL_BUSY, 0, 0)] ∧ s.dev.sameBytes t.dev) ∧
    (s.dev.get F.SEC_QUOTE_CTL_BUSY = 1 ∨ s.dev.get F.SEC_ID_STATUS_READY = 0 → exec .quoteGo s = .next (s.withDev (s.dev.putD F.SEC_QUOTE_CTL_REFUSED 1))) ∧
    (s.dev.get F.SEC_QUOTE_CTL_BUSY = 1 → ∃ t, exec .quoteDone s = .next t ∧ t.pending = s.pending ∧ t.dev.boot.quote = [] ∧ t.dev.get F.SEC_QUOTE_CTL_BUSY = 0 ∧
      t.dev.get F.SEC_QUOTE_CTL_DONE = 1) ∧
    (s.dev.get F.SEC_QUOTE_CTL_BUSY = 0 → exec .quoteDone s = .next s))
end

