-- ==== Sys2Proof/Laws/Maps.lean ====
section
/-!
SUPPORT. Sys2Proof/Laws/Maps.lean: sparse maps and byte memories: a read after a write, and that every write keeps the canonical form.
-/

namespace Sys2Proof.Machine

variable {α : Type}

theorem mget_merase_same (dflt : α) (m : List (Nat × α)) (k : Nat) : mget dflt (merase m k) k = dflt := by
  induction m with
  | nil => rfl
  | cons e m ih =>
    by_cases h : e.1 = k
    · simpa [merase, h] using ih
    · have : merase (e :: m) k = e :: merase m k := by simp [merase, h]
      rw [this]; simpa [mget, h] using ih

theorem mget_merase_other (dflt : α) (m : List (Nat × α)) (k j : Nat) (h : j ≠ k) :
    mget dflt (merase m k) j = mget dflt m j := by
  induction m with
  | nil => rfl
  | cons e m ih =>
    by_cases h' : e.1 = k
    · have : merase (e :: m) k = merase m k := by simp [merase, h']
      rw [this, ih]; simp [mget, h', Ne.symm h]
    · have : merase (e :: m) k = e :: merase m k := by simp [merase, h']
      rw [this]; simp only [mget]; rw [ih]

theorem mget_minsert_same (dflt : α) (m : List (Nat × α)) (k : Nat) (v : α) (h : ∀ e ∈ m, e.1 ≠ k) :
    mget dflt (minsert m k v) k = v := by
  induction m with
  | nil => simp [minsert, mget]
  | cons e m ih =>
    have h1 := h e (by simp)
    have h2 := ih (fun e' he => h e' (by simp [he]))
    by_cases hk : k < e.1
    · simp [minsert, hk, mget]
    · simp [minsert, hk, mget, h1, h2]

theorem mget_minsert_other (dflt : α) (m : List (Nat × α)) (k j : Nat) (v : α) (h : j ≠ k) :
    mget dflt (minsert m k v) j = mget dflt m j := by
  induction m with
  | nil => simp [minsert, mget, Ne.symm h]
  | cons e m ih =>
    by_cases hk : k < e.1
    · simp [minsert, hk, mget, Ne.symm h]
    · simp only [minsert, hk, if_false, mget, ih]

theorem merase_ne (m : List (Nat × α)) (k : Nat) : ∀ e ∈ merase m k, e.1 ≠ k := by
  intro e he; simpa using (List.mem_filter.mp he).2

variable [DecidableEq α]

/-- A read of the key just written gives what was written. -/
@[simp] theorem mget_mset_same (dflt : α) (m : List (Nat × α)) (k : Nat) (v : α) : mget dflt (mset dflt m k v) k = v := by
  unfold mset; split
  · next h => rw [mget_merase_same, h]
  · exact mget_minsert_same _ _ _ _ (merase_ne m k)

/-- A write of one key leaves every other key, whatever their defaults. -/
theorem mget_mset_other (dflt dflt' : α) (m : List (Nat × α)) (k j : Nat) (v : α) (h : j ≠ k) :
    mget dflt (mset dflt' m k v) j = mget dflt m j := by
  unfold mset; split
  · exact mget_merase_other _ _ _ _ h
  · rw [mget_minsert_other _ _ _ _ _ h, mget_merase_other _ _ _ _ h]

/-! ### The canonical form -/

/-- Keys strictly rising from a bound, each entry allowed by a test of its own: what `mwfFrom` and `mwfMem` are cases of. -/
def rising (ok : Nat → α → Bool) : Nat → List (Nat × α) → Bool
  | _, [] => true
  | lo, (k, v) :: m => decide (lo ≤ k) && ok k v && rising ok (k + 1) m

theorem mwfFrom_rising (dflt : α) (lo : Nat) (m : List (Nat × α)) :
    mwfFrom dflt lo m = rising (fun _ v => decide (v ≠ dflt)) lo m := by
  induction m generalizing lo with
  | nil => rfl
  | cons e m ih => simp only [mwfFrom, rising, ih]

omit [DecidableEq α] in
theorem rising_mono (ok : Nat → α → Bool) {lo lo' : Nat} (h : lo' ≤ lo) : ∀ {m : List (Nat × α)}, rising ok lo m = true → rising ok lo' m = true
  | [], _ => rfl
  | (k, v) :: m, hm => by
    simp only [rising, Bool.and_eq_true, decide_eq_true_eq] at hm ⊢
    exact ⟨⟨by omega, hm.1.2⟩, hm.2⟩

omit [DecidableEq α] in
theorem rising_merase (ok : Nat → α → Bool) (j : Nat) : ∀ {lo : Nat} {m : List (Nat × α)}, rising ok lo m = true → rising ok lo (merase m j) = true
  | _, [], _ => rfl
  | lo, (k, v) :: m, hm => by
    have hm' := hm
    simp only [rising, Bool.and_eq_true, decide_eq_true_eq] at hm'
    by_cases h : k = j
    · have : merase ((k, v) :: m) j = merase m j := by simp [merase, h]
      rw [this]
      exact rising_mono ok (by omega) (rising_merase ok j hm'.2)
    · have : merase ((k, v) :: m) j = (k, v) :: merase m j := by simp [merase, h]
      rw [this]
      simp only [rising, Bool.and_eq_true, decide_eq_true_eq]
      exact ⟨hm'.1, rising_merase ok j hm'.2⟩

omit [DecidableEq α] in
theorem rising_minsert (ok : Nat → α → Bool) (j : Nat) (w : α) (hw : ok j w = true) :
    ∀ {lo : Nat} {m : List (Nat × α)}, lo ≤ j → (∀ e ∈ m, e.1 ≠ j) → rising ok lo m = true → rising ok lo (minsert m j w) = true
  | lo, [], hl, _, _ => by simp [minsert, rising, hl, hw]
  | lo, (k, v) :: m, hl, hne, hm => by
    simp only [rising, Bool.and_eq_true, decide_eq_true_eq] at hm
    by_cases h : j < k
    · simp only [minsert, h, if_true, rising, Bool.and_eq_true, decide_eq_true_eq]
      exact ⟨⟨hl, hw⟩, ⟨by omega, hm.1.2⟩, hm.2⟩
    · simp only [minsert, h, if_false, rising, Bool.and_eq_true, decide_eq_true_eq]
      have := hne (k, v) (by simp)
      simp only at this
      exact ⟨hm.1, rising_minsert ok j w hw (by omega) (fun e he => hne e (by simp [he])) hm.2⟩

/-- A write keeps keys rising and entries allowed, where a value other than the default is allowed. -/
theorem rising_mset (ok : Nat → α → Bool) (dflt : α) (m : List (Nat × α)) (k : Nat) (v : α) (hv : v ≠ dflt → ok k v = true)
    (h : rising ok 0 m = true) : rising ok 0 (mset dflt m k v) = true := by
  unfold mset; split
  · exact rising_merase ok k h
  · next hd => exact rising_minsert ok k v (hv hd) (by omega) (merase_ne m k) (rising_merase ok k h)

/-- A write keeps a sparse map canonical. -/
theorem mset_wf (dflt : α) (m : List (Nat × α)) (k : Nat) (v : α) (h : mwf dflt m = true) : mwf dflt (mset dflt m k v) = true := by
  unfold mwf at *; rw [mwfFrom_rising] at *
  exact rising_mset _ dflt m k v (fun hv => by simp [hv]) h

/-! ### Byte memory -/

theorem mwfMem_rising (space lo : Nat) (m : List Host.Cell) :
    mwfMem space lo m = rising (fun a v => decide (v ≠ Mem.init space a)) lo m := by
  induction m generalizing lo with
  | nil => rfl
  | cons e m ih => simp only [mwfMem, rising, ih]

@[simp] theorem bread_bwrite_same (space : Nat) (m : List Host.Cell) (a : Nat) (v : Byte) : bread space (bwrite space m a v) a = v := by
  simp [bread, bwrite]

theorem bread_bwrite_other (space space' : Nat) (m : List Host.Cell) (a b : Nat) (v : Byte) (h : b ≠ a) :
    bread space (bwrite space' m a v) b = bread space m b := mget_mset_other _ _ _ _ _ _ h

/-- A byte write keeps a memory canonical. -/
theorem bwrite_wf (space : Nat) (m : List Host.Cell) (a : Nat) (v : Byte) (h : Memory.wf space m = true) :
    Memory.wf space (bwrite space m a v) = true := by
  unfold Memory.wf at *; rw [mwfMem_rising] at *
  exact rising_mset _ _ m a v (fun hv => by simp [hv]) h

/-- A write of bytes keeps a memory canonical. -/
theorem bwriteN_wf (space : Nat) (bs : List Byte) : ∀ (m : List Host.Cell) (a : Nat), Memory.wf space m = true →
    Memory.wf space (bwriteN space m a bs) = true := by
  induction bs with
  | nil => intro m a h; exact h
  | cons v bs ih => intro m a h; exact ih _ _ (bwrite_wf space m a v h)

/-- A write of bytes leaves every byte outside them. -/
theorem bread_bwriteN_outside (space : Nat) (bs : List Byte) : ∀ (m : List Host.Cell) (a b : Nat), b < a ∨ a + bs.length ≤ b →
    bread space (bwriteN space m a bs) b = bread space m b := by
  induction bs with
  | nil => intro m a b _; rfl
  | cons v bs ih =>
    intro m a b h
    simp only [List.length_cons] at h
    simp only [bwriteN]
    rw [ih _ _ _ (by omega), bread_bwrite_other _ _ _ _ _ _ (by omega)]

/-- A write of bytes puts byte i at the i-th address. -/
theorem bread_bwriteN_inside (space : Nat) (bs : List Byte) : ∀ (m : List Host.Cell) (a i : Nat) (h : i < bs.length),
    bread space (bwriteN space m a bs) (a + i) = bs[i] := by
  induction bs with
  | nil => intro m a i h; exact absurd h (by simp)
  | cons v bs ih =>
    intro m a i h
    cases i with
    | zero =>
      simp only [bwriteN, Nat.add_zero, List.getElem_cons_zero]
      rw [bread_bwriteN_outside _ _ _ _ _ (by omega), bread_bwrite_same]
    | succ i =>
      simp only [bwriteN, List.getElem_cons_succ]
      rw [show a + (i + 1) = (a + 1) + i by omega]
      exact ih _ _ _ _

/-- A read of the bytes just written gives them back. -/
theorem breadN_bwriteN (space : Nat) (m : List Host.Cell) (a : Nat) (bs : List Byte) :
    breadN space (bwriteN space m a bs) a bs.length = bs := by
  have key : ∀ (n b : Nat) (m' : List Host.Cell) (l : List Byte) (hn : l.length = n),
      (∀ i (h : i < l.length), bread space m' (b + i) = l[i]) → breadN space m' b n = l := by
    intro n
    induction n with
    | zero => intro b m' l hn _; simp [breadN, List.length_eq_zero_iff.mp hn]
    | succ n ih =>
      intro b m' l hn h
      match l, hn, h with
      | x :: l, hn, h =>
        simp only [breadN]
        have h0 := h 0 (by simp)
        simp only [Nat.add_zero, List.getElem_cons_zero] at h0
        rw [h0, ih (b + 1) m' l (by simpa using hn) (fun i hi => by
          have := h (i + 1) (by simpa using hi)
          simpa [Nat.add_assoc, Nat.add_comm 1 i] using this)]
  exact key _ _ _ _ rfl (fun i h => bread_bwriteN_inside space bs m a i h)

end Sys2Proof.Machine
end

