-- ==== Sys2Proof/Laws/Registers.lean ====
section
/-!
SUPPORT. Sys2Proof/Laws/Registers.lean: a register field after a write: the field written, the other fields of its register, and every other register.
-/

namespace Sys2Proof.Machine

/-- A field that lies in a register. -/
def Fld.fits (f : Fld) : Bool := decide (f.lo ≤ f.hi) && decide (f.hi < 256)

theorem testBit_bits (v hi lo i : Nat) : (bits v hi lo).testBit i = (decide (i < hi - lo + 1) && v.testBit (lo + i)) := by
  simp [bits, Nat.testBit_mod_two_pow, Nat.testBit_shiftRight]

theorem getLsbD_maskOf (hi lo i : Nat) (h : lo ≤ hi) : (maskOf hi lo).getLsbD i = (decide (i < 256) && decide (lo ≤ i) && decide (i ≤ hi)) := by
  unfold maskOf
  rw [BitVec.getLsbD_ofNat, Nat.testBit_mul_two_pow, Nat.testBit_two_pow_sub_one, Bool.and_assoc]
  congr 1
  by_cases hl : lo ≤ i
  · simp [hl]; omega
  · simp [hl]

/-- The contents that `Dev.put` stores. -/
def Fld.over (f : Fld) (v : RegVal) (n : Nat) : RegVal :=
  (v &&& ~~~maskOf f.hi f.lo) ||| (BitVec.ofNat 256 (n * 2 ^ f.lo) &&& maskOf f.hi f.lo)

theorem Dev.put_eq (d : Dev) (f : Fld) (u i n : Nat) : d.put f u i n = d.setReg f.reg u i (f.over (d.reg f.reg u i) n) := rfl

theorem Fld.over_getLsbD (f : Fld) (v : RegVal) (n i : Nat) (h : f.lo ≤ f.hi) (hi : i < 256) :
    (f.over v n).getLsbD i = if f.lo ≤ i ∧ i ≤ f.hi then n.testBit (i - f.lo) else v.getLsbD i := by
  simp only [Fld.over, BitVec.getLsbD_or, BitVec.getLsbD_and, BitVec.getLsbD_not, getLsbD_maskOf _ _ _ h, BitVec.getLsbD_ofNat, Nat.testBit_mul_two_pow,
    hi, decide_true, Bool.true_and]
  by_cases h1 : f.lo ≤ i
  · by_cases h2 : i ≤ f.hi <;> simp [h1, h2]
  · simp [h1]

theorem Fld.over_same (f : Fld) (v : RegVal) (n : Nat) (h : f.fits = true) :
    bits (f.over v n).toNat f.hi f.lo = n % 2 ^ (f.hi - f.lo + 1) := by
  simp only [Fld.fits, Bool.and_eq_true, decide_eq_true_eq] at h
  apply Nat.eq_of_testBit_eq
  intro i
  rw [testBit_bits, Nat.testBit_mod_two_pow, BitVec.testBit_toNat]
  by_cases hi : i < f.hi - f.lo + 1
  · rw [Fld.over_getLsbD f v n _ h.1 (by omega), if_pos (by omega), Nat.add_sub_cancel_left]
  · simp [hi]

theorem Fld.over_other (f g : Fld) (v : RegVal) (n : Nat) (hf : f.fits = true) (hg : g.lo ≤ g.hi) (h : f.hi < g.lo ∨ g.hi < f.lo) :
    bits (f.over v n).toNat g.hi g.lo = bits v.toNat g.hi g.lo := by
  simp only [Fld.fits, Bool.and_eq_true, decide_eq_true_eq] at hf
  apply Nat.eq_of_testBit_eq
  intro i
  rw [testBit_bits, testBit_bits, BitVec.testBit_toNat, BitVec.testBit_toNat]
  by_cases hi : i < g.hi - g.lo + 1
  · by_cases h2 : g.lo + i < 256
    · rw [Fld.over_getLsbD f v n _ hf.1 h2, if_neg (by omega)]
    · rw [BitVec.getLsbD_of_ge _ _ (by omega), BitVec.getLsbD_of_ge _ _ (by omega)]
  · simp [hi]

/-- A write of a field, then a read of it: the value, modulo the field's width. -/
theorem Dev.get_put_same (d : Dev) (f : Fld) (u i n : Nat) (h : f.fits = true) :
    (d.put f u i n).get f u i = n % 2 ^ (f.hi - f.lo + 1) := by
  rw [Dev.put_eq]
  simp only [Dev.get, Dev.reg, Dev.setReg, mget_mset_same]
  exact Fld.over_same f _ n h

/-- A write of a field leaves every register at another address. -/
theorem Dev.get_put_addr (d : Dev) (f g : Fld) (u i u' i' n : Nat) (h : g.reg.addr u' i' ≠ f.reg.addr u i) :
    (d.put f u i n).get g u' i' = d.get g u' i' := by
  rw [Dev.put_eq]
  simp only [Dev.get, Dev.reg, Dev.setReg]
  rw [mget_mset_other _ _ _ _ _ _ h]

/-- A write of a field leaves the other fields of its register. -/
theorem Dev.get_put_field (d : Dev) (f g : Fld) (u i n : Nat) (hr : g.reg = f.reg) (hf : f.fits = true) (hg : g.lo ≤ g.hi)
    (h : f.hi < g.lo ∨ g.hi < f.lo) : (d.put f u i n).get g u i = d.get g u i := by
  rw [Dev.put_eq]
  simp only [Dev.get, Dev.reg, Dev.setReg, hr, mget_mset_same]
  exact Fld.over_other f g _ n hf hg h

/-- A device-wide field after a write of it. -/
theorem Dev.get_putD_same (d : Dev) (f : Fld) (n : Nat) (h : f.fits = true) :
    (d.putD f n).get f = n % 2 ^ (f.hi - f.lo + 1) := d.get_put_same f 0 0 n h

/-- A device-wide field after a write of a field of another register. -/
theorem Dev.get_putD_addr (d : Dev) (f g : Fld) (u' i' n : Nat) (h : g.reg.addr u' i' ≠ f.reg.addr 0 0) :
    (d.putD f n).get g u' i' = d.get g u' i' := d.get_put_addr f g 0 0 u' i' n h

/-- A device-wide field after a write of another field of its register. -/
theorem Dev.get_putD_field (d : Dev) (f g : Fld) (n : Nat) (hr : g.reg = f.reg) (hf : f.fits = true) (hg : g.lo ≤ g.hi)
    (h : f.hi < g.lo ∨ g.hi < f.lo) : (d.putD f n).get g = d.get g := d.get_put_field f g 0 0 n hr hf hg h

/-- A read depends on the registers alone. -/
theorem Dev.get_regs {d d' : Dev} (h : d'.regs = d.regs) (f : Fld) (u i : Nat) : d'.get f u i = d.get f u i := by
  simp only [Dev.get, Dev.reg, h]

end Sys2Proof.Machine
end

