-- ==== Sys2Proof/Laws/Frames.lean ====
section
/-!
SUPPORT. Sys2Proof/Laws/Frames.lean: frames of the register operations, and how they compose.
-/

namespace Sys2Proof.Machine

theorem Dev.onlyFields_refl (d : Dev) (fs : List (Fld × Nat × Nat)) : d.onlyFields d fs := fun _ _ _ _ _ => rfl

theorem Dev.onlyFields_regs {d e : Dev} (h : e.regs = d.regs) (fs : List (Fld × Nat × Nat)) : d.onlyFields e fs :=
  fun g u i _ _ => Dev.get_regs h g u i

theorem Dev.onlyFields_trans {d e f : Dev} {fs gs : List (Fld × Nat × Nat)} (h : d.onlyFields e fs) (h' : e.onlyFields f gs) :
    d.onlyFields f (fs ++ gs) := fun g u i hg hx =>
  (h' g u i hg (fun x m => hx x (List.mem_append_right _ m))).trans (h g u i hg (fun x m => hx x (List.mem_append_left _ m)))

theorem Dev.onlyFields_mono {d e : Dev} {fs gs : List (Fld × Nat × Nat)} (h : d.onlyFields e fs) (hs : ∀ x ∈ fs, x ∈ gs) : d.onlyFields e gs :=
  fun g u i hg hx => h g u i hg (fun x m => hx x (hs x m))

/-- A register just set reads as it was set, through any name of its address. -/
theorem Dev.reg_setReg_at (d : Dev) (r : Reg) (u i u' i' : Nat) (v : RegVal) (h : r.addr u' i' = r.addr u i) :
    (d.setReg r u i v).reg r u' i' = v := by
  unfold Dev.reg Dev.setReg; rw [h]; exact mget_mset_same _ _ _ _

theorem Dev.reg_at (d : Dev) (r : Reg) (u i u' i' : Nat) (h : r.addr u' i' = r.addr u i) : d.reg r u' i' = d.reg r u i := by
  unfold Dev.reg; rw [h]

/-- A write of a field changes that field alone. -/
theorem Dev.onlyFields_put (d : Dev) (f : Fld) (u i n : Nat) (h : f.fits = true) : d.onlyFields (d.put f u i n) [(f, u, i)] := by
  intro g u' i' hg hx
  have hx : g.reg.addr u' i' ≠ f.reg.addr u i ∨ (g.reg = f.reg ∧ (f.hi < g.lo ∨ g.hi < f.lo)) := hx _ (List.mem_singleton.mpr rfl)
  by_cases ha : g.reg.addr u' i' = f.reg.addr u i
  · rcases hx with hx | ⟨hr, hb⟩
    · exact absurd ha hx
    · have ha' : f.reg.addr u' i' = f.reg.addr u i := hr ▸ ha
      have e1 : (d.put f u i n).get g u' i' = bits (f.over (d.reg f.reg u i) n).toNat g.hi g.lo := by
        rw [Dev.put_eq]; unfold Dev.get; rw [hr, Dev.reg_setReg_at _ _ _ _ _ _ _ ha']
      have e2 : d.get g u' i' = bits (d.reg f.reg u i).toNat g.hi g.lo := by
        unfold Dev.get; rw [hr, Dev.reg_at _ _ _ _ _ _ ha']
      rw [e1, e2]
      exact Fld.over_other f g _ n h hg hb
  · exact Dev.get_put_addr d f g u i u' i' n ha

theorem Dev.onlyFields_putD (d : Dev) (f : Fld) (n : Nat) (h : f.fits = true) : d.onlyFields (d.putD f n) [(f, 0, 0)] :=
  d.onlyFields_put f 0 0 n h

theorem Dev.onlyFields_count (d : Dev) (f : Fld) (u i n : Nat) (h : f.fits = true) : d.onlyFields (d.count f u i n) [(f, u, i)] :=
  d.onlyFields_put f u i _ h

/-- One more field written after a frame. -/
theorem Dev.onlyFields_then {d e : Dev} {fs : List (Fld × Nat × Nat)} (h : d.onlyFields e fs) (f : Fld) (u i n : Nat) (hf : f.fits = true) :
    d.onlyFields (e.put f u i n) (fs ++ [(f, u, i)]) := Dev.onlyFields_trans h (e.onlyFields_put f u i n hf)

/-- Memory reads depend on the memories alone. -/
theorem Dev.sameBytes_of {d e : Dev} (hm : e.mem = d.mem) (hc : e.cores = d.cores) : d.sameBytes e := by
  intro p
  cases p <;> simp only [Dev.byteAt, Dev.scratchSpace, Dev.core, hm, hc]

end Sys2Proof.Machine
end

