-- ==== Sys2Proof/Laws/State.lean ====
section
/-!
SUPPORT. Sys2Proof/Laws/State.lean: one lemma per component and per named update of the device: an update leaves every component it does not name.
-/

namespace Sys2Proof.Machine

@[simp] theorem Dev.setReg_free (d : Dev) (r : Reg) (u i : Nat) (v : RegVal) : (d.setReg r u i v).free = d.free := rfl
@[simp] theorem Dev.setReg_out (d : Dev) (r : Reg) (u i : Nat) (v : RegVal) : (d.setReg r u i v).out = d.out := rfl
@[simp] theorem Dev.setReg_img (d : Dev) (r : Reg) (u i : Nat) (v : RegVal) : (d.setReg r u i v).img = d.img := rfl
@[simp] theorem Dev.setReg_clk (d : Dev) (r : Reg) (u i : Nat) (v : RegVal) : (d.setReg r u i v).clk = d.clk := rfl
@[simp] theorem Dev.setReg_pat (d : Dev) (r : Reg) (u i : Nat) (v : RegVal) : (d.setReg r u i v).pat = d.pat := rfl
@[simp] theorem Dev.setReg_fab (d : Dev) (r : Reg) (u i : Nat) (v : RegVal) : (d.setReg r u i v).fab = d.fab := rfl
@[simp] theorem Dev.setReg_flt (d : Dev) (r : Reg) (u i : Nat) (v : RegVal) : (d.setReg r u i v).flt = d.flt := rfl
@[simp] theorem Dev.setReg_hl (d : Dev) (r : Reg) (u i : Nat) (v : RegVal) : (d.setReg r u i v).hl = d.hl := rfl
@[simp] theorem Dev.setReg_mem (d : Dev) (r : Reg) (u i : Nat) (v : RegVal) : (d.setReg r u i v).mem = d.mem := rfl
@[simp] theorem Dev.setReg_sys (d : Dev) (r : Reg) (u i : Nat) (v : RegVal) : (d.setReg r u i v).sys = d.sys := rfl
@[simp] theorem Dev.setReg_num (d : Dev) (r : Reg) (u i : Nat) (v : RegVal) : (d.setReg r u i v).num = d.num := rfl
@[simp] theorem Dev.setReg_cores (d : Dev) (r : Reg) (u i : Nat) (v : RegVal) : (d.setReg r u i v).cores = d.cores := rfl
@[simp] theorem Dev.setReg_tolls (d : Dev) (r : Reg) (u i : Nat) (v : RegVal) : (d.setReg r u i v).tolls = d.tolls := rfl
@[simp] theorem Dev.setReg_posts (d : Dev) (r : Reg) (u i : Nat) (v : RegVal) : (d.setReg r u i v).posts = d.posts := rfl
@[simp] theorem Dev.setReg_pool (d : Dev) (r : Reg) (u i : Nat) (v : RegVal) : (d.setReg r u i v).pool = d.pool := rfl
@[simp] theorem Dev.setReg_col (d : Dev) (r : Reg) (u i : Nat) (v : RegVal) : (d.setReg r u i v).col = d.col := rfl
@[simp] theorem Dev.setReg_pwr (d : Dev) (r : Reg) (u i : Nat) (v : RegVal) : (d.setReg r u i v).pwr = d.pwr := rfl
@[simp] theorem Dev.setReg_boot (d : Dev) (r : Reg) (u i : Nat) (v : RegVal) : (d.setReg r u i v).boot = d.boot := rfl

@[simp] theorem Dev.put_free (d : Dev) (f : Fld) (u i n : Nat) : (d.put f u i n).free = d.free := rfl
@[simp] theorem Dev.put_out (d : Dev) (f : Fld) (u i n : Nat) : (d.put f u i n).out = d.out := rfl
@[simp] theorem Dev.put_img (d : Dev) (f : Fld) (u i n : Nat) : (d.put f u i n).img = d.img := rfl
@[simp] theorem Dev.put_clk (d : Dev) (f : Fld) (u i n : Nat) : (d.put f u i n).clk = d.clk := rfl
@[simp] theorem Dev.put_pat (d : Dev) (f : Fld) (u i n : Nat) : (d.put f u i n).pat = d.pat := rfl
@[simp] theorem Dev.put_fab (d : Dev) (f : Fld) (u i n : Nat) : (d.put f u i n).fab = d.fab := rfl
@[simp] theorem Dev.put_flt (d : Dev) (f : Fld) (u i n : Nat) : (d.put f u i n).flt = d.flt := rfl
@[simp] theorem Dev.put_hl (d : Dev) (f : Fld) (u i n : Nat) : (d.put f u i n).hl = d.hl := rfl
@[simp] theorem Dev.put_mem (d : Dev) (f : Fld) (u i n : Nat) : (d.put f u i n).mem = d.mem := rfl
@[simp] theorem Dev.put_sys (d : Dev) (f : Fld) (u i n : Nat) : (d.put f u i n).sys = d.sys := rfl
@[simp] theorem Dev.put_num (d : Dev) (f : Fld) (u i n : Nat) : (d.put f u i n).num = d.num := rfl
@[simp] theorem Dev.put_cores (d : Dev) (f : Fld) (u i n : Nat) : (d.put f u i n).cores = d.cores := rfl
@[simp] theorem Dev.put_tolls (d : Dev) (f : Fld) (u i n : Nat) : (d.put f u i n).tolls = d.tolls := rfl
@[simp] theorem Dev.put_posts (d : Dev) (f : Fld) (u i n : Nat) : (d.put f u i n).posts = d.posts := rfl
@[simp] theorem Dev.put_pool (d : Dev) (f : Fld) (u i n : Nat) : (d.put f u i n).pool = d.pool := rfl
@[simp] theorem Dev.put_col (d : Dev) (f : Fld) (u i n : Nat) : (d.put f u i n).col = d.col := rfl
@[simp] theorem Dev.put_pwr (d : Dev) (f : Fld) (u i n : Nat) : (d.put f u i n).pwr = d.pwr := rfl
@[simp] theorem Dev.put_boot (d : Dev) (f : Fld) (u i n : Nat) : (d.put f u i n).boot = d.boot := rfl

@[simp] theorem Dev.putD_free (d : Dev) (f : Fld) (n : Nat) : (d.putD f n).free = d.free := rfl
@[simp] theorem Dev.putD_out (d : Dev) (f : Fld) (n : Nat) : (d.putD f n).out = d.out := rfl
@[simp] theorem Dev.putD_img (d : Dev) (f : Fld) (n : Nat) : (d.putD f n).img = d.img := rfl
@[simp] theorem Dev.putD_clk (d : Dev) (f : Fld) (n : Nat) : (d.putD f n).clk = d.clk := rfl
@[simp] theorem Dev.putD_pat (d : Dev) (f : Fld) (n : Nat) : (d.putD f n).pat = d.pat := rfl
@[simp] theorem Dev.putD_fab (d : Dev) (f : Fld) (n : Nat) : (d.putD f n).fab = d.fab := rfl
@[simp] theorem Dev.putD_flt (d : Dev) (f : Fld) (n : Nat) : (d.putD f n).flt = d.flt := rfl
@[simp] theorem Dev.putD_hl (d : Dev) (f : Fld) (n : Nat) : (d.putD f n).hl = d.hl := rfl
@[simp] theorem Dev.putD_mem (d : Dev) (f : Fld) (n : Nat) : (d.putD f n).mem = d.mem := rfl
@[simp] theorem Dev.putD_sys (d : Dev) (f : Fld) (n : Nat) : (d.putD f n).sys = d.sys := rfl
@[simp] theorem Dev.putD_num (d : Dev) (f : Fld) (n : Nat) : (d.putD f n).num = d.num := rfl
@[simp] theorem Dev.putD_cores (d : Dev) (f : Fld) (n : Nat) : (d.putD f n).cores = d.cores := rfl
@[simp] theorem Dev.putD_tolls (d : Dev) (f : Fld) (n : Nat) : (d.putD f n).tolls = d.tolls := rfl
@[simp] theorem Dev.putD_posts (d : Dev) (f : Fld) (n : Nat) : (d.putD f n).posts = d.posts := rfl
@[simp] theorem Dev.putD_pool (d : Dev) (f : Fld) (n : Nat) : (d.putD f n).pool = d.pool := rfl
@[simp] theorem Dev.putD_col (d : Dev) (f : Fld) (n : Nat) : (d.putD f n).col = d.col := rfl
@[simp] theorem Dev.putD_pwr (d : Dev) (f : Fld) (n : Nat) : (d.putD f n).pwr = d.pwr := rfl
@[simp] theorem Dev.putD_boot (d : Dev) (f : Fld) (n : Nat) : (d.putD f n).boot = d.boot := rfl

@[simp] theorem Dev.count_free (d : Dev) (f : Fld) (u i n : Nat) : (d.count f u i n).free = d.free := rfl
@[simp] theorem Dev.count_out (d : Dev) (f : Fld) (u i n : Nat) : (d.count f u i n).out = d.out := rfl
@[simp] theorem Dev.count_img (d : Dev) (f : Fld) (u i n : Nat) : (d.count f u i n).img = d.img := rfl
@[simp] theorem Dev.count_clk (d : Dev) (f : Fld) (u i n : Nat) : (d.count f u i n).clk = d.clk := rfl
@[simp] theorem Dev.count_pat (d : Dev) (f : Fld) (u i n : Nat) : (d.count f u i n).pat = d.pat := rfl
@[simp] theorem Dev.count_fab (d : Dev) (f : Fld) (u i n : Nat) : (d.count f u i n).fab = d.fab := rfl
@[simp] theorem Dev.count_flt (d : Dev) (f : Fld) (u i n : Nat) : (d.count f u i n).flt = d.flt := rfl
@[simp] theorem Dev.count_hl (d : Dev) (f : Fld) (u i n : Nat) : (d.count f u i n).hl = d.hl := rfl
@[simp] theorem Dev.count_mem (d : Dev) (f : Fld) (u i n : Nat) : (d.count f u i n).mem = d.mem := rfl
@[simp] theorem Dev.count_sys (d : Dev) (f : Fld) (u i n : Nat) : (d.count f u i n).sys = d.sys := rfl
@[simp] theorem Dev.count_num (d : Dev) (f : Fld) (u i n : Nat) : (d.count f u i n).num = d.num := rfl
@[simp] theorem Dev.count_cores (d : Dev) (f : Fld) (u i n : Nat) : (d.count f u i n).cores = d.cores := rfl
@[simp] theorem Dev.count_tolls (d : Dev) (f : Fld) (u i n : Nat) : (d.count f u i n).tolls = d.tolls := rfl
@[simp] theorem Dev.count_posts (d : Dev) (f : Fld) (u i n : Nat) : (d.count f u i n).posts = d.posts := rfl
@[simp] theorem Dev.count_pool (d : Dev) (f : Fld) (u i n : Nat) : (d.count f u i n).pool = d.pool := rfl
@[simp] theorem Dev.count_col (d : Dev) (f : Fld) (u i n : Nat) : (d.count f u i n).col = d.col := rfl
@[simp] theorem Dev.count_pwr (d : Dev) (f : Fld) (u i n : Nat) : (d.count f u i n).pwr = d.pwr := rfl
@[simp] theorem Dev.count_boot (d : Dev) (f : Fld) (u i n : Nat) : (d.count f u i n).boot = d.boot := rfl

@[simp] theorem Dev.pput_free (d : Dev) (f : Fld) (n v : Nat) : (d.pput f n v).free = d.free := rfl
@[simp] theorem Dev.pput_out (d : Dev) (f : Fld) (n v : Nat) : (d.pput f n v).out = d.out := rfl
@[simp] theorem Dev.pput_img (d : Dev) (f : Fld) (n v : Nat) : (d.pput f n v).img = d.img := rfl
@[simp] theorem Dev.pput_clk (d : Dev) (f : Fld) (n v : Nat) : (d.pput f n v).clk = d.clk := rfl
@[simp] theorem Dev.pput_pat (d : Dev) (f : Fld) (n v : Nat) : (d.pput f n v).pat = d.pat := rfl
@[simp] theorem Dev.pput_fab (d : Dev) (f : Fld) (n v : Nat) : (d.pput f n v).fab = d.fab := rfl
@[simp] theorem Dev.pput_flt (d : Dev) (f : Fld) (n v : Nat) : (d.pput f n v).flt = d.flt := rfl
@[simp] theorem Dev.pput_hl (d : Dev) (f : Fld) (n v : Nat) : (d.pput f n v).hl = d.hl := rfl
@[simp] theorem Dev.pput_mem (d : Dev) (f : Fld) (n v : Nat) : (d.pput f n v).mem = d.mem := rfl
@[simp] theorem Dev.pput_sys (d : Dev) (f : Fld) (n v : Nat) : (d.pput f n v).sys = d.sys := rfl
@[simp] theorem Dev.pput_num (d : Dev) (f : Fld) (n v : Nat) : (d.pput f n v).num = d.num := rfl
@[simp] theorem Dev.pput_cores (d : Dev) (f : Fld) (n v : Nat) : (d.pput f n v).cores = d.cores := rfl
@[simp] theorem Dev.pput_tolls (d : Dev) (f : Fld) (n v : Nat) : (d.pput f n v).tolls = d.tolls := rfl
@[simp] theorem Dev.pput_posts (d : Dev) (f : Fld) (n v : Nat) : (d.pput f n v).posts = d.posts := rfl
@[simp] theorem Dev.pput_pool (d : Dev) (f : Fld) (n v : Nat) : (d.pput f n v).pool = d.pool := rfl
@[simp] theorem Dev.pput_col (d : Dev) (f : Fld) (n v : Nat) : (d.pput f n v).col = d.col := rfl
@[simp] theorem Dev.pput_pwr (d : Dev) (f : Fld) (n v : Nat) : (d.pput f n v).pwr = d.pwr := rfl
@[simp] theorem Dev.pput_boot (d : Dev) (f : Fld) (n v : Nat) : (d.pput f n v).boot = d.boot := rfl

@[simp] theorem Dev.pcount_free (d : Dev) (f : Fld) (n k : Nat) : (d.pcount f n k).free = d.free := rfl
@[simp] theorem Dev.pcount_out (d : Dev) (f : Fld) (n k : Nat) : (d.pcount f n k).out = d.out := rfl
@[simp] theorem Dev.pcount_img (d : Dev) (f : Fld) (n k : Nat) : (d.pcount f n k).img = d.img := rfl
@[simp] theorem Dev.pcount_clk (d : Dev) (f : Fld) (n k : Nat) : (d.pcount f n k).clk = d.clk := rfl
@[simp] theorem Dev.pcount_pat (d : Dev) (f : Fld) (n k : Nat) : (d.pcount f n k).pat = d.pat := rfl
@[simp] theorem Dev.pcount_fab (d : Dev) (f : Fld) (n k : Nat) : (d.pcount f n k).fab = d.fab := rfl
@[simp] theorem Dev.pcount_flt (d : Dev) (f : Fld) (n k : Nat) : (d.pcount f n k).flt = d.flt := rfl
@[simp] theorem Dev.pcount_hl (d : Dev) (f : Fld) (n k : Nat) : (d.pcount f n k).hl = d.hl := rfl
@[simp] theorem Dev.pcount_mem (d : Dev) (f : Fld) (n k : Nat) : (d.pcount f n k).mem = d.mem := rfl
@[simp] theorem Dev.pcount_sys (d : Dev) (f : Fld) (n k : Nat) : (d.pcount f n k).sys = d.sys := rfl
@[simp] theorem Dev.pcount_num (d : Dev) (f : Fld) (n k : Nat) : (d.pcount f n k).num = d.num := rfl
@[simp] theorem Dev.pcount_cores (d : Dev) (f : Fld) (n k : Nat) : (d.pcount f n k).cores = d.cores := rfl
@[simp] theorem Dev.pcount_tolls (d : Dev) (f : Fld) (n k : Nat) : (d.pcount f n k).tolls = d.tolls := rfl
@[simp] theorem Dev.pcount_posts (d : Dev) (f : Fld) (n k : Nat) : (d.pcount f n k).posts = d.posts := rfl
@[simp] theorem Dev.pcount_pool (d : Dev) (f : Fld) (n k : Nat) : (d.pcount f n k).pool = d.pool := rfl
@[simp] theorem Dev.pcount_col (d : Dev) (f : Fld) (n k : Nat) : (d.pcount f n k).col = d.col := rfl
@[simp] theorem Dev.pcount_pwr (d : Dev) (f : Fld) (n k : Nat) : (d.pcount f n k).pwr = d.pwr := rfl
@[simp] theorem Dev.pcount_boot (d : Dev) (f : Fld) (n k : Nat) : (d.pcount f n k).boot = d.boot := rfl

@[simp] theorem Dev.emit_regs (d : Dev) (o : Output) : (d.emit o).regs = d.regs := rfl
@[simp] theorem Dev.emit_free (d : Dev) (o : Output) : (d.emit o).free = d.free := rfl
@[simp] theorem Dev.emit_img (d : Dev) (o : Output) : (d.emit o).img = d.img := rfl
@[simp] theorem Dev.emit_clk (d : Dev) (o : Output) : (d.emit o).clk = d.clk := rfl
@[simp] theorem Dev.emit_pat (d : Dev) (o : Output) : (d.emit o).pat = d.pat := rfl
@[simp] theorem Dev.emit_fab (d : Dev) (o : Output) : (d.emit o).fab = d.fab := rfl
@[simp] theorem Dev.emit_flt (d : Dev) (o : Output) : (d.emit o).flt = d.flt := rfl
@[simp] theorem Dev.emit_hl (d : Dev) (o : Output) : (d.emit o).hl = d.hl := rfl
@[simp] theorem Dev.emit_mem (d : Dev) (o : Output) : (d.emit o).mem = d.mem := rfl
@[simp] theorem Dev.emit_sys (d : Dev) (o : Output) : (d.emit o).sys = d.sys := rfl
@[simp] theorem Dev.emit_num (d : Dev) (o : Output) : (d.emit o).num = d.num := rfl
@[simp] theorem Dev.emit_cores (d : Dev) (o : Output) : (d.emit o).cores = d.cores := rfl
@[simp] theorem Dev.emit_tolls (d : Dev) (o : Output) : (d.emit o).tolls = d.tolls := rfl
@[simp] theorem Dev.emit_posts (d : Dev) (o : Output) : (d.emit o).posts = d.posts := rfl
@[simp] theorem Dev.emit_pool (d : Dev) (o : Output) : (d.emit o).pool = d.pool := rfl
@[simp] theorem Dev.emit_col (d : Dev) (o : Output) : (d.emit o).col = d.col := rfl
@[simp] theorem Dev.emit_pwr (d : Dev) (o : Output) : (d.emit o).pwr = d.pwr := rfl
@[simp] theorem Dev.emit_boot (d : Dev) (o : Output) : (d.emit o).boot = d.boot := rfl

@[simp] theorem Dev.setCore_regs (d : Dev) (c : Nat) (v : Core) : (d.setCore c v).regs = d.regs := rfl
@[simp] theorem Dev.setCore_free (d : Dev) (c : Nat) (v : Core) : (d.setCore c v).free = d.free := rfl
@[simp] theorem Dev.setCore_out (d : Dev) (c : Nat) (v : Core) : (d.setCore c v).out = d.out := rfl
@[simp] theorem Dev.setCore_img (d : Dev) (c : Nat) (v : Core) : (d.setCore c v).img = d.img := rfl
@[simp] theorem Dev.setCore_clk (d : Dev) (c : Nat) (v : Core) : (d.setCore c v).clk = d.clk := rfl
@[simp] theorem Dev.setCore_pat (d : Dev) (c : Nat) (v : Core) : (d.setCore c v).pat = d.pat := rfl
@[simp] theorem Dev.setCore_fab (d : Dev) (c : Nat) (v : Core) : (d.setCore c v).fab = d.fab := rfl
@[simp] theorem Dev.setCore_flt (d : Dev) (c : Nat) (v : Core) : (d.setCore c v).flt = d.flt := rfl
@[simp] theorem Dev.setCore_hl (d : Dev) (c : Nat) (v : Core) : (d.setCore c v).hl = d.hl := rfl
@[simp] theorem Dev.setCore_mem (d : Dev) (c : Nat) (v : Core) : (d.setCore c v).mem = d.mem := rfl
@[simp] theorem Dev.setCore_sys (d : Dev) (c : Nat) (v : Core) : (d.setCore c v).sys = d.sys := rfl
@[simp] theorem Dev.setCore_num (d : Dev) (c : Nat) (v : Core) : (d.setCore c v).num = d.num := rfl
@[simp] theorem Dev.setCore_tolls (d : Dev) (c : Nat) (v : Core) : (d.setCore c v).tolls = d.tolls := rfl
@[simp] theorem Dev.setCore_posts (d : Dev) (c : Nat) (v : Core) : (d.setCore c v).posts = d.posts := rfl
@[simp] theorem Dev.setCore_pool (d : Dev) (c : Nat) (v : Core) : (d.setCore c v).pool = d.pool := rfl
@[simp] theorem Dev.setCore_col (d : Dev) (c : Nat) (v : Core) : (d.setCore c v).col = d.col := rfl
@[simp] theorem Dev.setCore_pwr (d : Dev) (c : Nat) (v : Core) : (d.setCore c v).pwr = d.pwr := rfl
@[simp] theorem Dev.setCore_boot (d : Dev) (c : Nat) (v : Core) : (d.setCore c v).boot = d.boot := rfl

@[simp] theorem Dev.setPort_regs (d : Dev) (n : Nat) (v : Port) : (d.setPort n v).regs = d.regs := rfl
@[simp] theorem Dev.setPort_free (d : Dev) (n : Nat) (v : Port) : (d.setPort n v).free = d.free := rfl
@[simp] theorem Dev.setPort_out (d : Dev) (n : Nat) (v : Port) : (d.setPort n v).out = d.out := rfl
@[simp] theorem Dev.setPort_img (d : Dev) (n : Nat) (v : Port) : (d.setPort n v).img = d.img := rfl
@[simp] theorem Dev.setPort_clk (d : Dev) (n : Nat) (v : Port) : (d.setPort n v).clk = d.clk := rfl
@[simp] theorem Dev.setPort_pat (d : Dev) (n : Nat) (v : Port) : (d.setPort n v).pat = d.pat := rfl
@[simp] theorem Dev.setPort_flt (d : Dev) (n : Nat) (v : Port) : (d.setPort n v).flt = d.flt := rfl
@[simp] theorem Dev.setPort_hl (d : Dev) (n : Nat) (v : Port) : (d.setPort n v).hl = d.hl := rfl
@[simp] theorem Dev.setPort_mem (d : Dev) (n : Nat) (v : Port) : (d.setPort n v).mem = d.mem := rfl
@[simp] theorem Dev.setPort_sys (d : Dev) (n : Nat) (v : Port) : (d.setPort n v).sys = d.sys := rfl
@[simp] theorem Dev.setPort_num (d : Dev) (n : Nat) (v : Port) : (d.setPort n v).num = d.num := rfl
@[simp] theorem Dev.setPort_cores (d : Dev) (n : Nat) (v : Port) : (d.setPort n v).cores = d.cores := rfl
@[simp] theorem Dev.setPort_tolls (d : Dev) (n : Nat) (v : Port) : (d.setPort n v).tolls = d.tolls := rfl
@[simp] theorem Dev.setPort_posts (d : Dev) (n : Nat) (v : Port) : (d.setPort n v).posts = d.posts := rfl
@[simp] theorem Dev.setPort_pool (d : Dev) (n : Nat) (v : Port) : (d.setPort n v).pool = d.pool := rfl
@[simp] theorem Dev.setPort_col (d : Dev) (n : Nat) (v : Port) : (d.setPort n v).col = d.col := rfl
@[simp] theorem Dev.setPort_pwr (d : Dev) (n : Nat) (v : Port) : (d.setPort n v).pwr = d.pwr := rfl
@[simp] theorem Dev.setPort_boot (d : Dev) (n : Nat) (v : Port) : (d.setPort n v).boot = d.boot := rfl

@[simp] theorem Dev.deliverLocal_regs (d : Dev) (p : Packet) : (d.deliverLocal p).regs = d.regs := rfl
@[simp] theorem Dev.deliverLocal_free (d : Dev) (p : Packet) : (d.deliverLocal p).free = d.free := rfl
@[simp] theorem Dev.deliverLocal_out (d : Dev) (p : Packet) : (d.deliverLocal p).out = d.out := rfl
@[simp] theorem Dev.deliverLocal_img (d : Dev) (p : Packet) : (d.deliverLocal p).img = d.img := rfl
@[simp] theorem Dev.deliverLocal_clk (d : Dev) (p : Packet) : (d.deliverLocal p).clk = d.clk := rfl
@[simp] theorem Dev.deliverLocal_pat (d : Dev) (p : Packet) : (d.deliverLocal p).pat = d.pat := rfl
@[simp] theorem Dev.deliverLocal_flt (d : Dev) (p : Packet) : (d.deliverLocal p).flt = d.flt := rfl
@[simp] theorem Dev.deliverLocal_hl (d : Dev) (p : Packet) : (d.deliverLocal p).hl = d.hl := rfl
@[simp] theorem Dev.deliverLocal_mem (d : Dev) (p : Packet) : (d.deliverLocal p).mem = d.mem := rfl
@[simp] theorem Dev.deliverLocal_sys (d : Dev) (p : Packet) : (d.deliverLocal p).sys = d.sys := rfl
@[simp] theorem Dev.deliverLocal_num (d : Dev) (p : Packet) : (d.deliverLocal p).num = d.num := rfl
@[simp] theorem Dev.deliverLocal_cores (d : Dev) (p : Packet) : (d.deliverLocal p).cores = d.cores := rfl
@[simp] theorem Dev.deliverLocal_tolls (d : Dev) (p : Packet) : (d.deliverLocal p).tolls = d.tolls := rfl
@[simp] theorem Dev.deliverLocal_posts (d : Dev) (p : Packet) : (d.deliverLocal p).posts = d.posts := rfl
@[simp] theorem Dev.deliverLocal_pool (d : Dev) (p : Packet) : (d.deliverLocal p).pool = d.pool := rfl
@[simp] theorem Dev.deliverLocal_col (d : Dev) (p : Packet) : (d.deliverLocal p).col = d.col := rfl
@[simp] theorem Dev.deliverLocal_pwr (d : Dev) (p : Packet) : (d.deliverLocal p).pwr = d.pwr := rfl
@[simp] theorem Dev.deliverLocal_boot (d : Dev) (p : Packet) : (d.deliverLocal p).boot = d.boot := rfl

@[simp] theorem Dev.setHlHalf_regs (d : Dev) (h : Nat) (v : HlHalf) : (d.setHlHalf h v).regs = d.regs := by unfold Dev.setHlHalf; split <;> rfl
@[simp] theorem Dev.setHlHalf_free (d : Dev) (h : Nat) (v : HlHalf) : (d.setHlHalf h v).free = d.free := by unfold Dev.setHlHalf; split <;> rfl
@[simp] theorem Dev.setHlHalf_out (d : Dev) (h : Nat) (v : HlHalf) : (d.setHlHalf h v).out = d.out := by unfold Dev.setHlHalf; split <;> rfl
@[simp] theorem Dev.setHlHalf_img (d : Dev) (h : Nat) (v : HlHalf) : (d.setHlHalf h v).img = d.img := by unfold Dev.setHlHalf; split <;> rfl
@[simp] theorem Dev.setHlHalf_clk (d : Dev) (h : Nat) (v : HlHalf) : (d.setHlHalf h v).clk = d.clk := by unfold Dev.setHlHalf; split <;> rfl
@[simp] theorem Dev.setHlHalf_pat (d : Dev) (h : Nat) (v : HlHalf) : (d.setHlHalf h v).pat = d.pat := by unfold Dev.setHlHalf; split <;> rfl
@[simp] theorem Dev.setHlHalf_fab (d : Dev) (h : Nat) (v : HlHalf) : (d.setHlHalf h v).fab = d.fab := by unfold Dev.setHlHalf; split <;> rfl
@[simp] theorem Dev.setHlHalf_flt (d : Dev) (h : Nat) (v : HlHalf) : (d.setHlHalf h v).flt = d.flt := by unfold Dev.setHlHalf; split <;> rfl
@[simp] theorem Dev.setHlHalf_mem (d : Dev) (h : Nat) (v : HlHalf) : (d.setHlHalf h v).mem = d.mem := by unfold Dev.setHlHalf; split <;> rfl
@[simp] theorem Dev.setHlHalf_sys (d : Dev) (h : Nat) (v : HlHalf) : (d.setHlHalf h v).sys = d.sys := by unfold Dev.setHlHalf; split <;> rfl
@[simp] theorem Dev.setHlHalf_num (d : Dev) (h : Nat) (v : HlHalf) : (d.setHlHalf h v).num = d.num := by unfold Dev.setHlHalf; split <;> rfl
@[simp] theorem Dev.setHlHalf_cores (d : Dev) (h : Nat) (v : HlHalf) : (d.setHlHalf h v).cores = d.cores := by unfold Dev.setHlHalf; split <;> rfl
@[simp] theorem Dev.setHlHalf_tolls (d : Dev) (h : Nat) (v : HlHalf) : (d.setHlHalf h v).tolls = d.tolls := by unfold Dev.setHlHalf; split <;> rfl
@[simp] theorem Dev.setHlHalf_posts (d : Dev) (h : Nat) (v : HlHalf) : (d.setHlHalf h v).posts = d.posts := by unfold Dev.setHlHalf; split <;> rfl
@[simp] theorem Dev.setHlHalf_pool (d : Dev) (h : Nat) (v : HlHalf) : (d.setHlHalf h v).pool = d.pool := by unfold Dev.setHlHalf; split <;> rfl
@[simp] theorem Dev.setHlHalf_col (d : Dev) (h : Nat) (v : HlHalf) : (d.setHlHalf h v).col = d.col := by unfold Dev.setHlHalf; split <;> rfl
@[simp] theorem Dev.setHlHalf_pwr (d : Dev) (h : Nat) (v : HlHalf) : (d.setHlHalf h v).pwr = d.pwr := by unfold Dev.setHlHalf; split <;> rfl
@[simp] theorem Dev.setHlHalf_boot (d : Dev) (h : Nat) (v : HlHalf) : (d.setHlHalf h v).boot = d.boot := by unfold Dev.setHlHalf; split <;> rfl

/-! ### Free values -/

@[simp] theorem Dev.fresh_regs (d : Dev) (n : Nat) : (d.fresh n).2.regs = d.regs := rfl
@[simp] theorem Dev.fresh_out (d : Dev) (n : Nat) : (d.fresh n).2.out = d.out := rfl
@[simp] theorem Dev.fresh_img (d : Dev) (n : Nat) : (d.fresh n).2.img = d.img := rfl
@[simp] theorem Dev.fresh_clk (d : Dev) (n : Nat) : (d.fresh n).2.clk = d.clk := rfl
@[simp] theorem Dev.fresh_pat (d : Dev) (n : Nat) : (d.fresh n).2.pat = d.pat := rfl
@[simp] theorem Dev.fresh_fab (d : Dev) (n : Nat) : (d.fresh n).2.fab = d.fab := rfl
@[simp] theorem Dev.fresh_flt (d : Dev) (n : Nat) : (d.fresh n).2.flt = d.flt := rfl
@[simp] theorem Dev.fresh_hl (d : Dev) (n : Nat) : (d.fresh n).2.hl = d.hl := rfl
@[simp] theorem Dev.fresh_mem (d : Dev) (n : Nat) : (d.fresh n).2.mem = d.mem := rfl
@[simp] theorem Dev.fresh_sys (d : Dev) (n : Nat) : (d.fresh n).2.sys = d.sys := rfl
@[simp] theorem Dev.fresh_num (d : Dev) (n : Nat) : (d.fresh n).2.num = d.num := rfl
@[simp] theorem Dev.fresh_cores (d : Dev) (n : Nat) : (d.fresh n).2.cores = d.cores := rfl
@[simp] theorem Dev.fresh_tolls (d : Dev) (n : Nat) : (d.fresh n).2.tolls = d.tolls := rfl
@[simp] theorem Dev.fresh_posts (d : Dev) (n : Nat) : (d.fresh n).2.posts = d.posts := rfl
@[simp] theorem Dev.fresh_pool (d : Dev) (n : Nat) : (d.fresh n).2.pool = d.pool := rfl
@[simp] theorem Dev.fresh_col (d : Dev) (n : Nat) : (d.fresh n).2.col = d.col := rfl
@[simp] theorem Dev.fresh_pwr (d : Dev) (n : Nat) : (d.fresh n).2.pwr = d.pwr := rfl
@[simp] theorem Dev.fresh_boot (d : Dev) (n : Nat) : (d.fresh n).2.boot = d.boot := rfl

/-! ### What an update writes -/

@[simp] theorem Dev.emit_out (d : Dev) (o : Output) : (d.emit o).out = d.out ++ [o] := rfl

@[simp] theorem Dev.fresh_free (d : Dev) (n : Nat) : (d.fresh n).2.free = d.free + 1 := rfl

@[simp] theorem Dev.core_setCore_same (d : Dev) (c : Nat) (v : Core) : (d.setCore c v).core c = v := mget_mset_same _ _ _ _

theorem Dev.core_setCore_other (d : Dev) (c k : Nat) (v : Core) (h : k ≠ c) : (d.setCore c v).core k = d.core k :=
  mget_mset_other _ _ _ _ _ _ h

@[simp] theorem Dev.port_setPort_same (d : Dev) (n : Nat) (v : Port) : (d.setPort n v).port n = v := mget_mset_same _ _ _ _

theorem Dev.port_setPort_other (d : Dev) (n k : Nat) (v : Port) (h : k ≠ n) : (d.setPort n v).port k = d.port k :=
  mget_mset_other _ _ _ _ _ _ h

/-! ### Register fields under the updates of other components -/

@[simp] theorem Dev.get_emit (d : Dev) (o : Output) (f : Fld) (u i : Nat) : (d.emit o).get f u i = d.get f u i := rfl
@[simp] theorem Dev.get_setCore (d : Dev) (c : Nat) (v : Core) (f : Fld) (u i : Nat) : (d.setCore c v).get f u i = d.get f u i := rfl
@[simp] theorem Dev.get_setPort (d : Dev) (n : Nat) (v : Port) (f : Fld) (u i : Nat) : (d.setPort n v).get f u i = d.get f u i := rfl
@[simp] theorem Dev.get_deliverLocal (d : Dev) (p : Packet) (f : Fld) (u i : Nat) : (d.deliverLocal p).get f u i = d.get f u i := rfl
@[simp] theorem Dev.get_fresh (d : Dev) (n : Nat) (f : Fld) (u i : Nat) : (d.fresh n).2.get f u i = d.get f u i := rfl

end Sys2Proof.Machine
end

