-- ==== Sys2Proof/Laws/Outcome.lean ====
section
/-!
SUPPORT. Sys2Proof/Laws/Outcome.lean: everything the three forms of a meaning can answer, and one step of the block.
-/

namespace Sys2Proof.Machine

variable (s t : State) (f : Dev → Dev)

/-- A meaning without a condition answers the device that it makes, and the queue as it was. -/
theorem State.run_eq : s.run f = .next { s with dev := f s.dev } := rfl

/-- A meaning under a condition that holds. -/
theorem State.runOn_next {ok : Bool} (h : ok = true) : s.runOn ok f = .next { s with dev := f s.dev } := by simp [State.runOn, h, State.run]

/-- A meaning under a condition that fails. -/
theorem State.runOn_fault {ok : Bool} (h : ok = false) : s.runOn ok f = .fault .noSuchUnit := by simp [State.runOn, h]

/-- What a meaning under a condition can answer. -/
theorem State.runOn_cases (ok : Bool) :
    (ok = true ∧ s.runOn ok f = .next { s with dev := f s.dev }) ∨ (ok = false ∧ s.runOn ok f = .fault .noSuchUnit) := by
  cases ok
  · exact .inr ⟨rfl, rfl⟩
  · exact .inl ⟨rfl, rfl⟩

/-- A meaning that a core carries out. -/
theorem State.runCore_eq (ok : Bool) (c : Nat) :
    s.runCore ok c f = s.runOn (decide (c < 272) && ok) (fun d => if d.clockGated c then d else f d) := rfl

/-- A meaning that a core carries out while its clocks run. -/
theorem State.runCore_next {ok : Bool} {c : Nat} (hc : c < 272) (h : ok = true) (hg : s.dev.clockGated c = false) :
    s.runCore ok c f = .next { s with dev := f s.dev } := by
  simp [State.runCore, State.runOn, State.run, hc, h, hg]

/-- A meaning that a core carries out while its clocks are gated changes nothing. -/
theorem State.runCore_gated {ok : Bool} {c : Nat} (hc : c < 272) (h : ok = true) (hg : s.dev.clockGated c = true) :
    s.runCore ok c f = .next s := by
  simp [State.runCore, State.runOn, State.run, hc, h, hg]

/-- The queue after a meaning under a condition. -/
theorem State.runOn_pending {ok : Bool} (h : s.runOn ok f = .next t) : t.pending = s.pending := by
  rcases s.runOn_cases f ok with ⟨_, e⟩ | ⟨_, e⟩ <;> rw [e] at h <;> cases h
  rfl

/-- One step with a command at the front of the queue. -/
theorem step_cons (c : Instr) (rest : List Instr) (h : s.pending = c :: rest) : step s = exec c { s with pending := rest } := by
  simp [step, h]

/-- One step on an empty queue. -/
theorem step_nil (h : s.pending = []) : step s = .next s := by simp [step, h]

end Sys2Proof.Machine
end

