-- ==== Sys2Proof/Laws/Units.lean ====
section
/-!
SUPPORT. Sys2Proof/Laws/Units.lean: what the replacement of one unit's state does to that unit and to the others, and all that an event record changes.
-/

namespace Sys2Proof.Machine

/-! ### Cores, threads and general registers -/

@[simp] theorem Dev.core_updCore_same (d : Dev) (c : Nat) (f : Core → Core) : (d.updCore c f).core c = f (d.core c) := mget_mset_same _ _ _ _
theorem Dev.core_updCore_other (d : Dev) (c k : Nat) (f : Core → Core) (h : k ≠ c) : (d.updCore c f).core k = d.core k := mget_mset_other _ _ _ _ _ _ h
@[simp] theorem Dev.core_updCtc_same (d : Dev) (c : Nat) (f : Ctc → Ctc) : (d.updCtc c f).core c = { d.core c with ctc := f (d.core c).ctc } := mget_mset_same _ _ _ _
theorem Dev.core_updCtc_other (d : Dev) (c k : Nat) (f : Ctc → Ctc) (h : k ≠ c) : (d.updCtc c f).core k = d.core k := mget_mset_other _ _ _ _ _ _ h
@[simp] theorem Dev.thread_updThread_same (d : Dev) (c t : Nat) (f : Thread → Thread) : (d.updThread c t f).thread c t = f (d.thread c t) := by
  simp [Dev.updThread, Dev.thread]
theorem Dev.thread_updThread_other (d : Dev) (c t c' t' : Nat) (f : Thread → Thread) (h : c' ≠ c ∨ t' ≠ t) : (d.updThread c t f).thread c' t' = d.thread c' t' := by
  by_cases hc : c' = c
  · subst hc
    have ht : t' ≠ t := h.resolve_left (· rfl)
    simp [Dev.updThread, Dev.thread, mget_mset_other _ _ _ _ _ _ ht]
  · simp [Dev.updThread, Dev.thread, Dev.core_updCtc_other _ _ _ _ hc]
@[simp] theorem Dev.g_zero (d : Dev) (c t : Nat) : d.g c t 0 = 0 := rfl
@[simp] theorem Dev.setG_zero (d : Dev) (c t : Nat) (v : BitVec 64) : d.setG c t 0 v = d := rfl
theorem Dev.g_setG_same (d : Dev) (c t r : Nat) (v : BitVec 64) (h : r ≠ 0) : (d.setG c t r v).g c t r = v := by
  simp [Dev.setG, Dev.g, h]
theorem Dev.g_setG_other (d : Dev) (c t r c' t' r' : Nat) (v : BitVec 64) (h : c' ≠ c ∨ t' ≠ t ∨ r' ≠ r) : (d.setG c t r v).g c' t' r' = d.g c' t' r' := by
  by_cases hr : r = 0
  · simp [Dev.setG, hr]
  · by_cases h0 : r' = 0
    · subst h0
      simp
    · by_cases hct : c' = c ∧ t' = t
      · obtain ⟨rfl, rfl⟩ := hct
        have hk : r' ≠ r := by simpa using h
        simp [Dev.setG, Dev.g, hr, h0, mget_mset_other _ _ _ _ _ _ hk]
      · have hn : c' ≠ c ∨ t' ≠ t := by
          by_cases e : c' = c
          · exact .inr fun f => hct ⟨e, f⟩
          · exact .inl e
        simp [Dev.setG, Dev.g, hr, h0, Dev.thread_updThread_other _ _ _ _ _ _ hn]
@[simp] theorem Dev.updThread_regs (d : Dev) (c t : Nat) (f : Thread → Thread) : (d.updThread c t f).regs = d.regs := rfl
@[simp] theorem Dev.updThread_mem (d : Dev) (c t : Nat) (f : Thread → Thread) : (d.updThread c t f).mem = d.mem := rfl
@[simp] theorem Dev.updThread_out (d : Dev) (c t : Nat) (f : Thread → Thread) : (d.updThread c t f).out = d.out := rfl
theorem Dev.setG_regs (d : Dev) (c t r : Nat) (v : BitVec 64) : (d.setG c t r v).regs = d.regs := by
  unfold Dev.setG
  split <;> rfl
/-- The local memories of every core are as before. -/
theorem Dev.updCtc_sameBytes (d : Dev) (c : Nat) (f : Ctc → Ctc) : d.sameBytes (d.updCtc c f) := by
  have h : ∀ k, ((d.updCtc c f).core k).stg = (d.core k).stg ∧ ((d.updCtc c f).core k).ns = (d.core k).ns := by
    intro k
    by_cases e : k = c
    · subst e
      simp
    · simp [Dev.core_updCtc_other _ _ _ _ e]
  intro p
  cases p with
  | hbm a => rfl
  | scratch a => rfl
  | stg k a => simp [Dev.byteAt, (h k).1]
  | ns k a => simp [Dev.byteAt, (h k).2]
theorem Dev.setG_sameBytes (d : Dev) (c t r : Nat) (v : BitVec 64) : d.sameBytes (d.setG c t r v) := by
  unfold Dev.setG
  split
  · exact fun _ => rfl
  · exact d.updCtc_sameBytes c _
theorem Dev.pc_setPc (d : Dev) (c t a : Nat) : (d.setPc c t a).pc c t = a % 2 ^ (F.CTC_PC_V.hi - F.CTC_PC_V.lo + 1) := Dev.get_put_same _ _ _ _ _ (by decide)

/-! ### Ports, halves, collective slots, factor tables, channels -/

@[simp] theorem Dev.hlHalf_setHlHalf_same (d : Dev) (h : Nat) (v : HlHalf) : (d.setHlHalf h v).hlHalf h = v := by
  by_cases e : h = 0 <;> simp [Dev.setHlHalf, Dev.hlHalf, e]
theorem Dev.hlHalf_setHlHalf_other (d : Dev) (h k : Nat) (v : HlHalf) (e : (k = 0) ≠ (h = 0)) : (d.setHlHalf h v).hlHalf k = d.hlHalf k := by
  by_cases hz : h = 0 <;> by_cases kz : k = 0 <;> simp_all [Dev.setHlHalf, Dev.hlHalf]
@[simp] theorem Dev.colSlot_setCol_same (d : Dev) (i : Nat) (v : ColSlot) : (d.setCol i v).colSlot i = v := mget_mset_same _ _ _ _
theorem Dev.colSlot_setCol_other (d : Dev) (i k : Nat) (v : ColSlot) (h : k ≠ i) : (d.setCol i v).colSlot k = d.colSlot k := mget_mset_other _ _ _ _ _ _ h
@[simp] theorem Dev.lex_setLex_same (d : Dev) (q : Nat) (v : Lex) : (d.setLex q v).lex q = v := mget_mset_same _ _ _ _
theorem Dev.lex_setLex_other (d : Dev) (q k : Nat) (v : Lex) (h : k ≠ q) : (d.setLex q v).lex k = d.lex k := mget_mset_other _ _ _ _ _ _ h
@[simp] theorem Lex.slotOf_setSlot_same (l : Lex) (e : Nat) (t : Option TableSlot) : (l.setSlot e t).slotOf e = t := by
  by_cases h : e % 2 = 0 <;> simp [Lex.setSlot, Lex.slotOf, h]
@[simp] theorem Dev.chanOf_setChan_same (d : Dev) (n : Nat) (v : Channel) : (d.setChan n v).chanOf n = v := mget_mset_same _ _ _ _
theorem Dev.chanOf_setChan_other (d : Dev) (n k : Nat) (v : Channel) (h : k ≠ n) : (d.setChan n v).chanOf k = d.chanOf k := mget_mset_other _ _ _ _ _ _ h
theorem Dev.port_enqueue (d : Dev) (n : Nat) (p : Packet) : ((d.enqueue n p).port n).txq = (d.port n).txq ++ [p.whole] := by simp [Dev.enqueue, Dev.enqueueTx]
theorem Dev.enqueue_regs (d : Dev) (n : Nat) (p : Packet) : (d.enqueue n p).regs = d.regs := rfl

/-! ### Event records -/

/-- The units that an event record does not touch stand as before. -/
def Dev.unitsKept (d e : Dev) : Prop :=
  e.mem = d.mem ∧ e.cores = d.cores ∧ e.img = d.img ∧ e.clk = d.clk ∧ e.pat = d.pat ∧ e.fab = d.fab ∧ e.sys = d.sys ∧ e.num = d.num ∧ e.tolls = d.tolls ∧
    e.posts = d.posts ∧ e.pool = d.pool ∧ e.col = d.col ∧ e.pwr = d.pwr ∧ e.boot = d.boot

theorem Dev.unitsKept_refl (d : Dev) : d.unitsKept d := ⟨rfl, rfl, rfl, rfl, rfl, rfl, rfl, rfl, rfl, rfl, rfl, rfl, rfl, rfl⟩
theorem Dev.unitsKept_trans {d e f : Dev} (h : d.unitsKept e) (h' : e.unitsKept f) : d.unitsKept f := by
  simp_all [Dev.unitsKept]
theorem Dev.unitsKept_sameBytes {d e : Dev} (h : d.unitsKept e) : d.sameBytes e := Dev.sameBytes_of h.1 h.2.1

/-- The registers that an event record writes: its SEQ, the place in the ring, and the records lost. -/
def recordFields : List (Fld × Nat × Nat) :=
  [(F.FLT_EVT_SEQ_V, 0, 0), (F.HL_EVT_TAIL_TAIL, 0, 0), (F.HL_EVT_TAIL_FREE, 0, 0), (F.HL_EVT_CTL_EVT_ERR, 0, 0), (F.HL_EVT_LOST_V, 0, 0)]

theorem Dev.hlSend_frame (d : Dev) (h op tag addr reason : Nat) (data : List Byte) :
    d.unitsKept (d.hlSend h op tag addr reason data) ∧ (d.hlSend h op tag addr reason data).regs = d.regs := by
  have k : ∀ (e : Dev) (v : HlHalf), d.unitsKept e → e.regs = d.regs → d.unitsKept (e.setHlHalf h v) ∧ (e.setHlHalf h v).regs = d.regs :=
    fun e v hu hr => by unfold Dev.setHlHalf; split <;> exact ⟨hu, hr⟩
  have p : ∀ e : Dev, d.unitsKept e ∧ e.regs = d.regs → d.unitsKept (e.hlPump h) ∧ (e.hlPump h).regs = d.regs := by
    intro e he
    unfold Dev.hlPump
    simp only []
    split
    · exact he
    · exact k _ _ he.1 he.2
  exact p _ (k d _ d.unitsKept_refl rfl)

/-- A request on HauneLink changes HauneLink's own state and what the device sends. -/
theorem Dev.hlRequest_frame (d : Dev) (op addr : Nat) (data : List Byte) (w : Waiter) :
    d.unitsKept (d.hlRequest op addr data w).2 ∧ (d.hlRequest op addr data w).2.regs = d.regs := by
  unfold Dev.hlRequest
  split
  · exact ⟨d.unitsKept_refl, rfl⟩
  · simp only []
    generalize hx : ({ d with hl := _ } : Dev) = x
    have h1 : d.unitsKept x ∧ x.regs = d.regs := by subst hx; exact ⟨d.unitsKept_refl, rfl⟩
    have h2 := fun h op tag addr reason data => Dev.hlSend_frame x h op tag addr reason data
    exact ⟨Dev.unitsKept_trans h1.1 (h2 _ _ _ _ _ _).1, (h2 _ _ _ _ _ _).2.trans h1.2⟩

theorem Dev.notify_frame (d : Dev) : d.unitsKept d.notify ∧ d.notify.regs = d.regs := by
  unfold Dev.notify
  simp only []
  generalize hz : d.hlRequest _ _ _ _ = z
  have h : d.unitsKept z.2 ∧ z.2.regs = d.regs := by rw [← hz]; exact Dev.hlRequest_frame _ _ _ _ _
  exact ⟨h.1, h.2⟩

theorem Dev.onlyFields_mid {d e : Dev} {fs : List (Fld × Nat × Nat)} (h : d.onlyFields e fs) {f : Dev} (r : f.regs = e.regs) : d.onlyFields f fs :=
  Dev.onlyFields_mono (Dev.onlyFields_trans h (Dev.onlyFields_regs r [])) (by simp)

theorem Dev.onlyFields_step {d e : Dev} {fs : List (Fld × Nat × Nat)} (h : d.onlyFields e fs) (f : Fld) (u i n : Nat) (hf : f.fits = true) (hm : (f, u, i) ∈ fs) :
    d.onlyFields (e.put f u i n) fs := by
  refine Dev.onlyFields_mono (Dev.onlyFields_trans h (Dev.onlyFields_put e f u i n hf)) fun x hx => ?_
  rcases List.mem_append.1 hx with y | y
  · exact y
  · rw [List.mem_singleton.1 y]
    exact hm

theorem Dev.unitsKept_put {d e : Dev} (h : d.unitsKept e) (f : Fld) (u i n : Nat) : d.unitsKept (e.put f u i n) := h
theorem Dev.unitsKept_flt {d e : Dev} (h : d.unitsKept e) (x : FaultSt) : d.unitsKept { e with flt := x } := h

/-- A record that is lost is counted. -/
theorem Dev.lost_frame {d e : Dev} (hu : d.unitsKept e) (ho : d.onlyFields e recordFields) (x : FaultSt) :
    d.unitsKept (({ e with flt := x } : Dev).count F.HL_EVT_LOST_V) ∧ d.onlyFields (({ e with flt := x } : Dev).count F.HL_EVT_LOST_V) recordFields :=
  ⟨hu, Dev.onlyFields_step (Dev.onlyFields_mid ho (f := { e with flt := x }) rfl) _ _ _ _ (by decide) (by simp [recordFields])⟩

/-- A record that reaches the ring moves its TAIL. -/
theorem Dev.ring_frame {d e : Dev} (hu : d.unitsKept e) (ho : d.onlyFields e recordFields) (t n : Nat) (x : FaultSt) :
    let f : Dev := { (e.putD F.HL_EVT_TAIL_TAIL t).putD F.HL_EVT_TAIL_FREE n with flt := x }
    d.unitsKept f ∧ d.onlyFields f recordFields := by
  refine ⟨Dev.unitsKept_flt (Dev.unitsKept_put (Dev.unitsKept_put hu _ _ _ _) _ _ _ _) x, ?_⟩
  have h1 : d.onlyFields (e.putD F.HL_EVT_TAIL_TAIL t) recordFields := Dev.onlyFields_step ho _ _ _ _ (by decide) (by simp [recordFields])
  have h2 : d.onlyFields ((e.putD F.HL_EVT_TAIL_TAIL t).putD F.HL_EVT_TAIL_FREE n) recordFields := Dev.onlyFields_step h1 _ _ _ _ (by decide) (by simp [recordFields])
  exact Dev.onlyFields_mid h2 (f := { (e.putD F.HL_EVT_TAIL_TAIL t).putD F.HL_EVT_TAIL_FREE n with flt := x }) rfl

/-- All that the delivery of a record changes. -/
theorem Dev.deliver_frame (d : Dev) (r : EventRec) : d.unitsKept (d.deliver r) ∧ d.onlyFields (d.deliver r) recordFields := by
  unfold Dev.deliver
  simp only []
  split
  · exact Dev.lost_frame d.unitsKept_refl (Dev.onlyFields_refl d _) _
  · have q := d.hlRequest_frame 0x04 (d.get F.HL_EVT_BASE_V + 64 * d.get F.HL_EVT_TAIL_TAIL) (EventRec.bytes { r with slot := some (d.get F.HL_EVT_TAIL_TAIL), lost := d.flt.lostSince }) .evtRing
    generalize d.hlRequest 0x04 (d.get F.HL_EVT_BASE_V + 64 * d.get F.HL_EVT_TAIL_TAIL) (EventRec.bytes { r with slot := some (d.get F.HL_EVT_TAIL_TAIL), lost := d.flt.lostSince }) .evtRing = z at q
    obtain ⟨ok, e⟩ := z
    obtain ⟨hu, hr⟩ := q
    have ho : d.onlyFields e recordFields := Dev.onlyFields_regs hr _
    simp only []
    split
    · split
      · have f := Dev.ring_frame hu ho ((d.get F.HL_EVT_TAIL_TAIL + 1) % ringSize (e.get F.HL_EVT_CTL_LOG2SIZE)) (d.get F.HL_EVT_TAIL_FREE - 1)
        exact ⟨Dev.unitsKept_trans (f _).1 (Dev.notify_frame _).1, Dev.onlyFields_mid (f _).2 (Dev.notify_frame _).2⟩
      · exact Dev.ring_frame hu ho _ _ _
    · exact Dev.lost_frame (e := e.putD F.HL_EVT_CTL_EVT_ERR 1) (Dev.unitsKept_put hu _ _ _ _) (Dev.onlyFields_step ho _ _ _ _ (by decide) (by simp [recordFields])) _

/-- All that an event record alone changes. -/
theorem Dev.recordOnly_frame (d : Dev) (e : Ev) (source : Nat) (detail : List (Nat × Nat)) :
    d.unitsKept (d.recordOnly e source detail) ∧ d.onlyFields (d.recordOnly e source detail) recordFields := by
  have s : d.onlyFields (d.putD F.FLT_EVT_SEQ_V ((d.get F.FLT_EVT_SEQ_V + 1) % 2 ^ 32)) recordFields :=
    Dev.onlyFields_step (Dev.onlyFields_refl d _) _ _ _ _ (by decide) (by decide)
  have k : ∀ r, d.unitsKept ((d.putD F.FLT_EVT_SEQ_V ((d.get F.FLT_EVT_SEQ_V + 1) % 2 ^ 32)).deliver r) ∧
      d.onlyFields ((d.putD F.FLT_EVT_SEQ_V ((d.get F.FLT_EVT_SEQ_V + 1) % 2 ^ 32)).deliver r) recordFields := fun r =>
    ⟨Dev.unitsKept_trans d.unitsKept_refl (Dev.deliver_frame _ r).1,
      Dev.onlyFields_mono (Dev.onlyFields_trans s (Dev.deliver_frame _ r).2) (by simp)⟩
  unfold Dev.recordOnly
  simp only []
  split
  · exact ⟨(k _).1, Dev.onlyFields_mid (k _).2 rfl⟩
  · exact k _

/-- A record that is neither of class 4 nor of class 5 changes nothing more. -/
theorem Dev.record_eq (d : Dev) (e : Ev) (source : Nat) (detail : List (Nat × Nat)) (h4 : e.info.2 ≠ 4) (h5 : e.info.2 ≠ 5) :
    d.record e source detail = d.recordOnly e source detail := by
  unfold Dev.record
  simp only []
  rw [if_neg h5, if_neg h4]

theorem Dev.recordOnly_sameBytes (d : Dev) (e : Ev) (source : Nat) (detail : List (Nat × Nat)) : d.sameBytes (d.recordOnly e source detail) :=
  Dev.unitsKept_sameBytes (Dev.recordOnly_frame d e source detail).1

end Sys2Proof.Machine
end

