-- ==== Sys2Proof/Tests/Slice0.lean ====
section
/-!
SUPPORT. Sys2Proof/Tests/Slice0.lean: small states on which the commands are tried: an ill-formed command for each kind of check, for each statement a state and
operands that meet the hypotheses of its clauses, and results that the manual's tables give.
-/

namespace Sys2Proof.Tests

set_option Elab.async false

open Machine

/-- A device at reset but for the fields listed: field, unit, index, value. -/
def regs (l : List (Fld × Nat × Nat × Nat)) : Dev := l.foldl (fun d x => d.put x.1 x.2.1 x.2.2.1 x.2.2.2) {}

/-- A state whose device has the fields listed. -/
def st (l : List (Fld × Nat × Nat × Nat)) : State := { dev := regs l }

/-- A core with one thread that runs. -/
def oneThread (t : Nat) (g : List (Nat × BitVec 64)) : Core := { ctc := { threads := [(t, { live := true, g := g })], cur := some t, last := t } }

/-- Core c passed its start-up test, and thread t of it runs with the general registers g, its program counter at 0x100. -/
def running (c t : Nat) (g : List (Nat × BitVec 64)) (l : List (Fld × Nat × Nat × Nat)) : State :=
  { dev := { regs ([(F.BOOT_CORE_OK_OK, 0, c / 68, 2 ^ 68 - 1), (F.CTC_PC_V, c, t, 0x100)] ++ l) with cores := [(c, oneThread t g)] } }

/-- Core c passed its start-up test and holds k. -/
def withCore (c : Nat) (k : Core) (l : List (Fld × Nat × Nat × Nat)) : State :=
  { dev := { regs ([(F.BOOT_CORE_OK_OK, 0, c / 68, 2 ^ 68 - 1)] ++ l) with cores := [(c, k)] } }

theorem test_running_issues : (running 0 0 [] []).dev.issues 0 0 ∧ (running 271 7 [(1, 5)] []).dev.issues 271 7 := by
  unfold Dev.issues; decide

/-! ### Commands that name no unit of the device (log 3) -/

theorem test_wf_widths : Instr.wf (.registerWrite 0 2 0) = false ∧ Instr.wf (.rcRead 0 1) = false ∧ Instr.wf (.registerWrite 0 8 0) = true := by decide
theorem test_wf_ports : Instr.wf (.portEnable 16) = false ∧ Instr.wf (.portEnable 15) = true ∧ Instr.wf (.fabReadResp 17 { ptype := 4 }) = false ∧ Instr.wf (.fabReadResp 16 { ptype := 4 }) = true := by decide
theorem test_wf_quarters : Instr.wf (.patternArm 4) = false ∧ Instr.wf (.patternArm 3) = true ∧ Instr.wf (.deadlineEnd 0 64) = false ∧ Instr.wf (.bridgeFail 4) = false := by decide
theorem test_wf_cores : Instr.wf (.mm 272) = false ∧ Instr.wf (.mm 271) = true ∧ Instr.wf (.vadd 0 8 0 0) = false ∧ Instr.wf (.vadd 271 7 0 0) = true := by decide
theorem test_wf_operands : Instr.wf (.ctcIntegerOp 0 0 (.op .add) 32 0 (.reg 0) false) = false ∧ Instr.wf (.ctcBranch 0 0 .eq 0 0 (2 ^ 40) false) = false ∧
    Instr.wf (.ctcBranch 0 0 .eq 0 0 (2 ^ 40 - 1) false) = true ∧ Instr.wf (.ctcLoad 0 0 3 0 0 0 0 0 false) = false ∧ Instr.wf (.sget 0 0 0 16) = false := by decide
theorem test_wf_slots : Instr.wf (.tset 0 0 64 0) = false ∧ Instr.wf (.kvrArm 0 128) = false ∧ Instr.wf (.toll 0 0 1 16) = false ∧ Instr.wf (.openBank 2 0) = false ∧
    Instr.wf (.post 256) = false ∧ Instr.wf (.post 255) = true := by decide
theorem test_wf_channels : Instr.wf (.retrain 128) = false ∧ Instr.wf (.retrain 127) = true ∧ Instr.wf (.mchCommandIssue 0 2 0) = false ∧ Instr.wf (.hbmTempRead 8 none) = false := by decide
theorem test_wf_halves : Instr.wf (.hlRetrain 2) = false ∧ Instr.wf (.hlRetrain 1) = true ∧ Instr.wf (.rdShared { half := 2 }) = false := by decide
theorem test_ill_formed_faults : exec (.mm 272) State.reset = .fault .noSuchUnit ∧ exec (.patternArm 4) State.reset = .fault .noSuchUnit ∧ exec (.hlRetrain 2) State.reset = .fault .noSuchUnit ∧
    exec (.portEnable 16) State.reset = .fault .noSuchUnit ∧ exec (.retrain 128) State.reset = .fault .noSuchUnit ∧ exec (.registerWrite 0 2 0) State.reset = .fault .noSuchUnit := ⟨rfl, rfl, rfl, rfl, rfl, rfl⟩

/-! ### The queue and every command -/

theorem test_queue_hyps : ({ pending := [.beatTick, .knell false] } : State).pending = .beatTick :: [.knell false] ∧ State.reset.pending = [] ∧
    ({ pending := [.beatTick, .mm 271] } : State).queueOk = true ∧ Instr.wf (.mm 271) = true ∧ Instr.wf (.mm 272) = false := by decide
theorem test_step_takes_the_front : step { pending := [.numLsSet 0, .mm 0] } = .next { pending := [.mm 0] } := rfl

/-! ### Registers, loads of images, clocks and beats -/

theorem test_access_hyps : (regs []).regAt 3 = none ∧ 3 % 4 ≠ 0 ∧ ((regs []).regAt (Reg.beatDlCap.addr 0 0)).map (fun a => (a.reg, a.off, decide (32 ≤ a.reg.info.width))) = some (Reg.beatDlCap, 0, true) ∧
    (regs []).clk.safe = false ∧ (regs []).flag F.BOOT_STATUS_DAMPED = false := by decide
theorem test_image_begins_hyps : let s := st [(F.BOOT_STATUS_STAGE, 0, 0, 6), (F.IMG_SRC_V, 0, 0, 4096)]
    let p := st [(F.BOOT_STATUS_STAGE, 0, 0, 6), (F.IMG_STATUS_STATE, 0, 0, 4)]
    let b := st [(F.IMG_STATUS_STATE, 0, 0, 1)]
    s.dev.loading = false ∧ s.dev.get F.BOOT_STATUS_STAGE = 6 ∧ s.dev.get F.IMG_SRC_V % 4096 = 0 ∧ s.dev.quiescent = true ∧
    p.dev.imgState = 4 ∧ p.dev.get F.BOOT_STATUS_STAGE = 6 ∧ p.dev.get F.IMG_SRC_V % 4096 = 0 ∧ b.dev.loading = true := by decide +kernel
theorem test_image_stages_hyps : let a := st [(F.IMG_STATUS_STATE, 0, 0, 3)]
    let g := st [(F.IMG_STATUS_STATE, 0, 0, 5)]
    let w := st [(F.IMG_STATUS_STATE, 0, 0, 6)]
    let c : Dev := { regs [(F.IMG_STATUS_STATE, 0, 0, 5), (F.BOOT_STATUS_STAGE, 0, 0, 6)] with img := { switchBeat := 1 } }
    a.dev.imgState = 3 ∧ g.dev.imgState = 5 ∧ g.dev.img.switchBeat ≤ g.dev.beat ∧ w.dev.imgState = 6 ∧ w.dev.meshBusy = false ∧
    c.get F.BOOT_STATUS_STAGE = 6 ∧ c.imgState = 5 ∧ c.beat < c.img.switchBeat := by decide
/-- A rebinding image that changes nothing, of 9,712 bytes: a header, SECT_STAGE, the signer key of zeros and a signature of zeros. -/
def rebindImage : List Byte :=
  leBytes 4 0x534C444E ++ leBytes 2 1 ++ leBytes 2 1 ++ leBytes 8 9712 ++ leBytes 12 0 ++ leBytes 2 1 ++ leBytes 50 0
    ++ leBytes 32 0x25295F0D1D592A90B333E26E85149708208E9F8E8BC18F6C77BD62F8AD7A6866 ++ leBytes 16 0
    ++ leBytes 2 2 ++ leBytes 2 1 ++ leBytes 4 192 ++ leBytes 4 1584 ++ leBytes 52 0 ++ [2, 0, 1, 0] ++ List.replicate 9516 0

/-- A device with one valid key slot, that of the signer, and the settings of that image in force. -/
def rebindDev : Dev := { regs [(F.SEC_IMGKEY_VALID_SLOTS, 0, 0, 1), (F.SEC_IMGKEY_V, 0, 0, 0x25295F0D1D592A90B333E26E85149708208E9F8E8BC18F6C77BD62F8AD7A6866)] with
  img := { inForce := some { vstages := 2, pipeStages := 1, logical := List.replicate 256 {} } } }

/-- The image passes every check where its signature verifies (R29). -/
theorem test_image_checked (v : slhVerify slh128s (imgKey rebindImage (imgHeader rebindImage).length) (rebindImage.take ((imgHeader rebindImage).length - 7856))
    (slice rebindImage ((imgHeader rebindImage).length - 7856) 7856) = true) : (rebindDev.checkImage rebindImage 9712 true).isLeft = true := by
  unfold Dev.checkImage
  simp only [v]
  decide +kernel
theorem test_clock_failure_hyps : let s := st [(F.BEAT_CLK_STATUS_SELECTED, 0, 0, ClkSrc.xtal.code)]
    let o := st [(F.BEAT_CLK_STATUS_SELECTED, 0, 0, ClkSrc.xtal.code), (ClkSrc.crec.qual, 0, 0, 1)]
    s.dev.get F.BEAT_CLK_STATUS_SELECTED ≠ ClkSrc.crec.code ∧ s.dev.get F.BEAT_CLK_STATUS_SELECTED = ClkSrc.xtal.code ∧ s.dev.flag ClkSrc.xtal.other.qual = false ∧ s.dev.clk.safe = false ∧
    o.dev.get F.BEAT_CLK_STATUS_SELECTED = ClkSrc.xtal.code ∧ o.dev.flag ClkSrc.xtal.other.qual = true := by decide
theorem test_clock_event_hyps : let d : Dev := { regs [(ClkSrc.xtal.qual, 0, 0, 1)] with clk := { safe := true } }
    d.clk.safe = true ∧ d.qualified.isSome = true := by decide
theorem test_qualification_hyps : let d := regs [(F.BEAT_CLK_STATUS_HREC_PRESENT, 0, 0, 1), (ClkSrc.xtal.run, 0, 0, 1023)]
    d.hasComparison .xtal = true ∧ 1023 ≤ d.get ClkSrc.xtal.run ∧ d.badRun .xtal = 0 := by decide
theorem test_qualification_bounds : let d := regs [(F.BEAT_CLK_STATUS_HREC_PRESENT, 0, 0, 1), (ClkSrc.xtal.run, 0, 0, 1023)]
    (d.windowEnd .xtal 65530 false).get ClkSrc.xtal.qual = 1 ∧ (d.windowEnd .xtal 65542 false).get ClkSrc.xtal.run = 1024 ∧ (d.windowEnd .xtal 65529 false).get ClkSrc.xtal.run = 0 ∧
    (d.windowEnd .xtal 65543 false).get ClkSrc.xtal.run = 0 := by decide
theorem test_timer_hyps : let d : Dev := { clk := { running := true, frac := BitVec.ofNat 48 (2 ^ 48 - 1) } }
    let e : Dev := { clk := { running := true } }
    let x : Dev := { clk := { running := true, stopped := true } }
    d.clk.running = true ∧ d.clk.stopped = false ∧ 2 ^ 48 ≤ d.clk.frac.toNat + d.clk.rate ∧ e.clk.frac.toNat + e.clk.rate < 2 ^ 48 ∧ ({} : Dev).clk.running = false ∧
    x.clk.running = true ∧ x.clk.stopped = true := by decide
theorem test_beat_message_hyps : let m := st [(F.BEAT_STATUS_ROLE, 0, 0, 2), (F.BEAT_PAT_ARM_ARM, 0, 0, 8), (F.BEAT_PAT_ARM_PENDING, 0, 0, 8)]
    let a := st [(F.BEAT_STATUS_ROLE, 0, 0, 2), (F.BEAT_PAT_ARM_ARM, 0, 0, 8)]
    let i : SyncInfo := { port := 15, hops := 0, holdover := false, interval := 0, arrival := 0 }
    let u : Dev := { regs [(F.FAB_PORT_STATUS_STATE, 3, 3, 3)] with clk := { running := true, probes := [{ port := 15, id := 1, launch := 0 }] } }
    let v : Dev := { regs [(F.BEAT_NOW_V, 0, 0, 4)] with clk := { syncs := [i] } }
    let z : Dev := { clk := { stopped := true } }
    m.dev.role ≠ 0 ∧ m.dev.role = 2 ∧ (∀ q, q < 4 → m.dev.armed q = false) ∧ a.dev.armed 3 = true ∧ (regs []).role = 0 ∧ u.portUp 15 = true ∧ u.role = 0 ∧
    u.clk.probes.find? (fun (p : ProbeOut) => p.port = 15 && p.id = 1) = some { port := 15, id := 1, launch := 0 } ∧ u.now < 0 + 16 * 65536 ∧ 0 + 0 ≤ u.now ∧
    z.clk.stopped = true ∧ z.beat * 2 ^ 48 + z.clk.frac.toNat ≤ z.clk.expected ∧ v.clk.expected < v.beat * 2 ^ 48 + v.clk.frac.toNat ∧
    v.clk.syncs.find? (fun (x : SyncInfo) => x.port = 15) = some i ∧ i.arrival + 4 * 2 ^ i.interval * 65536 ≤ v.now := by decide +kernel
theorem test_sync_hyps : let l := [(F.FAB_PORT_STATUS_STATE, 3, 3, 3), (F.BEAT_PORT_DELAY_VALID, 0, 15, 1)]
    let u : Dev := { regs (l ++ [(F.BEAT_STATUS_UPSTREAM, 0, 0, 15)]) with clk := { running := true } }
    let w : Dev := { regs (l ++ [(F.BEAT_STATUS_UPSTREAM, 0, 0, 14), (F.FAB_PORT_STATUS_STATE, 3, 2, 3), (F.BEAT_PORT_DELAY_VALID, 0, 14, 1)]) with clk := { running := true, syncs := [{ port := 14, hops := 0, holdover := false, interval := 0, arrival := 0 }] } }
    let d := fun (x : Dev) (h : Bool) (hops : Nat) =>
      ((x.takeBeat 15 (.sync hops h 0 0 0)).noteSync { port := 15, hops := hops, holdover := h, interval := 0, arrival := x.now }).reselect
    u.role = 0 ∧ u.portUp 15 = true ∧ (d u false 0).get F.BEAT_STATUS_UPSTREAM = 15 ∧ (d u false 0).flag F.BEAT_STATUS_HOLDOVER = false ∧
    (d u false 0).clk.syncs.any (fun (x : SyncInfo) => x.port = 15 && (d u false 0).eligible x) = true ∧
    (d (u.putD F.BEAT_STATUS_HOLDOVER 1) true 63).flag F.BEAT_STATUS_HOLDOVER = true ∧
    (d (u.putD F.BEAT_STATUS_HOLDOVER 1) true 63).clk.syncs.any (fun (x : SyncInfo) => x.port = 15 && (d (u.putD F.BEAT_STATUS_HOLDOVER 1) true 63).eligible x) = false ∧
    (d w false 9).get F.BEAT_STATUS_UPSTREAM ≠ 15 := by decide +kernel
theorem test_late_hyps : let p : Packet := { ptype := 8, data := [4], dst := (regs []).chip }
    p.ptype = 8 ∧ leAt p.data 0 1 = 4 ∧ p.dst = ((regs []).takeMsg 16 p).chip := by decide
theorem test_pattern_hyps : let s : Dev := { regs [(F.BEAT_STATUS_VALID, 0, 0, 1)] with img := { inForce := some {} } }
    bitOf (s.get F.BEAT_PAT_ARM_ARM) 3 = false ∧ s.flag F.BEAT_STATUS_VALID = true ∧ s.img.inForce.isSome = true ∧
    ((regs []).flag F.BEAT_STATUS_VALID && (regs []).img.inForce.isSome) = false := by decide

/-! ### Patterns, matrix and vector units -/

theorem test_pattern_issue_hyps : let d : Dev := { clk := { running := true }, img := { inForce := some { entries := [[{ ofs := 0 }]] } }, pat := { disp := [(0, { armedAt := some 0 })], deadlines := [(dlKey 3 63, { fin := 0 }), (dlKey 2 0, { fin := 1 })], skips := [(0, 65536)] } }
    let w : Dev := { clk := { running := true }, img := { inForce := some { entries := [[{ ofs := 1 }]] } }, pat := { disp := [(0, { armedAt := some 0 })] } }
    (d.patEntries 0)[(mget {} d.pat.disp 0).i]? = some { ofs := 0 } ∧ (mget {} d.pat.disp 0).armedAt.isSome = true ∧ (mget {} d.pat.disp 0).used = false ∧
    d.clk.running = true ∧ d.clk.stopped = false ∧ d.entryStamp { ofs := 0 } 0 ≤ d.now ∧ d.patWaits (d.entryStamp { ofs := 0 } 0) = false ∧ d.beat ≤ d.entryStamp { ofs := 0 } 0 / 65536 ∧
    w.now < w.entryStamp { ofs := 1 } 0 ∧ d.pat.deadlines.find? (fun e => e.1 = dlKey 3 63) = some (dlKey 3 63, { fin := 0 }) ∧ 0 ≤ d.now ∧
    d.pat.deadlines.find? (fun e => e.1 = dlKey 2 0) = some (dlKey 2 0, { fin := 1 }) ∧ d.now < 1 ∧ bitOf d.clk.bridgesOut 3 = false ∧
    bitOf ({ clk := { bridgesOut := 8 } } : Dev).clk.bridgesOut 3 = true := by decide +kernel
theorem test_loss_scale_hyps : bitOf (2 ^ 31) 31 = true ∧ bitOf (2 ^ 31 - 1) 31 = false := by decide
theorem test_loss_scale_bounds : min 24 (bits (2 ^ 31 + 31) 4 0) = 24 ∧ ((regs []).putD F.NUM_LS_CLEAN_CLEAN_STEPS 1048576).get F.NUM_LS_CLEAN_CLEAN_STEPS = 1048576 := by decide

/-- A good MM command: bf16 by bf16, one row, one column, one pass. -/
def mmWords : List Nat := [1 + 2 * 2 ^ 8 + 2 * 2 ^ 16, 1, 128 * 2 ^ 24, 8192]

theorem test_mm_hyps : let groups : Image := { inForce := some { groups := [{}] } }
    let good : State := { dev := { (withCore 271 { mxe := { queue := [{ words := mmWords }] } } []).dev with img := groups } }
    let bad := withCore 271 { mxe := { queue := [{ words := [3] }] } } []
    let idle : List Nat := [1 + 2 * 2 ^ 8 + 2 * 2 ^ 16, 0, 128 * 2 ^ 24, 8192]
    let more : List Nat := [1 + 2 * 2 ^ 8 + 2 * 2 ^ 16 + 2 * 2 ^ 46, 0, 128 * 2 ^ 24, 8192]
    let none_ : Dev := { (withCore 0 { mxe := { queue := [{ words := idle }] } } []).dev with img := groups }
    let busy : Dev := { (withCore 0 { mxe := { queue := [{ words := idle }], drains := [{ words := mmWords, tile := ⟨0, 0, 1, 1, 1, false⟩ }] } } []).dev with img := groups }
    let cont : Dev := { (withCore 0 { mxe := { queue := [{ words := more }], tile := some ⟨0, 0, 1, 1, 1, false⟩ } } []).dev with img := groups }
    good.dev.clockGated 271 = false ∧ (good.dev.core 271).mxe.queue = { words := mmWords } :: [] ∧ good.dev.mxTakes 271 = true ∧ (good.dev.core 271).mxe.run = none ∧ mxOpc mmWords ≠ 2 ∧
    good.dev.mxCheck 271 mmWords = 0 ∧ mxKpass mmWords ≠ 0 ∧ bad.dev.clockGated 271 = false ∧ bad.dev.mxTakes 271 = true ∧ mxOpc [3] ≠ 2 ∧ bad.dev.mxCheck 271 [3] ≠ 0 ∧
    none_.mxCheck 0 idle = 0 ∧ mxKpass idle = 0 ∧ mxInit idle ≠ 2 ∧ none_.setFree 0 idle = true ∧ busy.mxCheck 0 idle = 0 ∧ busy.setFree 0 idle = false ∧ cont.mxCheck 0 more = 0 ∧
    mxKpass more = 0 ∧ mxInit more = 2 ∧ cont.mxTakes 0 = true ∧ (good.dev.core 0).mxe.queue = [] := by decide +kernel
theorem test_drain_start_hyps : let s := withCore 0 { mxe := { drains := [{ words := mmWords, tile := ⟨0, 0, 1, 1, 1, false⟩ }] } } []
    s.dev.clockGated 0 = false ∧ (s.dev.core 0).mxe.drains.map (·.running) = [false] ∧
    ((s.dev.core 0).vxe.vrun.toList ++ (s.dev.core 0).vxe.xrun.toList).any (fun i => i.buffers.contains (mxDst mmWords)) = false := by decide
theorem test_matrix_event_hyps : let m := withCore 0 { mxe := { queue := [{ words := [2] }] } } []
    let r := withCore 0 { mxe := { run := some { cmd := { words := mmWords }, started := true }, tile := some ⟨0, 0, 1, 1, 1, false⟩ } } []
    let f : Dev := { (withCore 0 { mxe := { run := some { cmd := { words := mmWords } }, skip := true } } []).dev with pwr := { fast := true } }
    let w : Dev := (withCore 0 { mxe := { run := some { cmd := { words := mmWords } }, drains := [{ words := mmWords, tile := ⟨0, 0, 1, 1, 1, false⟩ }] } } []).dev
    let x := withCore 0 { mxe := { drains := [{ words := mmWords, tile := ⟨0, 0, 1, 64, 64, false⟩, running := true }] } } []
    m.dev.clockGated 0 = false ∧ m.dev.mxTakes 0 = true ∧ (m.dev.core 0).mxe.run = none ∧ (m.dev.core 0).mxe.drains = [] ∧ mxOpc [2] = 2 ∧
    ((r.dev.core 0).mxe.run.map (·.started)) = some true ∧ (r.dev.core 0).mxe.tile.isSome = true ∧ r.dev.pwr.fast = false ∧ f.pwr.fast = true ∧ (f.core 0).mxe.skip = true ∧
    (w.core 0).mxe.run.map (·.started) = some false ∧ (w.mayEnter 0 mmWords).1 = false ∧ (r.dev.mayEnter 0 mmWords).1 = true ∧
    (((r.dev.mayEnter 0 mmWords).2.startTile 0 mmWords).core 0).mxe.tile.isSome = true ∧ (x.dev.core 0).mxe.drains.map (·.running) = [true] := by decide +kernel
theorem test_drained_hyps : (Acc.mk f32nan 0).s.val.special = true ∧ (Acc.mk f32inf 0).s.val.special = true ∧ (Acc.mk 0x3F800000 0x33800000).s.val.special = false ∧
    (∃ m e, (Acc.mk 0x7F7FFFFF 0x7F7FFFFF).s.val.add (Acc.mk 0x7F7FFFFF 0x7F7FFFFF).c.val = .fin false m e ∧ l32.round m e = none) := by
  refine ⟨by decide, by decide, by decide, ?_⟩
  exact ⟨_, _, rfl, by decide⟩
theorem test_round_trip_hyps : Fmt.e4m3.decode 0x7E ≠ .nan ∧ 0x7E < 2 ^ Fmt.e4m3.bits ∧ Fmt.mxint8.decode 0x7F ≠ .nan ∧ (0x7F : Nat) ≠ 0x80 := by decide
theorem test_row_merge_hyps : ({ cls := clsNan } : RowStat).cls = clsNan ∧ ({ cls := clsInf } : RowStat).cls = clsInf ∧ ({ cls := clsMasked } : RowStat).cls = clsMasked ∧
    ({ cls := clsNormal } : RowStat).cls = clsNormal ∧ [clsNormal, clsMasked, clsInf, clsNan].Nodup := by decide
theorem test_vector_hyps : let s := running 271 7 [] [(F.VXE_CTL_PAUSE, 271, 0, 1)]
    vectorForm (.vadd 271 7 0 0) = some (0x80, 271, 7, 0, 0) ∧ vectorForm (.xclr 271 7 0 0) = some (0xC7, 271, 7, 0, 0) ∧ s.dev.flag F.VXE_CTL_PAUSE 271 = true ∧
    (s.dev.core 271).vxe.xq.length < 16 ∧ (s.dev.core 271).vxe.vq.length < 32 ∧ ((s.dev.takeThread 271 7).core 271).vxe.vq.length < 32 := by decide
theorem test_vector_pause_issues : (running 271 7 [] [(F.VXE_CTL_PAUSE, 271, 0, 1)]).dev.issues 271 7 := by unfold Dev.issues; decide
theorem test_vector_complete_hyps : let s := withCore 0 { vxe := { vrun := some { id := 0, word := 0 }, xrun := some { id := 1, word := 0xC0 * 2 ^ 56 } } } []
    s.dev.clockGated 0 = false ∧ (s.dev.core 0).vxe.vrun = some { id := 0, word := 0 } ∧ (s.dev.core 0).vxe.xrun = some { id := 1, word := 0xC0 * 2 ^ 56 } := by decide
theorem test_lane_hyps : ({ id := 0, word := 0x80 * 2 ^ 56 } : VInsn).opc = 0x80 ∧ ({ id := 0, word := 0x86 * 2 ^ 56 } : VInsn).opc = 0x86 ∧ ({ id := 0, word := 0xA0 * 2 ^ 56 } : VInsn).opc = 0xA0 ∧
    ({ id := 0, word := 0x8D * 2 ^ 56 } : VInsn).opc = 0x8D := by decide

/-! ### The control processor -/

theorem test_ctc_operand_hyps : CtcSrc.ok (.reg 31) = true ∧ CtcSrc.ok (.imm (-(2 ^ 40))) = true ∧ immOk (2 ^ 40 - 1) = true ∧ immOk (2 ^ 40) = false ∧ sizeOk 8 = true ∧ sizeOk 3 = false ∧
    tapOk (2 ^ 31 - 1) = true ∧ tapOk (2 ^ 31) = false := by decide
theorem test_ctc_shift_bounds : intResult (.op .shl) 1 63 = some 0x8000000000000000 ∧ intResult (.op .shl) 1 64 = none ∧ intResult (.op .sar) 0x8000000000000000 63 = some 0xFFFFFFFFFFFFFFFF := by decide
theorem test_ctc_local_hyps : let s := running 0 0 [(1, 0x80000000001FFFF8)] []
    s.dev.accessFault 0 (s.dev.ea 0 0 1 0) 8 = 0 ∧ bitOf (s.dev.ea 0 0 1 0) 63 = true ∧ s.dev.localAt 0 (s.dev.ea 0 0 1 0) = some (.stg 0x1FFFF8) ∧
    (s.dev.readError 0 (s.dev.ea 0 0 1 0) 8 0).1 = false ∧ (s.dev.readError 0 (s.dev.ea 0 0 1 0) 8 2).1 = true ∧ s.dev.accessFault 0 (s.dev.ea 0 0 1 8) 8 = 3 ∧
    s.dev.accessFault 0 (s.dev.ea 0 0 1 1) 8 = 2 ∧ parityForm (.ctcLoad 0 0 8 31 1 0 0 0 true) = some (0, 0) ∧ Instr.wf (.ctcLoad 0 0 8 31 1 0 0 0 true) = true := by decide +kernel
theorem test_ctc_near_store_hyps : let s : Dev := { (running 0 0 [(1, 0x8000000001000000)] []).dev with img := { inForce := some { mem := [{ regions := [1] }] } } }
    s.accessFault 0 (s.ea 0 0 1 0) 8 = 0 ∧ s.localAt 0 (s.ea 0 0 1 0) = some (.ns 0) := by decide
theorem test_ctc_global_hyps : let s := running 0 0 [(1, 0x40)] []
    s.dev.accessFault 0 (s.dev.ea 0 0 1 0) 8 = 0 ∧ bitOf (s.dev.ea 0 0 1 0) 63 = false ∧ (atomicForm (.acas 0 0 1 1 2 0 false)).isSome = true ∧ AtomOp.cas.float = false := by decide
theorem test_ctc_return_hyps : let m : MissSlot := { thread := 0, access := 5 }
    let w : MissSlot := { thread := 0, access := 5, store := true }
    let a : MemAcc := { id := 5, who := .ctc 0 63, addr := 0, op := .read 8, st := .done 0 [1, 2, 3, 4, 5, 6, 7, 8] }
    let b : MemAcc := { id := 5, who := .ctc 0 63, addr := 0, op := .read 8, st := .done stTranslation [] }
    let s : Dev := { (withCore 0 { ctc := { threads := [(0, { live := true, block := some (.load 63) })], slots := [(63, m)] } } []).dev with sys := { accs := [a] } }
    let u : Dev := { (withCore 0 { ctc := { slots := [(63, w)] } } []).dev with sys := { accs := [b] } }
    let v : Dev := { (withCore 0 { ctc := { slots := [(63, m)] } } []).dev with sys := { accs := [b] } }
    s.clockGated 0 = false ∧ (s.core 0).ctc.slots.find? (fun x => x.1 = 63) = some (63, m) ∧ s.acc 5 = some a ∧ a.st = .done 0 [1, 2, 3, 4, 5, 6, 7, 8] ∧ m.store = false ∧
    (s.thread 0 0).block = some (.load 63) ∧ (u.core 0).ctc.slots.find? (fun x => x.1 = 63) = some (63, w) ∧ u.acc 5 = some b ∧ w.store = true ∧ u.clockGated 0 = false ∧
    v.acc 5 = some b ∧ b.st = .done stTranslation [] ∧ stTranslation ≠ 0 ∧ (v.thread 0 0).block ≠ some (.load 63) := by decide
theorem test_tap_hyps : let s : Dev := { (running 0 0 [] []).dev with img := { inForce := some { bind := [{ role := 1, lci := 7 }] } }, posts := [⟨271, 63⟩] }
    let h : Dev := { s with img := { s.img with quiesced := 9, staged := some {} } }
    (s.takeThread 0 0).lciCore 0 7 = some 0 ∧ s.lciCore 0 7 = some 0 ∧ s.lciCore 0 6 = none ∧ s.meshHeld 0 = false ∧ h.meshHeld 0 = true ∧ s.goesOff 271 = false ∧ h.goesOff 271 = true ∧
    s.posts.contains (⟨271, 63⟩ : TapPost) = true ∧ s.posts.contains (⟨0, 63⟩ : TapPost) = false := by decide +kernel
theorem test_toll_hyps : let s : Dev := { (running 0 0 [] [(F.TOLL_MASK_V, 0, 15, 2), (F.TOLL_MASK_V, 0, 14, 6), (F.TOLL_MASK_V, 0, 0, 2)]).dev with
        img := { inForce := some { bind := [{ role := 1, lci := 1 }] } }, tolls := [(0, { now := [{ core := 0, member := 1, thread := none }] })] }
    (s.toll 0).now ≠ [] ∧ s.tollMissing 0 = [] ∧ s.tollMissing 14 ≠ [] := by decide

theorem test_toll_late_hyps : let late : Dev := { regs [(F.TOLL_TIMEOUT_BEATS, 0, 0, 1), (F.BEAT_NOW_V, 0, 0, 1), (F.TOLL_MASK_V, 0, 15, 6)] with
        img := { inForce := some { bind := [{ role := 1, lci := 1 }, { role := 1, lci := 2 }] } }, tolls := [(15, { now := [{ core := 0, member := 1, thread := none }] })] }
    let mem : Dev := { (running 0 0 [] [(F.TOLL_MASK_V, 0, 15, 2)]).dev with img := { inForce := some { bind := [{ role := 1, lci := 1 }], chipId := 0 } } }
    late.tollLate 15 = true ∧ late.tollLate 14 = false ∧ (late.toll 15).now ≠ [] ∧ late.tollMissing 15 ≠ [] ∧ late.get F.TOLL_TIMEOUT_BEATS ≠ 0 ∧
    (late.toll 15).first + 65536 * late.get F.TOLL_TIMEOUT_BEATS ≤ late.now ∧ (mem.takeThread 0 0).tollMember 15 0 = some 1 ∧ (mem.takeThread 0 0).tollMember 14 0 = none := by decide +kernel
theorem test_thread_hyps : let b := withCore 271 { ctc := { threads := [(7, { live := true, block := some .due }), (6, { live := true, block := some .mfence })], slots := [(63, { thread := 6, access := 5 })] } } []
    let q := (withCore 0 { vxe := { vq := [{ id := 0, word := 0xA0 * 2 ^ 56 }], summ := [(0, 9)] } } []).dev
    b.dev.clockGated 271 = false ∧ b.dev.unblocked 271 7 = true ∧ b.dev.unblocked 271 6 = false ∧ (q.core 0).vxe.open_ ≠ [] ∧ (b.dev.core 271).vxe.open_ = [] ∧
    (b.dev.core 271).ctc.slots.any (fun e => e.2.thread = 6) = true := by decide
theorem test_summary_hyps : ({ summ := [(15, 9)] } : Vxe).summValid 15 = true ∧ ({ xq := [{ id := 0, word := 0xC3 * 2 ^ 56 + 0xFF * 2 ^ 48 }] } : Vxe).summValid 15 = false := by decide
theorem test_unit_issue_hyps : let s := running 0 0 [(1, 2 ^ 63), (2, 15), (3, 0x20)] []
    let q : MxeCmd := { words := [2] }
    let f : Dev := { s.dev with cores := [(0, { oneThread 0 [(1, 2 ^ 63)] with mxe := { queue := List.replicate 16 q }, sxu := { ctx := (List.range 16).map (fun k => (k, noStream)) } })] }
    (s.dev.takeThread 0 0).localFault 0 ((s.dev.takeThread 0 0).g 0 0 1).toNat 32 = 0 ∧ ((s.dev.takeThread 0 0).core 0).mxe.queue.length < 16 ∧
    (s.dev.takeThread 0 0).localFault 0 ((s.dev.takeThread 0 0).g 0 0 1).toNat 64 = 0 ∧ ((s.dev.takeThread 0 0).g 0 0 2).toNat ≤ 15 ∧ 15 < ((s.dev.takeThread 0 0).g 0 0 3).toNat ∧
    s.dev.ea 0 0 2 (-7) % 8 = 0 ∧ s.dev.ea 0 0 2 (-7) < 0x10000000 ∧ s.dev.ea 0 0 3 0xFFFFFE0 = 0x10000000 ∧ s.dev.ea 0 0 2 0 % 4 ≠ 0 ∧
    (s.dev.takeThread 0 0).localFault 0 ((s.dev.takeThread 0 0).g 0 0 2).toNat 32 ≠ 0 ∧ (s.dev.takeThread 0 0).localFault 0 ((s.dev.takeThread 0 0).g 0 0 2).toNat 64 ≠ 0 ∧
    (f.takeThread 0 0).localFault 0 ((f.takeThread 0 0).g 0 0 1).toNat 32 = 0 ∧ 16 ≤ ((f.takeThread 0 0).core 0).mxe.queue.length ∧ ((f.takeThread 0 0).acceptStream 0 (2 ^ 63)).1 = false := by decide +kernel
theorem test_window_hyps : let s := st [(F.HL_STATUS_STATE1, 0, 0, 2)]
    s.dev.hlState 1 = 2 ∧ (s.dev.windowRefuse { half := 1, size := 1, addr := 0x0FFFFFF8 }).isNone = true ∧ (s.dev.windowRefuse { half := 1, size := 1, addr := 0x10000000 }).isSome = true ∧
    (s.dev.windowRefuse { half := 1, bad := true }).isSome = true ∧ s.dev.hlState 0 ≠ 2 := by decide
theorem test_ring_entry_hyps : let e : CmdEntry := { words := [6, 0, 0] }
    let s : Dev := { regs [] with hl := { cmd := some e } }
    s.hl.cmd = some e ∧ e.op = 6 ∧ e.word 2 ≤ s.beat ∧ s.beat < ({ words := [6, 0, 9] } : CmdEntry).word 2 ∧ ({ e with started := true } : CmdEntry).started = true ∧ (s.csrRead (Reg.beatDlCap.addr 0 0) 4).1 = .ok ∧
    (s.csrRead (Reg.beatNow.addr 0 0) 8).1 = .ok ∧ (s.csrWrite (Reg.beatDlCap.addr 0 0) 4 1).1 = .ok ∧ (s.csrWrite (Reg.imgSrc.addr 0 0) 8 0).1 = .ok ∧ (s.csrRead (Reg.imgSrc.addr 0 0) 8).2.1 = 0 ∧ s.flag F.HL_CMD_CTL_PAUSE = false ∧ ({ words := [0] } : CmdEntry).op = 0 ∧ (regs []).hl.cmd = none := by decide
theorem test_ring_hyps : let e := st [(F.HL_CMD_STATUS_RING_ERR, 0, 0, 1), (F.HL_CMD_STATUS_ACTIVE, 0, 0, 1)]
    let p := st [(F.HL_CMD_CTL_PAUSE, 0, 0, 1)]
    e.dev.flag F.HL_CMD_STATUS_RING_ERR = true ∧ e.dev.flag F.HL_CMD_STATUS_ACTIVE = true ∧ p.dev.flag F.HL_CMD_STATUS_RING_ERR = false ∧ p.dev.flag F.HL_CMD_CTL_PAUSE = true ∧
    p.dev.flag F.HL_CMD_STATUS_ACTIVE = false ∧ p.dev.hl.cmd = none := by decide
theorem test_event_ring_hyps : let s : Dev := { regs [(F.HL_EVT_CTL_LOG2SIZE, 0, 0, 12), (F.HL_EVT_CTL_NOTIFY_EN, 0, 0, 1), (F.I3C_CTL_IBI_EN, 0, 0, 1), (F.BEAT_NOW_V, 0, 0, 1000)] with
        hl := { evtSet := true, i3cEvents := true }, flt := { notifyOwed := true, ibiPending := some 5, ibiLast := some 0 } }
    s.hl.evtSet = true ∧ s.get F.HL_EVT_CTL_LOG2SIZE ≤ 12 ∧ s.get F.HL_EVT_TAIL_FREE + 4096 ≤ 2 ^ s.get F.HL_EVT_CTL_LOG2SIZE ∧ s.flt.notifyOwed = true ∧ s.flag F.HL_EVT_CTL_NOTIFY_EN = true ∧
    s.flt.notifyLast = none ∧ s.hl.i3cEvents = true ∧ s.flag F.I3C_CTL_IBI_EN = true ∧ 0 + 1000 ≤ s.beat ∧ (regs []).beat < 0 + 1000 := by decide +kernel
theorem test_i3c_hyps : let s := st [(F.I3C_STATUS_ASSIGNED, 0, 0, 1)]
    (regs []).get F.I3C_STATUS_ASSIGNED = 0 ∧ s.dev.get F.I3C_STATUS_ASSIGNED ≠ 0 ∧ bitOf 1 0 = true ∧ ((regs []).csrRead (Reg.beatDlCap.addr 0 0) 4).1 = .ok := by decide
theorem test_jtag_hyps : let s : Dev := { regs [(F.JTAG_CTL_CHANNEL, 0, 0, 127), (F.MCH_CH_STATE_STATE, 3, 31, 6)] with hl := { ir := 0x20, attached := true }, boot := { count := 1 } }
    s.hl.ir = 0x20 ∧ s.hl.attached = true ∧ s.boot.count ≠ 0 ∧ (regs []).hl.ir ≠ 0x20 ∧ (regs []).hl.attached = false ∧ (regs []).boot.count = 0 ∧ (regs []).get F.HL_STATUS_STATE0 = 0 ∧
    (regs []).get F.HL_STATUS_STATE1 = 0 ∧ (s.csrRead (Reg.beatDlCap.addr 0 0) 4).1 = .ok ∧ s.chanState (s.get F.JTAG_CTL_CHANNEL) = 6 ∧
    (regs []).chanState ((regs []).get F.JTAG_CTL_CHANNEL) ≠ 5 := by decide

/-! ### Streams, translation, DMA and KV roll -/

/-- A READ stream of 4 rows of 64 bytes, one row in a buffer, released by tap 1. -/
def readStream : Stream := { words := [1 + 2 ^ 8 + 2 ^ 23 + 2 ^ 24, 0x1000, 2 ^ 63, 64 + 4 * 2 ^ 32, 64 + 64 * 2 ^ 32, 1, 0], desc := 2 ^ 63, id := 0, depth := 1, gated := 0 }

theorem test_gate_hyps : let s := withCore 0 { sxu := { ctx := [(15, readStream)] } } []
    let t := withCore 0 { sxu := { ctx := [(15, readStream)] } } [(F.TAP_VALUE_V, 0, 1, 1)]
    s.dev.clockGated 0 = false ∧ s.dev.ctx 0 15 = some readStream ∧ readStream.relEn = true ∧ readStream.gated < readStream.buffers ∧ s.dev.tap 0 readStream.relTap ≤ 0 ∧ 0 < t.dev.tap 0 readStream.relTap := by decide
theorem test_line_land_hyps : let g : SxuTag := { tag := 1, ctx := 15, sid := 0, row := 0, off := 0, len := 64, access := 5 }
    let h : SxuTag := { tag := 2, ctx := 15, sid := 0, row := 0, off := 0, len := 64, access := 6, ahead := true }
    let o : SxuTag := { tag := 3, ctx := 15, sid := 9, row := 0, off := 0, len := 64, access := 6 }
    let a : MemAcc := { id := 5, who := .stream 0 1, addr := 0, op := .read 64, st := .done 0 [] }
    let b : MemAcc := { id := 6, who := .stream 0 2, addr := 0, op := .read 64, st := .done 6 [] }
    let s : Dev := { (withCore 0 { sxu := { ctx := [(15, readStream)], tags := [g, h, o] } } [(F.GLOBAL_CHIP_ID_CHIP, 0, 0, 0)]).dev with sys := { accs := [a, b] } }
    s.clockGated 0 = false ∧ (s.core 0).sxu.tags.find? (fun t => t.tag = 1 && !t.ahead) = some g ∧ g.reading = false ∧ s.tagCtx 0 g = some readStream ∧ readStream.kind = 1 ∧ readStream.conv = 0 ∧
    readStream.chainEn = false ∧ s.acc 5 = some a ∧ a.touched = [] ∧ s.windowLine g = false ∧ (s.core 0).sxu.tags.find? (fun t => t.tag = 2 && t.ahead) = some h ∧ s.acc 6 = some b ∧ b.st = .done 6 [] ∧
    (s.core 0).sxu.tags.find? (fun t => t.tag = 3 && !t.ahead) = some o ∧ s.tagCtx 0 o = none := by decide
theorem test_prefetch_hyps : let s := withCore 0 { sxu := { ctx := [(15, readStream)] } } [(F.SXU_PF_CTL_MAX_TAGS, 0, 0, 1)]
    let t := withCore 0 { sxu := { ivIssued := 1024 } } []
    (s.dev.core 0).sxu.freeTag.isSome = true ∧ s.dev.flag F.SXU_CTL_PAUSE 0 = false ∧ readStream.depth ≠ 0 ∧ readStream.kind = 1 ∧ ((s.dev.core 0).sxu.tags.filter (·.ahead)).length < min 256 (s.dev.get F.SXU_PF_CTL_MAX_TAGS 0) ∧
    (s.dev.nextAhead 0 readStream ((readStream.window.2 - readStream.window.1) * (readStream.rowBytes / 64 + 2) + 1) readStream.pfRow readStream.pfOff).isSome = true ∧
    (s.dev.core 0).sxu.ivIssued < 1024 ∧ 1024 ≤ (t.dev.core 0).sxu.ivIssued := by decide
theorem test_relay_hyps : let l : RelayLine := { chain := 3, ord := 7, rowBytes := 64, rows := 4, conv := 0, row := 0, off := 0, data := [], ready := true }
    let r : Stream := { words := [4 + 2 ^ 23 + 3 * 2 ^ 30, 0, 2 ^ 63, 64 + 4 * 2 ^ 32, 64 * 2 ^ 32, 1, 0], desc := 2 ^ 63, id := 0, gated := 0 }
    let q : Stream := { words := [4 + 3 * 2 ^ 30, 0, 2 ^ 63, 64 + 4 * 2 ^ 32, 64 * 2 ^ 32, 1, 0], desc := 2 ^ 63, id := 0, gated := 0 }
    let d : Dev := { (withCore 0 { sxu := { relay := [l] } } []).dev with
      img := { inForce := some { chains := List.replicate 3 [] ++ [[7, 8]], bind := [{ role := 1, lci := 7 }, { role := 1, lci := 8 }] } } }
    r.kind = kRelay ∧ r.chain = 3 ∧ r.rowBytes = l.rowBytes ∧ r.rows = l.rows ∧ r.conv = l.conv ∧ r.relEn = true ∧ r.gated ≤ r.bufOf l.row ∧ ({ r with gated := 1 } : Stream).bufOf l.row < 1 ∧ q.kind = kRelay ∧
    q.relEn = false ∧ d.clockGated 0 = false ∧ d.meshHeld 0 = false ∧ (d.core 0).sxu.relay.find? (fun l => l.chain = 3 && l.ready) = some l ∧ d.chainNext 0 3 = some 8 ∧ d.lciCore 0 8 = some 1 ∧
    (withCore 0 { sxu := { relay := [l] } } []).dev.chainNext 0 3 = none ∧ ({ ctx := [(15, r)] } : Sxu).relayFor 3 7 = some (15, r) ∧ ({} : Sxu).relayFor 3 7 = none ∧
    ({} : Sxu).hopFull 3 = false ∧ ({} : Sxu).passing.contains (3, 7) = false ∧ ({ relay := List.replicate 16 l } : Sxu).hopFull 3 = true := by decide
theorem test_walk_hyps : let a : MemAcc := { id := 5, who := .other, addr := 0, op := .read 64, st := .walk }
    let l : List (Fld × Nat × Nat × Nat) := [(F.GLOBAL_CHIP_ID_CHIP, 0, 0, 0), (F.XLT_GRANULES_N, 0, 0, 1)]
    let s : Dev := { regs l with sys := { accs := [a] } }
    let t := fun (b : Byte) => ((({ regs l with sys := { accs := [a], slots := [0] }, mem := { hbm := [0, 1, 2, 3, 4, 5, 6].map (fun i => (i, 0)) ++ [(7, b)] } } : Dev).bringLine 0).tableEntry 0)
    s.acc 5 = some a ∧ a.st = .walk ∧ s.sys.staleWalks.contains a.id = false ∧ a.at_ / 2 ^ 40 = s.chip ∧ bits a.at_ 39 36 ≠ 0xF ∧ a.at_ % 2 ^ 40 / 65536 < s.granules ∧
    (s.bringLine (s.entryAddr 0 / 64)).tableEntry 0 = none ∧ (t 0).map xltValid = some false ∧ (t 0x98).map (fun e => (xltValid e, xltMotion e, xltTier e)) = some (true, false, 3) ∧
    (t 0xD8).map (fun e => (xltValid e, xltMotion e)) = some (true, true) ∧ ({ s with sys := { s.sys with staleWalks := [5] } } : Dev).sys.staleWalks.contains a.id = true := by decide +kernel
theorem test_inval_hyps : let a : MemAcc := { id := 5, who := .other, addr := 0, op := .read 64, st := .walk }
    let o : Dev := { regs [] with sys := { draining := [5], accs := [a] } }
    (regs []).get F.XLT_STATUS_INVAL_BUSY = 0 ∧ (regs [(F.XLT_STATUS_INVAL_BUSY, 0, 0, 1)]).get F.XLT_STATUS_INVAL_BUSY ≠ 0 ∧ (regs []).sys.staleWalks = [] ∧
    ({ regs [] with sys := { staleWalks := [1] } } : Dev).sys.staleWalks ≠ [] ∧ (regs []).sys.draining = [] ∧ 5 ∈ o.sys.draining ∧ o.acc 5 = some a ∧ a.st = .walk := by decide
theorem test_dma_hyps : let s := withCore 271 {} [(F.DMA_STATUS_PENDING, 271, 0, 2 ^ 15), (F.DMA_RING_BASE_V, 271, 15, 2 ^ 63), (F.DMA_STATUS_ACTIVE, 271, 0, 0x1F)]
    let g := withCore 271 {} [(F.DMA_STATUS_PENDING, 271, 0, 2 ^ 15), (F.DMA_STATUS_ACTIVE, 271, 0, 0x1F)]
    let b := withCore 271 {} [(F.DMA_STATUS_ACTIVE, 271, 0, 3), (F.DMA_CTL_DISABLE, 271, 0, 1)]
    s.dev.get F.DMA_CTL_DISABLE 271 = 0 ∧ s.dev.dmaActive 271 = 0x1F ∧ s.dev.clockGated 271 = false ∧
    arbiter 16 (s.dev.core 271).dma.ptr (fun ch => bitOf (s.dev.get F.DMA_STATUS_PENDING 271) ch) = some 15 ∧ isLocalAddr (s.dev.dmaDescAt 271 15) = true ∧ isLocalAddr (g.dev.dmaDescAt 271 15) = false ∧
    bitOf (s.dev.get F.DMA_STATUS_PENDING 271) 15 = true ∧ bitOf (s.dev.get F.DMA_STATUS_PENDING 271) 0 = false ∧ s.dev.dmaActive 271 ≠ 0 ∧ b.dev.dmaActive 271 = 3 ∧ b.dev.get F.DMA_CTL_DISABLE 271 ≠ 0 := by decide
theorem test_dma_desc_hyps : let l : List (Fld × Nat × Nat × Nat) := [(F.DMA_STATUS_ACTIVE, 0, 0, 15), (F.DMA_RING_BASE_V, 0, 15, 2 ^ 63)]
    let s := withCore 0 { dma := { reading := true } } l
    let b := fun (w0 w1 w2 w3 : Nat) => (List.range 32).zip (leBytes 8 (w0 + 2 ^ 63) ++ leBytes 8 w1 ++ leBytes 8 w2 ++ leBytes 8 w3)
    let o := fun (m : List Host.Cell) => ({ (withCore 0 { dma := { reading := true }, stg := m } l).dev with img := { inForce := some { groups := [{}] } } } : Dev)
    let ws := fun (d : Dev) => (List.range 4).map (fun i => leAt (d.localRead 0 (2 ^ 63) 32) (8 * i) 8)
    let z := withCore 0 { dma := { reading := true } } [(F.DMA_STATUS_ACTIVE, 0, 0, 15), (F.DMA_RING_BASE_V, 0, 15, 2 ^ 63 + 2 ^ 40)]
    (s.dev.core 0).dma.reading = true ∧ s.dev.dmaActive 0 ≠ 0x1F ∧ isLocalAddr (s.dev.dmaDescAt 0 (s.dev.dmaActive 0)) = true ∧ s.dev.localOk 0 (s.dev.dmaDescAt 0 (s.dev.dmaActive 0)) 32 = true ∧
    (s.dev.readError 0 (2 ^ 63) 32 0).1 = false ∧ s.dev.dmaDescAt 0 15 = 2 ^ 63 ∧ (s.dev.readError 0 (2 ^ 63) 32 2).1 = true ∧ (s.dev.core 0).dma.rung = false ∧
    bitOf (wordOf (ws (o ((List.range 32).map (fun i => (i, 0))))) 0) 63 = false ∧ z.dev.localOk 0 (z.dev.dmaDescAt 0 15) 32 = false ∧
    bitOf (wordOf (ws (o (b 2 0 0 0))) 0) 63 = true ∧ (o (b 2 0 0 0)).dmaCheck 0 { words := ws (o (b 2 0 0 0)) } = 0 ∧
    (o (b 9 0 0 0)).dmaCheck 0 { words := ws (o (b 9 0 0 0)) } = 1 ∧
    (o (b 1 (2 ^ 63 + 2 ^ 40) 0 64)).dmaCheck 0 { words := ws (o (b 1 (2 ^ 63 + 2 ^ 40) 0 64)) } = 2 := by decide +kernel
theorem test_dma_job_hyps : let c : DmaJob := { words := [1, 2 ^ 63, 2 ^ 63 + 64, 64] }
    let e : DmaJob := { words := [2], draining := true }
    let v : DmaJob := { words := [1 + 2 ^ 24, 2 ^ 63, 0, 128] }
    let k : Dev := (withCore 271 { dma := { job := some c } } [(F.DMA_STATUS_ACTIVE, 271, 0, 15)]).dev
    k.clockGated 271 = false ∧ (k.core 271).dma.job = some c ∧ c.opc = 1 ∧ c.kv = false ∧ c.next < c.len ∧ isLocalAddr (c.src + c.next) = true ∧ isLocalAddr (({ words := [1, 64, 0, 64] } : DmaJob).src) = false ∧
    e.opc = 2 ∧ e.draining = true ∧ ({ e with draining := false } : DmaJob).draining = false ∧ ({ c with next := 64 } : DmaJob).next = c.len ∧ c.reading = 0 ∧ v.kv = true ∧ v.kvCode = 0 ∧ v.opc = 1 ∧
    ({ v with kvCode := 5 } : DmaJob).kvCode < 0x100 ∧ ({ v with kvSent := 128 } : DmaJob).kvSent = v.len ∧ ({ v with kvWait := some 4 } : DmaJob).kvWait.isSome = true ∧
    mget 0 ({ unacked := [(0, 1)] } : Dma).unacked 0 ≠ 0 ∧ mget 0 ({ } : Dma).unacked 0 = 0 := by decide
theorem test_kv_hyps : let s : Dev := { regs [(F.KVR_ADDR_LCI, 3, 127, 7)] with img := { inForce := some { bind := List.replicate 204 {} ++ [{ role := 1, lci := 7 }], mem := List.replicate 3 {} ++ [{ regions := [1] }] } } }
    let t : Dev := { regs [(F.KVR_ADDR_LCI, 3, 127, 7), (F.KVR_ADDR_OFFSET, 3, 127, 64), (F.KVR_LEN_LEN, 3, 127, 64), (F.KVR_STATE_STATE, 3, 127, 1)] with img := s.img }
    let p : Packet := { ptype := 2, vc := 4, dst := t.chip, addr := 15 * 2 ^ 36 + 3 * 2 ^ 34 + 7 * 2 ^ 28 + 64 }
    s.get F.KVR_STATE_STATE 3 127 = 0 ∧ s.lciCore 3 (s.get F.KVR_ADDR_LCI 3 127) = some 204 ∧ s.get F.KVR_ADDR_OFFSET 3 127 + 64 + s.get F.KVR_LEN_LEN 3 127 ≤ s.nsSize 204 ∧
    (regs [(F.KVR_STATE_STATE, 0, 0, 2)]).get F.KVR_STATE_STATE 0 0 = 2 ∧ s.lciCore 3 8 = none ∧ t.kvAtBase p = true ∧ t.kvAtBase { p with addr := p.addr + 64 } = false ∧ t.clk.safe = false ∧
    ({ p with dst := t.chip + 1 } : Packet).dst ≠ t.chip := by decide +kernel
theorem test_kv_resend_hyps : let j : DmaJob := { words := [1 + 2 ^ 24], kvWait := some 0 }
    let f : DmaJob := { words := [1 + 2 ^ 24], kvWait := some 4 }
    (withCore 0 { dma := { job := some j } } []).dev.clockGated 0 = false ∧ j.kv = true ∧ j.kvWait = some 0 ∧ (0 : Nat) ≤ (regs []).beat ∧ f.kvWait = some 4 ∧ (regs []).beat < 4 := by decide

/-! ### Memory, pool and channels -/

theorem test_scrub_hyps : let s : Dev := { (withCore 0 { nsBad := [7] } [(F.MEM_CTL_SCRUB_EN, 0, 0, 1)]).dev with img := { inForce := some { mem := [{ regions := [1] }] } } }
    s.get F.MEM_CTL_SCRUB_EN 0 ≠ 0 ∧ 64 * 1023 + 64 ≤ s.nsSize 0 ∧ s.badWords 0 (.ns 0) 64 = [7] ∧ s.badWords 0 (.ns (64 * 1023)) 64 = [] ∧
    s.get F.NS_UE_CNT_V 0 ≤ 2 ^ (F.NS_UE_CNT_V.hi - F.NS_UE_CNT_V.lo + 1) - 1 ∧ (regs [(F.MEM_CTL_SCRUB_EN, 0, 0, 0)]).get F.MEM_CTL_SCRUB_EN 0 = 0 := by decide +kernel
theorem test_slice_hyps : let a : MemAcc := { id := 5, who := .other, addr := 0, op := .read 64, st := .slice 0 }
    let b : MemAcc := { id := 6, who := .other, addr := 0, op := .atomic .addI 1 0, st := .slice 0 }
    let r : MemAcc := { id := 7, who := .other, addr := 0, op := .read 64, st := .remote 1 }
    let s : Dev := { regs [(F.GLOBAL_CHIP_ID_CHIP, 0, 0, 0), (F.BEAT_NOW_V, 0, 0, 2 ^ 40)] with sys := { accs := [a, b, r] } }
    let z : Dev := { regs [(F.GLOBAL_CHIP_ID_CHIP, 0, 0, 0)] with sys := { accs := [r] } }
    s.clk.safe = false ∧ s.acc 5 = some a ∧ s.acc 6 = some b ∧ s.acc 7 = some r ∧ r.addr / 2 ^ 40 = s.chip ∧ r.issued + 65536 * atLeast1 (s.get F.POOL_TIMEOUT_BEATS) ≤ s.now ∧
    z.now < r.issued + 65536 * atLeast1 (z.get F.POOL_TIMEOUT_BEATS) := by decide +kernel
theorem test_pool_hyps : let s := st [(F.POOL_CTL_ENABLE, 0, 0, 1)]
    let q : Dev := { regs [(F.POOL_CTL_ENABLE, 0, 0, 1)] with pool := { known := true, queue := [{ op := 0, client := 63, dp := 1 }, { op := 3, client := 0, dp := 2, st := 2 }] } }
    s.dev.flag F.POOL_CTL_ENABLE = true ∧ s.dev.pool.queue.length < 32 ∧ (regs []).flag F.POOL_CTL_ENABLE = false ∧ s.dev.pool.known = false ∧ s.dev.pool.later = [] ∧ s.dev.pool.queue = [] ∧
    q.pool.known = true ∧ q.pool.later = [] ∧ (∀ k ∈ q.pool.queue, k.st = 0 ∨ k.st = 2 ∨ k.st = 3) ∧
    32 ≤ ({ queue := List.replicate 32 { op := 1, client := 0, dp := 0 } } : Pool).queue.length := by decide
theorem test_pool_evict_hyps : let s : Dev := { regs [(F.POOL_CTL_ENABLE, 0, 0, 1), (F.POOL_LOW_WATER_LOW_WATER_T3, 0, 0, 1), (F.POOL_CLIENT_INFO_LOW_TIER, 0, 0, 5)] with pool := { known := true, segs := [(4, 0, 1)], recs := [(9, { pooled := true, state := 1, tier := 3 })] } }
    let e : Dev := { regs [(F.POOL_CTL_ENABLE, 0, 0, 1), (F.POOL_LOW_WATER_LOW_WATER_T3, 0, 0, 1)] with pool := { known := true } }
    s.flag F.POOL_CTL_ENABLE = true ∧ s.pool.known = true ∧ s.poolShort 3 = true ∧ s.pool.moves = [] ∧ s.pool.later = [] ∧ (s.choosePage 3 (fun _ => true)).2 = 0 ∧
    (s.choosePage 3 (fun _ => true)).1 = some 9 ∧ e.choosePage 3 (fun _ => true) = (none, 0) ∧ e.poolShort 3 = true ∧
    (({ e with pool := { e.pool with moves := [{ dp := 9, fromTier := 3, fromFrame := 0, toTier := 4, toFrame := 0, sel := true }] } } : Dev).pool.moves.any (fun m => m.sel && m.fromTier = 3)) = true ∧ (regs [(F.POOL_LOW_WATER_LOW_WATER_T3, 0, 0, 0)]).poolShort 3 = false := by decide +kernel
theorem test_pool_move_hyps : let m : PoolMove := { dp := 524287, fromTier := 3, fromFrame := 0, toTier := 4, toFrame := 0 }
    ({ regs [] with pool := { moves := [m] } } : Dev).pool.moves.find? (fun m => m.dp = 524287) = some m := by decide
theorem test_pool_bad_hyps : let d := regs [(F.XLT_GRANULES_N, 0, 0, 64)]
    let k : PoolCmd := { op := 0, client := 63, dp := 1 }
    d.granules / 32 = 2 ∧ k.dp < d.granules / 32 ∧ (d.page k.dp).state = 0 ∧ d.get F.POOL_CLIENT_INFO_VALID 0 k.client = 0 ∧ d.granules / 32 ≤ (2 : Nat) ∧
    (({ d with pool := { recs := [(1, { state := 1 })] } } : Dev).page 1).state ≠ 0 := by decide
theorem test_interleave_hyps : let d : Dev := { regs [] with sys := { slots := [0, 32, 64] } }
    d.sys.slots.Nodup ∧ 3 * chBytes - 1 < d.sys.slots.length * chBytes ∧ d.sys.slots.length * chBytes ≤ 3 * chBytes ∧ 64 ∈ d.sys.slots ∧ chBytes / 256 - 1 < chBytes / 256 := by decide
theorem test_interleave_edges : let d : Dev := { regs [] with sys := { slots := [0, 32, 64] } }
    (d.place (3 * chBytes - 1)).isSome = true ∧ d.place (3 * chBytes) = none ∧ (d.place 255).map (·.chan) = some 0 ∧ (d.place 256).map (·.chan) = some 32 ∧
    (d.place (3 * 256)).map (·.chan) = some 32 := by decide
theorem test_channel_hyps : let live := st [(F.MCH_CH_STATE_STATE, 3, 31, 2), (F.MCH_GSTATE_STATE, 0, 0, 0), (F.BEAT_CLK_STATUS_SELECTED, 0, 0, 1)]
    let q : MchReq := { id := 1, line := 0, bank := 47, row := 0, accepted := 1 }
    let late : Dev := { regs [(F.BEAT_NOW_V, 0, 0, 2)] with sys := { chans := [(127, { pc0 := { queue := [q] } })] } }
    let drain : Dev := { regs [(F.MCH_CH_STATE_STATE, 3, 31, 1), (F.BEAT_CLK_STATUS_SELECTED, 0, 0, 1)] with sys := { chans := [(127, { why := 3, pc1 := { owed := [(47, 16)] } })] } }
    live.dev.chLive 127 = true ∧ live.dev.get F.MCH_GSTATE_STATE = 0 ∧ live.dev.noSource = false ∧ 0 < mget 8 ((live.dev.chanOf 127).pc 1).owed 47 + b2n true ∧ q ∈ ((late.chanOf 127).pc 0).queue ∧
    q.accepted ≠ 0 ∧ q.accepted - 1 + 98304 ≤ late.now ∧ drain.chanState 127 = 1 ∧ (drain.chanOf 127).why = 3 ∧ mget 8 ((drain.chanOf 127).pc 1).owed 47 + b2n true = 17 ∧ (regs []).noSource = true ∧
    (regs []).chLive 127 = false := by decide +kernel
theorem test_bank_rows_hyps : let r : MchReq := { id := 1, line := 0, bank := 47, row := 5 }
    (({} : PseudoCh).open_.find? (fun e => e.1 = r.bank)) = none ∧ (({ open_ := [(47, 4)] } : PseudoCh).open_.find? (fun e => e.1 = r.bank)) = some (r.bank, 4) ∧ (4 : Nat) ≠ r.row ∧
    (({ open_ := [(47, 5)] } : PseudoCh).open_.find? (fun e => e.1 = r.bank)) = some (r.bank, r.row) := by decide
theorem test_decode_hyps : let r : MchReq := { id := 1, line := 0, bank := 0, row := 0, cols := 2 }
    let t : MchReq := { id := 2, line := 0, bank := 0, row := 0, cols := 2, got := List.replicate 32 0 }
    let z : MchReq := { id := 3, line := 0, bank := 0, row := 0, cols := 8, scrub := true, got := List.replicate 224 0 }
    let s : Dev := { regs [] with sys := { chans := [(0, { pc0 := { bursts := [r, t], queue := [z] } })] } }
    ((s.chanOf 0).pc 0).awaited 1 = some r ∧ ((s.chanOf 0).pc 0).awaited 2 = some t ∧ ((s.chanOf 0).pc 0).awaited 3 = some z ∧ ((s.chanOf 0).pc 0).awaited 4 = none ∧
    s.mem.poison.contains (r.line + r.got.length / 64) = false ∧ r.bursts = 2 ∧ t.got.length = 32 ∧ z.bursts = 8 ∧ z.scrub = true := by decide +kernel
theorem test_hbm_scrub_hyps : let s : Dev := { regs [(F.MCH_CTL_SCRUB_EN, 0, 0, 1), (F.MCH_CH_STATE_STATE, 0, 0, 2), (F.MCH_GSTATE_STATE, 0, 0, 0)] with sys := { slots := [0] } }
    s.flag F.MCH_CTL_SCRUB_EN 0 = true ∧ s.chLive 0 = true ∧ s.get F.MCH_GSTATE_STATE = 0 ∧ ((s.chanOf 0).pc 0).scrubBeat ≠ s.beat + 1 ∧ s.unitAddr 0 0 = some 0 ∧
    s.place 0 = some { chan := 0, pc := 0, chunk := 0, bank := 0, row := 0, unit := 0 } ∧ (regs [(F.MCH_CTL_SCRUB_EN, 0, 0, 0)]).flag F.MCH_CTL_SCRUB_EN 0 = false := by decide
theorem test_train_hyps : let s := fun k => ({ regs [(F.MCH_CH_STATE_STATE, 3, 31, 1), (F.BEAT_CLK_STATUS_SELECTED, 0, 0, 1)] with sys := { chans := [(127, { why := k })] } } : Dev)
    (s 2).chanState 127 = 1 ∧ (s 2).noSource = false ∧ (s 2).erasures 127 0 = [] ∧ (s 2).erasures 127 1 = [] ∧ ∀ k, k < 4 → ((s k).chanOf 127).why = k ∧ ((s k).chanOf 127).pc0.queue ++ ((s k).chanOf 127).pc1.queue = [] := by decide +kernel
theorem test_channel_command_hyps : let o := st [(F.MCH_CH_STATE_STATE, 3, 31, 5)]
    let t := fun (l : Nat) (stop : Bool) => ({ regs [(F.MCH_CH_STATE_STATE, 3, 31, 6), (F.MCH_CH_STATE_TG_RUN, 3, 31, 1)] with sys := { chans := [(127, { tg := some { loops := l, stopping := stop } })] } } : Dev)
    o.dev.chanState 127 = 5 ∧ (t 1 false).chanState 127 = 6 ∧ o.dev.chLive 127 = false ∧ (o.dev.chanOf 127).tg = none ∧ ((t 0 false).chanOf 127).tg = some { loops := 0, stopping := false } ∧
    ((t 1 false).chanOf 127).tg = some { loops := 1, stopping := false } ∧ ((t 0 true).chanOf 127).tg = some { loops := 0, stopping := true } := by decide
theorem test_stop_hyps : let a := st [(F.MCH_GSTATE_STATE, 0, 0, 2)]
    let p := st [(F.MCH_GSTATE_STATE, 0, 0, 1), (F.MCH_MAP_V, 0, 0, 1), (F.BEAT_CLK_STATUS_SELECTED, 0, 0, 1)]
    let i := st [(F.IMG_STATUS_STATE, 0, 0, 1)]
    let z := regs [(F.MCH_GSTATE_STATE, 0, 0, 0)]
    z.get F.MCH_GSTATE_STATE = 0 ∧ z.quiescent = true ∧ (regs []).get F.POOL_CTL_ENABLE = 0 ∧ (regs []).get F.POOL_STATUS_BUSY = 0 ∧ a.dev.get F.MCH_GSTATE_STATE = 2 ∧
    p.dev.get F.MCH_GSTATE_STATE = 1 ∧ p.dev.get F.MCH_MAP_V ≠ 0 ∧ i.dev.get F.IMG_STATUS_STATE ≠ 0 ∧ bitOf (p.dev.get F.MCH_MAP_V) 0 = true ∧ p.dev.chanState 0 = 0 ∧ p.dev.noSource = false ∧ z.noSource = true := by decide +kernel
theorem test_apply_over_hyps : let s := st [(F.MCH_GSTATE_STATE, 0, 0, 2)]
    s.dev.applyOver = true ∧ s.dev.boot.step ≠ 8 ∧ s.dev.boot.q8 = 0 := by decide +kernel
theorem test_temp_hyps : let s : Dev := regs [(F.BEAT_NOW_V, 0, 0, 16)]
    (regs []).get F.MCH_TEMP_EMERGENCY 3 1 = 0 ∧ s.tempBeat 7 = true ∧ s.tempBeat 6 = false ∧ (mget {} s.sys.sensors 7).fails < 2 := by decide
theorem test_temp_bounds : let s := st [(F.MCH_TEMP_LEVEL, 3, 1, 6)]
    let r := st [(F.MCH_TEMP_LEVEL, 3, 1, 7)]
    s.dev.get F.MCH_TEMP_LEVEL 3 1 = 6 ∧ ((s.dev.throttle 7 95).get F.MCH_TEMP_LEVEL 3 1) = 7 ∧ ((r.dev.throttle 7 95).get F.MCH_TEMP_LEVEL 3 1) = 7 ∧ ((r.dev.throttle 7 84).get F.MCH_TEMP_LEVEL 3 1) = 7 ∧
    ((r.dev.throttle 7 83).get F.MCH_TEMP_LEVEL 3 1) = 6 := by decide
theorem test_parity_hyps : let r : MchReq := { id := 1, line := 0, bank := 0, row := 0, parity := 2 }
    let q : MchReq := { id := 2, line := 0, bank := 0, row := 0 }
    let w : MchReq := { id := 3, line := 0, bank := 0, row := 0, parity := 1, cols := 1, last := .column }
    let s : Dev := { regs [(F.MCH_CH_STATE_STATE, 0, 0, 2)] with sys := { chans := [(0, { pc0 := { bursts := [r, w], queue := [q], refs := [(46, 1), (47, 3)] } })] } }
    (((s.chanOf 0).pc 0).bursts ++ ((s.chanOf 0).pc 0).queue).find? (fun r => r.id = 1) = some r ∧ r.parity = 2 ∧ s.chLive 0 = true ∧
    (((s.chanOf 0).pc 0).bursts ++ ((s.chanOf 0).pc 0).queue).find? (fun r => r.id = 2) = some q ∧ q.parity = 0 ∧
    (((s.chanOf 0).pc 0).bursts ++ ((s.chanOf 0).pc 0).queue).find? (fun r => r.id = 3) = some w ∧ w.parity = 1 ∧ w.last = .column ∧ w ∈ ((s.chanOf 0).pc 0).bursts ∧
    mget 0 ((s.chanOf 0).pc 0).refs 46 = 1 ∧ mget 0 ((s.chanOf 0).pc 0).refs 47 = 3 := by decide

/-! ### Ports, packets and factor tables -/

theorem test_port_hyps : let s := fun k => st [(F.FAB_PORT_STATUS_STATE, 3, 3, k), (F.BEAT_CLK_STATUS_SELECTED, 0, 0, 1)]
    let t := fun (rx tx : Nat) => ({ (s 1).dev with fab := { ports := [(15, { lock := some rx, param := some (1, 2, 3, tx) })] } } : Dev)
    let rx := fun (d : Dev) => ((d.port 15).aged d.laneWindow).lanes (d.portState 15 = 4)
    (s 0).dev.portState 15 = 0 ∧ (s 1).dev.portState 15 = 1 ∧ (s 2).dev.portState 15 = 2 ∧ (s 3).dev.portState 15 = 3 ∧ (s 4).dev.portState 15 = 4 ∧ (s 0).dev.noSource = false ∧ (regs []).noSource = true ∧
    (1 : Nat) ≠ (s 1).dev.serial ∧ ((s 1).dev.port 15).lock = none ∧ (t 0x3F 0x3F).portState 15 = 1 ∧ ((t 0x3F 0x3F).port 15).lock = some 0x3F ∧ ((t 0x3F 0x3F).port 15).param = some (1, 2, 3, 0x3F) ∧
    6 ≤ popCount 8 (rx (t 0x3F 0x3F)) ∧ 6 ≤ popCount 8 ((0x3F % 256) &&& (255 ^^^ ((t 0x3F 0x3F).port 15).outTx)) ∧ popCount 8 (rx (t 0x1F 0x3F)) < 6 ∧ ((s 1).dev.port 15).fails < 2 := by decide +kernel
theorem test_port_key_hyps : let k : Keying := { unanswered := some 1, ctrTx := 2 ^ 32 - 1, taken := true }
    let s : Dev := { regs [(F.FAB_PORT_STATUS_STATE, 0, 0, 3), (F.FAB_PORT_STATUS_STATE, 0, 1, 2), (F.FAB_PORT_STATUS_QUAR, 0, 0, 1)] with fab := { ports := [(0, { key := k, fails := 2, quarEnd := 0 }), (1, { key := k }), (2, { key := { rekey := true } })] } }
    (s.port 0).key.unanswered = some 1 ∧ 2 ^ 31 ≤ (s.port 0).key.ctrTx ∧ (s.port 0).key.rekey = false ∧ 2 ^ 32 - 1 ≤ (s.port 0).key.ctrTx ∧ 2 ≤ (s.port 0).fails ∧ s.portState 0 = 3 ∧
    s.pget F.FAB_PORT_STATUS_QUAR 0 ≠ 0 ∧ (s.port 0).quarEnd ≤ s.beat ∧ s.portState 1 = 2 ∧ (s.port 1).key.taken = true ∧ (s.port 2).key.rekey = true ∧ (s.port 2).key.unanswered = none ∧
    (s.port 2).key.ctrTx < 2 ^ 31 ∧ s.portState 2 ≠ 3 ∧ s.pget F.FAB_PORT_STATUS_QUAR 1 = 0 := by decide +kernel
theorem test_frame_hyps : let s : Dev := { regs [(F.FAB_PORT_STATUS_STATE, 0, 0, 3), (F.FAB_PORT_STATUS_STATE, 0, 1, 1), (F.FAB_PORT_STATUS_STATE, 0, 2, 2), (F.BEAT_CLK_STATUS_SELECTED, 0, 0, 1)] with
        fab := { ports := [(0, { txSeq := 4095, rxSeq := 4095, resend := [⟨7, []⟩], retry := List.replicate 32 ⟨7, []⟩ }), (4, { retryWait := true })] } }
    let f : RxFrame := { trailer := { ack := 0, seq := 4095 } }
    let g : RxFrame := { trailer := { ack := 0, seq := 0, null := true }, flits := [.link (.param 9 8 7 0xFF)] }
    s.noSource = false ∧ s.portState 0 = 3 ∧ (s.port 0).closing = false ∧ (s.port 0).key.ctrTx < 2 ^ 32 - 1 ∧ (s.port 0).resend = [⟨7, []⟩] ∧ 32 ≤ (s.port 0).retry.length ∧ (s.port 3).retry.length < 32 ∧
    (s.port 3).resend = [] ∧ s.portState 1 = 1 ∧ (s.port 1).retryWait = false ∧ s.portState 2 = 2 ∧ (s.port 0).retryWait = false ∧ (s.port 0).key.stale f.trailer.keyPhase = false ∧ f.laneCe = [] ∧ f.flits = [] ∧
    f.crcOk = true ∧ f.tagOk = true ∧ f.trailer.plain = false ∧ f.trailer.null = false ∧ f.trailer.nak = false ∧ f.fecUe = 0 ∧ f.trailer.seq = (s.port 0).rxSeq ∧ ({ f with fecUe := 1 } : RxFrame).fecUe ≠ 0 ∧
    (s.port 0).nakSent = false ∧ (s.port 1).key.installed = false ∧ g.trailer.null = true ∧ g.crcOk = true ∧ g.laneCe = [] ∧ g.fecUe = 0 ∧ g.flits = [.link (.param 9 8 7 0xFF)] ∧ (regs []).portState 0 = 0 ∧
    (regs []).noSource = true ∧ ({ regs [(F.FAB_PORT_STATUS_STATE, 1, 0, 1)] with fab := s.fab } : Dev).portState 4 = 1 ∧ (s.port 4).retryWait = true := by decide +kernel
theorem test_packet_hyps : let p : Packet := { ptype := 3, aop := 0x40, len := 8, dst := (regs []).chip }
    let q : Packet := { ptype := 1, dst := (regs []).chip + 1 }
    let r : Req := { tag := 9, ptype := 1, waiter := .access 5 }
    let a : MemAcc := { id := 5, who := .other, addr := 0, op := .read 8, st := .remote 9 }
    let w : Packet := { ptype := 4, tag := 9 }
    let b : Req := { tag := 7, ptype := 2, waiter := .access 5, copy := some { ptype := 2 }, resendAt := 4 }
    let s : Dev := { regs [(F.BEAT_NOW_V, 0, 0, 4)] with fab := { reqs := [r, b] }, sys := { accs := [a] } }
    s.clk.safe = false ∧ s.fab.reqs.find? (fun r => r.tag = 7) = some b ∧ b.copy = some { ptype := 2 } ∧ b.busy = false ∧ b.resendAt ≠ 0 ∧ b.resendAt ≤ s.beat ∧ (regs []).beat < b.resendAt ∧
    ({ regs [] with clk := { safe := true } } : Dev).clk.safe = true ∧ p.block = false ∧ p.dst = (regs []).chip ∧ p.addr % 8 = 0 ∧ q.dst ≠ (regs []).chip ∧ q.hops = 0 ∧ ({ q with hops := 1 } : Packet).hops ≠ 0 ∧
    s.fab.reqs.find? (fun (r : Req) => r.tag = w.tag && (w.ptype = 7 || w.ptype = (if r.ptype = 0x0B then 5 else r.ptype + 3))) = some r ∧ s.acc 5 = some a ∧ (regs []).fab.reqs = [] ∧ (regs []).pget F.FAB_PORT_STATUS_QUAR 15 = 0 ∧ AtomOp.ofOpc 0xFF = none := by decide
theorem test_epoch_hyps : let d : Dev := regs []
    d.get F.LEX_STATUS_LOAD_BUSY 3 = 0 ∧ (d.lex 3).slotOf 0 = none ∧ (32767 + 65536 - 0) % 65536 ≤ 32767 ∧ 32767 < (32768 + 65536 - 0) % 65536 ∧
    (regs [(F.LEX_STATUS_LOAD_BUSY, 3, 0, 1)]).get F.LEX_STATUS_LOAD_BUSY 3 ≠ 0 ∧ (65535 + 1) % 65536 = 0 := by decide
theorem test_factor_slot_hyps : let t : TableSlot := { epoch := 65535, bases := 1, values := [] }
    let d : Dev := (regs []).setLex 3 (({} : Lex).setSlot 65535 (some t))
    (d.lex 3).slotOf 65535 = some t ∧ t.epoch < 65536 ∧ d.get F.LEX_STATUS_LOAD_BUSY 3 = 0 := by decide
theorem test_factor_load_hyps : let x : Lex := { loadRunning := true, loadBases := 1, loadAddr := 65536 - 256 * 64 }
    let cells : Byte → List Host.Cell := fun b => (List.range 8).zip [0, 0, 0, 0, 0xE0, 0, 0, b]
    let d := fun (b : Byte) => ({ regs [(F.LEX_STATUS_LOAD_BUSY, 0, 0, 1), (F.XLT_GRANULES_N, 0, 0, 1), (F.SHC_STATUS_PINNED, 0, 0, 1)] with sys := { slots := [0] }, mem := { hbm := cells b } } : Dev).setLex 0 x
    let a := fun (d : Dev) => d.chip * 2 ^ 40 + (d.lex 0).loadAddr % 2 ^ 40
    let r := (d 0x98).freFetch 256 0 (a (d 0x98)) 256
    ((d 0x98).lex 0).loadRunning = true ∧ ((d 0x98).lex 0).loadEpoch < 65536 ∧ (d 0x98).clk.safe = false ∧ r.1 = true ∧ (r.2.freLines 256 0 (a (d 0x98)) 256).1.all (fun x => x.1 = 0) = true ∧
    ((d 0).freLines 256 0 (a (d 0)) 1).1.any (fun x => x.1 ≠ 0) = true ∧ ((d 0xA0).freFetch 256 0 (a (d 0xA0)) 1).1 = false ∧ ((d 0).lex 0).slotOf ((d 0).lex 0).loadEpoch = none ∧
    (regs []).get F.LEX_STATUS_LOAD_BUSY 0 = 0 ∧ (d 0).get F.LEX_STATUS_LOAD_BUSY 0 ≠ 0 := by decide +kernel
theorem test_epoch_advance_hyps : let t : TableSlot := { epoch := 1, bases := 1, values := [] }
    let d : Dev := (regs [(F.LEX_STATUS_ADV_PENDING, 3, 0, 1)]).setLex 3 (({} : Lex).setSlot 1 (some t))
    d.get F.LEX_STATUS_ADV_PENDING 3 ≠ 0 ∧ d.blockOpen 3 ((d.get F.LCX_EPOCH_CUR 3 + 65535) % 65536) = false ∧ (d.lex 3).slotOf ((d.get F.LCX_EPOCH_CUR 3 + 1) % 65536) = some t ∧
    t.epoch = (d.get F.LCX_EPOCH_CUR 3 + 1) % 65536 := by decide

/-! ### Collectives, banks and power -/

theorem test_post_hyps : let s := st [(F.COL_DESC0_KIND, 0, 255, 3)]
    let i : Dev := { s.dev with img := { inForce := some { qmask := 1, trees := [{ treeId := 0 }] } } }
    i.colState 255 = 0 ∧ i.colDescOk (i.colRegs 255) = true ∧ (st [(F.COL_STATE_STATE, 0, 255, 3)]).dev.colState 255 = 3 ∧ (st [(F.COL_STATE_STATE, 0, 255, 5)]).dev.colState 255 = 5 ∧
    (st [(F.COL_STATE_STATE, 0, 255, 6)]).dev.colState 255 = 6 ∧ (st [(F.COL_STATE_STATE, 0, 255, 4)]).dev.colState 255 = 4 ∧ ((regs []).colSlot 255).kind ≠ 1 ∧
    (regs []).colDescOk ((regs []).colRegs 255) = false := by decide +kernel
theorem test_release_hyps : let c : ColSlot := { desc0 := 1, bytes := 4194304 }
    let v : ColSlot := { desc0 := 3 }
    let u : ColSlot := { desc0 := 4 }
    let f : ColSlot := { desc0 := 1 + 2 ^ 24, desc1 := 5 * 2 ^ 48, aux := 1 }
    let s : Dev := { regs [(F.COL_STATE_STATE, 0, 0, 1)] with col := { slots := [(0, c)] } }
    let w : Dev := { regs [(F.COL_STATE_STATE, 0, 0, 1), (F.COL_STATE_STATE, 0, 1, 2)] with col := { slots := [(0, c), (1, { c with kib := 16384 })] } }
    let t : Dev := { s with img := { inForce := some { trees := [{ children := [7] }] } } }
    s.colState 0 = 1 ∧ (s.colSlot 0).kind = 1 ∧ (s.colSlot 0).factor = false ∧ v.kind = 3 ∧ u.kind = 4 ∧ f.kind = 1 ∧ f.factor = true ∧
    t.colWaiting 0 = [] ∧ t.freReserved 0 + t.colKib c ≤ 16384 ∧ w.colWaiting 0 ≠ [] ∧ w.colState 0 = 1 ∧ s.colState 255 ≠ 1 := by decide +kernel
theorem test_release_epoch : let d := regs [(F.LCX_EPOCH_CUR, 3, 0, 1)]
    let c : ColSlot := { desc0 := 1 + 3 * 16 + 2 ^ 24 }
    let b : Dev := { regs [(F.COL_STATE_STATE, 0, 0, 1), (F.NUM_STEP_STATUS_LAST_SKIPPED, 0, 0, 1)] with col := { slots := [(0, { desc0 := 2 })] } }
    c.epoch ≠ d.get F.LCX_EPOCH_CUR 3 ∧ c.quarter = 3 ∧ c.epoch = (regs [(F.LCX_EPOCH_CUR, 3, 0, 0)]).get F.LCX_EPOCH_CUR 3 ∧
    b.colState 0 = 1 ∧ (b.colSlot 0).kind = 2 ∧ b.get F.NUM_STEP_STATUS_LAST_SKIPPED = 1 ∧ b.get F.NUM_STEP_V = (b.colSlot 0).step := by decide
theorem test_update_releases : ({ desc0 := 4 } : ColSlot).kind = 4 ∧ (regs []).colState 255 ≠ 1 := by decide
theorem test_grant_hyps : let c : ColSlot := { desc0 := 1, bytes := 4194304, rel := 1 }
    let o : ColSlot := { desc0 := 1, bytes := 4194304, rel := 2 }
    let s : Dev := { regs [(F.COL_STATE_STATE, 0, 0, 2), (F.COL_STATE_STATE, 0, 1, 2)] with col := { slots := [(0, o), (1, c)] } }
    let f : Dev := { regs [(F.COL_STATE_STATE, 0, 0, 2), (F.COL_STATE_STATE, 0, 1, 3)] with col := { slots := [(0, c), (1, { c with kib := 16385 })] } }
    s.clk.safe = false ∧ s.colWaiting 0 = [(0, o), (1, c)] ∧ c.rel < o.rel ∧ s.freReserved 0 + s.colKib c ≤ 16384 ∧ f.colWaiting 0 = [(0, c)] ∧ 16384 < f.freReserved 0 + f.colKib c ∧ s.colWaiting 3 = [] := by decide +kernel
theorem test_col_packet_hyps : let c : ColSlot := { desc0 := 1, bytes := 4194304 }
    let b : ColSlot := { desc0 := 2, bytes := 4194304 }
    let s : Dev := { regs [(F.COL_STATE_STATE, 0, 0, 3), (F.COL_STATE_STATE, 0, 1, 3)] with col := { slots := [(0, c), (1, b)] }, img := { inForce := some { trees := [{ rank := 1, parent := 8, children := [0x1FFFF, 7] }] } } }
    let p : Packet := { ptype := 0x0B, src := 7, dst := s.chip, len := 4096, addr := 16384 - 16 }
    let q : Packet := { ptype := 0x0B, src := 8, dst := s.chip, len := 256, addr := 2 ^ 26 }
    s.colEarly p = 0 ∧ p.slot = 0 ∧ bits p.addr 35 34 = c.quarter ∧ 256 * p.row + p.len ≤ c.bytes ∧ c.kind = 1 ∧ s.freBusy (c.src + 256 * p.row) = false ∧ s.childLevel c p.src = some 1 ∧
    p.row % 64 + p.len / 256 ≤ 64 ∧ s.colEarly q = 0 ∧ q.slot = 1 ∧ b.kind = 2 ∧ s.freBusy (b.dst + 256 * q.row + q.len - 1) = false ∧ s.fromParent b q.src = true ∧ p.mtype = 0 ∧
    s.colEarly ({ p with addr := 2 ^ 27 } : Packet) ≠ 0 ∧ p.dst = s.chip ∧ p.len % 256 = 0 ∧ s.clk.safe = false ∧ s.childLevel c 9 = none ∧ s.fromParent b 7 = false ∧ p.block = false ∧ s.colEnded 0 = false ∧ s.colEnded 1 = false := by decide +kernel
theorem test_col_block_hyps : let c : ColSlot := { desc0 := 1 + 2 ^ 24, bytes := 4194304 }
    let t : TableSlot := { epoch := 5, bases := 1, values := [0x3F800000] }
    let s : Dev := ({ regs [(F.COL_STATE_STATE, 0, 0, 3), (F.XLT_GRANULES_N, 0, 0, 1), (F.GLOBAL_CHIP_ID_CHIP, 0, 0, 0)] with col := { slots := [(0, c)] }, img := { inForce := some { trees := [{ rank := 1, parent := 8, children := [7] }] } }, sys := { slots := [0] }, mem := { hbm := (List.range 8).zip [0, 0, 0, 0, 0, 0, 0, 0xD8] } } : Dev).setLex 0 (({} : Lex).setSlot 5 (some t))
    let p : Packet := { ptype := 0x0B, block := true, src := 7, dst := s.chip, len := 20, addr := 63, data := blockData 0x20 1 5 1 0 63 1 0 (leBytes 4 0x3F800000) }
    (match s.lexBlock 0 p with | .inl (.rows r0 k _ vs) => r0 = p.row % 64 && r0 + k ≤ 64 && vs.length = 64 && 256 * p.row + 256 * k ≤ c.bytes | _ => false) = true ∧
    (match s.lexBlock 0 { p with data := p.data.drop 1 } with | .inr code => code = 0x60 | _ => false) = true ∧ s.colEarly p = 0 ∧ s.colEnded p.slot = false ∧ bits p.addr 35 34 = c.quarter ∧
    s.childLevel c p.src = some 0 ∧ c.kind = 1 ∧ s.clk.safe = false ∧ s.freBusy (c.src + 256 * p.row) = true ∧ s.freBusy (65536 + 256 * p.row) = false := by decide +kernel
theorem test_col_message_hyps : let c : ColSlot := { desc0 := 1 }
    let v : ColSlot := { desc0 := 3 }
    let s : Dev := { regs [(F.COL_STATE_STATE, 0, 0, 3), (F.COL_STATE_STATE, 0, 1, 3)] with col := { slots := [(0, c), (1, v)] }, img := { inForce := some { trees := [{ rank := 1, parent := 8, children := [7] }] } } }
    let g : ColSlot := { desc0 := 1, bytes := 16384, added := [(0, 2 ^ 64 - 1)] }
    let h : ColSlot := { desc0 := 1, bytes := 16384, held := [{ row := 0, level := 0, vals := List.replicate 4096 0, pkt := { ptype := 0x0B } }] }
    let m : Nat → Nat → Nat → Nat → Packet := fun t k src i => { ptype := 0x0B, src := src, dst := s.chip, len := 64, addr := i * 2 ^ 26, data := [BitVec.ofNat 8 t, BitVec.ofNat 8 k] ++ List.replicate 62 0 }
    (m 1 1 7 0).mtype = 1 ∧ s.colEarly (m 1 1 7 0) = 0 ∧ c.controlOk (m 1 1 7 0) = true ∧ s.childLevel c 7 = some 0 ∧ 0 ∉ c.await ∧ 0 ∉ c.sealed_ ∧ c.tiles = 0 ∧ 0 ∈ ({ c with sealed_ := [0] } : ColSlot).sealed_ ∧ c.allAdded 0 = true ∧
    g.allAdded 0 = true ∧ h.allAdded 0 = false ∧ h.sealWait = [] ∧ h.receivedRows 0 = 64 * h.tiles ∧ ({ h with held := [] } : ColSlot).receivedRows 0 ≠ 64 * h.tiles ∧ ({ v with voted := [0] } : ColSlot).voted = [0] ∧ s.clk.safe = false ∧
    (m 2 1 7 0).mtype = 2 ∧ c.controlOk (m 2 1 7 0) = true ∧ 0 ∈ ({ c with await := [0] } : ColSlot).await ∧ s.colState 0 = 3 ∧ s.colEnded 0 = false ∧ s.colEnded 1 = false ∧ (s.setColState 0 5).colEnded 0 = true ∧ (m 3 1 8 0).mtype = 3 ∧ c.controlOk (m 3 1 8 0) = true ∧ s.fromParent c 8 = true ∧
    (m 4 3 7 1).mtype = 4 ∧ s.colEarly (m 4 3 7 1) = 0 ∧ v.controlOk (m 4 3 7 1) = true ∧ 0 ∉ v.voted ∧ (m 5 3 8 1).mtype = 5 ∧ v.controlOk (m 5 3 8 1) = true ∧ v.voteTaken = false ∧ s.fromParent v 8 = true ∧
    ({ v with voteTaken := true } : ColSlot).controlOk (m 5 3 8 1) = true := by decide +kernel
theorem test_tile_finish_hyps : let c : ColSlot := { desc0 := 1, bytes := 16384, dst := 2 ^ 40, part := [(0, List.replicate 4096 0)] }
    let bytes := (List.replicate 4096 (0 : F32)).flatMap (fun v => leBytes 4 v.toNat)
    let s : Dev := { regs [(F.COL_STATE_STATE, 0, 0, 3), (F.GLOBAL_CHIP_ID_CHIP, 0, 0, 0)] with col := { slots := [(0, c), (1, { c with src := 2 ^ 40, part := [] }), (2, { c with part := [] })] } }
    s.colState 0 = 3 ∧ c.kind = 1 ∧ 0 < c.tiles ∧ 0 ∉ c.finished ∧ s.turnOf c 0 = none ∧ s.freBusy c.src = false ∧ s.freBusy c.dst = false ∧ s.clk.safe = false ∧ s.colReady 0 0 = (true, s) ∧
    s.colPart 0 0 = (some (List.replicate 4096 0), s) ∧ (s.colReady 1 0).1 = false ∧ (s.colReady 2 0).1 = true ∧ ((s.colReady 2 0).2.colPart 2 0).1 = none ∧
    (Dev.freWriteN 0 0 256 (2 ^ 40) bytes (true, s)).1 = true ∧ (Dev.freWriteN 0 0 256 0 bytes (true, s)).1 = false := by
  refine ⟨by decide +kernel, by decide, by decide, by decide, by decide +kernel, by decide +kernel, by decide +kernel, by decide, rfl, rfl, by decide +kernel, by decide +kernel, by decide +kernel, by decide +kernel, by decide +kernel⟩
theorem test_col_answer_hyps : let r : Req := { tag := 9, ptype := 0x0B, waiter := .collective 255, copy := some { ptype := 0x0B }, busy := true, resendAt := 1 }
    let s : Dev := { regs [(F.BEAT_NOW_V, 0, 0, 65536)] with fab := { reqs := [r] } }
    r ∈ s.fab.reqs ∧ r.waiter = .collective 255 ∧ s.fab.reqs.find? (fun (r : Req) => r.tag = 9) = some r ∧ r.copy.isSome = true ∧ r.busy = true ∧ r.resendAt ≠ 0 ∧ r.resendAt ≤ s.beat ∧
    (regs []).beat < r.resendAt ∧ (regs []).fab.reqs = [] := by decide +kernel
theorem test_bank_hyps : let d := fun a b => regs [(F.SHD_BANK_STATE_STATE, 0, 0, a), (F.SHD_BANK_STATE_STATE, 0, 1, b)]
    (d 2 2).bankReady 0 = true ∧ (d 2 2).bankReady 1 = true ∧ (d 0 2).bankReady 0 = false ∧ (d 0 2).bankReady 1 = true ∧ (d 0 2).currentBank = some 1 ∧ (d 1 2).currentBank ≠ some 0 ∧
    (d 1 2).get F.SHD_BANK_STATE_STATE 0 0 = 1 ∧ (d 1 2).get F.SHD_BANK_STATE_MISMATCH 0 0 = 0 ∧ (d 1 2).get F.SHD_BANK_STATE_STATE 0 1 ≠ 1 ∧ (d 0 0).currentBank = none := by decide +kernel
theorem test_gather_hyps : let d : Dev := { regs [(F.SHD_BANK_STATE_STATE, 0, 1, 2), (F.SHD_LEDGER_FWD_VALID, 0, 1, 1)] with img := { inForce := some { groups := [{}, {}] } } }
    d.groups = 2 ∧ d.currentBank = some 1 ∧ d.get F.SHD_LEDGER_FWD_VALID 0 0 = 0 ∧ d.get F.SHD_LEDGER_FWD_VALID 0 1 = 1 ∧ d.bankVer 1 = d.get F.SHD_LEDGER_FWD_VER 0 1 := by decide +kernel
theorem test_snapshot_hyps : let p : NumSnapshot := { exp := 31, run := 0, clean := 2000, held := none, step := 2 ^ 32 - 1, status := 0, groups := [], atStep := 0, atAttempt := 0 }
    let d : Dev := { regs [] with num := { snapshot := some p } }
    d.num.snapshot = some p ∧ p.groups.length ≤ 1024 ∧ p.exp < 32 ∧ p.step < 2 ^ 32 ∧ (regs []).num.snapshot = none := by decide +kernel
theorem test_power_hyps : let s : Dev := { regs [(F.BEAT_NOW_V, 0, 0, 1)] with pwr := { raising := some (7, 0) } }
    let t : Dev := { regs [(F.PWR_STATUS_FREQ_MODE, 0, 0, 1), (F.PWR_CTL_TRIM_HOLD, 0, 0, 0), (F.PWR_TRIM_TRIM, 0, 0, 9), (F.BOOT_CORE_OK_OK, 0, 3, 2 ^ 68 - 1)] with pwr := { slack := 65536, stretched := [271] } }
    s.pwr.raising = some (7, 0) ∧ 0 + 1 ≤ s.beat ∧ s.beat < 0 + 20 ∧ (regs []).pwr.raising = none ∧ (regs []).pwr.plans = [] ∧ (regs []).pwr.loaded = false ∧ (regs []).pwr.restart = false ∧
    t.trims = true ∧ 65536 ≤ t.pwr.slack ∧ t.get F.PWR_TRIM_TRIM < 10 ∧ 0 < t.get F.PWR_TRIM_TRIM ∧ t.gated 271 = false ∧ t.get F.PWR_CORE_FREQ_STEPS 271 < 4 ∧ 271 ∈ t.pwr.stretched ∧ 271 ∉ s.pwr.stretched ∧
    s.pwr.sampled ≠ some s.beat ∧ ({ sampled := some 1 } : Power).sampled = some s.beat ∧ s.beat / 1000 = s.pwr.bin ∧ s.beat / 1000 ≠ ({ bin := 9 } : Power).bin ∧
    s.trims = false ∧ t.clk.safe = false ∧ (regs []).gated 271 = true ∧ atLeast1 (s.get F.PWR_CTL_DROOP_MV) < 65535 ∧ atLeast1 (s.get F.PWR_CTL_DROOP_MV) < 65536 ∧ (0 : Nat) ≤ s.get F.PWR_CTL_DROOP_MV ∧ s.pwr.tripped = false := by decide +kernel
theorem test_trim_at_zero : let t := regs [(F.PWR_STATUS_FREQ_MODE, 0, 0, 1), (F.PWR_CTL_TRIM_HOLD, 0, 0, 0), (F.BOOT_CORE_OK_OK, 0, 0, 1), (F.PWR_TRIM_TRIM, 0, 0, 0)]
    t.trims = true ∧ t.gated 0 = false ∧ t.get F.PWR_TRIM_TRIM = 0 ∧ t.get F.PWR_CORE_FREQ_STEPS 0 < 4 ∧ 4 ≤ (t.put F.PWR_CORE_FREQ_STEPS 0 0 4).get F.PWR_CORE_FREQ_STEPS 0 := by decide +kernel

/-! ### Faults and takeover -/

/-- A packet that carries a fault message of one type for JOB j. -/
def fmsg (ty j : Nat) : Packet := { ptype := 0x0A, data := [BitVec.ofNat 8 ty, 0, 0, 0] ++ [BitVec.ofNat 8 j] ++ List.replicate 59 0 }

theorem test_flood_hyps : let s := regs []
    (faultMsg (fmsg 0x10 0)).ctype = 0x10 ∧ (faultMsg (fmsg 0x30 0)).ctype = 0x30 ∧ (s.takeMsg 0 (fmsg 0x10 0)).keySeen (faultMsg (fmsg 0x10 0)) = false ∧ (faultMsg (fmsg 0x10 0)).job = s.job ∧
    (faultMsg (fmsg 0x10 1)).job ≠ s.job ∧ (fmsg 0x10 0).hops = 0 ∧ ({ fmsg 0x10 0 with hops := 1 } : Packet).hops ≠ 0 ∧ (faultMsg (fmsg 0x10 0)).hold ≠ 2 ∧
    (s.noteKey (faultMsg (fmsg 0x10 0))).keySeen (faultMsg (fmsg 0x10 0)) = true := by decide +kernel
theorem test_rewind_hyps : (regs [(F.FLT_STATUS_STATE, 0, 0, 1)]).rewindStates = true ∧ (regs [(F.FLT_STATUS_STATE, 0, 0, 3)]).fltState = 3 ∧ (regs [(F.FLT_STATUS_STATE, 0, 0, 4)]).rewindStates = false ∧
    (regs [(F.FLT_STATUS_STATE, 0, 0, 4)]).fltState = 4 ∧ (withCore 271 {} []).dev.gated 271 = false ∧ (regs []).failedBound = false ∧
    ({ regs [] with flt := { failed := [0] }, img := { inForce := some { bind := [{ role := 1 }] } } } : Dev).failedBound = true := by decide +kernel
theorem test_ping_hyps : let s : Dev := { regs [(F.FLT_CTL_LIVE_EN, 0, 0, 1), (F.BEAT_NOW_V, 0, 0, 2 ^ 30), (F.FAB_PORT_PCHIP_CHIP, 3, 3, 9)] with fab := { ports := [(15, { leftUp := true }), (0, { pingAt := some (2 ^ 46) })] } }
    (faultMsg (fmsg 1 0)).ctype = 1 ∧ s.pingOwed 15 = true ∧ s.pingOwed 0 = false ∧ s.pongDue 0 = false ∧ s.otherPing 15 = true ∧ (faultMsg (fmsg 3 0)).ctype = 3 ∧
    s.partner 15 = 9 ∧ s.partner 0 = 0 ∧ (s.port 0).pingAt.isSome = true ∧ (∀ j, j < 16 → s.pongDue j = false) ∧ (∀ k, k < 16 → ((regs []).port k).pingAt = none) := by decide +kernel
theorem test_pong_hyps : let s : Dev := { regs [(F.GLOBAL_CHIP_ID_CHIP, 0, 0, 0)] with fab := { ports := [(0, { pingAt := some 0, hbChip := 5 })] } }
    let p : Packet := { fmsg 3 0 with dst := 0, src := 5 }
    p.dst = s.chip ∧ s.partner 0 = p.src ∧ (s.port 0).pingAt.isSome = true ∧ (∀ j, j < 16 → s.pongDue j = false) ∧ ({ p with dst := 1 } : Packet).dst ≠ s.chip := by decide +kernel
theorem test_assign_hyps : let a : Assign := { lost := 9, standbys := [4], sentAt := 0 }
    let b : Assign := { a with acceptedAt := some 0 }
    let l : List (Fld × Nat × Nat × Nat) := [(F.BEAT_NOW_V, 0, 0, 2 ^ 60), (F.FLT_TAKEOVER_LIMIT_BEATS, 0, 0, 1)]
    let s : Dev := { regs l with flt := { assigns := [a] } }
    let t : Dev := { regs l with flt := { assigns := [b] } }
    let u : Dev := { regs l with flt := { holdSince := [(9, 0)] } }
    s.assignOf 9 = some a ∧ s.answered 9 4 = some a ∧ s.answered 9 5 = none ∧ a.acceptedAt = none ∧ a.sentAt + 64 ≤ s.beat ∧ (regs []).beat < a.sentAt + 64 ∧ t.assignOf 9 = some b ∧ b.acceptedAt = some 0 ∧
    0 + t.takeoverLimit ≤ t.beat ∧ t.flt.holdSince = [] ∧ u.assignOf 9 = none ∧ (9, 0) ∈ u.flt.holdSince ∧ 0 + u.takeoverLimit ≤ u.beat := by decide +kernel
theorem test_restore_hyps : let d := fun k => ({ regs [(F.FLT_STATUS_STATE, 0, 0, 6), (F.FLT_PROGRESS_STEP, 0, 0, 1)] with flt := { takeover := some { lost := 9, host := 4, restore := k } } } : Dev)
    let a : List Byte := [0x42, 0x4C, 0x4D, 0x52] ++ List.replicate 60 0
    (d 0).flt.takeover = some { lost := 9, host := 4 } ∧ (d 2).fltState = 6 ∧ (d 1).flt.takeover = some { lost := 9, host := 4, restore := 1 } ∧ mirrorOk a ((d 1).get F.FLT_PROGRESS_STEP) = true ∧
    mirrorOk [] ((d 1).get F.FLT_PROGRESS_STEP) = false ∧ ([] : List Byte).length = leAt a 24 8 ∧ (regs []).flt.takeover = none := by decide +kernel

/-! ### HauneLink and the start -/

theorem test_half_hyps : let s := fun k => regs [(F.HL_STATUS_STATE0, 0, 0, k), (F.HL_STATUS_STATE1, 0, 0, k)]
    let hdr : HlFlit := { bytes := hlFlitBytes 1 0 (hlHeader 1 0 9 4096 0) }
    let bad : HlFlit := { bytes := hlFlitBytes 1 0 [0x7F] }
    let ctl : HlFlit := { bytes := hlFlitBytes 3 0 [], nak := true, acked := 3 }
    let full : Dev := { s 3 with hl := { half1 := { fails := 2 } } }
    let late : Dev := { s 2 with hl := { half0 := { sinceAck := 63, crcRun := 30, nakRun := 6 } } }
    (s 0).hlState 1 = 0 ∧ (s 0).clk.safe = false ∧ (s 0).hl.ballsTaken = false ∧ (s 1).hlState 1 = 1 ∧ (s 2).hlState 0 = 2 ∧ (s 3).hlState 1 = 3 ∧ (s 4).hlState 0 = 4 ∧ ((s 1).hlHalf 1).retryWait = false ∧
    ((s 1).hlHalf 1).left = 0 ∧ ((s 1).hlHalf 1).fails < 2 ∧ 2 ≤ (full.hlHalf 1).fails ∧ full.hlState 1 = 3 ∧ ((s 2).hlHalf 1).crcRun < 31 ∧ hdr.crcOk = true ∧ hdr.kind = 1 ∧ hdr.seq = ((s 2).hlHalf 0).rxSeq ∧
    bits (leAt hdr.bytes 64 2) 3 0 = 0 ∧ hdr.badHeaders = [] ∧ bad.badHeaders ≠ [] ∧ ctl.crcOk = true ∧ ctl.kind = 3 ∧ ctl.nak = true ∧ ((s 2).hlHalf 0).nakRun < 7 ∧ ((s 2).hlHalf 0).wait = [] ∧
    ({ hdr with bytes := hdr.bytes.take 67 } : HlFlit).crcOk = false ∧ (late.hlHalf 0).crcRun < 31 ∧ 63 ≤ (late.hlHalf 0).sinceAck ∧ ({ s 0 with clk := { safe := true } } : Dev).clk.safe = true ∧
    ({ s 0 with hl := { ballsTaken := true } } : Dev).hl.ballsTaken = true ∧ ({ s 1 with boot := { step := 14 } } : Dev).boot.step = 14 ∧
    ({ s 1 with hl := { half1 := { fails := 2 } } } : Dev).hlState 1 = 1 := by decide +kernel
theorem test_line_hyps : let s : Dev := { regs [(F.HL_STATUS_STATE1, 0, 0, 2)] with hl := { open_ := [(1, 9)] } }
    let r : HlHdr := { half := 1, tag := 8, addr := 2 ^ 36 - 64 }
    let w : HlHdr := { half := 1, tag := 8, addr := 15 * 2 ^ 36 }
    s.hlState 1 = 2 ∧ s.hlState 0 ≠ 2 ∧ ({ r with bad := true } : HlHdr).badLine false 0 0 = true ∧ r.badLine false 0 0 = false ∧ r.addr < 2 ^ 40 ∧ r.addr % 4096 + 64 * r.lines ≤ 4096 ∧
    ({ r with size := 1 } : HlHdr).badLine true 0 0 = false ∧ 4096 < ({ r with size := 1 } : HlHdr).addr % 4096 + 64 * ({ r with size := 1 } : HlHdr).lines ∧ s.tagOpen 9 = true ∧ s.tagOpen r.tag = false ∧
    s.get F.HL_STATUS_QUAR = 0 ∧ (regs [(F.HL_STATUS_QUAR, 0, 0, 1)]).get F.HL_STATUS_QUAR = 1 ∧ s.get F.BOOT_STATUS_DAMPED = 0 ∧ bits r.addr 39 36 ≠ 15 ∧ bits w.addr 39 36 = 15 ∧
    w.badLine false 0 0 = false ∧
    (regs [(F.BOOT_STATUS_DAMPED, 0, 0, 1)]).get F.BOOT_STATUS_DAMPED = 1 ∧ 2 ^ 40 ≤ ({ r with addr := 2 ^ 40 } : HlHdr).addr ∧ r.badLine false 64 64 = false := by decide +kernel
theorem test_hl_answer_hyps : let q : HlReq := { tag := 9, half := 0, op := 3, addr := 0 }
    let x : Snoop := { tag := 9, line := 0, inv := true, issued := 0 }
    let s : Dev := { regs [(F.HL_STATUS_STATE0, 0, 0, 2), (F.HL_STATUS_QUAR, 0, 0, 1), (F.BEAT_NOW_V, 0, 0, 2 ^ 60), (F.HL_CTL_SNP_BEATS, 0, 0, 1)] with hl := { reqs := [q], snoops := [x] } }
    s.hlReqOf 9 = some q ∧ s.hlReqOf 8 = none ∧ s.hl.snoops.find? (fun (x : Snoop) => x.tag = 9) = some x ∧ x.issued + 65536 * atLeast1 (s.get F.HL_CTL_SNP_BEATS) ≤ s.now ∧
    (regs []).now < x.issued + 65536 * atLeast1 ((regs []).get F.HL_CTL_SNP_BEATS) ∧ s.get F.HL_STATUS_QUAR = 1 ∧ s.hl.quarEnd ≤ s.beat := by decide +kernel
theorem test_start_hyps : let s := fun k => ({ regs [] with boot := { step := k } } : Dev)
    let c : Dev := { regs [] with boot := { step := 1, env := { rom0 := true, rom1 := true }, flash := { counter := some (2, 1) } } }
    let f : Dev := { regs [] with boot := { step := 1, flash := { readable := false } } }
    (s 0).boot.step = 0 ∧ (s 1).boot.step = 1 ∧ (s 1).boot.latch = 0 ∧ c.boot.env.rom0 = true ∧ c.boot.env.rom1 = true ∧ c.qualified = none ∧ c.boot.flash.readable = true ∧ c.boot.flash.value < 3 ∧
    3 ≤ ({ counter := some (3, 1) } : Flash).value ∧ f.boot.flash.readable = false ∧ (s 3).stepInHand 3 = true ∧ (s 3).stepInHand 4 = false ∧ (s 15).boot.step = 15 ∧ (s 13).boot.step = 13 ∧
    (s 11).get F.BOOT_STATUS_BUSY = 0 ∧ (s 11).get F.BOOT_ARG_V % 4096 = 0 := by decide +kernel
theorem test_stage2_hyps : let s : Dev := { regs [(F.BOOT_STATUS_BUSY, 0, 0, 1), (F.BOOT_ARG_V, 0, 0, 1)] with boot := { step := 11, s2len := 2097152 } }
    s.boot.step = 11 ∧ s.get F.BOOT_STATUS_BUSY = 1 ∧ s.boot.s2len ≤ 2097152 ∧ 64 + sigLen ≤ s.boot.s2len ∧ fwCheck ([].take s.boot.s2len) magicS2 (some 2) 2097152 ≠ 0 ∧
    s.get F.BOOT_ARG_V % 4096 ≠ 0 := by decide +kernel
theorem test_damped_hyps : let s : Dev := { regs [(F.BOOT_STATUS_DAMPED, 0, 0, 1)] with boot := { step := stDamped } }
    let t : Dev := { regs [(F.BOOT_ARG_V, 0, 0, 0x2FF000), (F.BOOT_LEN_BYTES, 0, 0, 4096)] with boot := { damped := some (4, 5) } }
    let u : Dev := { regs [(F.BOOT_ARG_V, 0, 0, 1)] with boot := { damped := some (4, 4) } }
    s.dampedAccepts 4 = true ∧ s.dampedAccepts 7 = true ∧ (regs []).dampedAccepts 7 = false ∧ t.boot.damped = some (4, 5) ∧ u.boot.damped = some (4, 4) ∧ u.get F.BOOT_ARG_V % 4096 ≠ 0 ∧
    t.get F.BOOT_ARG_V + t.get F.BOOT_LEN_BYTES ≤ 0x300000 ∧ s.boot.damped = none ∧ ({ used := 4080 } : Flash).used + 16 ≤ 4096 ∧ 4096 < ({ used := 4081 } : Flash).used + 16 := by decide +kernel
theorem test_quote_hyps : let s := regs [(F.SEC_ID_STATUS_READY, 0, 0, 1)]
    let t : Dev := { regs [(F.SEC_QUOTE_CTL_BUSY, 0, 0, 1)] with boot := { count := 1, log := [List.replicate 128 1] } }
    s.get F.SEC_QUOTE_CTL_BUSY = 0 ∧ s.get F.SEC_ID_STATUS_READY = 1 ∧ t.get F.SEC_QUOTE_CTL_BUSY = 1 ∧ t.boot.count ≠ 0 ∧ t.boot.log.length ≤ t.boot.count ∧ t.boot.log.getLast? = some (List.replicate 128 1) ∧
    t.boot.count < (2 : Nat) ^ 64 - 1 := by decide +kernel

/-! ### Worked examples of the manual -/

/-- Chapter 18: MXE_STATUS of Q2.C41, KVR_STATE_9 of Q3, POOL_CTL. -/
theorem test_three_addresses : Reg.mxeStatus.addr (2 * 68 + 41) 0 = 0x0CA42004 ∧ Reg.kvrState.addr 3 9 = 0x1280413C ∧ ((regs []).regAt 0x07000000).map (·.reg) = some Reg.poolCtl := by decide +kernel
/-- Table 10-2: one address under two maps. -/
theorem test_one_address_two_maps : let d : Dev := { regs [] with sys := { slots := (List.range 128).map keyChannel } }
    let e : Dev := { regs [] with sys := { slots := ((List.range 128).map keyChannel).filter (· ≠ 45) } }
    d.place 0x12345678 = some { chan := 87, pc := 0, chunk := 0, bank := 13, row := 24, unit := 9320 } ∧ (d.place 0x12345678).map Place.code = some 0x570D ∧ d.hbmTop = 0x4800000000 ∧
    e.place 0x12345678 = some { chan := 16, pc := 0, chunk := 1, bank := 22, row := 24, unit := 9394 } ∧ (e.place 0x12345678).map Place.code = some 0x1016 ∧ e.hbmTop = 0x4770000000 := by decide +kernel
/-- Table 05-5: 10.3, 1.3, -3.0, 0.5 and 0.2 in one MXFP4 block. -/
theorem test_mxfp4_block : (mxBlock .mxe2m1 ([0x4124CCCD, 0x3FA66666, 0xC0400000, 0x3F000000, 0x3E4CCCCD].map F32.val)) =
    (0x80, [{ v := 0x7 }, { v := 0x1 }, { v := 0xB }, { v := 0, flush := true }, { v := 0, flush := true }]) ∧
    mxBlock .mxe2m1 [F32.val 0x41700000] = (0x80, [{ v := 0x7, sat := true }]) := by decide +kernel
/-- Table 05-6 and its example: Philox-4x32 with a zero key and counter. -/
theorem test_philox_zero : philoxRounds 10 (0, 0, 0, 0) 0 0 = (0x6627E8D5, 0xE169C58D, 0xBC57AC4C, 0x9B00DBD8) := by decide +kernel
theorem test_stochastic_example : (workingCopy true 0x3F804C00 (philoxR 0 0 0 0)).v = 0x3F80 ∧ (workingCopy true 0x3F804C00 (philoxR 0 0 0 1)).v = 0x3F81 := by decide +kernel
/-- Table 05-8: the loss scale over four steps. -/
theorem test_loss_scale_example : let d := regs [(F.NUM_LS_CLEAN_CLEAN_STEPS, 0, 0, 2000), (F.NUM_LS_EXP, 0, 0, 16), (F.NUM_LS_RUN, 0, 0, 1998)]
    let show_ := fun (d : Dev) => (d.get F.NUM_LS_EXP, d.get F.NUM_LS_RUN)
    let a := d.lossScale false
    let b := a.lossScale false
    let c := b.lossScale true
    show_ a = (16, 1999) ∧ show_ b = (17, 0) ∧ show_ c = (16, 0) ∧ show_ (c.lossScale false) = (16, 1) := by decide +kernel
/-- Table 08-8: the writes of a copy of 200 bytes to 0x40_0005. -/
theorem test_copy_writes : dmaSizes 200 0x400005 200 = [1, 2, 8, 16, 32, 64, 64, 8, 4, 1] := by decide +kernel
/-- Chapter 12: the sum of six ranks, and the order of arrival that would differ. -/
theorem test_six_ranks : fadd (fadd (fadd 0x3F800000 0x33800000) (fadd 0x33800000 0x33800000)) (fadd 0x40400000 0xC0400000) = 0x3F800001 ∧
    fadd (fadd (fadd 0x3F800000 0) 0x34000000) 0x33800000 = 0x3F800002 := by decide +kernel
/-- The class and the maximum of the row of chapter 04, and the class of a merge with a MASKED tile. -/
theorem test_row_example : (rowStat 0x3E000000 [0x40400000, 0x40A00000, f32ninf, 0x40800000]).m = 0x40A00000 ∧ rowClass [0x40400000, 0x40A00000, f32ninf, 0x40800000] = clsNormal := by
  constructor
  · rfl
  · decide +kernel
theorem test_masked_merge : (mergeRow 0x3E000000 { cls := clsNormal, m := 0x41100000, l := 0x3FC00000 } { cls := clsMasked, m := f32ninf }).1 = { cls := clsNormal, m := 0x41100000, l := 0x3FC00000 } := by decide +kernel
/-- Chapter 03: the delay of one link, from the PROBE at 4,096 and the ECHO at 9,818 with TURN 2,000. -/
theorem test_delay_example : let d : Dev := { regs [(F.BEAT_NOW_V, 0, 0, 9000000), (F.FAB_PORT_STATUS_STATE, 1, 1, 3)] with clk := { frac := BitVec.ofNat 48 (9818 * 2 ^ 32), probes := [{ port := 5, id := 1, launch := 9000000 * 65536 + 4096 }] } }
    (match exec (.echo 5 1 2000) { dev := d } with
      | .next t => t.dev.get F.BEAT_PORT_DELAY_DELAY 0 5 = 1861 && t.dev.get F.BEAT_PORT_DELAY_VALID 0 5 = 1 && t.dev.clk.probes = []
      | _ => false) = true := by decide +kernel
/-- Table 17-10, start 4: step 2 reads 3, and the counter becomes 4. -/
theorem test_fourth_start : let s : State := { dev := { regs [] with boot := { step := 1, env := {}, flash := { counter := some (3, 9) } } } }
    (match exec .checkpoint s with
      | .next t => t.dev.boot.flash.value = 4 && t.dev.get F.BOOT_COUNT_READ = 3 && t.dev.get F.BOOT_STATUS_REASON = 0x0B && t.dev.get F.BOOT_STATUS_DAMPED = 1
      | _ => false) = true := by decide +kernel

/-- A firmware image of a stage 2 with a key, and a signature of zeros. -/
def stage2Image (key : List Byte) : List Byte := [0x5A, 0x53, 0x54, 0x32, 2, 0, 0, 0, 0, 0, 0, 0, 0xF0, 0x1E, 0, 0] ++ List.replicate 16 0 ++ key ++ List.replicate sigLen 0

theorem stage2Image_key (key : List Byte) (h : key.length = 32) : slice (stage2Image key) 32 32 = key := by
  have e : (stage2Image key).drop 32 = key ++ List.replicate sigLen 0 := rfl
  have t : ((stage2Image key).drop 32).take 32 = key := by rw [e, ← h, List.take_left]
  rw [slice, t, h, Nat.sub_self]
  exact List.append_nil key

/-- Stage 2 is accepted where the verification accepts its signature under the vendor root key. -/
theorem test_stage2_accepted (h : Config.vendorRoot.length = 32)
    (v : slhVerify slh128s Config.vendorRoot ((stage2Image Config.vendorRoot).take (7920 - sigLen)) (slice (stage2Image Config.vendorRoot) (7920 - sigLen) sigLen) = true) :
    fwCheck (stage2Image Config.vendorRoot) magicS2 (some 2) 2097152 = 0 := by
  have l : (stage2Image Config.vendorRoot).length = 7920 := by
    simp only [stage2Image, List.length_append, List.length_replicate, h]
    rfl
  have m : leAt (stage2Image Config.vendorRoot) 0 4 = magicS2 := rfl
  have k : leAt (stage2Image Config.vendorRoot) 4 1 = 2 := rfl
  have n : leAt (stage2Image Config.vendorRoot) 12 4 = 7920 := rfl
  simp only [fwCheck, m, k, n, l, stage2Image_key _ h, v]
  rw [if_neg (by decide), if_neg (by decide), if_neg (by simp), if_neg (by simp)]

end Sys2Proof.Tests
end

/-! # The scope of the model: every command answers, and a queue of commands of the device runs to its end -/

namespace Sys2Proof.Machine

/-! ## A meaning answers under the check of its operands, and under nothing else -/

/-- A meaning acts on the device where the check `ok` of its operands holds, and stops with the fault of an operand that names no unit where it fails. -/
def RunsUnder (m : State → Out) (ok : Bool) : Prop := ∃ f : Dev → Dev, ∀ s, m s = s.runOn ok f

theorem RunsUnder.congr {m : State → Out} {ok ok' : Bool} (h : RunsUnder m ok) (e : ok = ok') : RunsUnder m ok' := e ▸ h

theorem RunsUnder.next {m : State → Out} (h : RunsUnder m true) (s : State) : ∃ t, m s = .next t ∧ t.pending = s.pending := by
  obtain ⟨f, hf⟩ := h
  exact ⟨_, (hf s).trans (s.runOn_next f rfl), rfl⟩

theorem runsUnder_runOn (ok : Bool) (f : Dev → Dev) : RunsUnder (fun s => s.runOn ok f) ok := ⟨f, fun _ => rfl⟩

theorem runsUnder_runFab (ok : Bool) (f : Dev → Dev) : RunsUnder (fun s => s.runFab ok f) ok := ⟨_, fun _ => rfl⟩

/-- A unit of core c that checks nothing but its core's number. -/
theorem runsUnder_runCore (c : Nat) (f : Dev → Dev) : RunsUnder (fun s => s.runCore true c f) (decide (c < 272)) :=
  RunsUnder.congr (ok := decide (c < 272) && true) ⟨_, fun s => s.runCore_eq f true c⟩ (Bool.and_true _)

/-! ## The checks that the meanings make and the bounds of `Instr.wf` -/

theorem insnOk_nil (c t : Nat) : insnOk c t [] = (decide (c < 272) && decide (t < 8)) := Bool.and_true _

theorem sizeOk_eq_contains (n : Nat) : sizeOk n = [1, 2, 4, 8].contains n := by
  simp [sizeOk, Bool.or_assoc, ← beq_eq_decide]

/-- An instruction that names no general register. -/
theorem runsUnder_insn (c t : Nat) (f : Dev → Dev) : RunsUnder (fun s => s.runOn (insnOk c t []) f) (decide (c < 272) && decide (t < 8)) :=
  (runsUnder_runOn _ f).congr (insnOk_nil c t)

/-- Every command acts under exactly the bounds of `Instr.wf` on its operands (log 3). The cases named are those whose meaning writes its check otherwise
than `Instr.wf` does; for the others the two are the same term. -/
theorem exec_runsUnder_wf (i : Instr) : RunsUnder (exec i) i.wf := by
  cases i
  case mm | mark | mxeRowEntry | mxeDrainStart | mxeDrainComplete | vectorInsnComplete | kvBusyResend | streamLineLand | prefetchFill | prefetchTune
      | dmaChannelSelect | dmaDescRead | copy | drain | dmaCopyComplete | dmaDrainComplete =>
    exact runsUnder_runCore _ _
  case vfence | mfence | fence | halt | yield | ctcRunStart | ctcRunStop => exact runsUnder_insn _ _ _
  case threadWake c t =>
    exact RunsUnder.congr (ok := decide (c < 272) && insnOk c t []) ⟨_, fun s => s.runCore_eq _ _ c⟩ (by simp [insnOk_nil, Instr.wf])
  case tadd | tset | twait | tolla => exact (runsUnder_runOn _ _).congr (congrArg (· && _ && _) (insnOk_nil _ _))
  case tpost => exact (runsUnder_runOn _ _).congr (congrArg (· && _) (insnOk_nil _ _))
  case ctcLoad | ctcStore => exact (runsUnder_runOn _ _).congr (congrArg (_ && ·) (sizeOk_eq_contains _))
  case blockResend tag => exact (runsUnder_runFab true _ : RunsUnder (execBlockResend tag) true)
  case collectiveResend tag => exact (runsUnder_runFab true _ : RunsUnder (execCollectiveResend tag) true)
  all_goals exact ⟨_, fun _ => rfl⟩

/-- Settles O2: a well-formed command passes the check of its operands, and past that check every meaning answers. -/
theorem wellFormedCommandsComplete : Obligations.WellFormedCommandsComplete := by
  intro i s hwf
  exact (hwf ▸ exec_runsUnder_wf i).next s

/-! ## The queue -/

theorem State.queueOk_front {s : State} {c : Instr} {rest : List Instr} (hp : s.pending = c :: rest) (h : s.queueOk = true) : c.wf = true :=
  List.all_eq_true.1 h c (hp ▸ List.mem_cons_self)

theorem State.queueOk_drop {s t : State} (n : Nat) (ht : t.pending = s.pending.drop n) (h : s.queueOk = true) : t.queueOk = true := by
  simp only [State.queueOk, List.all_eq_true] at h ⊢
  exact fun c hc => h c (List.mem_of_mem_drop (ht ▸ hc))

/-- A step from a queue of commands of the device takes its front and does not stop. -/
theorem step_takes_front {s : State} (h : s.queueOk = true) : ∃ t, step s = .next t ∧ t.pending = s.pending.drop 1 := by
  cases hp : s.pending with
  | nil => exact ⟨s, step_nil s hp, hp⟩
  | cons c rest =>
    rw [step_cons s c rest hp]
    exact wellFormedCommandsComplete c { s with pending := rest } (State.queueOk_front hp h)

/-- As many steps as there are commands waiting, or fewer, take that many commands off the front. -/
theorem run_takes_front (k : Nat) : ∀ s : State, s.queueOk = true → ∃ t, Host.Core.run core k s = .next t ∧ t.pending = s.pending.drop k := by
  induction k with
  | zero => exact fun s _ => ⟨s, rfl, rfl⟩
  | succ k ih =>
    intro s h
    obtain ⟨t, hst, hpt⟩ := step_takes_front h
    obtain ⟨u, htu, hpu⟩ := ih t (State.queueOk_drop 1 hpt h)
    refine ⟨u, ?_, by rw [hpu, hpt, List.drop_drop, Nat.add_comm]⟩
    have hs : core.step s = .next t := hst
    simpa only [Host.Core.run, hs] using htu

/-- Settles O5: the invariant `State.queueOk` holds at reset, and each step takes one command off a queue that satisfies it. -/
theorem wellFormedQueueRunsToItsEnd : Obligations.WellFormedQueueRunsToItsEnd := by
  refine ⟨rfl, fun s h => ?_, fun s h => ?_, fun s k h _ => run_takes_front k s h⟩
  · obtain ⟨t, hst, hpt⟩ := step_takes_front h
    exact ⟨t, hst, State.queueOk_drop 1 hpt h⟩
  · obtain ⟨t, hrun, hpt⟩ := run_takes_front s.pending.length s h
    exact ⟨t, hrun, by rw [hpt, List.drop_length]⟩

/-! # Registers: access codes, and accesses by address -/

/-! ## One field under its access code (R6 to R8) -/

theorem bits_lt (v hi lo : Nat) : bits v hi lo < 2 ^ (hi - lo + 1) := Nat.mod_lt _ (Nat.two_pow_pos _)

/-- The bits of a word under a field's mask are those of the field's number, put in its place. -/
theorem and_maskOf_eq_bits (x : RegVal) {hi lo : Nat} (h : lo ≤ hi) :
    x &&& maskOf hi lo = BitVec.ofNat 256 (bits x.toNat hi lo * 2 ^ lo) &&& maskOf hi lo := by
  refine BitVec.eq_of_getLsbD_eq fun i hi256 => ?_
  simp only [BitVec.getLsbD_and, getLsbD_maskOf _ _ _ h, BitVec.getLsbD_ofNat, Nat.testBit_mul_two_pow, testBit_bits, BitVec.testBit_toNat]
  by_cases hm : lo ≤ i ∧ i ≤ hi
  · obtain ⟨hlo, hhi⟩ := hm
    have hw : i - lo < hi - lo + 1 := by omega
    simp [hi256, hlo, hhi, hw]
  · have : (decide (lo ≤ i) && decide (i ≤ hi)) = false := by simpa using hm
    simp [Bool.and_assoc, this]

theorem ofNat_shiftLeft_eq_mul (n k : Nat) : BitVec.ofNat 256 n <<< k = BitVec.ofNat 256 (n * 2 ^ k) := by
  apply BitVec.eq_of_toNat_eq
  simp [BitVec.toNat_shiftLeft, Nat.shiftLeft_eq]

namespace FieldInfo

/-- The field as `Dev.get` and `Dev.put` name it. -/
abbrev fld (f : FieldInfo) (r : Reg) : Fld := ⟨r, f.hi, f.lo⟩

/-- The number that a write asks a field to take: its bits of the register under the byte mask. -/
abbrev asked (f : FieldInfo) (win new cur : RegVal) : Nat := bits ((cur &&& ~~~win) ||| (new &&& win)).toNat f.hi f.lo

/-- The number that a writable field takes: the one asked, or the reset value where that is a reserved encoding (R8). -/
def taken (f : FieldInfo) (r : Reg) (win new cur : RegVal) : Nat := if encodingOk r f.lo (f.asked win new cur) then f.asked win new cur else f.rst

section
variable {f : FieldInfo} {r : Reg} {locked : Bool} {win new cur : RegVal}

theorem taken_lt (hr : f.rst < 2 ^ (f.hi - f.lo + 1)) : f.taken r win new cur < 2 ^ (f.hi - f.lo + 1) := by
  unfold taken
  split
  · exact bits_lt _ _ _
  · exact hr

theorem write_readOnly (h : f.acc = .ro ∨ f.acc = .wo ∨ f.acc = .rc) : f.write r locked win new cur = cur := by
  rcases h with h | h | h <;> simp only [write, h]

theorem write_locked (h : f.acc = .rwl) : f.write r true win new cur = cur := by simp [write, h]

theorem write_w1c (h : f.acc = .w1c) : f.write r locked win new cur = cur &&& ~~~(new &&& win &&& maskOf f.hi f.lo) := by
  simp only [write, h]

/-- A writable field takes its number, and the register keeps its other bits. -/
theorem write_writable (hf : f.lo ≤ f.hi) (h : f.acc = .rw ∨ f.acc = .rwl ∧ locked = false) :
    f.write r locked win new cur = (f.fld r).over cur (f.taken r win new cur) := by
  have e : (if encodingOk r f.lo (f.asked win new cur) then ((cur &&& ~~~win) ||| (new &&& win)) &&& maskOf f.hi f.lo
      else (BitVec.ofNat 256 f.rst <<< f.lo) &&& maskOf f.hi f.lo) = BitVec.ofNat 256 (f.taken r win new cur * 2 ^ f.lo) &&& maskOf f.hi f.lo := by
    unfold taken
    split
    · exact and_maskOf_eq_bits _ hf
    · rw [ofNat_shiftLeft_eq_mul]
  rcases h with h | ⟨h, rfl⟩ <;> simp only [write, h, e, Fld.over, Bool.false_eq_true, if_false]

/-- No bit outside the field changes, whatever its access code. -/
theorem write_getLsbD_outside (hf : f.lo ≤ f.hi) {b : Nat} (hb : b < f.lo ∨ f.hi < b) : (f.write r locked win new cur).getLsbD b = cur.getLsbD b := by
  by_cases hw : b < 256
  · have writable (h : f.acc = .rw ∨ f.acc = .rwl ∧ locked = false) : (f.write r locked win new cur).getLsbD b = cur.getLsbD b := by
      rw [write_writable hf h, Fld.over_getLsbD _ _ _ _ hf hw, if_neg (by simp only; omega)]
    cases h : f.acc with
    | ro => rw [write_readOnly (.inl h)]
    | wo => rw [write_readOnly (.inr (.inl h))]
    | rc => rw [write_readOnly (.inr (.inr h))]
    | rw => exact writable (.inl h)
    | rwl =>
      cases locked with
      | true => rw [write_locked h]
      | false => exact writable (.inr ⟨h, rfl⟩)
    | w1c =>
      have hm : (maskOf f.hi f.lo).getLsbD b = false := by
        rw [getLsbD_maskOf _ _ _ hf]
        rcases hb with hb | hb <;> simp [hb]
      rw [write_w1c h]
      simp [-BitVec.getLsbD_eq_getElem, hm, hw]
  · rw [BitVec.getLsbD_of_ge _ _ (by omega), BitVec.getLsbD_of_ge _ _ (by omega)]

/-- A W1C field clears each bit that is written 1 under the mask. -/
theorem write_w1c_getLsbD (h : f.acc = .w1c) (hw : f.hi < 256) {b : Nat} (hlo : f.lo ≤ b) (hhi : b ≤ f.hi) :
    (f.write r locked win new cur).getLsbD b = (cur.getLsbD b && !(new.getLsbD b && win.getLsbD b)) := by
  have hb : b < 256 := by omega
  have hm : (maskOf f.hi f.lo).getLsbD b = true := by simp [getLsbD_maskOf _ _ _ (hlo.trans hhi), hb, hlo, hhi]
  rw [write_w1c h]
  simp only [BitVec.getLsbD_and, BitVec.getLsbD_not, hm, hb, decide_true, Bool.true_and, Bool.and_true]

end
end FieldInfo

/-- Settles O7: each access code by its own lemma on `FieldInfo.write`. -/
theorem fieldAccessCodes : Obligations.FieldAccessCodes := by
  intro f r locked win new cur hf hw hr
  refine ⟨FieldInfo.write_readOnly, fun h hl => hl ▸ FieldInfo.write_locked h, fun h b hlo hhi => FieldInfo.write_w1c_getLsbD h hw hlo hhi, fun h => ?_,
    fun b hb => FieldInfo.write_getLsbD_outside hf hb⟩
  have hfits : (f.fld r).fits = true := by simp [Fld.fits, hf, hw]
  rw [FieldInfo.write_writable hf h]
  exact (Fld.over_same (f.fld r) cur _ hfits).trans (Nat.mod_eq_of_lt (FieldInfo.taken_lt hr))

/-! ## A write by address (R439, R440) -/

theorem csrAligned_of {addr n : Nat} (hn : n = 4 ∨ n = 8) (ha : addr % n = 0) : csrAligned addr n = true := by simp [csrAligned, hn, ha]

theorem exec_registerWrite (s : State) (addr v : Nat) {n : Nat} (hn : n = 4 ∨ n = 8) :
    exec (.registerWrite addr n v) s = .next (s.withDev (s.dev.csrWrite addr n v).2) := s.runOn_next (ok := widthOk n) _ (by simp [widthOk, hn])

/-- Where the device is in service and the block of the address is not a core's, the register at it answers. -/
theorem Dev.regAt_inService {d : Dev} {addr : Nat} {a : RegAt} (hs : d.clk.safe = false) (hd : d.flag F.BOOT_STATUS_DAMPED = false)
    (hf : Reg.all.findSome? (fun r => r.place addr) = some a) (hc : a.reg.info.scope ≠ .core) : d.regAt addr = some a := by
  simp [Dev.regAt, hs, hd, hf, hc]

/-- An aligned write that lies in one register is a write of that register alone. -/
theorem Dev.csrWrite_register {d : Dev} {addr n : Nat} {a : RegAt} (v : Nat) (hn : n = 4 ∨ n = 8) (ha : addr % n = 0) (hr : d.regAt addr = some a)
    (hw : 8 * n ≤ a.reg.info.width) : d.csrWrite addr n v = (.ok, d.csrStore ⟨a, n, v⟩) := by
  have hk : (if a.reg.info.width = 32 then 4 else n) = n := by split <;> omega
  have hb : d.beside a addr n = none := by
    unfold Dev.beside
    rw [if_neg]
    simp only [Bool.and_eq_true, decide_eq_true_eq]
    omega
  simp [Dev.csrWrite, csrAligned_of hn ha, hr, hb, hk]

/-! ## BEAT_DL_CAP -/

/-- The bytes that an access covers are the bits of a mask. -/
theorem window_eq_maskOf (off : Nat) {n : Nat} (hn : 0 < n) : window off n = maskOf (8 * off + 8 * n - 1) (8 * off) := by
  have : 8 * off + 8 * n - 1 - 8 * off + 1 = 8 * n := by omega
  simp only [window, maskOf, this]

/-- A write of the four lower bytes asks a field that lies in them to take its bits of the value. -/
theorem FieldInfo.asked_lowWord (f : FieldInfo) (v : Nat) (cur : RegVal) (hf : f.lo ≤ f.hi) (hw : f.hi < 32) :
    f.asked (window 0 4) (BitVec.ofNat 256 (v % 2 ^ (8 * 4) * 2 ^ (8 * 0))) cur = bits v f.hi f.lo := by
  have merged : (cur &&& ~~~window 0 4) ||| (BitVec.ofNat 256 (v % 2 ^ (8 * 4) * 2 ^ (8 * 0)) &&& window 0 4) =
      (⟨.beatDlCap, 31, 0⟩ : Fld).over cur (v % 2 ^ (8 * 4)) := by rw [window_eq_maskOf 0 (by decide)]; rfl
  rw [FieldInfo.asked, merged]
  apply Nat.eq_of_testBit_eq
  intro i
  rw [testBit_bits, testBit_bits, BitVec.testBit_toNat]
  by_cases hi : i < f.hi - f.lo + 1
  · have hi32 : f.lo + i < 8 * 4 := by omega
    rw [Fld.over_getLsbD _ _ _ _ (by decide) (by omega), if_pos (by simp only; omega), Nat.sub_zero, Nat.testBit_mod_two_pow]
    simp [hi32]
  · simp [hi]

/-- An RW field in the lower four bytes, without reserved encodings, takes its bits of the value. -/
theorem FieldInfo.write_lowWord {f : FieldInfo} {r : Reg} (locked : Bool) (v : Nat) (cur : RegVal) (hf : f.lo ≤ f.hi) (hw : f.hi < 32) (ha : f.acc = .rw)
    (he : ∀ x, encodingOk r f.lo x = true) :
    f.write r locked (window 0 4) (BitVec.ofNat 256 (v % 2 ^ (8 * 4) * 2 ^ (8 * 0))) cur = (f.fld r).over cur (bits v f.hi f.lo) := by
  rw [write_writable hf (.inl ha), taken, if_pos (he _), asked_lowWord f v cur hf hw]

/-- BEAT_DL_CAP is no command register and not one that the pool holds. -/
theorem Dev.csrStore_beatDlCap (d : Dev) (u i off n v : Nat) : d.csrStore ⟨⟨.beatDlCap, u, i, off⟩, n, v⟩ = d.regWrite ⟨.beatDlCap, u, i, off⟩ n v := by
  have hp : d.poolHolds .beatDlCap = false := Bool.and_eq_false_iff.2 (.inr (by decide))
  rw [Dev.csrStore, hp]
  rfl

/-- The write of its four bytes is a write of its one field. -/
theorem Dev.regWrite_beatDlCap (d : Dev) (v : Nat) : d.regWrite ⟨.beatDlCap, 0, 0, 0⟩ 4 v = d.putD F.BEAT_DL_CAP_BEATS (bits v 23 0) := by
  have hv : d.vacant ⟨.beatDlCap, 0, 0, 0⟩ = false := rfl
  rw [Dev.regWrite, hv]
  exact congrArg (d.setReg .beatDlCap 0 0)
    (FieldInfo.write_lowWord (f := ⟨23, 0, .rw, 1024⟩) d.img.locked v _ (by decide) (by decide) rfl (fun _ => rfl))

/-- Settles O9: the write is `Dev.putD` of CAP_BEATS, whose frame is that of one field. -/
theorem registerWriteSetsOneField : Obligations.RegisterWriteSetsOneField := by
  intro s v hs hd
  have hreg : s.dev.regAt (Reg.beatDlCap.addr 0 0) = some ⟨.beatDlCap, 0, 0, 0⟩ := Dev.regAt_inService hs hd (by decide) (by decide)
  have hwrite : s.dev.csrWrite (Reg.beatDlCap.addr 0 0) 4 v = (.ok, s.dev.putD F.BEAT_DL_CAP_BEATS (bits v 23 0)) := by
    rw [Dev.csrWrite_register v (.inl rfl) (by decide) hreg (by decide), Dev.csrStore_beatDlCap, Dev.regWrite_beatDlCap]
  have hexec := exec_registerWrite s (Reg.beatDlCap.addr 0 0) v (.inl rfl)
  rw [hwrite] at hexec
  refine ⟨_, hexec, rfl, ?_, rfl, Dev.onlyFields_putD _ _ _ (by decide)⟩
  exact (Dev.get_putD_same _ _ _ (by decide)).trans (Nat.mod_mod _ _)

/-! ## A vacant tensor group -/

/-- What the device has sent when a meaning answers. -/
def sentBy : Out → List Output
  | .next t => t.dev.out
  | _ => []

/-- Refutes O8: NUM_GFLUSH is an RC register, and that of a tensor group at or above GROUPS reads as zero (R127) whatever it holds. With no image
in force every group is vacant; where group 0 holds 5, the statement has RC_READ answer 5 and the model answers 0. -/
theorem not_registerAccessesComplete : ¬ Obligations.RegisterAccessesComplete := by
  rintro ⟨-, -, rcRead⟩
  have claimed := rcRead { dev := Dev.putD {} F.NUM_GFLUSH_V 5 } (Reg.numGflush.addr 0 0) 4 ⟨.numGflush, 0, 0, 0⟩ (.inl rfl) (by decide) (by decide)
    (by decide) rfl (by decide) (by decide)
  have answered : sentBy (exec (.rcRead (Reg.numGflush.addr 0 0) 4) { dev := Dev.putD {} F.NUM_GFLUSH_V 5 }) = [.read (Reg.numGflush.addr 0 0) 0] := by decide
  rw [claimed] at answered
  exact absurd answered (by decide)

/-! # A store of a control core to its own memory (R145, R229) -/

/-! ## Numbers as bytes (R4) -/

theorem leBytes_length (n : Nat) : ∀ v : Nat, (leBytes n v).length = n := by
  induction n with
  | zero => exact fun _ => rfl
  | succ n ih => exact fun v => congrArg (· + 1) (ih (v / 256))

/-- Byte i of a number, lowest first. -/
theorem leBytes_getElem (n : Nat) : ∀ (v i : Nat) (h : i < (leBytes n v).length), (leBytes n v)[i] = BitVec.ofNat 8 (v / 256 ^ i) := by
  induction n with
  | zero => exact fun v i h => absurd h (Nat.not_lt_zero i)
  | succ n ih =>
    intro v i h
    cases i with
    | zero => simp [leBytes]
    | succ i =>
      simp only [leBytes, List.getElem_cons_succ]
      rw [ih, Nat.div_div_eq_div_mul, Nat.pow_succ, Nat.mul_comm]

/-! ## The canonical form of the memories -/

section
variable {α : Type}

theorem mem_of_mem_minsert {m : List (Nat × α)} {k : Nat} {v : α} {e : Nat × α} (h : e ∈ minsert m k v) : e = (k, v) ∨ e ∈ m := by
  induction m with
  | nil => exact .inl (List.mem_singleton.1 h)
  | cons x m ih =>
    by_cases hk : k < x.1
    · exact List.mem_cons.1 (by simpa [minsert, hk] using h)
    · have h' : e = x ∨ e ∈ minsert m k v := by simpa [minsert, hk] using h
      rcases h' with rfl | h'
      · exact .inr List.mem_cons_self
      · exact (ih h').imp_right (List.mem_cons_of_mem x)

/-- An entry of a sparse map after a write is the one written or one that was there. -/
theorem mem_of_mem_mset [DecidableEq α] {dflt v : α} {m : List (Nat × α)} {k : Nat} {e : Nat × α} (h : e ∈ mset dflt m k v) : e = (k, v) ∨ e ∈ m := by
  unfold mset at h
  split at h
  · exact .inr (List.mem_of_mem_filter h)
  · exact (mem_of_mem_minsert h).imp_right List.mem_of_mem_filter

/-- The value at a key is the default or stands in the map. -/
theorem mget_eq_or_mem (dflt : α) (m : List (Nat × α)) (k : Nat) : mget dflt m k = dflt ∨ (k, mget dflt m k) ∈ m := by
  induction m with
  | nil => exact .inl rfl
  | cons x m ih =>
    obtain ⟨j, v⟩ := x
    by_cases hk : j = k
    · simp [mget, hk]
    · simpa [mget, hk, Ne.symm hk] using ih
end

/-- The staging and near store of core c in canonical form. -/
def Core.storesOk (c : Nat) (k : Core) : Bool := Memory.wf (4 * c + 2) k.stg && Memory.wf (4 * c + 3) k.ns

theorem Core.storesOk_iff {c : Nat} {k : Core} : k.storesOk c = true ↔ Memory.wf (4 * c + 2) k.stg = true ∧ Memory.wf (4 * c + 3) k.ns = true := by
  simp [Core.storesOk]

theorem Dev.memoryOk_iff (d : Dev) : d.memoryOk = true ↔
    Memory.wf (4 * d.mem.epoch) d.mem.hbm = true ∧ d.scratchOk 0 d.mem.scratch = true ∧ ∀ k ∈ d.cores, k.2.storesOk k.1 = true := by
  simp only [Dev.memoryOk, Core.storesOk, Bool.and_eq_true, List.all_eq_true, and_assoc]

theorem Dev.scratchSpace_congr {d e : Dev} (h : e.mem = d.mem) (a : Nat) : e.scratchSpace a = d.scratchSpace a := by
  rw [Dev.scratchSpace, Dev.scratchSpace, h]

theorem Dev.scratchOk_congr {d e : Dev} (h : e.mem = d.mem) (m : List Host.Cell) : ∀ lo, e.scratchOk lo m = d.scratchOk lo m := by
  induction m with
  | nil => exact fun _ => rfl
  | cons x m ih => exact fun lo => by rw [Dev.scratchOk, Dev.scratchOk, Dev.scratchSpace_congr h, ih]

/-- A core's stores are canonical where the device's memories are. -/
theorem Dev.core_storesOk {d : Dev} (h : d.memoryOk = true) (c : Nat) : (d.core c).storesOk c = true := by
  obtain ⟨-, -, hc⟩ := d.memoryOk_iff.1 h
  rcases mget_eq_or_mem {} d.cores c with e | e
  · rw [Dev.core, e]
    rfl
  · exact hc _ e

theorem Dev.memoryOk_of_kept {d e : Dev} (hm : e.mem = d.mem) (hc : ∀ k ∈ e.cores, k ∈ d.cores ∨ k.2.storesOk k.1 = true) (h : d.memoryOk = true) :
    e.memoryOk = true := by
  obtain ⟨h1, h2, h3⟩ := d.memoryOk_iff.1 h
  exact e.memoryOk_iff.2 ⟨by rwa [hm], by rwa [Dev.scratchOk_congr hm, hm], fun k hk => (hc k hk).elim (h3 k) id⟩

/-- A core changed so that its stores stay canonical. -/
theorem Dev.memoryOk_updCore {d : Dev} {c : Nat} {f : Core → Core} (hf : (d.core c).storesOk c = true → (f (d.core c)).storesOk c = true)
    (h : d.memoryOk = true) : (d.updCore c f).memoryOk = true := by
  refine Dev.memoryOk_of_kept (d := d) rfl (fun k hk => ?_) h
  rcases mem_of_mem_mset hk with rfl | hk
  · exact .inr (hf (d.core_storesOk h c))
  · exact .inl hk

/-! ## What an operation beside the stores keeps -/

/-- From d to e the memories, the stores and threads of the cores and the image stand; of the registers only the fields listed change. -/
structure Dev.KeepsStores (d e : Dev) (fs : List (Fld × Nat × Nat)) : Prop where
  mem : e.mem = d.mem
  img : e.img = d.img
  stg : ∀ k, (e.core k).stg = (d.core k).stg
  ns : ∀ k, (e.core k).ns = (d.core k).ns
  threads : ∀ k, (e.core k).ctc.threads = (d.core k).ctc.threads
  canonical : d.memoryOk = true → e.memoryOk = true
  regs : d.onlyFields e fs

namespace Dev.KeepsStores
variable {d e f : Dev} {fs gs : List (Fld × Nat × Nat)}

theorem refl (d : Dev) (fs : List (Fld × Nat × Nat)) : d.KeepsStores d fs :=
  ⟨rfl, rfl, fun _ => rfl, fun _ => rfl, fun _ => rfl, id, d.onlyFields_refl fs⟩

theorem trans (h : d.KeepsStores e fs) (h' : e.KeepsStores f gs) : d.KeepsStores f (fs ++ gs) where
  mem := h'.mem.trans h.mem
  img := h'.img.trans h.img
  stg k := (h'.stg k).trans (h.stg k)
  ns k := (h'.ns k).trans (h.ns k)
  threads k := (h'.threads k).trans (h.threads k)
  canonical := h'.canonical ∘ h.canonical
  regs := Dev.onlyFields_trans h.regs h'.regs

/-- One more field written, of those listed. -/
theorem put (h : d.KeepsStores e fs) (x : Fld) (u i n : Nat) (hx : x.fits = true) (hm : (x, u, i) ∈ fs) : d.KeepsStores (e.put x u i n) fs :=
  { h with
    canonical := fun ok => Dev.memoryOk_of_kept (d := e) rfl (fun _ => .inl) (h.canonical ok)
    regs := Dev.onlyFields_step h.regs x u i n hx hm }

/-- One more core changed, but for its stores and its threads. -/
theorem updCore (h : d.KeepsStores e fs) (c : Nat) (g : Core → Core) (hs : ∀ k, (g k).stg = k.stg) (hn : ∀ k, (g k).ns = k.ns)
    (ht : ∀ k, (g k).ctc.threads = k.ctc.threads) : d.KeepsStores (e.updCore c g) fs := by
  have core (k : Nat) : ((e.updCore c g).core k).stg = (e.core k).stg ∧ ((e.updCore c g).core k).ns = (e.core k).ns ∧
      ((e.updCore c g).core k).ctc.threads = (e.core k).ctc.threads := by
    by_cases hk : k = c
    · subst hk
      simp only [Dev.core_updCore_same, hs, hn, ht, and_self]
    · simp only [Dev.core_updCore_other _ _ _ _ hk, and_self]
  have canonical (ok : e.memoryOk = true) : (e.updCore c g).memoryOk = true :=
    Dev.memoryOk_updCore (fun hc => by rwa [Core.storesOk, hs, hn]) ok
  exact ⟨h.mem, h.img, fun k => (core k).1.trans (h.stg k), fun k => (core k).2.1.trans (h.ns k), fun k => (core k).2.2.trans (h.threads k),
    canonical ∘ h.canonical, Dev.onlyFields_mid h.regs rfl⟩

/-- An operation for each element of a list. -/
theorem each {α : Type} (op : Dev → α → Dev) (hop : ∀ e x, d.KeepsStores e fs → d.KeepsStores (op e x) fs) (l : List α) :
    ∀ e, d.KeepsStores e fs → d.KeepsStores (e.each l op) fs := by
  induction l with
  | nil => exact fun _ h => h
  | cons x l ih => exact fun e h => ih _ (hop e x h)

theorem byteAt (h : d.KeepsStores e fs) (p : MemPlace) : e.byteAt p = d.byteAt p := by
  cases p <;> simp only [Dev.byteAt, Dev.scratchSpace_congr h.mem, h.mem, h.stg, h.ns]

theorem g (h : d.KeepsStores e fs) (c t r : Nat) : e.g c t r = d.g c t r := by simp only [Dev.g, Dev.thread, h.threads]

theorem nsSize (h : d.KeepsStores e fs) (c : Nat) : e.nsSize c = d.nsSize c := by
  unfold Dev.nsSize
  rw [h.img]

theorem localAt (h : d.KeepsStores e fs) (c a : Nat) : e.localAt c a = d.localAt c a := by
  unfold Dev.localAt
  rw [h.nsSize]

theorem localOk (h : d.KeepsStores e fs) (c a n : Nat) : e.localOk c a n = d.localOk c a n := by
  unfold Dev.localOk
  rw [h.localAt, h.localAt]

theorem accessFault (h : d.KeepsStores e fs) (c a n : Nat) : e.accessFault c a n = d.accessFault c a n := by
  unfold Dev.accessFault
  rw [h.localOk]

theorem ea (h : d.KeepsStores e fs) (c t r : Nat) (imm : Int) : e.ea c t r imm = d.ea c t r imm := by simp only [Dev.ea, h.g]

end Dev.KeepsStores

/-! ## The issue of an instruction -/

/-- The choice of the thread counts a switch and leaves the threads themselves. -/
theorem Dev.takeThread_keeps (d : Dev) (c t : Nat) : d.KeepsStores (d.takeThread c t) [(F.CTC_SWITCHES_V, c, 0)] := by
  have chosen (e : Dev) (h : d.KeepsStores e [(F.CTC_SWITCHES_V, c, 0)]) (f : Ctc → Ctc) (hf : ∀ x, (f x).threads = x.threads) :
      d.KeepsStores (e.updCtc c f) [(F.CTC_SWITCHES_V, c, 0)] := h.updCore c _ (fun _ => rfl) (fun _ => rfl) fun k => hf k.ctc
  have current : d.KeepsStores (if (d.core c).ctc.cur = some t then d else d.updCtc c fun x => { x with cur := some t, ptr := (t + 1) % 8 })
      [(F.CTC_SWITCHES_V, c, 0)] := by
    split
    · exact .refl d _
    · exact chosen d (.refl d _) _ fun _ => rfl
  unfold Dev.takeThread
  simp only []
  split
  · exact current
  · exact (chosen _ current (fun x => { x with last := t }) fun _ => rfl).put F.CTC_SWITCHES_V c 0 _ (by decide) List.mem_cons_self

theorem Dev.pcNext_keeps (d : Dev) (c t : Nat) : d.KeepsStores (d.pcNext c t) [(F.CTC_PC_V, c, t)] :=
  (Dev.KeepsStores.refl d _).put F.CTC_PC_V c t _ (by decide) List.mem_cons_self

/-- The fields of CTC_STATUS that show the threads. -/
def statusFields (c : Nat) : List (Fld × Nat × Nat) := [(F.CTC_STATUS_RUNNING, c, 0), (F.CTC_STATUS_BLOCKED, c, 0), (F.CTC_STATUS_FAULTED, c, 0)]

theorem Dev.showCtc_keeps (d : Dev) (c : Nat) : d.KeepsStores (d.showCtc c) (statusFields c) :=
  (((Dev.KeepsStores.refl d _).put _ c 0 _ (by decide) (by simp [statusFields])).put _ c 0 _ (by decide) (by simp [statusFields])).put _ c 0 _ (by decide)
    (by simp [statusFields])

/-- What an instruction does where CTC issues it from its thread and its registers check. -/
theorem Dev.issue_eq {d : Dev} {c t : Nat} (h : d.issues c t) (f : Dev → Dev) : d.issue c t f = (f (d.takeThread c t)).showCtc c := by
  obtain ⟨-, -, hsel, hclk, hpc⟩ := h
  simp [Dev.issue, hsel, hclk, hpc]

/-- A register of the core's own block lies apart from the program counters, which fill the offsets 0x4018 to 0x40C7. -/
theorem ctcPc_apart (c t : Nat) {x : Fld} (ht : t < 8) (hs : x.reg.info.scope = .core) (hb : x.reg.info.base < 0x4018 ∨ 0x40D8 ≤ x.reg.info.base) :
    F.CTC_PC_V.apart c t (x, c, 0) := by
  have hpc : Reg.ctcPc.addr c t = 0x04000000 * (c / 68 + 1) + (c % 68) * 0x40000 + 0x4018 + t * 0x18 := rfl
  have hx : x.reg.addr c 0 = 0x04000000 * (c / 68 + 1) + (c % 68) * 0x40000 + x.reg.info.base + 0 * x.reg.info.stride := by simp only [Reg.addr, hs]
  refine .inl ?_
  show Reg.ctcPc.addr c t ≠ x.reg.addr c 0
  omega

/-! ## A write of a local store -/

/-- The fields that count and show an error of the near store (R227). -/
def nsErrorFields (c : Nat) : List (Fld × Nat × Nat) :=
  [(F.NS_CE_CNT_V, c, 0), (F.MEM_STATUS_NS_CE, c, 0), (F.NS_UE_CNT_V, c, 0), (F.MEM_STATUS_NS_UE, c, 0), (F.MEM_ERR_ADDR_NS, c, 0), (F.MEM_ERR_ADDR_OFFSET, c, 0)]

theorem Dev.KeepsStores.nsUe {d e : Dev} {c : Nat} (h : d.KeepsStores e (nsErrorFields c)) (o : Nat) : d.KeepsStores (e.nsUe c o) (nsErrorFields c) :=
  (((h.put F.NS_UE_CNT_V c 0 _ (by decide) (by simp [nsErrorFields])).put F.MEM_STATUS_NS_UE c 0 1 (by decide) (by simp [nsErrorFields])).put
    F.MEM_ERR_ADDR_NS c 0 1 (by decide) (by simp [nsErrorFields])).put F.MEM_ERR_ADDR_OFFSET c 0 o (by decide) (by simp [nsErrorFields])

/-- The errors that the merge of a narrow write finds are counted; no byte changes for them. -/
theorem Dev.mergeErrors_keeps (d : Dev) (c o n err : Nat) : d.KeepsStores (d.mergeErrors c o n err) (nsErrorFields c) := by
  unfold Dev.mergeErrors
  simp only []
  generalize hw : (partWords o n).filter (fun w => (d.core c).nsBad.contains w) = ws
  have bad : d.KeepsStores (d.each ws fun d w => d.nsUe c (8 * w)) (nsErrorFields c) := .each _ (fun _ w h => h.nsUe (8 * w)) ws d (.refl d _)
  cases partWords o n with
  | nil => exact bad
  | cons w rest =>
    simp only []
    split
    · exact bad
    split
    · exact (bad.put F.NS_CE_CNT_V c 0 _ (by decide) (by simp [nsErrorFields])).put F.MEM_STATUS_NS_CE c 0 1 (by decide) (by simp [nsErrorFields])
    split
    · exact (bad.nsUe (8 * w)).updCore c _ (fun _ => rfl) (fun _ => rfl) fun _ => rfl
    · exact bad

/-- The place of the i-th byte from a place in the stores of core c. -/
def LocalAt.byte (c : Nat) : LocalAt → Nat → MemPlace
  | .stg o, i => .stg c (o + i)
  | .ns o, i => .ns c (o + i)

/-- The fields that a write of a local store may change. -/
def LocalAt.errorFields (c : Nat) : LocalAt → List (Fld × Nat × Nat)
  | .stg _ => []
  | .ns _ => nsErrorFields c

/-- The stores of core c after a write of bytes at a place in them. -/
def LocalAt.write (c : Nat) (bs : List Byte) (k : Core) : LocalAt → Core
  | .stg o => { k with stg := bwriteN (4 * c + 2) k.stg o bs }
  | .ns o => { k with ns := bwriteN (4 * c + 3) k.ns o bs }

/-- All that a write of a local store does: errors are counted, then the bytes are written, and units of the core are told of it. -/
theorem Dev.storeWrite_eq (d : Dev) (c : Nat) (l : LocalAt) (bs : List Byte) (err : Nat) : ∃ e f, d.storeWrite c l bs err = e.updCore c f ∧
    d.KeepsStores e (l.errorFields c) ∧ ∀ k, (f k).stg = (l.write c bs k).stg ∧ (f k).ns = (l.write c bs k).ns ∧ (f k).ctc = k.ctc := by
  cases l with
  | stg o =>
    exact ⟨d, fun k => { k.touch false o bs.length with stg := bwriteN (4 * c + 2) k.stg o bs }, rfl, .refl d _, fun _ => ⟨rfl, rfl, rfl⟩⟩
  | ns o =>
    exact ⟨d.mergeErrors c o bs.length err, fun k =>
      { k.touch true o bs.length with
        ns := bwriteN (4 * c + 3) k.ns o bs, nsBad := k.nsBad.filter (fun w => !(o ≤ 8 * w && 8 * w + 8 ≤ o + bs.length)) },
      rfl, d.mergeErrors_keeps c o bs.length err, fun _ => ⟨rfl, rfl, rfl⟩⟩

theorem LocalAt.write_storesOk {c : Nat} {k : Core} (l : LocalAt) (bs : List Byte) (h : k.storesOk c = true) : (l.write c bs k).storesOk c = true := by
  obtain ⟨hs, hn⟩ := Core.storesOk_iff.1 h
  cases l with
  | stg o => exact Core.storesOk_iff.2 ⟨bwriteN_wf _ bs _ o hs, hn⟩
  | ns o => exact Core.storesOk_iff.2 ⟨hs, bwriteN_wf _ bs _ o hn⟩

section
variable (d : Dev) (c : Nat) (l : LocalAt) (bs : List Byte) (err : Nat)

theorem Dev.storeWrite_regs : d.onlyFields (d.storeWrite c l bs err) (l.errorFields c) := by
  obtain ⟨e, f, he, hk, -⟩ := d.storeWrite_eq c l bs err
  rw [he]
  exact Dev.onlyFields_mid hk.regs rfl

theorem Dev.storeWrite_g (c' t r : Nat) : (d.storeWrite c l bs err).g c' t r = d.g c' t r := by
  obtain ⟨e, f, he, hk, hf⟩ := d.storeWrite_eq c l bs err
  have threads : ((e.updCore c f).core c').ctc.threads = (e.core c').ctc.threads := by
    by_cases h : c' = c
    · rw [h, Dev.core_updCore_same, (hf _).2.2]
    · rw [Dev.core_updCore_other _ _ _ _ h]
  rw [he, ← hk.g]
  simp only [Dev.g, Dev.thread, threads]

theorem Dev.storeWrite_memoryOk (h : d.memoryOk = true) : (d.storeWrite c l bs err).memoryOk = true := by
  obtain ⟨e, f, he, hk, hf⟩ := d.storeWrite_eq c l bs err
  rw [he]
  refine Dev.memoryOk_updCore (fun hc => ?_) (hk.canonical h)
  obtain ⟨hstg, hns, -⟩ := hf (e.core c)
  rw [Core.storesOk, hstg, hns]
  exact l.write_storesOk bs hc

/-- What the stores of the core hold after the write. -/
theorem Dev.storeWrite_stores : ((d.storeWrite c l bs err).core c).stg = (l.write c bs (d.core c)).stg ∧
    ((d.storeWrite c l bs err).core c).ns = (l.write c bs (d.core c)).ns := by
  obtain ⟨e, f, he, hk, hf⟩ := d.storeWrite_eq c l bs err
  obtain ⟨hstg, hns, -⟩ := hf (e.core c)
  rw [he, Dev.core_updCore_same, hstg, hns]
  cases l <;> simp only [LocalAt.write, hk.stg, hk.ns, and_self]

/-- Another core's stores, HBM and scratch are as before. -/
theorem Dev.storeWrite_elsewhere (p : MemPlace) (h : ∀ a, p ≠ .stg c a ∧ p ≠ .ns c a) : (d.storeWrite c l bs err).byteAt p = d.byteAt p := by
  obtain ⟨e, f, he, hk, -⟩ := d.storeWrite_eq c l bs err
  rw [he, ← hk.byteAt]
  cases p with
  | hbm a => rfl
  | scratch a => rfl
  | stg k a => rw [Dev.byteAt, Dev.byteAt, Dev.core_updCore_other _ _ _ _ fun hk' : k = c => (h a).1 (by rw [hk'])]
  | ns k a => rw [Dev.byteAt, Dev.byteAt, Dev.core_updCore_other _ _ _ _ fun hk' : k = c => (h a).2 (by rw [hk'])]

/-- Byte i of the write stands at the i-th place. -/
theorem Dev.storeWrite_inside {i : Nat} (h : i < bs.length) : (d.storeWrite c l bs err).byteAt (l.byte c i) = bs[i] := by
  obtain ⟨hstg, hns⟩ := d.storeWrite_stores c l bs err
  cases l with
  | stg o => exact (congrArg (bread _ · _) hstg).trans (bread_bwriteN_inside _ bs _ o i h)
  | ns o => exact (congrArg (bread _ · _) hns).trans (bread_bwriteN_inside _ bs _ o i h)

theorem outside_of_ne_add {o a n : Nat} (h : ∀ i, i < n → a ≠ o + i) : a < o ∨ o + n ≤ a := by
  by_contra hc
  exact h (a - o) (by omega) (by omega)

/-- Every place that the write does not cover reads as before. -/
theorem Dev.storeWrite_outside {p : MemPlace} (h : ∀ i, i < bs.length → p ≠ l.byte c i) : (d.storeWrite c l bs err).byteAt p = d.byteAt p := by
  obtain ⟨hstg, hns⟩ := d.storeWrite_stores c l bs err
  by_cases here : ∃ a, p = .stg c a ∨ p = .ns c a
  · obtain ⟨a, rfl | rfl⟩ := here
    · refine (congrArg (bread _ · a) hstg).trans ?_
      cases l with
      | stg o => exact bread_bwriteN_outside _ bs _ o a (outside_of_ne_add fun i hi e => h i hi (congrArg _ e))
      | ns o => rfl
    · refine (congrArg (bread _ · a) hns).trans ?_
      cases l with
      | stg o => rfl
      | ns o => exact bread_bwriteN_outside _ bs _ o a (outside_of_ne_add fun i hi e => h i hi (congrArg _ e))
  · exact d.storeWrite_elsewhere c l bs err p fun a => ⟨fun e => here ⟨a, .inl e⟩, fun e => here ⟨a, .inr e⟩⟩
end

/-! ## The store instruction -/

theorem sizeOk_pos {n : Nat} (h : sizeOk n = true) : 0 < n := by
  refine Nat.pos_of_ne_zero fun hn => ?_
  subst hn
  exact absurd h (by decide)

/-- A local access without a fault lies in a store. -/
theorem Dev.localAt_of_accessFault {d : Dev} {c a n : Nat} (hn : 0 < n) (h : d.accessFault c a n = 0) (hb : bitOf a 63 = true) : ∃ l, d.localAt c a = some l := by
  have ok : d.localOk c a n = true := by
    by_contra hk
    simp only [Dev.accessFault, hb, if_true, hk] at h
    split at h <;> simp at h
  cases hl : d.localAt c a with
  | some l => exact ⟨l, rfl⟩
  | none =>
    simp [Dev.localOk, hl, hn.ne'] at ok

/-- A store that issues, at an address that checks, writes its bytes there and goes on. -/
theorem exec_ctcStore_local (s : State) {c t size rs ra err a : Nat} {imm : Int} {l : LocalAt} (hi : s.dev.issues c t) (hrs : rs < 32) (hra : ra < 32)
    (himm : immOk imm = true) (hsize : sizeOk size = true) (ha : s.dev.ea c t ra imm = a) (hf : s.dev.accessFault c a size = 0) (hb : bitOf a 63 = true)
    (hl : s.dev.localAt c a = some l) :
    exec (.ctcStore c t size rs ra imm err false) s =
      .next (s.withDev ((((s.dev.takeThread c t).storeWrite c l (leBytes size (s.dev.g c t rs).toNat) err).pcNext c t).showCtc c)) := by
  have kept := s.dev.takeThread_keeps c t
  have ok : (insnOk c t [rs, ra] && immOk imm && sizeOk size) = true := by
    simp [insnOk, regsOk, hi.1, hi.2.1, hrs, hra, himm, hsize]
  refine (s.runOn_next _ ok).trans ?_
  rw [Dev.issue_eq hi]
  simp only [kept.ea, kept.g, kept.accessFault, ha, hf, hb, ne_eq, not_true_eq_false, if_false, if_true, Dev.localWrite, kept.localAt, hl, Option.map_some,
    Option.getD_some]

section
variable (d : Dev) (c t : Nat) (l : LocalAt) (bs : List Byte) (err : Nat)

/-- The device after the issue of a store to a place in a store of the core. -/
def Dev.ctcStored : Dev := (((d.takeThread c t).storeWrite c l bs err).pcNext c t).showCtc c

/-- After the bytes are written, the program counter and CTC_STATUS alone change. -/
theorem Dev.ctcStored_keeps : ((d.takeThread c t).storeWrite c l bs err).KeepsStores (d.ctcStored c t l bs err) ((F.CTC_PC_V, c, t) :: statusFields c) :=
  (Dev.pcNext_keeps _ c t).trans (Dev.showCtc_keeps _ c)

theorem Dev.ctcStored_regs : d.onlyFields (d.ctcStored c t l bs err) (issueFields c t ++ l.errorFields c) := by
  have h := Dev.onlyFields_trans (d.takeThread_keeps c t).regs
    (Dev.onlyFields_trans (Dev.storeWrite_regs _ c l bs err) (d.ctcStored_keeps c t l bs err).regs)
  refine Dev.onlyFields_mono h fun x hx => ?_
  simp only [List.mem_append, List.mem_cons, List.not_mem_nil, or_false, issueFields, statusFields] at hx ⊢
  tauto

theorem Dev.ctcStored_g (c' t' r : Nat) : (d.ctcStored c t l bs err).g c' t' r = d.g c' t' r := by
  rw [(d.ctcStored_keeps c t l bs err).g, Dev.storeWrite_g, (d.takeThread_keeps c t).g]

theorem Dev.ctcStored_memoryOk (h : d.memoryOk = true) : (d.ctcStored c t l bs err).memoryOk = true :=
  (d.ctcStored_keeps c t l bs err).canonical (Dev.storeWrite_memoryOk _ c l bs err ((d.takeThread_keeps c t).canonical h))

theorem Dev.ctcStored_inside {i : Nat} (h : i < bs.length) : (d.ctcStored c t l bs err).byteAt (l.byte c i) = bs[i] :=
  ((d.ctcStored_keeps c t l bs err).byteAt _).trans (Dev.storeWrite_inside _ c l bs err h)

theorem Dev.ctcStored_outside {p : MemPlace} (h : ∀ i, i < bs.length → p ≠ l.byte c i) : (d.ctcStored c t l bs err).byteAt p = d.byteAt p := by
  rw [(d.ctcStored_keeps c t l bs err).byteAt, Dev.storeWrite_outside _ c l bs err h, (d.takeThread_keeps c t).byteAt]

/-- Neither the choice of the thread nor the errors of the store move the program counter. -/
theorem Dev.storeWrite_pc (ht : t < 8) : ((d.takeThread c t).storeWrite c l bs err).pc c t = d.pc c t := by
  refine Dev.onlyFields_trans (d.takeThread_keeps c t).regs (Dev.storeWrite_regs _ c l bs err) F.CTC_PC_V c t (by decide) fun x hx => ?_
  rcases List.mem_append.1 hx with hx | hx
  · rw [List.mem_singleton.1 hx]
    exact ctcPc_apart c t ht rfl (by decide)
  · cases l with
    | stg o => exact absurd hx List.not_mem_nil
    | ns o =>
      simp only [LocalAt.errorFields, nsErrorFields, List.mem_cons, List.not_mem_nil, or_false] at hx
      rcases hx with rfl | rfl | rfl | rfl | rfl | rfl <;> exact ctcPc_apart c t ht rfl (by decide)

theorem Dev.ctcStored_pc (ht : t < 8) : (d.ctcStored c t l bs err).pc c t = (d.pc c t + 8) % 2 ^ 64 := by
  have shown : (d.ctcStored c t l bs err).pc c t = (((d.takeThread c t).storeWrite c l bs err).pcNext c t).pc c t := by
    refine (Dev.showCtc_keeps _ c).regs F.CTC_PC_V c t (by decide) fun x hx => ?_
    simp only [statusFields, List.mem_cons, List.not_mem_nil, or_false] at hx
    rcases hx with rfl | rfl | rfl <;> exact ctcPc_apart c t ht rfl (by decide)
  rw [shown, Dev.pcNext, Dev.pc_setPc, Dev.storeWrite_pc _ c t l bs err ht]
  exact Nat.mod_mod _ _
end

/-- Settles O31: the write of the store's bytes, framed by `Dev.KeepsStores` on both sides. -/
theorem ctcStoresToItsOwnMemory : Obligations.CtcStoresToItsOwnMemory := by
  intro s c t size rs ra err imm hi hrs hra himm hsize a hf hb
  obtain ⟨l, hl⟩ := Dev.localAt_of_accessFault (sizeOk_pos hsize) hf hb
  let bs := leBytes size (s.dev.g c t rs).toNat
  have hlen : bs.length = size := leBytes_length _ _
  have inside (i : Nat) (h : i < size) : (s.dev.ctcStored c t l bs err).byteAt (l.byte c i) = BitVec.ofNat 8 ((s.dev.g c t rs).toNat / 256 ^ i) :=
    (s.dev.ctcStored_inside c t l bs err (hlen ▸ h)).trans (leBytes_getElem _ _ _ _)
  have outside (p : MemPlace) (h : ∀ i, i < size → p ≠ l.byte c i) : (s.dev.ctcStored c t l bs err).byteAt p = s.dev.byteAt p :=
    s.dev.ctcStored_outside c t l bs err fun i hi => h i (hlen ▸ hi)
  have regs := s.dev.ctcStored_regs c t l bs err
  refine ⟨s.withDev (s.dev.ctcStored c t l bs err), exec_ctcStore_local s hi hrs hra himm hsize rfl hf hb hl, rfl, s.dev.ctcStored_pc c t l bs err hi.2.1,
    s.dev.ctcStored_g c t l bs err, fun o ho => ?_, fun o ho => ?_, Dev.onlyFields_mono regs ?_, s.dev.ctcStored_memoryOk c t l bs err⟩
  · obtain rfl : l = .stg o := Option.some.inj (hl.symm.trans ho)
    exact ⟨inside, outside, Dev.onlyFields_mono regs (by simp [LocalAt.errorFields])⟩
  · obtain rfl : l = .ns o := Option.some.inj (hl.symm.trans ho)
    exact ⟨inside, outside⟩
  · cases l with
    | stg o => exact fun x hx => List.mem_append_left _ (by simpa [LocalAt.errorFields] using hx)
    | ns o => exact fun x hx => hx

end Sys2Proof.Machine

/-! # Pattern entries, deadlines and bridges (R13, R61, R67) -/

namespace Sys2Proof.Machine

/-! ## The next entry of a quarter's pattern (R60, R61) -/

/-- The stamp of the entry of quarter q at which its dispatcher stands, were e that entry. -/
abbrev Dev.patStamp (d : Dev) (q : Nat) (e : PatEntry) : Nat := d.entryStamp e (mget {} d.pat.disp q).k

/-- Quarter q holds its next entry e back: it is not armed, has issued in this tick, the timer stands, or the entry is not due or waits for a switch. -/
def Dev.patHeld (d : Dev) (q : Nat) (e : PatEntry) : Bool :=
  (mget {} d.pat.disp q).armedAt.isNone || (mget {} d.pat.disp q).used || !d.clk.running || d.clk.stopped || decide (d.now < d.patStamp q e) ||
    d.patWaits (d.patStamp q e)

/-- Quarter q's dispatcher past its next entry, which has issued in this tick. -/
def Dev.patNext (d : Dev) (q : Nat) : Dispatcher :=
  let p := mget {} d.pat.disp q
  if p.i + 1 < (d.patEntries q).length then { p with i := p.i + 1, used := true } else { p with k := p.k + 1, i := 0, used := true }

/-- The device with quarter q's dispatcher moved on. -/
def Dev.patMoved (d : Dev) (q : Nat) : Dev := { d with pat := { d.pat with disp := mset {} d.pat.disp q (d.patNext q) } }

/-- A stamp is late: its beat is past, or a step of the timer skipped it. -/
abbrev Dev.patLate (d : Dev) (stamp : Nat) : Prop := stamp / 65536 < d.beat ∨ ∃ x ∈ d.pat.skips, x.1 < stamp ∧ stamp < x.2

theorem Dev.patLate_iff_any (d : Dev) (stamp : Nat) :
    d.patLate stamp ↔ (decide (stamp / 65536 < d.beat) || d.pat.skips.any (fun x => x.1 < stamp && stamp < x.2)) = true := by
  simp [Dev.patLate]

theorem Dev.patHeld_eq_false {d : Dev} {q : Nat} {e : PatEntry} (armed : (mget {} d.pat.disp q).armedAt.isSome = true)
    (unused : (mget {} d.pat.disp q).used = false) (running : d.clk.running = true) (going : d.clk.stopped = false) (due : d.patStamp q e ≤ d.now)
    (free : d.patWaits (d.patStamp q e) = false) : d.patHeld q e = false := by
  obtain ⟨b, hb⟩ := Option.isSome_iff_exists.1 armed
  simp [Dev.patHeld, hb, unused, running, going, due, free]

theorem Dev.patHeld_eq_true {d : Dev} {q : Nat} {e : PatEntry}
    (h : (mget {} d.pat.disp q).armedAt = none ∨ (mget {} d.pat.disp q).used = true ∨ d.clk.running = false ∨ d.now < d.patStamp q e) :
    d.patHeld q e = true := by
  rcases h with h | h | h | h <;> simp [Dev.patHeld, h]

section
variable {d : Dev} {q : Nat} {e : PatEntry}

theorem Dev.patIssue_none (he : (d.patEntries q)[(mget {} d.pat.disp q).i]? = none) : d.patIssue q = d := by
  simp [Dev.patIssue, he]

theorem Dev.patIssue_held (he : (d.patEntries q)[(mget {} d.pat.disp q).i]? = some e) (h : d.patHeld q e = true) : d.patIssue q = d := by
  simp only [Dev.patIssue, he]
  exact if_pos h

theorem Dev.patIssue_due (he : (d.patEntries q)[(mget {} d.pat.disp q).i]? = some e) (h : d.patHeld q e = false) :
    d.patIssue q = (if d.patLate (d.patStamp q e) then ((d.patMoved q).count F.BEAT_PAT_LATE_V).putD F.BEAT_STATUS_LATE_SEEN 1
      else d.patMoved q).patAction q e (d.patStamp q e) := by
  simp only [Dev.patIssue, he]
  refine (if_neg (ne_true_of_eq_false h)).trans ?_
  congr 1
  exact (if_congr (d.patLate_iff_any _) rfl rfl).symm

end

theorem exec_patternEntryIssue (s : State) {q : Nat} (hq : q < 4) : exec (.patternEntryIssue q) s = .next (s.withDev (s.dev.patIssue q)) :=
  s.runOn_next _ (decide_eq_true hq)

/-! ## The end of a deadline (R67) -/

section
variable {d : Dev} {q i : Nat}

theorem Dev.missDeadline_ended {e : Nat × Deadline} (he : d.pat.deadlines.find? (fun e => e.1 = dlKey q i) = some e) (h : e.2.fin ≤ d.now) :
    d.missDeadline q i = ({ d with pat := { d.pat with deadlines := d.pat.deadlines.filter (fun x => x.1 ≠ dlKey q i) } } : Dev).record .deadlineMiss
      (evSource q 15 0x7F) [(1, i), (1, e.2.kind), (1, e.2.ref), (8, e.2.fin / 65536), (2, e.2.fin % 65536)] := by
  simp only [Dev.missDeadline, he, if_pos h]

theorem Dev.missDeadline_running (h : ∀ e, d.pat.deadlines.find? (fun e => e.1 = dlKey q i) = some e → d.now < e.2.fin) : d.missDeadline q i = d := by
  unfold Dev.missDeadline
  split
  next => rfl
  next e he => exact if_neg (Nat.not_le.2 (h e he))

end

theorem exec_deadlineEnd (s : State) {q i : Nat} (hq : q < 4) (hi : i < 64) :
    exec (.deadlineEnd q i) s = .next (s.withDev (s.dev.missDeadline q i)) :=
  s.runOn_next _ (by simp [hq, hi])

/-! ## The failure of a bridge (R13) -/

theorem exec_bridgeFail_inUse (s : State) {b : Nat} (hb : b < 4) (h : bitOf s.dev.clk.bridgesOut b = false) :
    exec (.bridgeFail b) s =
      .next (s.withDev ({ s.dev with clk := { s.dev.clk with bridgesPending := setBit s.dev.clk.bridgesPending b true } } : Dev).bridgeBreaks) :=
  (s.runOn_next _ (decide_eq_true hb)).trans (by rw [if_neg (ne_true_of_eq_false h)])

theorem exec_bridgeFail_out (s : State) {b : Nat} (hb : b < 4) (h : bitOf s.dev.clk.bridgesOut b = true) : exec (.bridgeFail b) s = .next s :=
  (s.runOn_next _ (decide_eq_true hb)).trans (by rw [if_pos h])

/-- The home of an address depends on its place in HBM and on the pinned scratch of the quarters. The function is unfolded by itself, away from its
arguments: at them the kernel would evaluate `Dev.place`, a comparison with a product of the size of a channel. -/
theorem Dev.home_congr {d e : Dev} {a : Nat} (hplace : e.place a = d.place a)
    (hpinned : ∀ q, e.get F.SHC_STATUS_PINNED q = d.get F.SHC_STATUS_PINNED q) : e.home a = d.home a := by
  generalize hhome : Dev.home = home
  delta Dev.home at hhome
  subst hhome
  simp only [hplace, hpinned]

/-- Where a request goes depends on the bridges and on the home of its address. -/
theorem Dev.towards_congr {d e : Dev} {q pa : Nat} (hclk : e.clk = d.clk) (hhome : e.home pa = d.home pa) : e.towards q pa = d.towards q pa := by
  unfold Dev.towards Dev.bridgeStops
  rw [hclk, hhome]

/-- The requests under way have no part in where a request goes. -/
theorem Dev.towards_withAccs (d : Dev) (accs : List MemAcc) (q pa : Nat) :
    Dev.towards { d with sys := { d.sys with accs := accs } } q pa = d.towards q pa :=
  Dev.towards_congr rfl (Dev.home_congr rfl fun _ => rfl)

/-- Settles O19: `Dev.patIssue` by whether the next entry is held back, `Dev.missDeadline` by whether the end has come, and BRIDGE_FAIL by
whether the bridge is in use. -/
theorem patternsDeadlinesAndBridges : Obligations.PatternsDeadlinesAndBridges := by
  refine ⟨fun s q e hq he armed unused running going due free => ?_, fun s q hq held => ?_, fun s q i e hq hi he h => ?_, fun s q i hq hi h => ?_,
    fun s b hb => ⟨fun h => ?_, exec_bridgeFail_out s hb⟩⟩
  · rw [exec_patternEntryIssue s hq, Dev.patIssue_due he (Dev.patHeld_eq_false armed unused running going due free)]
    rfl
  · rw [exec_patternEntryIssue s hq]
    cases he : (s.dev.patEntries q)[(mget {} s.dev.pat.disp q).i]? with
    | none => rw [Dev.patIssue_none he]
    | some e => rw [Dev.patIssue_held he (Dev.patHeld_eq_true (held.imp_right (Or.imp_right (Or.imp_right (· e he)))))]
  · rw [exec_deadlineEnd s hq hi, Dev.missDeadline_ended he h]
  · rw [exec_deadlineEnd s hq hi, Dev.missDeadline_running h]
  · refine ⟨_, exec_bridgeFail_inUse s hb h, rfl, rfl, rfl, ?_⟩
    refine List.map_congr_left fun a _ => ?_
    cases a.st with
    | slice pa => exact congrArg (fun st => { a with st := st }) (Dev.towards_withAccs _ _ _ _).symm
    | _ => rfl

end Sys2Proof.Machine

/-! # Loads of an image (R27, R28, R34, Table 02-17) -/

namespace Sys2Proof.Machine

/-! ## A load command -/

/-- The device with a load command's operands taken, the load's state not yet shown. -/
def Dev.imgTaken (d : Dev) (full : Bool) (by_ : LoadBy) (src len atBeat : Nat) : Dev :=
  { d with img := { d.img with prior := d.imgState, partialLoad := !full, by_ := by_, src := src, len := len, atBeat := atBeat, holdRing := full } }

section
variable {d : Dev} {full : Bool} {by_ : LoadBy} {src len atBeat : Nat}

/-- A load that no check of Table 02-17 refuses shows FETCH. -/
theorem Dev.imgLoad_begins (idle : d.loading = false) (ready : d.get F.BOOT_STATUS_STAGE = 6) (based : full = true ∨ d.imgState ≠ 0)
    (aligned : src % 4096 = 0) (quiet : full = true → d.quiescent = true) :
    d.imgLoad full by_ src len atBeat = (d.imgTaken full by_ src len atBeat).putD F.IMG_STATUS_STATE 1 := by
  have hbased : ¬ (!full && decide (d.imgState = 0)) = true := by rcases based with h | h <;> simp [h]
  have hquiet : ¬ (full && !d.quiescent) = true := by
    cases full with
    | false => simp
    | true => simp [quiet rfl]
  unfold Dev.imgLoad
  rw [if_neg (ne_true_of_eq_false idle), if_neg (not_not_intro ready), if_neg hbased, if_neg (not_not_intro aligned), if_neg hquiet]
  rfl

/-- A command of the companion while another is in progress is ignored but for BUSY_SEEN (R37). -/
theorem Dev.imgLoad_busy (busy : d.loading = true) : d.imgLoad full .companion src len atBeat = d.putD F.IMG_STATUS_BUSY_SEEN 1 := by
  unfold Dev.imgLoad
  rw [if_pos busy]

theorem Dev.imgState_fetch (e : Dev) : (e.putD F.IMG_STATUS_STATE 1).imgState = 1 := e.get_putD_same _ _ (by decide)

/-- Of the registers, a load that begins changes only its state. -/
theorem Dev.onlyFields_imgTaken : d.onlyFields ((d.imgTaken full by_ src len atBeat).putD F.IMG_STATUS_STATE 1) [(F.IMG_STATUS_STATE, 0, 0)] :=
  Dev.onlyFields_trans (d.onlyFields_regs rfl []) (Dev.onlyFields_putD _ _ _ (by decide))

end

theorem exec_imageLoadFull (s : State) :
    exec .imageLoadFull s = .next (s.withDev (s.dev.imgLoad true .companion (s.dev.get F.IMG_SRC_V) (s.dev.get F.IMG_LEN_V) 0)) := rfl

theorem exec_imageLoadPartial (s : State) : exec .imageLoadPartial s =
    .next (s.withDev (s.dev.imgLoad false .companion (s.dev.get F.IMG_SRC_V) (s.dev.get F.IMG_LEN_V) (s.dev.get F.IMG_AT_BEAT_V))) := rfl

/-- Settles O11: a load that passes the checks of its command is `Dev.imgTaken` shown as FETCH, and one while another is in progress only BUSY_SEEN. -/
theorem imageLoadBegins : Obligations.ImageLoadBegins := by
  refine ⟨fun s idle ready aligned quiet => ?_, fun s loaded ready aligned => ?_, fun s busy => ?_⟩
  · rw [exec_imageLoadFull, Dev.imgLoad_begins idle ready (.inl rfl) aligned fun _ => quiet]
    exact ⟨_, rfl, rfl, Dev.imgState_fetch _, Dev.onlyFields_imgTaken, rfl, rfl, rfl, rfl, rfl, rfl⟩
  · have idle : s.dev.loading = false := by simp [Dev.loading, loaded]
    have based : s.dev.imgState ≠ 0 := by simp [loaded]
    rw [exec_imageLoadPartial, Dev.imgLoad_begins idle ready (.inr based) aligned (absurd · Bool.false_ne_true)]
    exact ⟨_, rfl, rfl, Dev.imgState_fetch _, Dev.onlyFields_imgTaken, rfl, rfl, rfl, rfl, rfl⟩
  · rw [exec_imageLoadFull, exec_imageLoadPartial, Dev.imgLoad_busy busy, Dev.imgLoad_busy busy]
    exact ⟨rfl, rfl⟩

/-! ## The end of a switch -/

/-- A partial image that binds LCI 0 of quarter 0 to its core 0. -/
def rebinding : Settings := { bind := [{ role := 1 }] }

/-- The switch to that image (`quiesced` is what `Dev.imgChanges` gives), with no flit left in the mesh of quarter 0. An RD_ONCE of the companion (TAG 5)
from the core window of LCI 0 is held until the injection into that mesh resumes. -/
def heldRead : State :=
  { dev := { ((Dev.putD {} F.IMG_STATUS_STATE 6).putD F.GLOBAL_CHIP_ID_CHIP 0).putD F.HL_STATUS_STATE0 2 with
      img := { inForce := some {}, staged := some rebinding, quiesced := 1 }
      hl := { open_ := [(0, 5)] }
      sys := { accs := [{ id := 0, who := .companion 0 5 3, addr := 0xF000000000, op := .read 64, st := .mesh }], nextAcc := 1 } } }

/-- Refutes O12, by its clause on IMAGE_SWITCH_COMPLETE: the injection that the end of the switch resumes (R34) can carry a held access to its end, and the
command also gives the requester its outcome (`Dev.settle`), which `Dev.imgSwitched` alone does not. Here the model answers the companion with
the line read (RSP_DATA), where the statement has a device that sends nothing. -/
theorem not_imageLoadProceeds : ¬ Obligations.ImageLoadProceeds := by
  rintro ⟨-, -, -, switchCompletes, -⟩
  have claimed := switchCompletes heldRead rebinding rfl (by decide) (.inl rfl)
  have answered : sentBy (exec .imageSwitchComplete heldRead) ≠ [] := by decide +kernel
  have silent : (heldRead.dev.imgSwitched rebinding).out = [] := by decide +kernel
  rw [claimed] at answered
  exact answered silent

end Sys2Proof.Machine

/-! # Clocks, the beat timer and its messages (R42 to R68) -/

namespace Sys2Proof.Machine

/-! ## A read of BEAT_NOW (R51) -/

theorem bits_self_zero (v hi : Nat) : bits v hi 0 = v % 2 ^ (hi + 1) := by simp [bits]

theorem Dev.frac16_lt (d : Dev) : d.frac16 < 2 ^ 16 := by
  have := d.clk.frac.isLt
  unfold Dev.frac16
  omega

/-- A read of BEAT_NOW, whole or of its lower half, answers the count and latches the fraction. -/
theorem Dev.regRead_beatNow (d : Dev) (wide : Bool) : ∃ latch, d.regRead ⟨.beatNow, 0, 0, 0⟩ (if wide then 8 else 4) =
    (if wide then d.beat else d.beat % 2 ^ 32, { d.putD F.BEAT_FRAC_FRAC d.frac16 with hl := { d.hl with latch := latch } }) := by
  have count : d.beat = (d.reg .beatNow 0 0).toNat % 2 ^ 64 := bits_self_zero _ _
  cases wide with
  | true =>
    refine ⟨d.hl.latch, Prod.ext ?_ rfl⟩
    rw [count]
    exact congrArg (· % 2 ^ 64) (Nat.div_one _)
  | false =>
    refine ⟨_, Prod.ext ?_ rfl⟩
    rw [count]
    exact (Nat.mod_mod_of_dvd _ (by decide)).symm

theorem Dev.csrRead_beatNow {d : Dev} (wide : Bool) (hs : d.clk.safe = false) (hd : d.flag F.BOOT_STATUS_DAMPED = false) :
    ∃ latch, d.csrRead (Reg.beatNow.addr 0 0) (if wide then 8 else 4) =
      (.ok, if wide then d.beat else d.beat % 2 ^ 32, { d.putD F.BEAT_FRAC_FRAC d.frac16 with hl := { d.hl with latch := latch } }) := by
  obtain ⟨latch, hread⟩ := d.regRead_beatNow wide
  have hat : d.regAt (Reg.beatNow.addr 0 0) = some ⟨.beatNow, 0, 0, 0⟩ := Dev.regAt_inService hs hd (by decide) (by decide)
  have halign : csrAligned (Reg.beatNow.addr 0 0) (if wide then 8 else 4) = true := by cases wide <;> decide
  have hwidth : Reg.beatNow.info.width = 64 := rfl
  have hbeside (e : Dev) (n : Nat) : e.beside ⟨.beatNow, 0, 0, 0⟩ (Reg.beatNow.addr 0 0) n = none := by simp [Dev.beside, hwidth]
  refine ⟨latch, ?_⟩
  simp only [Dev.csrRead, halign, hat, hwidth, hbeside, hread, Bool.not_true, Bool.false_eq_true, if_false, Nat.reduceEqDiff]

theorem exec_beatNowRead (s : State) (wide : Bool) :
    exec (.beatNowRead wide) s = .next (s.withDev (s.dev.readOut (Reg.beatNow.addr 0 0) (if wide then 8 else 4))) := rfl

/-- Settles O10: the read is `Dev.putD` of BEAT_FRAC, with the latch of the upper half (R5) and the answer beside it. -/
theorem beatNowReadLatchesTheFraction : Obligations.BeatNowReadLatchesTheFraction := by
  intro s wide hs hd
  obtain ⟨latch, hread⟩ := Dev.csrRead_beatNow (d := s.dev) wide hs hd
  let e : Dev := { s.dev.putD F.BEAT_FRAC_FRAC s.dev.frac16 with hl := { s.dev.hl with latch := latch } }
  have only : s.dev.onlyFields e [(F.BEAT_FRAC_FRAC, 0, 0)] := Dev.onlyFields_mid (Dev.onlyFields_putD _ _ _ (by decide)) rfl
  have hexec : exec (.beatNowRead wide) s =
      .next (s.withDev (e.emit (.read (Reg.beatNow.addr 0 0) (if wide then s.dev.beat else s.dev.beat % 2 ^ 32)))) := by
    rw [exec_beatNowRead, Dev.readOut, hread]
  refine ⟨_, hexec, rfl, ?_, ?_, rfl, Dev.onlyFields_mid only rfl⟩
  · exact (Dev.get_putD_same _ _ _ (by decide)).trans (Nat.mod_eq_of_lt s.dev.frac16_lt)
  · exact only F.BEAT_NOW_V 0 0 (by decide) (by simpa using .inl (by decide))

/-! ## The tick (R50, R57) -/

section
variable {d : Dev}

/-- The quarters may each issue one pattern entry again (R61). -/
def Dev.patRelease (d : Dev) : Dev :=
  { d with pat := { d.pat with disp := d.pat.disp.map (fun (e : Nat × Dispatcher) => (e.1, { e.2 with used := false })) } }

/-- The timer one rate word on. -/
def Dev.ticked (d : Dev) : Dev :=
  { d.patRelease with clk := { d.clk with frac := BitVec.ofNat 48 (d.clk.frac.toNat + d.clk.rate) } }

theorem Dev.advance_running (hr : d.clk.running = true) (hs : d.clk.stopped = false) :
    d.patRelease.advance = (decide (2 ^ 48 ≤ d.clk.frac.toNat + d.clk.rate), d.ticked) := by
  have h : ¬ (!d.patRelease.clk.running || d.patRelease.clk.stopped) = true := by simp [Dev.patRelease, hr, hs]
  unfold Dev.advance
  rw [if_neg h]
  rfl

/-- A tick of a timer that runs: the boundary where the fraction overflows; otherwise BEAT_OUT may fall at the half beat. -/
theorem Dev.tick_running (hr : d.clk.running = true) (hs : d.clk.stopped = false) :
    d.tick = if 2 ^ 48 ≤ d.clk.frac.toNat + d.clk.rate then d.ticked.boundary
      else if d.clk.frac.toNat < 2 ^ 47 ∧ 2 ^ 47 ≤ d.ticked.clk.frac.toNat ∧ d.ticked.flag F.BEAT_STATUS_VALID = true then d.ticked.emit (.pin "BEAT_OUT" 0)
      else d.ticked := by
  unfold Dev.tick
  rw [if_neg (by simp [hr]), if_neg (by simp [hs])]
  have h := Dev.advance_running hr hs
  unfold Dev.patRelease at h
  simp only [h, decide_eq_true_eq, Bool.and_eq_true, and_assoc]

theorem Dev.tick_noSource (hr : d.clk.running = false) : d.tick = d := by simp [Dev.tick, hr]

theorem Dev.tick_stopped (hr : d.clk.running = true) (hs : d.clk.stopped = true) : d.tick = d.awaitExpected := by simp [Dev.tick, hr, hs]

theorem Dev.nextBeat_beat (d : Dev) : d.nextBeat.beat = (d.beat + 1) % 2 ^ 64 := Dev.get_putD_same _ _ _ (by decide)

end

theorem exec_beatTick (s : State) : exec .beatTick s = .next (s.withDev s.dev.tick) := rfl

/-- BEAT_BOUNDARY is the tick of an overflow. -/
theorem exec_beatBoundary (s : State) : exec .beatBoundary s =
    .next (s.withDev (if s.dev.clk.stopped = false ∧ 2 ^ 48 ≤ s.dev.clk.frac.toNat + s.dev.clk.rate then s.dev.tick else s.dev)) := by
  show s.run _ = _
  simp [State.run_eq]

/-- Settles O16: each clause is one branch of `Dev.tick`. -/
theorem theTimerTicks : Obligations.TheTimerTicks := by
  refine ⟨fun s hr hs h => ?_, fun s hr hs h => ?_, fun s h => ?_, fun s hr => ?_, fun s hr hs => ⟨?_, ?_⟩, Dev.nextBeat_beat⟩
  · have frac : s.dev.ticked.clk.frac.toNat = s.dev.clk.frac.toNat + s.dev.clk.rate := (BitVec.toNat_ofNat _ _).trans (Nat.mod_eq_of_lt h)
    rw [exec_beatTick, Dev.tick_running hr hs, if_neg (Nat.not_le.2 h)]
    split <;> exact ⟨_, rfl, rfl, frac, rfl, rfl, rfl, rfl⟩
  · have tick : s.dev.tick = s.dev.ticked.boundary := by rw [Dev.tick_running hr hs, if_pos h]
    refine ⟨s.dev.ticked, ?_, ?_, rfl, BitVec.toNat_ofNat _ _⟩
    · rw [exec_beatTick, tick]
    · rw [exec_beatBoundary, if_pos ⟨hs, h⟩, tick]
  · rw [exec_beatBoundary, if_neg fun hb => Nat.not_le.2 h hb.2]
  · rw [exec_beatTick, Dev.tick_noSource hr]
  · rw [exec_beatTick, Dev.tick_stopped hr hs]
    rfl
  · rw [exec_beatBoundary, if_neg fun hb => Bool.false_ne_true (hb.1.symm.trans hs)]

/-! ## Arming of pattern tables (R60, R62) -/

/-- The device with the bits of quarter q in ARM and PENDING set or cleared. -/
def Dev.armBits (d : Dev) (q : Nat) (on : Bool) : Dev :=
  (d.putD F.BEAT_PAT_ARM_ARM (setBit (d.get F.BEAT_PAT_ARM_ARM) q on)).putD F.BEAT_PAT_ARM_PENDING (setBit (d.get F.BEAT_PAT_ARM_PENDING) q on)

theorem setBit_lt {v q : Nat} (on : Bool) (hv : v < 2 ^ 4) (hq : q < 4) : setBit v q on < 2 ^ 4 :=
  (by decide : ∀ v < 2 ^ 4, ∀ q < 4, ∀ on, setBit v q on < 2 ^ 4) v hv q hq on

section
variable (d : Dev) {q : Nat} (on : Bool)

theorem Dev.armBits_arm (hq : q < 4) : (d.armBits q on).get F.BEAT_PAT_ARM_ARM = setBit (d.get F.BEAT_PAT_ARM_ARM) q on := by
  have kept : (d.armBits q on).get F.BEAT_PAT_ARM_ARM = (d.putD F.BEAT_PAT_ARM_ARM (setBit (d.get F.BEAT_PAT_ARM_ARM) q on)).get F.BEAT_PAT_ARM_ARM :=
    Dev.get_putD_field _ _ _ _ (by decide) (by decide) (by decide) (by decide)
  rw [kept, Dev.get_putD_same _ _ _ (by decide)]
  exact Nat.mod_eq_of_lt (setBit_lt on (bits_lt _ _ _) hq)

theorem Dev.armBits_pending (hq : q < 4) : (d.armBits q on).get F.BEAT_PAT_ARM_PENDING = setBit (d.get F.BEAT_PAT_ARM_PENDING) q on := by
  rw [Dev.armBits, Dev.get_putD_same _ _ _ (by decide)]
  exact Nat.mod_eq_of_lt (setBit_lt on (bits_lt _ _ _) hq)

theorem Dev.onlyFields_armBits (q : Nat) : d.onlyFields (d.armBits q on) [(F.BEAT_PAT_ARM_ARM, 0, 0), (F.BEAT_PAT_ARM_PENDING, 0, 0)] :=
  Dev.onlyFields_then (Dev.onlyFields_putD _ _ _ (by decide)) _ 0 0 _ (by decide)

end

theorem exec_patternArm (s : State) {q : Nat} (hq : q < 4) (h : bitOf (s.dev.get F.BEAT_PAT_ARM_ARM) q = false) : exec (.patternArm q) s =
    .next (s.withDev (if s.dev.flag F.BEAT_STATUS_VALID && s.dev.img.inForce.isSome then s.dev.armBits q true else s.dev.putD F.BEAT_STATUS_ARM_REFUSED 1)) :=
  (s.runOn_next _ (decide_eq_true hq)).trans (by rw [if_neg (ne_true_of_eq_false h)]; rfl)

theorem exec_patternDisarm (s : State) {q : Nat} (hq : q < 4) : exec (.patternDisarm q) s =
    .next (s.withDev { s.dev.armBits q false with pat := { s.dev.pat with disp := mset {} s.dev.pat.disp q {} } }) :=
  s.runOn_next _ (decide_eq_true hq)

/-- Settles O18: arming and disarming are `Dev.armBits`, disarming with the quarter's dispatcher at rest. -/
theorem patternArming : Obligations.PatternArming := by
  refine ⟨fun s q hq h hv hi => ?_, fun s q hq h hno => ?_, fun s q hq => ?_⟩
  · rw [exec_patternArm s hq h, if_pos (by simp [hv, hi])]
    exact ⟨_, rfl, rfl, s.dev.armBits_arm true hq, s.dev.armBits_pending true hq, rfl, s.dev.onlyFields_armBits true q⟩
  · rw [exec_patternArm s hq h, if_neg (ne_true_of_eq_false hno)]
  · exact ⟨_, exec_patternDisarm s hq, rfl, s.dev.armBits_arm false hq, s.dev.armBits_pending false hq, mget_mset_same {} s.dev.pat.disp q {}, rfl,
      Dev.onlyFields_mid (s.dev.onlyFields_armBits false q) rfl⟩

end Sys2Proof.Machine

namespace Sys2Proof.Machine

/-! ## Qualification windows (R44 to R46) -/

/-- Two fields of one register without a bit in common. -/
def Fld.beside (f g : Fld) : Bool := decide (g.reg = f.reg) && f.fits && decide (g.lo ≤ g.hi) && decide (f.hi < g.lo ∨ g.hi < f.lo)

theorem Dev.get_putD_beside (d : Dev) {f g : Fld} (n : Nat) (h : f.beside g = true) : (d.putD f n).get g = d.get g := by
  simp only [Fld.beside, Bool.and_eq_true, decide_eq_true_eq] at h
  obtain ⟨⟨⟨hr, hf⟩, hg⟩, hd⟩ := h
  exact d.get_putD_field f g n hr hf hg hd

theorem Dev.hasComparison_present (d : Dev) (src : ClkSrc) (n : Nat) : (d.putD src.present n).hasComparison src = d.hasComparison src := by
  unfold Dev.hasComparison Dev.flag
  rw [d.get_putD_beside n (by cases src <;> decide : src.present.beside src.other.present = true),
    d.get_putD_beside n (by cases src <;> decide : src.present.beside F.BEAT_CLK_STATUS_HREC_PRESENT = true)]

@[simp] theorem Dev.setBadRun_get (d : Dev) (src : ClkSrc) (n : Nat) (f : Fld) (u i : Nat) : (d.setBadRun src n).get f u i = d.get f u i := by
  cases src <;> rfl

@[simp] theorem Dev.badRun_putD (d : Dev) (src : ClkSrc) (f : Fld) (n : Nat) : (d.putD f n).badRun src = d.badRun src := by
  cases src <;> rfl

section
variable {d : Dev} {src : ClkSrc} {count : Nat}

theorem Dev.windowEnd_good (hc : d.hasComparison src = true) (h : 65530 ≤ count ∧ count ≤ 65542) :
    let e := d.putD src.present (b2n (count ≠ 0))
    let r := min 1024 (d.get src.run + 1)
    d.windowEnd src count false = if r = 1024 then ((e.putD src.run r).setBadRun src 0).putD src.qual 1 else (e.putD src.run r).setBadRun src 0 := by
  have hrun (n : Nat) : (d.putD src.present n).get src.run = d.get src.run := d.get_putD_beside n (by cases src <;> decide)
  unfold Dev.windowEnd
  simp only [Dev.hasComparison_present, hc, h, hrun, decide_true, Bool.not_true, Bool.or_self, Bool.and_self, Bool.false_eq_true, if_false, if_true]

theorem Dev.windowEnd_bad (hc : d.hasComparison src = true) (h : count < 65530 ∨ 65542 < count) (hb : d.badRun src = 0) :
    d.windowEnd src count false = ((d.putD src.present (b2n (count ≠ 0))).putD src.run 0).setBadRun src 1 := by
  have hw : (decide (65530 ≤ count) && decide (count ≤ 65542)) = false := by
    rw [← Bool.decide_and]
    exact decide_eq_false (by omega)
  unfold Dev.windowEnd
  simp [Dev.hasComparison_present, hc, hw, hb]

end

/-- Settles O15. -/
theorem qualificationWindows : Obligations.QualificationWindows := by
  refine ⟨fun d src count hc hlo hhi => ?_, fun d src count hc hout hb => ?_⟩
  · rw [Dev.windowEnd_good hc ⟨hlo, hhi⟩]
    have hr : min 1024 (d.get src.run + 1) < 2 ^ (src.run.hi - src.run.lo + 1) :=
      (Nat.min_le_left _ _).trans_lt (by cases src <;> decide)
    have run (e : Dev) : ((e.putD src.run (min 1024 (d.get src.run + 1))).setBadRun src 0).get src.run = min 1024 (d.get src.run + 1) := by
      rw [Dev.setBadRun_get, Dev.get_putD_same _ _ _ (by cases src <;> decide), Nat.mod_eq_of_lt hr]
    refine ⟨?_, fun hq => ?_⟩
    · split
      · rw [Dev.get_putD_beside _ _ (by cases src <;> decide), run]
      · exact run _
    · rw [if_pos (by omega), Dev.get_putD_same _ _ _ (by cases src <;> decide)]
      cases src <;> rfl
  · rw [Dev.windowEnd_bad hc hout hb]
    refine ⟨?_, ?_⟩
    · rw [Dev.setBadRun_get, Dev.get_putD_same _ _ _ (by cases src <;> decide), Nat.zero_mod]
    · rw [Dev.setBadRun_get, Dev.get_putD_beside _ _ (by cases src <;> decide), Dev.get_putD_beside _ _ (by cases src <;> decide)]

end Sys2Proof.Machine

namespace Sys2Proof.Machine

/-! ## Clock events (R42 to R48, R465) -/

/-- A clock event that does not enter the safe state leaves the halves of HauneLink alone. -/
theorem Dev.clockEvent_safe {d : Dev} {f : Dev → Dev} (h : (f d).clk.safe = d.clk.safe) : d.clockEvent f = f d := by
  unfold Dev.clockEvent
  simp [h]

@[simp] theorem Dev.crecWants_safe (d : Dev) : d.crecWants.clk.safe = d.clk.safe := by
  unfold Dev.crecWants
  split
  · rfl
  · split <;> rfl

theorem Dev.windowEnd_stopped (d : Dev) (src : ClkSrc) (count : Nat) : d.windowEnd src count true = d.putD src.present (b2n (count ≠ 0)) := by
  simp [Dev.windowEnd]

theorem b2n_ne_zero (count : Nat) : b2n (count ≠ 0) = if count = 0 then 0 else 1 := by
  by_cases h : count = 0 <;> simp [h, b2n]

theorem exec_receiverLockChange_haune (s : State) {n : Nat} (hn : n < 2) (gained inWindow : Bool) : exec (.receiverLockChange true n gained inWindow) s =
    .next (s.withDev (s.dev.clockEvent (·.receiverLock true n gained inWindow))) := s.runOn_next _ (decide_eq_true hn)

theorem exec_receiverLockChange_port (s : State) {n : Nat} (hn : n < 16) (gained inWindow : Bool) : exec (.receiverLockChange false n gained inWindow) s =
    .next (s.withDev (s.dev.clockEvent (·.receiverLock false n gained inWindow))) := s.runOn_next _ (decide_eq_true hn)

theorem exec_qualWindowEnd (s : State) (cand : ClkSrc) (count : Nat) (stopped : Bool) : exec (.qualWindowEnd cand count stopped) s =
    .next (s.withDev (s.dev.clockEvent (·.windowEnd cand count stopped)).clockPump) := rfl

theorem exec_clockResume (s : State) (env : StartEnv) : exec (.clockResume env) s =
    .next (s.withDev (if s.dev.clk.safe && s.dev.qualified.isSome then ((s.dev.resumed env).step2).clockPump else s.dev)) := rfl

/-- Settles O14: none of the locks and windows named enters the safe state, so that `Dev.clockEvent` is the event itself. -/
theorem clockEventsComplete : Obligations.ClockEventsComplete := by
  refine ⟨fun s n gained inWindow hn => ?_, fun s n gained inWindow hn => exec_receiverLockChange_port s hn gained inWindow,
    fun s n inWindow hn => ?_, fun s cand count => exec_qualWindowEnd s cand count false, fun s cand count => ?_, fun s env hs hq => ?_⟩
  · rw [exec_receiverLockChange_haune s hn, Dev.clockEvent_safe rfl]
    refine ⟨_, rfl, rfl, rfl, ?_, ?_⟩
    · refine (Dev.get_putD_same _ _ _ (by decide)).trans ?_
      cases decide (setBit s.dev.clk.hlLock n gained ≠ 0) <;> rfl
    · exact fun g u i hg hx => Dev.onlyFields_putD _ F.BEAT_CLK_STATUS_HREC_PRESENT _ (by decide) g u i hg hx
  · intro d
    have lock : s.dev.receiverLock false n true inWindow = d.crecWants := rfl
    rw [exec_receiverLockChange_port s hn, Dev.clockEvent_safe (by rw [lock, Dev.crecWants_safe]), lock]
  · rw [exec_qualWindowEnd, Dev.clockEvent_safe (by rw [Dev.windowEnd_stopped]; rfl), Dev.windowEnd_stopped, b2n_ne_zero]
  · rw [exec_clockResume, if_pos (by simp [hs, hq])]

/-! ## The beat's messages (R52 to R59, R68) -/

section
variable (d : Dev) (n : Nat)

/-- Taking a packet from a port touches the fabric's own state alone. -/
theorem Dev.takeRx_fab (p : Packet) : d.takeRx n p = { d with fab := (d.takeRx n p).fab } := by
  unfold Dev.takeRx
  dsimp only
  split <;> rfl

theorem Dev.takeBeat_fab (m : BeatMsg) : d.takeBeat n m = { d with fab := (d.takeBeat n m).fab } := by
  unfold Dev.takeBeat
  split
  · exact d.takeRx_fab n _
  · rfl

@[simp] theorem Dev.takeRx_regs (p : Packet) : (d.takeRx n p).regs = d.regs := (congrArg Dev.regs (d.takeRx_fab n p)).trans rfl
@[simp] theorem Dev.takeRx_clk (p : Packet) : (d.takeRx n p).clk = d.clk := (congrArg Dev.clk (d.takeRx_fab n p)).trans rfl
@[simp] theorem Dev.takeBeat_regs (m : BeatMsg) : (d.takeBeat n m).regs = d.regs := (congrArg Dev.regs (d.takeBeat_fab n m)).trans rfl
@[simp] theorem Dev.takeBeat_clk (m : BeatMsg) : (d.takeBeat n m).clk = d.clk := (congrArg Dev.clk (d.takeBeat_fab n m)).trans rfl

end

theorem Dev.portUp_congr {d e : Dev} (h : e.regs = d.regs) (n : Nat) : e.portUp n = d.portUp n := by
  unfold Dev.portUp Dev.portState Dev.pget
  rw [Dev.get_regs h]

theorem Dev.now_congr {d e : Dev} (h : e.regs = d.regs) (hc : e.clk = d.clk) : e.now = d.now := by
  simp only [Dev.now, Dev.beat, Dev.frac16, Dev.get_regs h, hc]

theorem Dev.any_armed_iff (d : Dev) : (List.range 4).any d.armed = true ↔ ∃ q, q < 4 ∧ d.armed q = true := by
  simp [List.any_eq_true]

theorem exec_beatSet (s : State) (n : Nat) : exec (.beatSet n) s =
    .next (s.withDev (if s.dev.role = 0 || (List.range 4).any s.dev.armed then s.dev
      else { s.dev with clk := { s.dev.clk with setPending := some (n % 2 ^ 64) } })) := rfl

theorem exec_beatInEdge (s : State) : exec .beatInEdge s =
    .next (s.withDev (if s.dev.role = 2 && s.dev.clk.running then s.dev.follow ((s.dev.now + 32768) / 65536 * 65536) 625 16 else s.dev)) := rfl

theorem exec_probe (s : State) {n : Nat} (id : Nat) (hn : n < 16) : exec (.probe n id) s =
    .next (s.withDev (let d := s.dev.takeBeat n (.probe id)
      if d.portUp n then
        { d with clk := { d.clk with echoes := d.clk.echoes.filter (fun (p : ProbeOut) => !(p.port = n && p.id = id)) ++
          [({ port := n, id := id, launch := d.now } : ProbeOut)] } }.sendBeat n (.echo id 0)
      else d)) := s.runOn_next _ (decide_eq_true hn)

theorem exec_echo (s : State) {n : Nat} (id turn : Nat) (hn : n < 16) {p : ProbeOut}
    (hp : s.dev.clk.probes.find? (fun (p : ProbeOut) => p.port = n && p.id = id) = some p) : exec (.echo n id turn) s =
    .next (s.withDev (let b := s.dev.takeBeat n (.echo id turn)
      let d := { b with clk := { b.clk with probes := s.dev.clk.probes.filter (fun (x : ProbeOut) => x ≠ p) } }
      if p.launch + 16 * 65536 ≤ s.dev.now || !s.dev.portUp n || s.dev.now < p.launch + turn then d
      else ((d.put F.BEAT_PORT_DELAY_DELAY 0 n ((s.dev.now - p.launch - turn) / 2)).put F.BEAT_PORT_DELAY_VALID 0 n 1).reselect)) := by
  have hregs := Dev.takeBeat_regs s.dev n (.echo id turn)
  have hclk := Dev.takeBeat_clk s.dev n (.echo id turn)
  have hnow := Dev.now_congr hregs hclk
  have hup := Dev.portUp_congr hregs n
  refine (s.runOn_next _ (decide_eq_true hn)).trans ?_
  generalize s.dev.takeBeat n (.echo id turn) = b at hregs hclk hnow hup ⊢
  have hp' : b.clk.probes.find? (fun (p : ProbeOut) => p.port = n && p.id = id) = some p := by rw [hclk, hp]
  rw [← hnow, ← hup, ← hclk]
  dsimp only
  rw [hp']
  rfl

theorem exec_echoTimeout (s : State) {n : Nat} (id : Nat) (hn : n < 16) : exec (.echoTimeout n id) s =
    .next (s.withDev { s.dev with clk := { s.dev.clk with
      probes := s.dev.clk.probes.filter (fun (p : ProbeOut) => !(p.port = n && p.id = id && p.launch + 16 * 65536 ≤ s.dev.now)) } }) :=
  s.runOn_next _ (decide_eq_true hn)

/-- What a SYNC from a port that may be the upstream does to the timer, once it is noted and the upstream chosen. -/
def Dev.syncFrom (d : Dev) (n hops interval beat frac : Nat) : Dev :=
  if d.get F.BEAT_STATUS_UPSTREAM = n &&
      (!d.flag F.BEAT_STATUS_HOLDOVER || d.clk.syncs.any (fun (x : SyncInfo) => x.port = n && d.eligible x)) then
    let c := (d.putD F.BEAT_STATUS_HOPS (hops + 1)).putD F.BEAT_STATUS_HOLDOVER 0
    c.follow (beat * 65536 + frac + c.get F.BEAT_PORT_DELAY_DELAY 0 n) (625 * 2 ^ interval) n
  else d

theorem exec_sync (s : State) {n : Nat} (hops : Nat) (h : Bool) (i beat frac : Nat) (hn : n < 16) (hr : s.dev.role = 0)
    (hu : s.dev.portUp n = true) (hc : s.dev.clk.running = true) : exec (.sync n hops h i beat frac) s =
    .next (s.withDev (
      let b := (s.dev.takeBeat n (.sync hops h i beat frac)).noteSync { port := n, hops := hops, holdover := h, interval := i, arrival := s.dev.now }
      (if b.get F.BEAT_STATUS_UPSTREAM = 0xFF && b.bestPort.map (·.port) = some n then b.takeUpstream n else b.reselect).syncFrom n hops i beat frac)) := by
  let t := s.dev.takeBeat n (.sync hops h i beat frac)
  have hregs : t.regs = s.dev.regs := Dev.takeBeat_regs ..
  have hclk : t.clk = s.dev.clk := Dev.takeBeat_clk ..
  have hrole : t.role = 0 := by rw [← hr]; exact Dev.get_regs hregs _ _ _
  have serves : ¬ (t.role ≠ 0 || !t.portUp n || !t.clk.running) = true := by
    rw [Dev.portUp_congr hregs, hu, hclk, hc, hrole]
    decide
  refine (s.runOn_next _ (decide_eq_true hn)).trans ?_
  dsimp only
  rw [if_neg serves, Dev.now_congr hregs hclk]
  rfl

theorem exec_beatStopEnd (s : State) : exec .beatStopEnd s = .next (s.withDev
    (if s.dev.clk.stopped && s.dev.fullStamp ≤ s.dev.clk.expected then { s.dev with clk := { s.dev.clk with stopped := false } } else s.dev)) := rfl

theorem Dev.fullStamp_eq (d : Dev) : d.fullStamp = d.beat * 2 ^ 48 + d.clk.frac.toNat := by rw [Dev.fullStamp]

theorem exec_upstreamTimeout (s : State) {n : Nat} (hn : n < 16) {i : SyncInfo} (hi : s.dev.clk.syncs.find? (fun (x : SyncInfo) => x.port = n) = some i) :
    exec (.upstreamTimeout n) s =
      .next (s.withDev (if i.arrival + 4 * 2 ^ i.interval * 65536 ≤ s.dev.now then (s.dev.noteSync { i with fresh := false }).reselect else s.dev)) :=
  (s.runOn_next _ (decide_eq_true hn)).trans (by simp only [hi])

theorem exec_late_here (s : State) {n : Nat} {p : Packet} (hn : n ≤ 16) (hp : p.ptype = 8) (hl : leAt p.data 0 1 = 4)
    (hd : p.dst = (s.dev.takeMsg n p).chip) : exec (.late n p) s = .next (s.withDev ((s.dev.takeMsg n p).lateIn p.src (LateMsg.parse p.data))) := by
  refine (s.runOn_next _ (decide_eq_true hn)).trans ?_
  rw [if_neg (by simp [hp, hl])]
  dsimp only
  rw [if_neg (not_not_intro hd)]

/-- Settles O17: each clause is one branch of its command, the registers and the clock read through `Dev.takeBeat`. -/
theorem beatMessages : Obligations.BeatMessages := by
  refine ⟨fun s n h => ?_, fun s n hr ha => ?_, fun s hr hc => ?_, fun s n id hn hu => ?_, fun s n id turn p hn hp hl hu ht => ?_,
    fun s n id hn => ⟨_, exec_echoTimeout s id hn, rfl, fun p hp => List.mem_of_mem_filter hp, fun p hp hpn hpi => ?_⟩,
    fun s n hops h i beat frac hn hr hu hc => ?_, fun s => ⟨fun hs hf => ?_, fun h => ?_⟩, fun s n i hn hi ht => ?_,
    fun s n p hn hp hl hd => exec_late_here s hn hp hl hd⟩
  · rw [exec_beatSet, if_pos (by simpa [List.any_eq_true] using h)]
  · rw [exec_beatSet, if_neg (by simpa [List.any_eq_true] using ⟨hr, ha⟩)]
  · rw [exec_beatInEdge, if_pos (by simp [hr, hc])]
  · intro d rest
    have up : d.portUp n = true := (Dev.portUp_congr (Dev.takeBeat_regs ..) n).trans hu
    rw [exec_probe s id hn, if_pos up, Dev.now_congr (Dev.takeBeat_regs ..) (Dev.takeBeat_clk ..)]
  · intro b d
    rw [exec_echo s id turn hn hp, if_neg (by simpa [hu] using ⟨hl, ht⟩)]
  · simp only [List.mem_filter, Bool.not_eq_true', Bool.and_eq_false_iff, decide_eq_false_iff_not, not_le] at hp
    obtain ⟨_, (hport | hid) | hlate⟩ := hp
    · exact absurd hpn hport
    · exact absurd hpi hid
    · exact hlate
  · intro b d c
    have hup : b.get F.BEAT_STATUS_UPSTREAM = s.dev.get F.BEAT_STATUS_UPSTREAM := Dev.get_regs (Dev.takeBeat_regs ..) _ _ _
    have hexec : exec (.sync n hops h i beat frac) s = .next (s.withDev (d.syncFrom n hops i beat frac)) := by
      rw [exec_sync s hops h i beat frac hn hr hu hc]
      dsimp only
      rw [Dev.get_regs (d' := Dev.noteSync _ _) (Dev.takeBeat_regs ..)]
      simp only [Bool.and_eq_true, decide_eq_true_eq]
      rfl
    rw [hexec, Dev.syncFrom]
    refine ⟨fun hn hgood => ?_, fun hno => ?_⟩
    · rw [if_pos (by simpa [hn] using hgood)]
    · rw [if_neg (by simpa [or_iff_not_imp_left] using hno)]
  · rw [← Dev.fullStamp_eq] at hf
    rw [exec_beatStopEnd, if_pos (by simp [hs, hf])]
  · rw [← Dev.fullStamp_eq] at h
    rw [exec_beatStopEnd, if_neg (by simpa [or_iff_not_imp_left] using h)]
  · rw [exec_upstreamTimeout s hn hi, if_pos ht]

end Sys2Proof.Machine

namespace Sys2Proof.Machine

/-! ## Requests and answers of the fabric (R300, R304, R311, R313) -/

/-- A meaning of the fabric's units while their clocks run. -/
theorem State.runFab_next (s : State) (f : Dev → Dev) {ok : Bool} (h : ok = true) (hs : s.dev.clk.safe = false) :
    s.runFab ok f = .next (s.withDev (f s.dev)) := by
  refine (s.runOn_next _ h).trans ?_
  rw [if_neg (ne_true_of_eq_false hs)]

/-- A meaning of the fabric's units while their clocks are gated changes nothing. -/
theorem State.runFab_gated (s : State) (f : Dev → Dev) {ok : Bool} (h : ok = true) (hs : s.dev.clk.safe = true) :
    s.runFab ok f = .next s := by
  refine (s.runOn_next _ h).trans ?_
  rw [if_pos hs]

section
variable (d : Dev) (n : Nat) (p : Packet)

theorem Dev.takeFrom_fab : d.takeFrom n p = { d with fab := (d.takeFrom n p).fab } := by
  unfold Dev.takeFrom
  split
  · rfl
  · exact d.takeRx_fab n p

@[simp] theorem Dev.takeFrom_regs : (d.takeFrom n p).regs = d.regs := (congrArg Dev.regs (d.takeFrom_fab n p)).trans rfl
@[simp] theorem Dev.takeFrom_sys : (d.takeFrom n p).sys = d.sys := (congrArg Dev.sys (d.takeFrom_fab n p)).trans rfl
@[simp] theorem Dev.takeFrom_mem : (d.takeFrom n p).mem = d.mem := (congrArg Dev.mem (d.takeFrom_fab n p)).trans rfl
@[simp] theorem Dev.takeFrom_cores : (d.takeFrom n p).cores = d.cores := (congrArg Dev.cores (d.takeFrom_fab n p)).trans rfl

@[simp] theorem Dev.takeRx_reqs : (d.takeRx n p).fab.reqs = d.fab.reqs := by
  unfold Dev.takeRx
  dsimp only
  split <;> rfl

@[simp] theorem Dev.takeFrom_reqs : (d.takeFrom n p).fab.reqs = d.fab.reqs := by
  unfold Dev.takeFrom
  split
  · rfl
  · exact d.takeRx_reqs n p

theorem Dev.chip_regs {d e : Dev} (h : e.regs = d.regs) : e.chip = d.chip := Dev.get_regs h _ _ _

variable {d n p} (f : Dev → Dev)

theorem Dev.takeRequest_here (h : p.dst = d.chip) : d.takeRequest n p f = f (d.takeRx n p) := by
  unfold Dev.takeRequest
  rw [if_neg (by rw [Dev.chip_regs (d.takeRx_regs n p)]; exact not_not_intro h)]

theorem Dev.takeRequest_ttl (h : p.dst ≠ d.chip) (hh : p.hops = 0) :
    d.takeRequest n p f = ((d.takeRx n p).count F.FAB_TTL_DROP_V).sendNack p 0x41 := by
  unfold Dev.takeRequest
  rw [if_pos (by rwa [Dev.chip_regs (d.takeRx_regs n p)]), if_pos hh]
  rfl

theorem Dev.takeRequest_forward (h : p.dst ≠ d.chip) (hh : p.hops ≠ 0) :
    d.takeRequest n p f = (d.takeRx n p).sendPacket { p with hops := p.hops - 1 } (some n) := by
  unfold Dev.takeRequest
  rw [if_pos (by rwa [Dev.chip_regs (d.takeRx_regs n p)]), if_neg hh]

end

/-- A write request served here: a block to LEX, the rest an access. -/
def Dev.serveWrite (n : Nat) (p : Packet) (err : Nat) (d : Dev) : Dev :=
  if p.block then
    match d.lexBlock (bits p.addr 35 34) p with
    | .inr code => d.blockFails n (bits p.addr 35 34) p code
    | .inl _ => d.blockFails n (bits p.addr 35 34) p nackBadCode
  else if p.len = 0 then d.respond p 0 []
  else d.packetAccess n p (.write (slice p.data 0 p.len)) err

/-- An atomic request served here. -/
def Dev.serveAtomic (n : Nat) (p : Packet) (d : Dev) : Dev :=
  match AtomOp.ofOpc p.aop with
  | none => (d.violation n 0x03 p.src).sendNack p 0x43
  | some op =>
    if p.len ≠ (if op = .cas then 16 else 8) then d.sendNack p 0x45
    else if p.addr % (if op.float then 4 else 8) ≠ 0 then d.respond p 1 []
    else
      let a := BitVec.ofNat 64 (leAt p.data 0 8)
      d.packetAccess n p (.atomic op (if op = .cas then BitVec.ofNat 64 (leAt p.data 8 8) else a) (if op = .cas then a else 0)) 0

section
variable (s : State) {n : Nat} {p : Packet} (hn : n < 16) (hs : s.dev.clk.safe = false)
include hn hs

theorem exec_fabRead (err : Nat) (hp : p.ptype = 1) : exec (.fabRead n p err) s = .next (s.withDev (s.dev.takeRequest n p fun d =>
    if p.len = 0 then d.respond p 0 [] else d.packetAccess n p (.read p.len) err)) :=
  (s.runFab_next _ (decide_eq_true hn) hs).trans (by rw [if_neg (not_not_intro hp)])

theorem exec_fabWrite (err : Nat) (hp : p.ptype = 2) (hv : p.vc ≠ 4) : exec (.fabWrite n p err) s =
    .next (s.withDev (s.dev.takeRequest n p (Dev.serveWrite n p err))) :=
  (s.runFab_next _ (decide_eq_true hn) hs).trans (by rw [if_neg (by simp [hp, hv])]; rfl)

theorem exec_fabAtomic (hp : p.ptype = 3) : exec (.fabAtomic n p) s = .next (s.withDev (s.dev.takeRequest n p (Dev.serveAtomic n p))) :=
  (s.runFab_next _ (decide_eq_true hn) hs).trans (by rw [if_neg (not_not_intro hp)]; rfl)

end

/-- Each command that brings an answer takes the packet of its type. -/
theorem exec_fabAnswer (s : State) {i : Instr} {n ty : Nat} {p : Packet}
    (hi : (i, ty) ∈ [(Instr.fabReadResp n p, 4), (.fabWriteAck n p, 5), (.fabAtomicResp n p, 6), (.fabNack n p, 7)])
    (hn : n ≤ 16) (hs : s.dev.clk.safe = false) (hp : p.ptype = ty) : exec i s = .next (s.withDev (s.dev.takeAnswer n p)) := by
  have take (ty : Nat) (hp : p.ptype = ty) :
      s.runFab (answerPort n) (fun d => if p.ptype = ty then d.takeAnswer n p else d) = .next (s.withDev (s.dev.takeAnswer n p)) :=
    (s.runFab_next _ (decide_eq_true hn) hs).trans (by rw [if_pos hp])
  simp only [List.mem_cons, Prod.mk.injEq, List.not_mem_nil, or_false] at hi
  obtain ⟨rfl, rfl⟩ | ⟨rfl, rfl⟩ | ⟨rfl, rfl⟩ | ⟨rfl, rfl⟩ := hi
  · exact take 4 hp
  · exact take 5 hp
  · exact take 6 hp
  · exact take 7 hp

/-- While the clocks of the fabric are stopped none of its commands acts. -/
theorem exec_fab_gated (s : State) {i : Instr} {n err tag : Nat} {p : Packet} (hs : s.dev.clk.safe = true) (hn : n < 16)
    (hi : i ∈ [Instr.fabRead n p err, .fabWrite n p err, .fabAtomic n p, .fabReadResp n p, .fabWriteAck n p, .fabAtomicResp n p, .fabNack n p, .blockResend tag]) :
    exec i s = .next s := by
  have port : decide (n < 16) = true := decide_eq_true hn
  have answer : answerPort n = true := decide_eq_true hn.le
  simp only [List.mem_cons, List.not_mem_nil, or_false] at hi
  obtain rfl | rfl | rfl | rfl | rfl | rfl | rfl | rfl := hi
  · exact s.runFab_gated _ port hs
  · exact s.runFab_gated _ port hs
  · exact s.runFab_gated _ port hs
  · exact s.runFab_gated _ answer hs
  · exact s.runFab_gated _ answer hs
  · exact s.runFab_gated _ answer hs
  · exact s.runFab_gated _ answer hs
  · show execBlockResend tag s = _
    exact s.runFab_gated _ rfl hs

/-- The codes of Table 11-13 name their operations. -/
theorem AtomOp.ofOpc_of_mem {aop : Nat} {op : AtomOp}
    (h : (aop, op) ∈ [(0x40, AtomOp.addI), (0x41, .addF), (0x42, .minI), (0x43, .maxI), (0x44, .minF), (0x45, .maxF), (0x46, .swap), (0x47, .cas)]) :
    AtomOp.ofOpc aop = some op := by
  simp only [List.mem_cons, Prod.mk.injEq, List.not_mem_nil, or_false] at h
  obtain ⟨rfl, rfl⟩ | ⟨rfl, rfl⟩ | ⟨rfl, rfl⟩ | ⟨rfl, rfl⟩ | ⟨rfl, rfl⟩ | ⟨rfl, rfl⟩ | ⟨rfl, rfl⟩ | ⟨rfl, rfl⟩ := h <;> rfl

theorem AtomOp.ofOpc_none {aop : Nat} (h : aop < 0x40 ∨ 0x47 < aop) : AtomOp.ofOpc aop = none := by
  have outside (x : Nat × AtomOp) (hx : 0x40 ≤ x.1 ∧ x.1 ≤ 0x47) : ¬ (decide (x.1 = aop)) = true := by
    simp only [decide_eq_true_eq]
    omega
  unfold AtomOp.ofOpc
  rw [List.find?_eq_none.2 fun x hx => outside x ((by decide : ∀ y ∈ [(0x40, AtomOp.addI), (0x41, .addF), (0x42, .minI), (0x43, .maxI), (0x44, .minF), (0x45, .maxF),
    (0x46, .swap), (0x47, .cas)], 0x40 ≤ y.1 ∧ y.1 ≤ 0x47) x hx)]
  rfl

section
variable {d : Dev} {n : Nat} {p : Packet}

/-- An answer that its access's request awaits. -/
theorem Dev.takeAnswer_access {r : Req} {id : Nat} {a : MemAcc}
    (hr : d.fab.reqs.find? (fun (r : Req) => r.tag = p.tag && (p.ptype = 7 || p.ptype = (if r.ptype = 0x0B then 5 else r.ptype + 3))) = some r)
    (hw : r.waiter = .access id) (ha : d.acc id = some a) : d.takeAnswer n p =
      ((d.takeFrom n p).dropReq r.tag).accDone id (answerStatus (a.addr / 2 ^ 40 ≠ d.chip) p) p.data := by
  have acc : (d.takeFrom n p).acc id = some a := by rw [Dev.acc, Dev.takeFrom_sys]; exact ha
  unfold Dev.takeAnswer
  simp only [Dev.takeFrom_reqs, hr, hw, acc, Dev.chip_regs (d.takeFrom_regs n p)]

/-- An answer that no request awaits. -/
theorem Dev.takeAnswer_stray (hn : n < 16)
    (hr : d.fab.reqs.find? (fun (r : Req) => r.tag = p.tag && (p.ptype = 7 || p.ptype = (if r.ptype = 0x0B then 5 else r.ptype + 3))) = none) :
    d.takeAnswer n p = (d.takeFrom n p).violation n 0x06 p.src := by
  unfold Dev.takeAnswer
  simp only [Dev.takeFrom_reqs, hr, hn, if_true]

end

section
variable (d : Dev) (n code src : Nat)

/-- A violation touches registers and its port alone. -/
theorem Dev.violation_frame : (d.violation n code src).mem = d.mem ∧ (d.violation n code src).cores = d.cores ∧
    (d.violation n code src).fab.reqs = d.fab.reqs := by
  unfold Dev.violation
  split <;> exact ⟨rfl, rfl, rfl⟩

theorem Dev.violation_code (hq : d.pget F.FAB_PORT_STATUS_QUAR n = 0) (hc : code < 256) : (d.violation n code src).pget F.FAB_VIOL_LAST_CODE n = code := by
  unfold Dev.violation
  rw [if_neg (not_not_intro hq)]
  unfold Dev.pget Dev.pput
  rw [Dev.get_setPort, Dev.get_put_field _ F.FAB_VIOL_LAST_SRC F.FAB_VIOL_LAST_CODE _ _ _ (by decide) (by decide) (by decide) (by decide),
    Dev.get_put_same _ _ _ _ _ (by decide)]
  exact Nat.mod_eq_of_lt hc

end

/-- What BLOCK_RESEND does with a kept block that waits to be sent again. -/
theorem exec_blockResend (s : State) {tag : Nat} {r : Req} {p : Packet} (hs : s.dev.clk.safe = false)
    (hr : s.dev.fab.reqs.find? (fun r => r.tag = tag) = some r) (hp : r.copy = some p) (hb : r.busy = false) (ha : r.resendAt ≠ 0) :
    let rs := s.dev.fab.reqs.map (fun (x : Req) => if x.tag = tag then { x with resendAt := 0, issued := s.dev.now } else x)
    exec (.blockResend tag) s = .next (s.withDev (if s.dev.beat < r.resendAt then s.dev
      else (({ s.dev with fab := { s.dev.fab with reqs := rs } } : Dev).count F.LCX_RESENDS_V r.quarter).originate p)) := by
  intro rs
  show execBlockResend tag s = _
  refine (s.runFab_next _ rfl hs).trans ?_
  dsimp only
  rw [hr]
  dsimp only
  rw [hp]
  simp only [hb, ha, Bool.false_or, decide_false, decide_eq_true_eq]
  rfl

/-- Settles O54: the packet is taken by `Dev.takeRequest` or `Dev.takeAnswer`, and each clause is one branch of what serves it. -/
theorem packetsAndAnswers : Obligations.PacketsAndAnswers := by
  refine ⟨fun s i n err p hn hs hi hd => ?_, fun s n err p hn hs hd => ⟨fun hp => ?_, fun hp hv hb => ?_, fun op hp hop => ?_, fun hp ho => ?_⟩,
    fun s i n ty p hi hn hs hp => ⟨fun r id a hr hw ha => ?_, fun hr hn' hq => ?_⟩, fun p => ⟨fun h => ?_, fun h hc => ?_, fun h hc => ?_⟩,
    fun s tag r p hs hr hp hb ha => ⟨fun h => ?_, fun h => ?_⟩, fun s i n err tag p hs hn hi => exec_fab_gated s hs hn hi⟩
  · have taken : ∃ f, exec i s = .next (s.withDev (s.dev.takeRequest n p f)) := by
      obtain ⟨rfl, hp⟩ | ⟨rfl, hp, hv⟩ | ⟨rfl, hp⟩ := hi
      · exact ⟨_, exec_fabRead s hn hs err hp⟩
      · exact ⟨_, exec_fabWrite s hn hs err hp hv⟩
      · exact ⟨_, exec_fabAtomic s hn hs hp⟩
    obtain ⟨f, hf⟩ := taken
    exact ⟨fun hh => by rw [hf, Dev.takeRequest_ttl f hd hh], fun hh => by rw [hf, Dev.takeRequest_forward f hd hh]⟩
  · rw [exec_fabRead s hn hs err hp, Dev.takeRequest_here _ hd]
  · rw [exec_fabWrite s hn hs err hp hv, Dev.takeRequest_here _ hd, Dev.serveWrite, if_neg (ne_true_of_eq_false hb)]
  · intro size first
    rw [exec_fabAtomic s hn hs hp, Dev.takeRequest_here _ hd]
    simp only [Dev.serveAtomic, AtomOp.ofOpc_of_mem hop]
    refine ⟨fun hl => by rw [if_pos hl], fun hl ha => by rw [if_neg (not_not_intro hl), if_pos ha], fun hl hc ha => ?_, fun hl hc ha => ?_⟩
    · simp only [hl, hc, if_false, ne_eq, not_true]
      rw [if_neg (not_not_intro ha)]
    · subst hc
      simp only [hl, if_false, if_true, ne_eq, not_true]
      rw [if_neg (not_not_intro ha)]
  · rw [exec_fabAtomic s hn hs hp, Dev.takeRequest_here _ hd]
    simp only [Dev.serveAtomic, AtomOp.ofOpc_none ho]
  · rw [exec_fabAnswer s hi hn hs hp, Dev.takeAnswer_access hr hw ha]
  · rw [exec_fabAnswer s hi hn hs hp, Dev.takeAnswer_stray hn' hr]
    have quar : (s.dev.takeFrom n p).pget F.FAB_PORT_STATUS_QUAR n = 0 := (Dev.get_regs (s.dev.takeFrom_regs n p) _ _ _).trans hq
    obtain ⟨hmem, hcores, hreqs⟩ := (s.dev.takeFrom n p).violation_frame n 0x06 p.src
    exact ⟨_, rfl, rfl, hreqs.trans (s.dev.takeFrom_reqs n p), Dev.violation_code _ _ _ _ quar (by decide),
      Dev.sameBytes_of (hmem.trans (s.dev.takeFrom_mem n p)) (hcores.trans (s.dev.takeFrom_cores n p))⟩
  · simp [answerStatus, h, stLinkError]
  · simp [answerStatus, h, hc]
  · simp [answerStatus, h, hc, stMemError]
  · rw [exec_blockResend s hs hr hp hb ha, if_neg (Nat.not_lt.2 h)]
  · rw [exec_blockResend s hs hr hp hb ha, if_pos h]

end Sys2Proof.Machine

namespace Sys2Proof.Machine

/-! ## What the operations of a port leave unchanged -/

/-- What every operation on an element of a list keeps, the operation for each element keeps. -/
theorem Dev.each_inv {α : Type} {P : Dev → Prop} (op : Dev → α → Dev) (hop : ∀ e x, P e → P (op e x)) (l : List α) {d : Dev} (h : P d) : P (d.each l op) :=
  List.foldlRecOn l op h fun e he x _ => hop e x he

/-- From d to e the memories and the cores stand; of the registers only the fields listed change. -/
structure Dev.KeepsBytes (d e : Dev) (fs : List (Fld × Nat × Nat)) : Prop where
  mem : e.mem = d.mem
  cores : e.cores = d.cores
  regs : d.onlyFields e fs

namespace Dev.KeepsBytes
variable {d e f : Dev} {fs gs : List (Fld × Nat × Nat)}

theorem refl (d : Dev) (fs : List (Fld × Nat × Nat)) : d.KeepsBytes d fs := ⟨rfl, rfl, d.onlyFields_refl fs⟩

theorem trans (h : d.KeepsBytes e fs) (h' : e.KeepsBytes f fs) : d.KeepsBytes f fs :=
  ⟨h'.mem.trans h.mem, h'.cores.trans h.cores, Dev.onlyFields_mono (Dev.onlyFields_trans h.regs h'.regs) (by simp)⟩

theorem mono (h : d.KeepsBytes e fs) (hs : fs ⊆ gs) : d.KeepsBytes e gs := ⟨h.mem, h.cores, Dev.onlyFields_mono h.regs hs⟩

/-- One more field written, of those listed. -/
theorem put (h : d.KeepsBytes e fs) (x : Fld) (u i n : Nat) (hx : x.fits = true) (hm : (x, u, i) ∈ fs) : d.KeepsBytes (e.put x u i n) fs :=
  ⟨h.mem, h.cores, Dev.onlyFields_step h.regs x u i n hx hm⟩

/-- A change of other parts of the device. -/
theorem beside (h : d.KeepsBytes e fs) (hm : f.mem = e.mem) (hc : f.cores = e.cores) (hr : f.regs = e.regs) : d.KeepsBytes f fs :=
  ⟨hm.trans h.mem, hc.trans h.cores, Dev.onlyFields_mid h.regs hr⟩

theorem setPort (h : d.KeepsBytes e fs) (n : Nat) (t : Port) : d.KeepsBytes (e.setPort n t) fs := h.beside rfl rfl rfl

theorem sameBytes (h : d.KeepsBytes e fs) : d.sameBytes e := Dev.sameBytes_of h.mem h.cores

/-- A field of port n that stands apart from all that are listed. -/
theorem pget (h : d.KeepsBytes e fs) {f : Fld} {n : Nat} (hf : f.lo ≤ f.hi) (ha : ∀ x ∈ fs, f.apart (n / 4) (n % 4) x) : e.pget f n = d.pget f n :=
  h.regs f _ _ hf ha

end Dev.KeepsBytes

/-- A register of the ports' blocks (R284). -/
def Reg.ofPort (r : Reg) : Bool :=
  decide (r.info.scope = .quarter) && decide (r.info.stride = 0x100) && decide (0x2800000 ≤ r.info.base) && decide (r.info.base < 0x2800100)

theorem Reg.ofPort_addr {r : Reg} (h : r.ofPort = true) (u i : Nat) : r.addr u i = 0x04000000 * (u + 1) + r.info.base + i * 0x100 ∧
    0x2800000 ≤ r.info.base ∧ r.info.base < 0x2800100 := by
  simp only [Reg.ofPort, Bool.and_eq_true, decide_eq_true_eq] at h
  obtain ⟨⟨⟨hs, hst⟩, hlo⟩, hhi⟩ := h
  refine ⟨?_, hlo, hhi⟩
  unfold Reg.addr
  simp only [hs, hst]

/-- Two registers of a port are apart. -/
theorem Fld.apart_port {f g : Fld} (n : Nat) (hf : f.reg.ofPort = true) (hg : g.reg.ofPort = true) (h : f.reg.info.base ≠ g.reg.info.base) :
    f.apart (n / 4) (n % 4) (g, n / 4, n % 4) := by
  refine .inl ?_
  dsimp only
  rw [(Reg.ofPort_addr hf _ _).1, (Reg.ofPort_addr hg _ _).1]
  omega

/-- Two fields of a port's register without a bit in common are apart. -/
theorem Fld.apart_beside {f g : Fld} (u i : Nat) (hr : f.reg = g.reg) (h : g.hi < f.lo ∨ f.hi < g.lo) : f.apart u i (g, u, i) := .inr ⟨hr, h⟩

/-- The registers that a port's change of state writes beside its own: its delay, the upstream, the counters of routing, and an event's record. -/
def sideFields (n : Nat) : List (Fld × Nat × Nat) :=
  (F.BEAT_PORT_DELAY_VALID, 0, n) :: (F.BEAT_STATUS_HOLDOVER, 0, 0) :: (F.BEAT_STATUS_UPSTREAM, 0, 0) :: (F.FAB_NOROUTE_V, 0, 0) :: (F.FAB_TTL_DROP_V, 0, 0) :: recordFields

theorem Fld.apart_sideFields {f : Fld} {n : Nat} (m : Nat) (hn : n < 16) (hf : f.reg.ofPort = true) : ∀ x ∈ sideFields n, f.apart (m / 4) (m % 4) x := by
  obtain ⟨ha, hlo, hhi⟩ := Reg.ofPort_addr hf (m / 4) (m % 4)
  have delay : Reg.beatPortDelay.addr 0 n = 0x200080 + n * 4 := rfl
  have dev (x : Fld × Nat × Nat) (hx : x.1.reg.addr x.2.1 x.2.2 < 0x04000000 ∨ (0x6802000 ≤ x.1.reg.addr x.2.1 x.2.2 ∧ x.1.reg.addr x.2.1 x.2.2 < 0x6803000)) :
      f.apart (m / 4) (m % 4) x := by
    refine .inl ?_
    rw [ha]
    omega
  intro x hx
  simp only [sideFields, recordFields, List.mem_cons, List.not_mem_nil, or_false] at hx
  obtain rfl | hx := hx
  · exact dev _ (.inl (by rw [delay]; omega))
  · refine dev _ ?_
    obtain rfl | rfl | rfl | rfl | rfl | rfl | rfl | rfl | rfl := hx <;> decide


/-! ## Frames sent (R293, R295, R298) -/

section
variable (t : Port) (r : TxRules)

/-- The part of a port that the arbitration of its packets leaves alone. -/
def Port.link (t : Port) : List SentFrame × Nat × Bool := (t.retry, t.txSeq, t.closing)

@[simp] theorem Port.arbitrate_link : (t.arbitrate r).2.link = t.link := by
  unfold Port.arbitrate
  split
  · rfl
  · split
    · rfl
    · split <;> rfl

@[simp] theorem Port.sendFlit_link (vc : Nat) : (t.sendFlit r vc).2.2.link = t.link := by
  unfold Port.sendFlit
  split <;> rfl

/-- Filling k flit slots gives at most k flits, and leaves the retry buffer and SEQ alone. -/
theorem Port.fill_link (k : Nat) : ∀ t : Port, (Port.fill r k t).1.length ≤ k ∧ (Port.fill r k t).2.2.link = t.link := by
  induction k with
  | zero => exact fun t => ⟨Nat.le_refl 0, rfl⟩
  | succ k ih =>
    intro t
    have arb := t.arbitrate_link r
    unfold Port.fill
    split
    · next u hu =>
      rw [hu] at arb
      exact ⟨Nat.zero_le _, arb⟩
    · next vc u hu =>
      rw [hu] at arb
      obtain ⟨hl, hk⟩ := ih (u.sendFlit r vc).2.2
      exact ⟨Nat.succ_le_succ hl, hk.trans ((u.sendFlit_link r vc).trans arb)⟩

@[simp] theorem Port.freeFlits_link (vc sub k : Nat) : (t.freeFlits vc sub k).link = t.link := by
  unfold Port.freeFlits
  dsimp only
  split <;> rfl

@[simp] theorem Port.sentTrailer_link : t.sentTrailer.link = t.link := rfl

end

section
variable (d : Dev) (n : Nat)

theorem Dev.closeAfterKnell_open (h : (d.port n).closing = false) : d.closeAfterKnell n = d := by
  simp [Dev.closeAfterKnell, h]

/-- A frame of a port that does not close: its port, the count of its bytes, and the frame sent. -/
theorem Dev.outFrame_open (t : Port) (tr : Trailer) (fs : List Flit) (h : t.closing = false) : d.outFrame n t tr fs =
    (((d.setPort n t.sentTrailer).pput F.FAB_TX_BYTES_V n ((d.setPort n t.sentTrailer).pget F.FAB_TX_BYTES_V n + 64 * (fs.filter (· ≠ .idle)).length)).emit (.frame n tr fs)) := by
  unfold Dev.outFrame
  exact Dev.closeAfterKnell_open _ n ((congrArg Port.closing (d.port_setPort_same n t.sentTrailer)).trans h)

theorem Dev.freeRx_link (k vc sub x : Nat) : ((d.freeRx k vc sub x).port n).link = (d.port n).link := by
  unfold Dev.freeRx
  by_cases h : n = k
  · subst h
    rw [Dev.port_setPort_same, Port.freeFlits_link]
  · rw [Dev.port_setPort_other _ _ _ _ h]

@[simp] theorem Dev.outFrame_out (t : Port) (tr : Trailer) (fs : List Flit) (h : t.closing = false) :
    (d.outFrame n t tr fs).out = d.out ++ [.frame n tr fs] := by rw [Dev.outFrame_open d n t tr fs h]; rfl

theorem Dev.outFrame_keeps (t : Port) (tr : Trailer) (fs : List Flit) (h : t.closing = false) :
    d.KeepsBytes (d.outFrame n t tr fs) [(F.FAB_TX_BYTES_V, n / 4, n % 4)] := by
  rw [Dev.outFrame_open d n t tr fs h]
  exact (((Dev.KeepsBytes.refl d _).setPort n _).put F.FAB_TX_BYTES_V _ _ _ (by decide) (by simp)).beside rfl rfl rfl

theorem Dev.outFrame_port (t : Port) (tr : Trailer) (fs : List Flit) (h : t.closing = false) :
    (d.outFrame n t tr fs).port n = t.sentTrailer := by
  rw [Dev.outFrame_open d n t tr fs h]
  exact d.port_setPort_same n _

/-- What a launched payload leaves alone. -/
theorem Dev.afterLaunch_clk (m : BeatMsg) : d.afterLaunch n m = { d with clk := (d.afterLaunch n m).clk } := by
  cases m <;> rfl

/-- A new frame: at most 128 flits, kept in the retry buffer with its SEQ unless it is a NULL frame. -/
theorem Dev.newFrame_frame (t : Port) (nullFrame : Bool) (links : List Flit) (hc : t.closing = false) (hl : links.length ≤ 128) : ∃ tr fs,
    (d.newFrame n t nullFrame links).out = d.out ++ [.frame n tr fs] ∧ fs.length ≤ 128 ∧ tr.null = nullFrame ∧
      tr.seq = (if nullFrame then 0 else t.txSeq) ∧ d.sameBytes (d.newFrame n t nullFrame links) ∧
      ((d.newFrame n t nullFrame links).port n).link =
        (if nullFrame then (t.retry, t.txSeq, false) else (t.retry ++ [⟨t.txSeq, fs⟩], (t.txSeq + 1) % 4096, false)) := by
  obtain ⟨hlen, hlink⟩ := Port.fill_link (d.txRules n nullFrame) (128 - links.length) t
  unfold Dev.newFrame
  generalize Port.fill (d.txRules n nullFrame) (128 - links.length) t = r at hlen hlink
  obtain ⟨fs, freed, u⟩ := r
  obtain ⟨hretry, hseq, hclosing⟩ : u.retry = t.retry ∧ u.txSeq = t.txSeq ∧ u.closing = t.closing := by simpa [Port.link] using hlink
  dsimp only
  generalize hflits : links ++ fs.map (d.launchFlit n) = flits
  generalize hv : (if nullFrame = true then u else { u with retry := u.retry ++ [⟨t.txSeq, flits⟩], txSeq := (t.txSeq + 1) % 4096 }) = v
  have vclosing : v.closing = false := by
    rw [← hv]
    cases nullFrame <;> exact hclosing.trans hc
  have vlink : v.link = if nullFrame then (t.retry, t.txSeq, false) else (t.retry ++ [⟨t.txSeq, flits⟩], (t.txSeq + 1) % 4096, false) := by
    rw [← hv]
    cases nullFrame <;> simp [Port.link, hretry, hseq, hclosing, hc]
  -- the launch of the payloads, then the frame, then the flits that leave the receive buffers
  have launched := Dev.each_inv (P := fun e => e.out = d.out ∧ e.mem = d.mem ∧ e.cores = d.cores) (fun d m => d.afterLaunch n m)
    (fun e m he => by rw [e.afterLaunch_clk n m]; exact he) (fs.filterMap Flit.beat) ⟨rfl, rfl, rfl⟩
  generalize (d.each (fs.filterMap Flit.beat) fun d m => d.afterLaunch n m) = e at launched
  obtain ⟨hout, hmem, hcores⟩ := launched
  generalize htr : ({ d.trailer n t with null := nullFrame, seq := if nullFrame = true then 0 else t.txSeq } : Trailer) = tr
  have sent := e.outFrame_keeps n v tr flits vclosing
  have freed := Dev.each_inv (P := fun x : Dev => x.out = d.out ++ [Output.frame n tr flits] ∧ x.mem = d.mem ∧ x.cores = d.cores ∧ (x.port n).link = v.link)
    (fun d x => d.freeRx x.1 x.2.1 x.2.2 1) (fun x y hx => ⟨hx.1, hx.2.1, hx.2.2.1, (x.freeRx_link n _ _ _ _).trans hx.2.2.2⟩) freed
    ⟨by rw [e.outFrame_out n v tr flits vclosing, hout], sent.mem.trans hmem, sent.cores.trans hcores,
      by rw [e.outFrame_port n v tr flits vclosing, Port.sentTrailer_link]⟩
  obtain ⟨fout, fmem, fcores, flink⟩ := freed
  refine ⟨tr, flits, fout, ?_, by rw [← htr], by rw [← htr], Dev.sameBytes_of fmem fcores, flink.trans vlink⟩
  rw [← hflits, List.length_append, List.length_map]
  dsimp only at hlen
  omega

end
end Sys2Proof.Machine

namespace Sys2Proof.Machine

/-! ## A port enters UP, or retrains (R286, R288) -/

section
variable (d : Dev) (n : Nat)

theorem Dev.reselect_keeps : d.KeepsBytes d.reselect (sideFields n) ∧ d.reselect.fab = d.fab := by
  have holdover : (F.BEAT_STATUS_HOLDOVER, 0, 0) ∈ sideFields n := by simp [sideFields]
  have upstream : (F.BEAT_STATUS_UPSTREAM, 0, 0) ∈ sideFields n := by simp [sideFields]
  have same := Dev.KeepsBytes.refl d (sideFields n)
  unfold Dev.reselect
  dsimp only
  split
  · exact ⟨same, rfl⟩
  · split
    · split
      · exact ⟨(same.beside (f := { d with clk := { d.clk with upPending := none } }) rfl rfl rfl).put _ _ _ _ (by decide) upstream, rfl⟩
      · split
        · exact ⟨same, rfl⟩
        · exact ⟨((same.put _ _ _ 1 (by decide) holdover).put _ _ _ 0xFF (by decide) upstream).beside rfl rfl rfl, rfl⟩
    · exact ⟨same.beside rfl rfl rfl, rfl⟩

/-- Port n without its delay and its probes. -/
def Dev.delayDropped (d : Dev) (n : Nat) : Dev :=
  { d.put F.BEAT_PORT_DELAY_VALID 0 n 0 with clk := { d.clk with probes := d.clk.probes.filter (fun p => p.port ≠ n) } }

theorem Dev.delayDropped_keeps : d.KeepsBytes (d.delayDropped n) (sideFields n) :=
  ((Dev.KeepsBytes.refl d (sideFields n)).put F.BEAT_PORT_DELAY_VALID 0 n 0 (by decide) (by simp [sideFields])).beside rfl rfl rfl

theorem Dev.dropDelay_keeps : d.KeepsBytes (d.dropDelay n) (sideFields n) ∧ (d.dropDelay n).fab = d.fab :=
  ⟨(d.delayDropped_keeps n).trans ((d.delayDropped n).reselect_keeps n).1, ((d.delayDropped n).reselect_keeps n).2⟩

theorem Dev.port_fab {d e : Dev} (h : e.fab = d.fab) (n : Nat) : e.port n = d.port n := by
  unfold Dev.port
  rw [h]

/-- The registers that a change of port n's state may write. -/
def stateFields (n : Nat) : List (Fld × Nat × Nat) := (F.FAB_PORT_STATUS_STATE, n / 4, n % 4) :: sideFields n

theorem sideFields_subset : sideFields n ⊆ stateFields n := List.subset_cons_self _ _

theorem Dev.KeepsBytes.setPortState {d e : Dev} {n : Nat} (h : d.KeepsBytes e (stateFields n)) (st : Nat) : d.KeepsBytes (e.setPortState n st) (stateFields n) :=
  h.put _ _ _ _ (by decide) List.mem_cons_self

theorem Dev.portState_setPortState (st : Nat) (h : st < 8) : (d.setPortState n st).portState n = st :=
  (Dev.get_put_same _ _ _ _ _ (by decide)).trans (Nat.mod_eq_of_lt h)

/-- The state of a port is apart from what its change of state writes beside it. -/
theorem Dev.KeepsBytes.portState {d e : Dev} {n : Nat} (h : d.KeepsBytes e (sideFields n)) (hn : n < 16) : e.portState n = d.portState n :=
  h.pget (by decide) (Fld.apart_sideFields n hn (by decide))

/-- A port as it begins to retrain. -/
def Port.retrained (t : Port) : Port := { t with fails := 0, crcRun := 0, nakRun := 0, lock := none, param := none }

/-- A port that is UP goes to RETRAINING and keeps its retry buffer and the SEQ expected. -/
theorem Dev.startRetrain_up (h : d.portState n = 3) : d.KeepsBytes (d.startRetrain n) (stateFields n) ∧ (d.startRetrain n).portState n = 4 ∧
    (d.startRetrain n).port n = (d.port n).retrained := by
  have start : d.startRetrain n = ((d.setPort n (d.port n).retrained).dropDelay n).setPortState n 4 := if_pos (decide_eq_true h)
  obtain ⟨hk, hf⟩ := (d.setPort n (d.port n).retrained).dropDelay_keeps n
  rw [start]
  refine ⟨(((Dev.KeepsBytes.refl d _).setPort n _).trans (hk.mono (sideFields_subset n))).setPortState 4, Dev.portState_setPortState _ n 4 (by decide), ?_⟩
  exact (Dev.port_fab hf n).trans (Dev.port_setPort_same _ _ _)

theorem Dev.startRetrain_other (h : d.portState n ≠ 3) : d.startRetrain n = d := by
  unfold Dev.startRetrain
  rw [if_neg (by simpa [Dev.portUp] using h)]

/-- An event that asks for no rewind is recorded: the ring and HauneLink alone change. -/
theorem Dev.record_keeps (e : Ev) (source : Nat) (detail : List (Nat × Nat)) (h4 : e.info.2 ≠ 4) (h5 : e.info.2 ≠ 5) :
    d.KeepsBytes (d.record e source detail) (sideFields n) ∧ (d.record e source detail).fab = d.fab := by
  rw [Dev.record_eq d e source detail h4 h5]
  obtain ⟨⟨hmem, hcores, _, _, _, hfab, _⟩, hregs⟩ := d.recordOnly_frame e source detail
  exact ⟨⟨hmem, hcores, Dev.onlyFields_mono hregs fun x hx => by simp [sideFields, hx]⟩, hfab⟩

/-- What a port holds once it enters UP. -/
def Dev.enteredUp (d : Dev) (n : Nat) : Port :=
  let t := d.port n
  { t with fails := 0, linkq := t.linkq ++ [.credit zero16], peerFreed := zero16
           sentFlits := (List.range 16).map (creditFlits (t.retry.flatMap (·.flits))), freed := zero16, gotFlits := zero16
           oldFlits := (List.range 16).map (fun i => t.oldFlits.getD i 0 + (t.gotFlits.getD i 0 + 65536 - t.freed.getD i 0) % 65536)
           resend := t.retry, liveFrom := some d.now, crcRun := 0, nakRun := 0 }

theorem Dev.portEntersUp_keeps (hn : n < 16) : d.KeepsBytes (d.portEntersUp n) (stateFields n) ∧ (d.portEntersUp n).portState n = 3 ∧
    (d.portEntersUp n).port n = d.enteredUp n := by
  obtain ⟨hk, hf⟩ := ((d.setPort n (d.enteredUp n)).setPortState n 3).record_keeps n .fabPortUp (evSource (n / 4) 10 n) [] (by decide) (by decide)
  refine ⟨(((Dev.KeepsBytes.refl d _).setPort n _).setPortState 3).trans (hk.mono (sideFields_subset n)), ?_, ?_⟩
  · exact (hk.portState hn).trans (Dev.portState_setPortState _ n 3 (by decide))
  · exact (Dev.port_fab hf n).trans (Dev.port_setPort_same _ _ _)

end

end Sys2Proof.Machine

namespace Sys2Proof.Machine

/-! ## What an event record sends -/

section
variable (d : Dev)

@[simp] theorem Dev.setHlHalf_sent (h : Nat) (v : HlHalf) : (d.setHlHalf h v).out = d.out := by
  unfold Dev.setHlHalf
  split <;> rfl

@[simp] theorem Dev.hlPump_sent (h : Nat) : (d.hlPump h).out = d.out := by
  unfold Dev.hlPump
  dsimp only
  split
  · rfl
  · exact d.setHlHalf_sent h _

theorem Dev.hlSend_sends (h op tag addr reason : Nat) (data : List Byte) : d.out <+: (d.hlSend h op tag addr reason data).out := by
  refine ⟨[.hl h op tag addr reason data], ?_⟩
  unfold Dev.hlSend
  simp

theorem Dev.hlRequest_sends (op addr : Nat) (data : List Byte) (w : Waiter) : d.out <+: (d.hlRequest op addr data w).2.out := by
  unfold Dev.hlRequest
  split
  · exact List.prefix_rfl
  · dsimp only
    generalize hx : ({ d with hl := _ } : Dev) = x
    have hout : x.out = d.out := by rw [← hx]
    rw [← hout]
    exact x.hlSend_sends _ _ _ _ _ _

theorem Dev.notify_sends : d.out <+: d.notify.out := by
  unfold Dev.notify
  exact d.hlRequest_sends _ _ _ _

theorem Dev.deliver_sends (r : EventRec) : d.out <+: (d.deliver r).out := by
  unfold Dev.deliver
  dsimp only
  split
  · exact List.prefix_rfl
  · have sent := d.hlRequest_sends 0x04 (d.get F.HL_EVT_BASE_V + 64 * d.get F.HL_EVT_TAIL_TAIL)
      (EventRec.bytes { r with slot := some (d.get F.HL_EVT_TAIL_TAIL), lost := d.flt.lostSince }) .evtRing
    generalize d.hlRequest _ _ _ _ = z at sent ⊢
    split
    · split
      · refine sent.trans ?_
        generalize hx : ({ Dev.putD _ _ _ with flt := _ } : Dev) = x
        have hout : x.out = z.2.out := by rw [← hx]; rfl
        rw [← hout]
        exact x.notify_sends
      · exact sent
    · exact sent

/-- What has been sent stays sent when an event is recorded. -/
theorem Dev.record_sends (e : Ev) (source : Nat) (detail : List (Nat × Nat)) (h4 : e.info.2 ≠ 4) (h5 : e.info.2 ≠ 5) :
    d.out <+: (d.record e source detail).out := by
  have sent (r : EventRec) := (d.putD F.FLT_EVT_SEQ_V ((d.get F.FLT_EVT_SEQ_V + 1) % 2 ^ 32)).deliver_sends r
  rw [Dev.record_eq d e source detail h4 h5]
  unfold Dev.recordOnly
  dsimp only
  split
  · exact sent _
  · exact sent _

theorem Dev.portEntersUp_eq (n : Nat) : d.portEntersUp n = ((d.setPort n (d.enteredUp n)).setPortState n 3).record .fabPortUp (evSource (n / 4) 10 n) [] := rfl

theorem Dev.portEntersUp_sends (n : Nat) : d.out <+: (d.portEntersUp n).out := by
  rw [Dev.portEntersUp_eq]
  exact ((d.setPort n (d.enteredUp n)).setPortState n 3).record_sends .fabPortUp _ [] (by decide) (by decide)

end

/-! ## One frame period (R287, R293 to R295, R318) -/

section
variable {d : Dev} {n : Nat}

/-- After KX3 has gone the port may enter UP; nothing else happens then. -/
theorem Dev.kx3Sent_keeps (d : Dev) (hn : n < 16) : d.KeepsBytes (d.kx3Sent n) (stateFields n) ∧ d.out <+: (d.kx3Sent n).out := by
  unfold Dev.kx3Sent
  dsimp only
  split
  · generalize hx : d.setPort n _ = x
    have hk : d.KeepsBytes x (stateFields n) := by rw [← hx]; exact (Dev.KeepsBytes.refl d _).setPort n _
    have hout : x.out = d.out := by rw [← hx]; rfl
    rw [← hout]
    exact ⟨hk.trans (x.portEntersUp_keeps n hn).1, x.portEntersUp_sends n⟩
  · exact ⟨Dev.KeepsBytes.refl d _, List.prefix_rfl⟩

theorem Dev.sendFrame_idle (h : d.portState n = 0 ∨ 4 < d.portState n ∨ (d.portState n = 1 ∧ (d.port n).retryWait = true)) : d.sendFrame n = d := by
  unfold Dev.sendFrame
  refine if_pos ?_
  obtain h | h | ⟨h, hw⟩ := h
  · simp [h]
  · have h1 : d.portState n ≠ 1 := by omega
    have h2 : d.portState n ≠ 2 := by omega
    have h3 : d.portState n ≠ 3 := by omega
    have h4 : d.portState n ≠ 4 := by omega
    simp [h1, h2, h3, h4]
  · simp [h, hw]

variable (hk : (d.port n).key.ctrTx < 2 ^ 32 - 1)
include hk

theorem Dev.sendFrame_training (h : (d.portState n = 1 ∧ (d.port n).retryWait = false) ∨ d.portState n = 4) : d.sendFrame n =
    d.outFrame n (d.port n) { d.trailer n (d.port n) with null := true }
      (if (d.port n).lock.isSome then [.link (.param d.serial d.paramChip n ((d.port n).lanes (d.portState n = 4)))] else []) := by
  have key : ¬ 4294967295 ≤ (d.port n).key.ctrTx := Nat.not_le.2 hk
  unfold Dev.sendFrame
  obtain ⟨h, hw⟩ | h := h
  · simp [h, hw, key]
  · simp [h, key]

theorem Dev.sendFrame_keying (h : d.portState n = 2) : d.sendFrame n =
    (d.outFrame n { d.port n with linkq := (d.port n).linkq.drop 4 } { d.trailer n (d.port n) with null := true }
      (((d.port n).linkq.take 4).map Flit.link)).kx3Sent n := by
  have key : ¬ 4294967295 ≤ (d.port n).key.ctrTx := Nat.not_le.2 hk
  unfold Dev.sendFrame
  simp [h, key]

theorem Dev.sendFrame_again (h : d.portState n = 3) {f : SentFrame} {fs : List SentFrame} (hr : (d.port n).resend = f :: fs) : d.sendFrame n =
    (d.pcount F.FAB_RETRY_V n).outFrame n { d.port n with resend := fs } { d.trailer n (d.port n) with seq := f.seq } (f.flits.map Flit.resent) := by
  have key : ¬ 4294967295 ≤ (d.port n).key.ctrTx := Nat.not_le.2 hk
  unfold Dev.sendFrame
  simp [h, key, hr]

theorem Dev.sendFrame_new (h : d.portState n = 3) (hr : (d.port n).resend = []) : d.sendFrame n =
    d.newFrame n { d.port n with linkq := (d.port n).linkq.drop 4 } (32 ≤ (d.port n).retry.length) (((d.port n).linkq.take 4).map Flit.link) := by
  have key : ¬ 4294967295 ≤ (d.port n).key.ctrTx := Nat.not_le.2 hk
  unfold Dev.sendFrame
  simp [h, key, hr]

end

end Sys2Proof.Machine

namespace Sys2Proof.Machine

/-! ## Frames received (R287, R290 to R294) -/

/-- What a port's receiver holds: the SEQ expected, its NAKs and the key. -/
def Port.receiver (t : Port) : Nat × Bool × Bool × Keying := (t.rxSeq, t.nakSent, t.nakNow, t.key)

/-- The registers of port n that a frame's arrival counts in. -/
def arrivalFields (n : Nat) : List (Fld × Nat × Nat) :=
  [(F.FAB_LANE_CE_V, n / 4, n % 4), (F.FAB_FEC_CE_V, n / 4, n % 4), (F.FAB_FEC_UE_V, n / 4, n % 4), (F.FAB_RX_BYTES_V, n / 4, n % 4)]

theorem Fld.apart_arrivalFields {f : Fld} (n : Nat) (hr : f.reg = .fabPortStatus) : ∀ x ∈ arrivalFields n, f.apart (n / 4) (n % 4) x := by
  intro x hx
  simp only [arrivalFields, List.mem_cons, List.not_mem_nil, or_false] at hx
  obtain rfl | rfl | rfl | rfl := hx <;> exact Fld.apart_port n (hr ▸ by decide) (by decide) (hr ▸ by decide)

theorem Port.receiver_lanes (t : Port) (sum : List Nat) (cur : Nat) : ({ t with laneSum := sum, limitCur := cur } : Port).receiver = t.receiver := rfl

@[simp] theorem Port.aged_receiver (t : Port) (w : Nat) : (t.aged w).receiver = t.receiver := by
  unfold Port.aged
  split <;> rfl

section
variable (d : Dev) (n : Nat) (f : RxFrame)

/-- A frame without a corrected symbol is no cause to retrain. -/
theorem Dev.countLanes_none : (d.countLanes n []).1 = false := by
  simp [Dev.countLanes]

theorem Dev.countLanes_keeps (ce : List Nat) : d.KeepsBytes (d.countLanes n ce).2 (arrivalFields n) := by
  unfold Dev.countLanes
  exact (((Dev.KeepsBytes.refl d _).setPort n _).put F.FAB_LANE_CE_V _ _ _ (by decide) (by simp [arrivalFields])).put F.FAB_FEC_CE_V _ _ _ (by decide)
    (by simp [arrivalFields])

theorem Dev.countLanes_receiver (ce : List Nat) : ((d.countLanes n ce).2.port n).receiver = (d.port n).receiver := by
  unfold Dev.countLanes Dev.pcount Dev.pput Dev.count
  rw [Dev.port_fab (Dev.put_fab _ _ _ _ _), Dev.port_fab (Dev.put_fab _ _ _ _ _), Dev.port_setPort_same]
  exact (Port.receiver_lanes _ _ _).trans ((d.port n).aged_receiver d.laneWindow)

/-- The device once the arrival of a frame is counted. -/
def Dev.arrived (d : Dev) (n : Nat) (f : RxFrame) : Dev := (d.countLanes n f.laneCe).2.pcount F.FAB_FEC_UE_V n f.fecUe

theorem Dev.arrived_keeps : d.KeepsBytes (d.arrived n f) (arrivalFields n) :=
  (d.countLanes_keeps n f.laneCe).put F.FAB_FEC_UE_V _ _ _ (by decide) (by simp [arrivalFields])

theorem Dev.arrived_receiver : ((d.arrived n f).port n).receiver = (d.port n).receiver := by
  unfold Dev.arrived Dev.pcount Dev.count
  rw [Dev.port_fab (Dev.put_fab _ _ _ _ _)]
  exact d.countLanes_receiver n f.laneCe

variable {d n f}

/-- What an intact frame does to a port once it is known to be the partner's. -/
def Dev.frameTrusted (d : Dev) (n : Nat) (f : RxFrame) : Dev :=
  let t := if d.portState n = 1 || d.portState n = 4 then { d.port n with lock := some f.lanes } else d.port n
  let r := (t.takePhase f.trailer.keyPhase).takeTrailer f.trailer
  let retrain := fun (d : Dev) => if r.1 then d.startRetrain n else d
  if f.trailer.null then retrain ((d.setPort n r.2).each (f.flits.filter Flit.inNull) (fun d x => d.acceptFlit n x))
  else if f.trailer.seq = r.2.rxSeq && d.portUp n then
    let d := d.setPort n { r.2 with rxSeq := (r.2.rxSeq + 1) % 4096, nakSent := false, nakNow := false, nakAge := 0 }
    let d := d.pput F.FAB_RX_BYTES_V n (d.pget F.FAB_RX_BYTES_V n + 64 * (f.flits.filter (· ≠ .idle)).length)
    retrain (d.each f.flits (fun d x => d.acceptFlit n x))
  else retrain (d.setPort n r.2.discard)

/-- The device with a damaged frame counted and discarded. -/
def Dev.arrivedDamaged (d : Dev) (n : Nat) (f : RxFrame) : Dev :=
  (d.arrived n f).setPort n { ((d.arrived n f).port n).discard with crcRun := ((d.arrived n f).port n).crcRun }

theorem Dev.receiveFrame_damaged (hl : f.laneCe = []) (hc : f.crcOk = true) (hu : f.fecUe ≠ 0) (hn : f.trailer.null = false) : d.receiveFrame n f =
    if 64 ≤ ((d.arrived n f).port n).crcRun then (d.arrivedDamaged n f).startRetrain n else d.arrivedDamaged n f := by
  have lanes := d.countLanes_none n
  unfold Dev.receiveFrame Dev.arrivedDamaged Dev.arrived
  rw [hl]
  simp [hc, hu, hn, lanes]

/-- A frame under the keys in force, or where none are. -/
def Port.trusts (t : Port) (f : RxFrame) : Prop :=
  t.key.installed = false ∨ (f.trailer.plain = false ∧ f.tagOk = true ∧ t.key.stale f.trailer.keyPhase = false)

theorem Dev.receiveFrame_intact (hl : f.laneCe = []) (hc : f.crcOk = true) (hu : f.fecUe = 0) (ht : (d.port n).trusts f) :
    d.receiveFrame n f = ((d.arrived n f).setPort n { (d.arrived n f).port n with crcRun := 0 }).frameTrusted n f := by
  have lanes := d.countLanes_none n
  have key : ((d.arrived n f).port n).key = (d.port n).key := congrArg (fun r => r.2.2.2) (d.arrived_receiver n f)
  have plain : ¬ ((d.port n).key.installed && f.trailer.plain) = true := by
    rcases ht with h | ⟨h, _⟩ <;> simp [h]
  have null : ¬ ((d.port n).key.installed && f.trailer.null && (!f.tagOk || (d.port n).key.stale f.trailer.keyPhase)) = true := by
    rcases ht with h | ⟨_, h, h'⟩
    · simp [h]
    · simp [h, h']
  have seq : ¬ ((d.port n).key.installed && (!f.tagOk || (d.port n).key.stale f.trailer.keyPhase)) = true := by
    rcases ht with h | ⟨_, h, h'⟩
    · simp [h]
    · simp [h, h']
  unfold Dev.receiveFrame
  dsimp only
  rw [if_neg (by simp [hu, hc] : ¬ (decide (f.fecUe ≠ 0) || !f.crcOk) = true)]
  simp only [Dev.port_setPort_same]
  have counted : (d.countLanes n f.laneCe).2.pcount F.FAB_FEC_UE_V n f.fecUe = d.arrived n f := rfl
  rw [counted, key, if_neg plain, if_neg null, if_neg seq, hl, lanes]
  unfold Dev.frameTrusted
  simp only [Dev.port_setPort_same, Bool.false_or]

/-- What the key phase and the trailer of a frame leave of a port. -/
theorem Port.taken_kept (t : Port) (phase : Bool) (tr : Trailer) : ((t.takePhase phase).takeTrailer tr).2.rxSeq = t.rxSeq ∧
    ((t.takePhase phase).takeTrailer tr).2.nakSent = t.nakSent ∧ ((t.takePhase phase).takeTrailer tr).2.lock = t.lock ∧
    (tr.nak = false → ((t.takePhase phase).takeTrailer tr).1 = false) := by
  have phases : (t.takePhase phase).rxSeq = t.rxSeq ∧ (t.takePhase phase).nakSent = t.nakSent ∧ (t.takePhase phase).lock = t.lock := by
    unfold Port.takePhase
    dsimp only
    split <;> exact ⟨rfl, rfl, rfl⟩
  obtain ⟨hseq, hnak, hlock⟩ := phases
  exact ⟨hseq, hnak, hlock, fun h => by simp [Port.takeTrailer, h]⟩

theorem Port.discard_nakNow {t : Port} (h : t.nakSent = false) : t.discard.nakNow = true := by simp [Port.discard, h]

theorem Port.discard_rxSeq (t : Port) : t.discard.rxSeq = t.rxSeq := by
  unfold Port.discard
  split <;> rfl

/-- The retraining of a port keeps the SEQ expected and the NAK due. -/
theorem Dev.startRetrain_keeps (d : Dev) (n : Nat) : d.KeepsBytes (d.startRetrain n) (stateFields n) ∧
    ((d.startRetrain n).port n).receiver = (d.port n).receiver := by
  by_cases h : d.portState n = 3
  · obtain ⟨hk, _, hp⟩ := d.startRetrain_up n h
    exact ⟨hk, (congrArg Port.receiver hp).trans rfl⟩
  · rw [d.startRetrain_other n h]
    exact ⟨Dev.KeepsBytes.refl d _, rfl⟩

/-- A sequenced frame without flits that carries the SEQ expected. -/
theorem Dev.frameTrusted_expected (hs : d.portState n = 3) (hn : f.trailer.null = false) (hnak : f.trailer.nak = false) (hf : f.flits = [])
    (hq : f.trailer.seq = (d.port n).rxSeq) : d.KeepsBytes (d.frameTrusted n f) (arrivalFields n) ∧
      ((d.frameTrusted n f).port n).rxSeq = ((d.port n).rxSeq + 1) % 4096 ∧ ((d.frameTrusted n f).port n).nakSent = false := by
  obtain ⟨hseq, _, _, hrun⟩ := (d.port n).taken_kept f.trailer.keyPhase f.trailer
  have up : d.portUp n = true := decide_eq_true hs
  unfold Dev.frameTrusted
  simp only [hs, hn, hf, hq, hseq, hrun hnak, up, Nat.reduceEqDiff, decide_false, decide_true, Bool.or_self, Bool.and_self, Bool.false_eq_true, if_false, if_true]
  refine ⟨((Dev.KeepsBytes.refl d _).setPort n _).put F.FAB_RX_BYTES_V _ _ _ (by decide) (by simp [arrivalFields]), ?_, ?_⟩
  · exact congrArg Port.rxSeq (d.port_setPort_same n _)
  · exact congrArg Port.nakSent (d.port_setPort_same n _)

/-- A sequenced frame that carries another SEQ. -/
theorem Dev.frameTrusted_other (hs : d.portState n = 3) (hn : f.trailer.null = false) (hnak : f.trailer.nak = false) (hq : f.trailer.seq ≠ (d.port n).rxSeq) :
    d.KeepsBytes (d.frameTrusted n f) (arrivalFields n) ∧ ((d.frameTrusted n f).port n).rxSeq = (d.port n).rxSeq ∧
      ((d.port n).nakSent = false → ((d.frameTrusted n f).port n).nakNow = true) := by
  obtain ⟨hseq, hsent, _, hrun⟩ := (d.port n).taken_kept f.trailer.keyPhase f.trailer
  unfold Dev.frameTrusted
  simp only [hs, hn, hq, hseq, hrun hnak, Nat.reduceEqDiff, decide_false, Bool.or_self, Bool.false_and, Bool.false_eq_true, if_false]
  refine ⟨(Dev.KeepsBytes.refl d _).setPort n _, ?_, fun h => ?_⟩
  · exact (congrArg Port.rxSeq (d.port_setPort_same n _)).trans ((Port.discard_rxSeq _).trans hseq)
  · exact (congrArg Port.nakNow (d.port_setPort_same n _)).trans (Port.discard_nakNow (hsent.trans h))

/-- A NULL frame in TRAINING that carries PARAM. -/
theorem Dev.frameTrusted_param (hs : d.portState n = 1) (hn : f.trailer.null = true) {serial chip pport lanes : Nat}
    (hf : f.flits = [.link (.param serial chip pport lanes)]) : d.KeepsBytes (d.frameTrusted n f) [] ∧
      ((d.frameTrusted n f).port n).lock = some f.lanes ∧ ((d.frameTrusted n f).port n).param = some (serial, chip, pport, lanes) := by
  obtain ⟨_, _, hlock, _⟩ := ({ d.port n with lock := some f.lanes } : Port).taken_kept f.trailer.keyPhase f.trailer
  unfold Dev.frameTrusted
  simp only [hs, hn, hf, decide_true, Bool.true_or, if_true]
  generalize (({ d.port n with lock := some f.lanes } : Port).takePhase f.trailer.keyPhase).takeTrailer f.trailer = r at hlock ⊢
  have params : ((d.setPort n r.2).each ([Flit.link (.param serial chip pport lanes)].filter Flit.inNull) fun d x => d.acceptFlit n x) =
      (d.setPort n r.2).setPort n { r.2 with param := some (serial, chip, pport, lanes) } := by
    have state : (d.setPort n r.2).portState n = 1 := hs
    show (d.setPort n r.2).acceptFlit n (.link (.param serial chip pport lanes)) = _
    simp [Dev.acceptFlit, state]
  rw [params, Dev.startRetrain_other _ n (by change d.portState n ≠ 3; rw [hs]; decide), ite_self]
  refine ⟨((Dev.KeepsBytes.refl d _).setPort n _).setPort n _, ?_, ?_⟩
  · exact (congrArg Port.lock (Dev.port_setPort_same _ n _)).trans hlock
  · exact congrArg Port.param (Dev.port_setPort_same _ n _)

end

/-- The device with a frame counted and the run of damaged frames ended. -/
def Dev.arrivedIntact (d : Dev) (n : Nat) (f : RxFrame) : Dev := (d.arrived n f).setPort n { (d.arrived n f).port n with crcRun := 0 }

theorem Dev.arrivedIntact_keeps (d : Dev) {n : Nat} (f : RxFrame) : d.KeepsBytes (d.arrivedIntact n f) (arrivalFields n) ∧
    ((d.arrivedIntact n f).port n).receiver = (d.port n).receiver ∧ (d.arrivedIntact n f).portState n = d.portState n := by
  have keeps := (d.arrived_keeps n f).setPort n { (d.arrived n f).port n with crcRun := 0 }
  exact ⟨keeps, (congrArg Port.receiver (Dev.port_setPort_same _ n _)).trans (d.arrived_receiver n f),
    keeps.pget (by decide) (Fld.apart_arrivalFields n rfl)⟩

theorem Dev.arrivedDamaged_keeps (d : Dev) {n : Nat} (f : RxFrame) : d.KeepsBytes (d.arrivedDamaged n f) (arrivalFields n) ∧
    ((d.arrivedDamaged n f).port n).rxSeq = (d.port n).rxSeq ∧ ((d.port n).nakSent = false → ((d.arrivedDamaged n f).port n).nakNow = true) := by
  have receiver := d.arrived_receiver n f
  unfold Dev.arrivedDamaged
  rw [Dev.port_setPort_same]
  exact ⟨(d.arrived_keeps n f).setPort n _, (Port.discard_rxSeq _).trans (congrArg (·.1) receiver),
    fun h => Port.discard_nakNow ((congrArg (·.2.1) receiver).trans h)⟩

theorem exec_frameSend (s : State) {n : Nat} (hn : n < 16) (hs : s.dev.noSource = false) : exec (.frameSend n) s = .next (s.withDev (s.dev.sendFrame n)) :=
  (s.runOn_next _ (decide_eq_true hn)).trans (by rw [if_neg (ne_true_of_eq_false hs)])

theorem exec_frameSend_noSource (s : State) {n : Nat} (hn : n < 16) (hs : s.dev.noSource = true) : exec (.frameSend n) s = .next s :=
  (s.runOn_next _ (decide_eq_true hn)).trans (by rw [if_pos hs])

theorem exec_frameReceive (s : State) {n : Nat} (f : RxFrame) (hn : n < 16) (h1 : 1 ≤ s.dev.portState n) (h4 : s.dev.portState n ≤ 4)
    (hw : (s.dev.port n).retryWait = false) : exec (.frameReceive n f) s = .next (s.withDev (s.dev.receiveFrame n f)) :=
  (s.runOn_next _ (decide_eq_true hn)).trans (by rw [if_pos (by simp [h1, h4, hw])])

theorem exec_frameReceive_idle (s : State) {n : Nat} (f : RxFrame) (hn : n < 16)
    (h : s.dev.portState n = 0 ∨ 4 < s.dev.portState n ∨ (s.dev.portState n = 1 ∧ (s.dev.port n).retryWait = true)) : exec (.frameReceive n f) s = .next s := by
  refine (s.runOn_next _ (decide_eq_true hn)).trans ?_
  rw [if_neg]
  obtain h | h | ⟨h, hw⟩ := h
  · simp [h]
  · simp [Nat.not_le.2 h]
  · simp [h, hw]

section
variable (s : State) {n : Nat} (hn : n < 16)
include hn

/-- What an UP port sends in a frame period (R293 to R295). -/
theorem frameSend_up (hs : s.dev.noSource = false) (h3 : s.dev.portState n = 3) (hc : (s.dev.port n).closing = false)
    (hk : (s.dev.port n).key.ctrTx < 2 ^ 32 - 1) :
    ((s.dev.port n).resend = [] → (s.dev.port n).retry.length < 32 → ∃ t tr fs, exec (.frameSend n) s = .next t ∧ t.pending = s.pending ∧
      t.dev.out = s.dev.out ++ [.frame n tr fs] ∧ fs.length ≤ 128 ∧ tr.seq = (s.dev.port n).txSeq ∧ tr.null = false ∧
      (t.dev.port n).retry = (s.dev.port n).retry ++ [⟨(s.dev.port n).txSeq, fs⟩] ∧ (t.dev.port n).txSeq = ((s.dev.port n).txSeq + 1) % 4096 ∧ s.dev.sameBytes t.dev) ∧
    ((s.dev.port n).resend = [] → 32 ≤ (s.dev.port n).retry.length → ∃ t tr fs, exec (.frameSend n) s = .next t ∧ t.pending = s.pending ∧
      t.dev.out = s.dev.out ++ [.frame n tr fs] ∧ fs.length ≤ 128 ∧ tr.null = true ∧
      (t.dev.port n).retry = (s.dev.port n).retry ∧ (t.dev.port n).txSeq = (s.dev.port n).txSeq ∧ s.dev.sameBytes t.dev) ∧
    (∀ f fs, (s.dev.port n).resend = f :: fs → ∃ t tr, exec (.frameSend n) s = .next t ∧ t.pending = s.pending ∧
      t.dev.out = s.dev.out ++ [.frame n tr (f.flits.map Flit.resent)] ∧ tr.seq = f.seq ∧
      (t.dev.port n).resend = fs ∧ (t.dev.port n).retry = (s.dev.port n).retry ∧ (t.dev.port n).txSeq = (s.dev.port n).txSeq ∧ s.dev.sameBytes t.dev) := by
  have hexec := exec_frameSend s hn hs
  have links : (((s.dev.port n).linkq.take 4).map Flit.link).length ≤ 128 := by
    rw [List.length_map]
    exact (List.length_take_le _ _).trans (by decide)
  refine ⟨fun hr hl => ?_, fun hr hl => ?_, fun f fs hr => ?_⟩
  · rw [Dev.sendFrame_new hk h3 hr, decide_eq_false (Nat.not_le.2 hl)] at hexec
    obtain ⟨tr, fs, hout, hlen, hnull, hseq, hbytes, hlink⟩ :=
      s.dev.newFrame_frame n { s.dev.port n with linkq := (s.dev.port n).linkq.drop 4 } false _ hc links
    exact ⟨_, tr, fs, hexec, rfl, hout, hlen, hseq, hnull, congrArg (·.1) hlink, congrArg (·.2.1) hlink, hbytes⟩
  · rw [Dev.sendFrame_new hk h3 hr, decide_eq_true hl] at hexec
    obtain ⟨tr, fs, hout, hlen, hnull, _, hbytes, hlink⟩ :=
      s.dev.newFrame_frame n { s.dev.port n with linkq := (s.dev.port n).linkq.drop 4 } true _ hc links
    exact ⟨_, tr, fs, hexec, rfl, hout, hlen, hnull, congrArg (·.1) hlink, congrArg (·.2.1) hlink, hbytes⟩
  · rw [Dev.sendFrame_again hk h3 hr] at hexec
    have keeps := (s.dev.pcount F.FAB_RETRY_V n).outFrame_keeps n { s.dev.port n with resend := fs } { s.dev.trailer n (s.dev.port n) with seq := f.seq }
      (f.flits.map Flit.resent) hc
    have port := (s.dev.pcount F.FAB_RETRY_V n).outFrame_port n { s.dev.port n with resend := fs } { s.dev.trailer n (s.dev.port n) with seq := f.seq }
      (f.flits.map Flit.resent) hc
    exact ⟨_, _, hexec, rfl, Dev.outFrame_out _ n _ _ _ hc, rfl, congrArg Port.resend port, (congrArg Port.retry port).trans rfl, (congrArg Port.txSeq port).trans rfl,
      Dev.sameBytes_of keeps.mem keeps.cores⟩

/-- What a port that trains or keys sends in a frame period (R287, R318). -/
theorem frameSend_training (hs : s.dev.noSource = false) (hc : (s.dev.port n).closing = false) (hk : (s.dev.port n).key.ctrTx < 2 ^ 32 - 1) :
    ((s.dev.portState n = 1 ∧ (s.dev.port n).retryWait = false) ∨ s.dev.portState n = 4 → ∃ t tr, exec (.frameSend n) s = .next t ∧ t.pending = s.pending ∧ tr.null = true ∧
      t.dev.out = s.dev.out ++ [.frame n tr (if (s.dev.port n).lock.isSome
        then [.link (.param s.dev.serial s.dev.paramChip n ((s.dev.port n).lanes (s.dev.portState n = 4)))] else [])] ∧ s.dev.sameBytes t.dev) ∧
    (s.dev.portState n = 2 → ∃ t tr, exec (.frameSend n) s = .next t ∧ t.pending = s.pending ∧ tr.null = true ∧
      (s.dev.out ++ [.frame n tr (((s.dev.port n).linkq.take 4).map Flit.link)]) <+: t.dev.out ∧ s.dev.sameBytes t.dev) := by
  have hexec := exec_frameSend s hn hs
  refine ⟨fun h => ?_, fun h => ?_⟩
  · rw [Dev.sendFrame_training hk h] at hexec
    exact ⟨_, { s.dev.trailer n (s.dev.port n) with null := true }, hexec, rfl, rfl, s.dev.outFrame_out n _ _ _ hc, (s.dev.outFrame_keeps n _ _ _ hc).sameBytes⟩
  · rw [Dev.sendFrame_keying hk h] at hexec
    let tr : Trailer := { s.dev.trailer n (s.dev.port n) with null := true }
    let links := ((s.dev.port n).linkq.take 4).map Flit.link
    have keeps := s.dev.outFrame_keeps n { s.dev.port n with linkq := (s.dev.port n).linkq.drop 4 } tr links hc
    have out := s.dev.outFrame_out n { s.dev.port n with linkq := (s.dev.port n).linkq.drop 4 } tr links hc
    obtain ⟨kx, sent⟩ := (s.dev.outFrame n { s.dev.port n with linkq := (s.dev.port n).linkq.drop 4 } tr links).kx3Sent_keeps hn
    rw [out] at sent
    exact ⟨_, tr, hexec, rfl, rfl, sent, Dev.sameBytes_of (kx.mem.trans keeps.mem) (kx.cores.trans keeps.cores)⟩

/-- What an UP port does with a sequenced frame without flits (R293, R294). -/
theorem frameReceive_up (f : RxFrame) (h3 : s.dev.portState n = 3) (hw : (s.dev.port n).retryWait = false) (hl : f.laneCe = []) (hf : f.flits = []) (hc : f.crcOk = true)
    (htag : f.tagOk = true) (hplain : f.trailer.plain = false) (hnull : f.trailer.null = false) (hnak : f.trailer.nak = false)
    (hstale : (s.dev.port n).key.stale f.trailer.keyPhase = false) :
    (f.fecUe = 0 → f.trailer.seq = (s.dev.port n).rxSeq → ∃ t, exec (.frameReceive n f) s = .next t ∧ t.pending = s.pending ∧
      (t.dev.port n).rxSeq = ((s.dev.port n).rxSeq + 1) % 4096 ∧ (t.dev.port n).nakSent = false ∧ t.dev.portState n = 3 ∧ s.dev.sameBytes t.dev) ∧
    (f.fecUe = 0 → f.trailer.seq ≠ (s.dev.port n).rxSeq → ∃ t, exec (.frameReceive n f) s = .next t ∧ t.pending = s.pending ∧
      (t.dev.port n).rxSeq = (s.dev.port n).rxSeq ∧ ((s.dev.port n).nakSent = false → (t.dev.port n).nakNow = true) ∧ s.dev.sameBytes t.dev) ∧
    (f.fecUe ≠ 0 → ∃ t, exec (.frameReceive n f) s = .next t ∧ t.pending = s.pending ∧
      (t.dev.port n).rxSeq = (s.dev.port n).rxSeq ∧ ((s.dev.port n).nakSent = false → (t.dev.port n).nakNow = true) ∧ s.dev.sameBytes t.dev) := by
  have hexec := exec_frameReceive s f hn (by omega) (by omega) hw
  have trusts : (s.dev.port n).trusts f := .inr ⟨hplain, htag, hstale⟩
  obtain ⟨keeps, receiver, state⟩ := s.dev.arrivedIntact_keeps (n := n) f
  have rxSeq : ((s.dev.arrivedIntact n f).port n).rxSeq = (s.dev.port n).rxSeq := congrArg (·.1) receiver
  have nakSent : ((s.dev.arrivedIntact n f).port n).nakSent = (s.dev.port n).nakSent := congrArg (·.2.1) receiver
  have state3 := state.trans h3
  refine ⟨fun hu hq => ?_, fun hu hq => ?_, fun hu => ?_⟩
  · obtain ⟨keeps', hseq, hsent⟩ := Dev.frameTrusted_expected state3 hnull hnak hf (hq.trans rxSeq.symm)
    rw [Dev.receiveFrame_intact hl hc hu trusts] at hexec
    exact ⟨_, hexec, rfl, hseq.trans (by rw [rxSeq]), hsent, (keeps'.pget (by decide) (Fld.apart_arrivalFields n rfl)).trans state3, (keeps.trans keeps').sameBytes⟩
  · obtain ⟨keeps', hseq, hsent⟩ := Dev.frameTrusted_other state3 hnull hnak (fun h => hq (h.trans rxSeq))
    rw [Dev.receiveFrame_intact hl hc hu trusts] at hexec
    exact ⟨_, hexec, rfl, hseq.trans rxSeq, fun h => hsent (nakSent.trans h), (keeps.trans keeps').sameBytes⟩
  · rw [Dev.receiveFrame_damaged hl hc hu hnull] at hexec
    obtain ⟨xkeeps, xseq, xnak⟩ := s.dev.arrivedDamaged_keeps (n := n) f
    obtain ⟨rkeeps, rreceiver⟩ := (s.dev.arrivedDamaged n f).startRetrain_keeps n
    refine ⟨_, hexec, rfl, ?_⟩
    dsimp only [State.withDev]
    split
    · exact ⟨(congrArg (·.1) rreceiver).trans xseq, fun h => (congrArg (·.2.2.1) rreceiver).trans (xnak h),
        Dev.sameBytes_of (rkeeps.mem.trans xkeeps.mem) (rkeeps.cores.trans xkeeps.cores)⟩
    · exact ⟨xseq, xnak, xkeeps.sameBytes⟩

/-- What a port in TRAINING does with an intact NULL frame that carries PARAM (R287). -/
theorem frameReceive_param {serial chip pport lanes : Nat} {f : RxFrame} (h1 : s.dev.portState n = 1) (hw : (s.dev.port n).retryWait = false)
    (hkey : (s.dev.port n).key.installed = false) (hu : f.fecUe = 0) (hc : f.crcOk = true) (hl : f.laneCe = []) (hnull : f.trailer.null = true)
    (hf : f.flits = [.link (.param serial chip pport lanes)]) :
    ∃ t, exec (.frameReceive n f) s = .next t ∧ t.pending = s.pending ∧ (t.dev.port n).lock = some f.lanes ∧ (t.dev.port n).param = some (serial, chip, pport, lanes) ∧
      t.dev.portState n = 1 ∧ s.dev.sameBytes t.dev := by
  have hexec := exec_frameReceive s f hn (by omega) (by omega) hw
  rw [Dev.receiveFrame_intact hl hc hu (.inl hkey)] at hexec
  obtain ⟨keeps, _, state⟩ := s.dev.arrivedIntact_keeps (n := n) f
  obtain ⟨keeps', hlock, hparam⟩ := Dev.frameTrusted_param (d := s.dev.arrivedIntact n f) (state.trans h1) hnull hf
  exact ⟨_, hexec, rfl, hlock, hparam, (keeps'.pget (by decide) (by simp)).trans (state.trans h1), Dev.sameBytes_of (keeps'.mem.trans keeps.mem) (keeps'.cores.trans keeps.cores)⟩

end

/-- Settles O53: what is sent by the state of the port, what is accepted by the frame's SEQ, and the states in which a port does neither. -/
theorem framesAndRetry : Obligations.FramesAndRetry := by
  refine ⟨fun s n hn hs h3 hc hk => frameSend_up s hn hs h3 hc hk, fun s n hn hs hc hk => frameSend_training s hn hs hc hk,
    fun s n f hn h3 hw hl hf hc htag hplain hnull hnak hstale => frameReceive_up s hn f h3 hw hl hf hc htag hplain hnull hnak hstale,
    fun s n serial chip pport lanes f hn h1 hw hkey hu hc hl hnull hf => frameReceive_param s hn h1 hw hkey hu hc hl hnull hf,
    fun s n f hn => ⟨fun h => ⟨?_, exec_frameReceive_idle s f hn h⟩, fun h => exec_frameSend_noSource s hn h⟩⟩
  by_cases hs : s.dev.noSource = true
  · exact exec_frameSend_noSource s hn hs
  · rw [exec_frameSend s hn (by simpa using hs), Dev.sendFrame_idle h]

end Sys2Proof.Machine

namespace Sys2Proof.Machine

/-! ## A port leaves service (R289) -/

section
variable (d : Dev) (n : Nat)

theorem Dev.freeInput_keeps (q : TxPkt) (fs : List (Fld × Nat × Nat)) : d.KeepsBytes (d.freeInput q) fs := by
  unfold Dev.freeInput
  split
  · split
    · exact (Dev.KeepsBytes.refl d fs).setPort _ _
    · exact Dev.KeepsBytes.refl d fs
  · exact Dev.KeepsBytes.refl d fs

theorem Dev.endForwards_keeps (ch : Nat → Bool) (fs : List (Fld × Nat × Nat)) : d.KeepsBytes (d.endForwards n ch) fs := by
  unfold Dev.endForwards
  refine Dev.each_inv (P := fun e => d.KeepsBytes e fs) _ (fun e k he => ?_) _ (Dev.KeepsBytes.refl d fs)
  dsimp only
  split
  · exact he
  · exact Dev.each_inv (P := fun x => d.KeepsBytes x fs) _ (fun x q hx => hx.trans (x.freeInput_keeps q fs)) _ (he.setPort k _)

/-- A refusal of routing counts in one of two registers. -/
theorem Dev.countRefusal_keeps (c : Nat) : d.KeepsBytes (d.countRefusal c) (sideFields n) := by
  unfold Dev.countRefusal
  split
  · exact (Dev.KeepsBytes.refl d _).put F.FAB_NOROUTE_V _ _ _ (by decide) (by simp [sideFields])
  · split
    · exact (Dev.KeepsBytes.refl d _).put F.FAB_TTL_DROP_V _ _ _ (by decide) (by simp [sideFields])
    · exact Dev.KeepsBytes.refl d _

theorem Dev.sendNack_keeps (p : Packet) (code : Nat) (final : Bool) : d.KeepsBytes (d.sendNack p code final) (sideFields n) := by
  unfold Dev.sendNack Dev.sendAnswer
  split
  · exact Dev.KeepsBytes.refl d _
  · split
    · exact (Dev.KeepsBytes.refl d _).beside rfl rfl rfl
    · exact (Dev.KeepsBytes.refl d _).setPort _ _
    · exact d.countRefusal_keeps n _

theorem Dev.sendTx_keeps (q : TxPkt) : d.KeepsBytes (d.sendTx q) (sideFields n) := by
  unfold Dev.sendTx
  split
  · exact (Dev.KeepsBytes.refl d _).beside rfl rfl rfl
  · exact (Dev.KeepsBytes.refl d _).setPort _ _
  · next c _ =>
    dsimp only
    split
    · exact (d.countRefusal_keeps n c).trans (Dev.sendNack_keeps _ n _ _ _)
    · exact d.countRefusal_keeps n c

/-- What leaves a port that goes out of service: the packets half sent, refused and routed again. -/
def Dev.portCleared (d : Dev) (n : Nat) (cut unsent : List TxPkt) (lost : List Packet) : Dev :=
  ((((d.reselect.endForwards n (fun _ => true)).each cut (fun d q => d.freeInput q)).each lost (fun d p => d.sendNack p nackLinkDown)).each unsent
    (fun d q => d.sendTx q))

theorem Dev.portCleared_keeps (cut unsent : List TxPkt) (lost : List Packet) : d.KeepsBytes (d.portCleared n cut unsent lost) (sideFields n) := by
  have start := (d.reselect_keeps n).1.trans (d.reselect.endForwards_keeps n (fun _ => true) (sideFields n))
  have freed := Dev.each_inv (P := fun e => d.KeepsBytes e (sideFields n)) _ (fun e q he => he.trans (e.freeInput_keeps q _)) cut start
  have refused := Dev.each_inv (P := fun e => d.KeepsBytes e (sideFields n)) _ (fun e p he => he.trans (e.sendNack_keeps n p nackLinkDown (nackFinal nackLinkDown))) lost freed
  exact Dev.each_inv (P := fun e => d.KeepsBytes e (sideFields n)) _ (fun e q he => he.trans (e.sendTx_keeps n q)) unsent refused

/-- A port out of service: nothing queued, no frame retained, no key. -/
def Port.closed (t : Port) (st : Nat) : Port :=
  { t with txq := [], sentPkts := [], retry := [], resend := [], linkq := [], asm := [], nakNow := false, nakSent := false, nakRun := 0, crcRun := 0, closing := false
           key := { t.key with installed := false, stage := 0, taken := false, rekey := false, unanswered := none }
           liveFrom := none, lock := none, param := none, leftUp := t.leftUp || st = 3 || st = 4 }

/-- The device with port n closed, in the state named. -/
def Dev.portMarked (d : Dev) (n st : Nat) : Dev := (d.setPort n ((d.port n).closed (d.portState n))).setPortState n st

/-- The device without port n's delay, its clocks as given. -/
def Dev.withoutDelay (d : Dev) (n : Nat) (c : Clock) : Dev := { d.put F.BEAT_PORT_DELAY_VALID 0 n 0 with clk := c }

/-- The device with port n closed, its delay and its probes dropped. -/
def Dev.portClosed (d : Dev) (n st : Nat) : Dev := (d.portMarked n st).withoutDelay n
  { d.clk with probes := d.clk.probes.filter (fun p => p.port ≠ n), echoes := d.clk.echoes.filter (fun p => p.port ≠ n) }

theorem Dev.portMarked_keeps (st : Nat) : d.KeepsBytes (d.portMarked n st) (stateFields n) := ((Dev.KeepsBytes.refl d _).setPort n _).setPortState st

theorem Dev.withoutDelay_keeps (c : Clock) : d.KeepsBytes (d.withoutDelay n c) (sideFields n) :=
  ((Dev.KeepsBytes.refl d _).put F.BEAT_PORT_DELAY_VALID 0 n 0 (by decide) (by simp [sideFields])).beside rfl rfl rfl

theorem Dev.portLeave_eq (st : Nat) : d.portLeave n st = (d.portClosed n st).portCleared n ((d.port n).txq.filter (fun q => q.sent ≠ 0))
    ((d.port n).txq.filter (fun q => q.sent = 0 && !q.pkt.isLocal))
    (((d.port n).sentPkts.map (·.2) ++ ((d.port n).txq.filter (fun q => q.sent ≠ 0)).map (·.pkt)).filter Packet.isRequest) := rfl

/-- A port that leaves service is in the state named; beside it only the delay, the upstream and the counters of routing change. -/
theorem Dev.portLeave_keeps (st : Nat) (hn : n < 16) (hst : st < 8) :
    d.KeepsBytes (d.portLeave n st) (stateFields n) ∧ (d.portLeave n st).portState n = st := by
  have cleared := fun cut unsent lost => ((d.portMarked n st).withoutDelay_keeps n _).trans ((d.portClosed n st).portCleared_keeps n cut unsent lost)
  rw [Dev.portLeave_eq]
  exact ⟨(d.portMarked_keeps n st).trans ((cleared _ _ _).mono (sideFields_subset n)),
    ((cleared _ _ _).portState hn).trans (Dev.portState_setPortState _ n st hst)⟩

/-- A port that fails is FAILED with its REASON. -/
theorem Dev.portFails_keeps (reason : Nat) (e : Ev) (hn : n < 16) (hr : reason < 256) (h4 : e.info.2 ≠ 4) (h5 : e.info.2 ≠ 5) :
    (d.portFails n reason e).portState n = 5 ∧ (d.portFails n reason e).pget F.FAB_PORT_STATUS_REASON n = reason := by
  unfold Dev.portFails
  obtain ⟨left, state⟩ := (d.pput F.FAB_PORT_STATUS_REASON n reason).portLeave_keeps n 5 hn (by decide)
  obtain ⟨recorded, _⟩ := ((d.pput F.FAB_PORT_STATUS_REASON n reason).portLeave n 5).record_keeps n e (evSource (n / 4) 10 n) [] h4 h5
  have apart : ∀ x ∈ stateFields n, F.FAB_PORT_STATUS_REASON.apart (n / 4) (n % 4) x := by
    intro x hx
    obtain rfl | hx := List.mem_cons.1 hx
    · exact Fld.apart_beside _ _ rfl (by decide)
    · exact Fld.apart_sideFields n hn (by decide) x hx
  refine ⟨(recorded.portState hn).trans state, ?_⟩
  refine (recorded.pget (by decide) (Fld.apart_sideFields n hn (by decide))).trans ((left.pget (by decide) apart).trans ?_)
  exact (Dev.get_put_same _ _ _ _ _ (by decide)).trans (Nat.mod_eq_of_lt hr)

end

end Sys2Proof.Machine

namespace Sys2Proof.Machine

/-! ## Key setup and training (R286 to R288, R318, R319) -/

section
variable (d : Dev) (n : Nat)

/-- A port's register and one of the whole device are apart. -/
theorem Dev.get_pput_dev {f g : Fld} (v i : Nat) (hf : f.reg.ofPort = true) (hg : g.reg.addr 0 i < 0x04000000) : (d.pput f n v).get g 0 i = d.get g 0 i := by
  refine Dev.get_put_addr _ _ _ _ _ _ _ _ ?_
  obtain ⟨ha, hlo, _⟩ := Reg.ofPort_addr hf (n / 4) (n % 4)
  rw [ha]
  omega

/-- Two registers of a port are apart. -/
theorem Dev.pget_pput_other {f g : Fld} (v : Nat) (hf : f.reg.ofPort = true) (hg : g.reg.ofPort = true) (h : g.reg.info.base ≠ f.reg.info.base) :
    (d.pput f n v).pget g n = d.pget g n := by
  refine Dev.get_put_addr _ _ _ _ _ _ _ _ ?_
  rw [(Reg.ofPort_addr hf _ _).1, (Reg.ofPort_addr hg _ _).1]
  omega

theorem Dev.pget_pput_same (f : Fld) (v : Nat) (hf : f.fits = true) : (d.pput f n v).pget f n = v % 2 ^ (f.hi - f.lo + 1) := Dev.get_put_same _ _ _ _ _ hf

theorem Dev.pget_pput_beside {f g : Fld} (v : Nat) (h : f.beside g = true) : (d.pput f n v).pget g n = d.pget g n := by
  simp only [Fld.beside, Bool.and_eq_true, decide_eq_true_eq] at h
  obtain ⟨⟨⟨hr, hf⟩, hg⟩, hd⟩ := h
  exact Dev.get_put_field _ _ _ _ _ _ hr hf hg hd

/-- A port goes to KEYING: its key phase is 0, no key is installed, and the belfry has taken the exchange up if the identity key is ready. -/
theorem Dev.beginKeying_eq : ∃ (t : Port) (free : Nat), d.beginKeying n = (({ d.pput F.FAB_PORT_STATUS_KEY_PHASE n 0 with free := free } : Dev).setPort n t).setPortState n 2 ∧
    t.key.installed = false ∧ t.key.taken = d.flag F.SEC_ID_STATUS_READY ∧ t.retry = (d.port n).retry ∧
    (d.flag F.SEC_ID_STATUS_READY = true → t.key.initiator = decide (d.serial < d.pget F.FAB_PORT_PSERIAL_V n)) := by
  have ready : (d.pput F.FAB_PORT_STATUS_KEY_PHASE n 0).flag F.SEC_ID_STATUS_READY = d.flag F.SEC_ID_STATUS_READY := by
    unfold Dev.flag
    rw [Dev.get_pput_dev d n 0 0 (by decide) (by decide)]
  have serial : (d.pput F.FAB_PORT_STATUS_KEY_PHASE n 0).serial = d.serial := Dev.get_pput_dev d n 0 0 (by decide) (by decide)
  have pserial : (d.pput F.FAB_PORT_STATUS_KEY_PHASE n 0).pget F.FAB_PORT_PSERIAL_V n = d.pget F.FAB_PORT_PSERIAL_V n :=
    Dev.pget_pput_other d n 0 (by decide) (by decide) (by decide)
  unfold Dev.beginKeying
  dsimp only
  rw [ready]
  by_cases h : d.flag F.SEC_ID_STATUS_READY = true
  · rw [if_neg (by simp [h]), serial, pserial]
    refine ⟨_, _, rfl, ?_⟩
    by_cases hi : d.serial < d.pget F.FAB_PORT_PSERIAL_V n
    · simp only [hi, decide_true, if_true]
      exact ⟨rfl, h.symm, rfl, fun _ => rfl⟩
    · simp only [hi, decide_false, if_false]
      exact ⟨trivial, h.symm, rfl, fun _ => trivial⟩
  · rw [if_pos (by simp [h])]
    exact ⟨_, _, rfl, rfl, (eq_false_of_ne_true h).symm, rfl, fun h' => absurd h' h⟩

/-- The fields of FAB_PORT_STATUS that key setup writes. -/
def keyingFields (n : Nat) : List (Fld × Nat × Nat) := [(F.FAB_PORT_STATUS_KEY_PHASE, n / 4, n % 4), (F.FAB_PORT_STATUS_STATE, n / 4, n % 4)]

theorem Dev.beginKeying_keeps : d.KeepsBytes (d.beginKeying n) (keyingFields n) ∧ (d.beginKeying n).portState n = 2 ∧
    (d.beginKeying n).pget F.FAB_PORT_STATUS_KEY_PHASE n = 0 ∧ ((d.beginKeying n).port n).key.installed = false ∧
    ((d.beginKeying n).port n).key.taken = d.flag F.SEC_ID_STATUS_READY ∧ ((d.beginKeying n).port n).retry = (d.port n).retry ∧
    (d.flag F.SEC_ID_STATUS_READY = true → ((d.beginKeying n).port n).key.initiator = decide (d.serial < d.pget F.FAB_PORT_PSERIAL_V n)) := by
  obtain ⟨t, free, heq, hinst, htaken, hretry, hini⟩ := d.beginKeying_eq n
  generalize he : ({ d.pput F.FAB_PORT_STATUS_KEY_PHASE n 0 with free := free } : Dev) = e at heq
  have keeps : d.KeepsBytes e (keyingFields n) := by
    rw [← he]
    exact ((Dev.KeepsBytes.refl d _).put F.FAB_PORT_STATUS_KEY_PHASE _ _ 0 (by decide) (by simp [keyingFields])).beside rfl rfl rfl
  have phase : e.pget F.FAB_PORT_STATUS_KEY_PHASE n = 0 := by
    rw [← he]
    exact (Dev.get_regs (d := d.pput F.FAB_PORT_STATUS_KEY_PHASE n 0) rfl _ _ _).trans (Dev.pget_pput_same d n _ 0 (by decide))
  have port : ((e.setPort n t).setPortState n 2).port n = t := Dev.port_setPort_same e n t
  rw [heq, port]
  refine ⟨(keeps.setPort n t).put F.FAB_PORT_STATUS_STATE _ _ _ (by decide) (by simp [keyingFields]), Dev.portState_setPortState _ n 2 (by decide), ?_,
    hinst, htaken, hretry, hini⟩
  exact (Dev.pget_pput_beside (e.setPort n t) n 2 (by decide)).trans phase

end

/-! ### The end of a training attempt -/

/-- The registers that record the lanes and the partner of a port that has trained. -/
def partnerFields (n : Nat) : List (Fld × Nat × Nat) :=
  [(F.FAB_PORT_PSERIAL_V, n / 4, n % 4), (F.FAB_PORT_PCHIP_CHIP, n / 4, n % 4), (F.FAB_PORT_PCHIP_PORT, n / 4, n % 4), (F.FAB_PORT_STATUS_RX_LANES, n / 4, n % 4),
    (F.FAB_PORT_STATUS_TX_LANES, n / 4, n % 4), (F.FAB_PORT_STATUS_REASON, n / 4, n % 4)]

/-- The device with the lanes and the partner of port n recorded. -/
def Dev.partnered (d : Dev) (n serial chip pport rx tx : Nat) : Dev :=
  (((((d.pput F.FAB_PORT_PSERIAL_V n serial).pput F.FAB_PORT_PCHIP_CHIP n chip).pput F.FAB_PORT_PCHIP_PORT n pport).pput
    F.FAB_PORT_STATUS_RX_LANES n rx).pput F.FAB_PORT_STATUS_TX_LANES n tx).pput F.FAB_PORT_STATUS_REASON n 0

section
variable (d : Dev) (n serial chip pport rx tx : Nat)

theorem Dev.partnered_keeps : d.KeepsBytes (d.partnered n serial chip pport rx tx) (partnerFields n) :=
  (((((((Dev.KeepsBytes.refl d _).put F.FAB_PORT_PSERIAL_V _ _ _ (by decide) (by simp [partnerFields])).put F.FAB_PORT_PCHIP_CHIP _ _ _ (by decide)
    (by simp [partnerFields])).put F.FAB_PORT_PCHIP_PORT _ _ _ (by decide) (by simp [partnerFields])).put F.FAB_PORT_STATUS_RX_LANES _ _ _ (by decide)
    (by simp [partnerFields])).put F.FAB_PORT_STATUS_TX_LANES _ _ _ (by decide) (by simp [partnerFields])).put F.FAB_PORT_STATUS_REASON _ _ _ (by decide)
    (by simp [partnerFields]))

theorem Dev.partnered_rxLanes : (d.partnered n serial chip pport rx tx).pget F.FAB_PORT_STATUS_RX_LANES n = rx % 256 := by
  unfold Dev.partnered
  rw [Dev.pget_pput_beside _ _ _ (by decide), Dev.pget_pput_beside _ _ _ (by decide)]
  exact Dev.pget_pput_same _ _ _ _ (by decide)

theorem Dev.partnered_txLanes : (d.partnered n serial chip pport rx tx).pget F.FAB_PORT_STATUS_TX_LANES n = tx % 256 := by
  unfold Dev.partnered
  rw [Dev.pget_pput_beside _ _ _ (by decide)]
  exact Dev.pget_pput_same _ _ _ _ (by decide)

theorem Dev.partnered_serial (h : serial < 2 ^ 64) : (d.partnered n serial chip pport rx tx).pget F.FAB_PORT_PSERIAL_V n = serial := by
  unfold Dev.partnered
  rw [Dev.pget_pput_other _ _ _ (by decide) (by decide) (by decide), Dev.pget_pput_other _ _ _ (by decide) (by decide) (by decide),
    Dev.pget_pput_other _ _ _ (by decide) (by decide) (by decide), Dev.pget_pput_other _ _ _ (by decide) (by decide) (by decide),
    Dev.pget_pput_other _ _ _ (by decide) (by decide) (by decide), Dev.pget_pput_same _ _ _ _ (by decide)]
  exact Nat.mod_eq_of_lt h

theorem Dev.partnered_dev {g : Fld} (hg : g.reg.addr 0 0 < 0x04000000) : (d.partnered n serial chip pport rx tx).get g = d.get g := by
  unfold Dev.partnered
  rw [Dev.get_pput_dev _ _ _ _ (by decide) hg, Dev.get_pput_dev _ _ _ _ (by decide) hg, Dev.get_pput_dev _ _ _ _ (by decide) hg,
    Dev.get_pput_dev _ _ _ _ (by decide) hg, Dev.get_pput_dev _ _ _ _ (by decide) hg, Dev.get_pput_dev _ _ _ _ (by decide) hg]

end

end Sys2Proof.Machine

namespace Sys2Proof.Machine

/-- A retraining port is UP again, the lanes it lost recorded. -/
def Dev.backUp (d : Dev) (n : Nat) (dropped : List Nat) : Dev :=
  let e := d.each dropped (fun d _ => d.record .fabLaneDropped (evSource (n / 4) 10 n) [])
  (e.setPort n { e.port n with fails := 0, resend := (e.port n).retry }).setPortState n 3

theorem Dev.backUp_keeps (d : Dev) (n : Nat) (dropped : List Nat) : d.KeepsBytes (d.backUp n dropped) (stateFields n) ∧ (d.backUp n dropped).portState n = 3 ∧
    (d.backUp n dropped).port n = { d.port n with fails := 0, resend := (d.port n).retry } := by
  have recorded := Dev.each_inv (P := fun e => d.KeepsBytes e (sideFields n) ∧ e.fab = d.fab) (fun d _ => d.record .fabLaneDropped (evSource (n / 4) 10 n) [])
    (fun e _ he => by
      obtain ⟨hk, hf⟩ := e.record_keeps n .fabLaneDropped (evSource (n / 4) 10 n) [] (by decide) (by decide)
      exact ⟨he.1.trans hk, hf.trans he.2⟩) dropped ⟨Dev.KeepsBytes.refl d _, rfl⟩
  unfold Dev.backUp
  generalize d.each dropped _ = e at recorded ⊢
  obtain ⟨hk, hf⟩ := recorded
  dsimp only
  rw [Dev.port_fab hf n]
  exact ⟨((hk.mono (sideFields_subset n)).setPort n _).setPortState 3, Dev.portState_setPortState _ n 3 (by decide), Dev.port_setPort_same e n _⟩

/-- What the lane error window leaves of a port. -/
theorem Port.aged_kept (t : Port) (w : Nat) : (t.aged w).lock = t.lock ∧ (t.aged w).param = t.param ∧ (t.aged w).outTx = t.outTx := by
  unfold Port.aged
  split <;> exact ⟨rfl, rfl, rfl⟩

/-- The lanes of a port that has trained which stood before and do not now. -/
def Dev.lanesLost (d : Dev) (n rx tx : Nat) : List Nat :=
  (List.range 8).filter (fun l => (bitOf (d.pget F.FAB_PORT_STATUS_RX_LANES n) l && !bitOf rx l) || (bitOf (d.pget F.FAB_PORT_STATUS_TX_LANES n) l && !bitOf tx l))

/-- A port that trained on lanes enough: its partner recorded, the lanes left out kept. -/
def Dev.trained (d : Dev) (n serial chip pport rx tx : Nat) : Dev :=
  (d.partnered n serial chip pport rx tx).setPort n { (d.port n).aged d.laneWindow with outRx := 255 ^^^ rx, outTx := 255 ^^^ tx, retryWait := false }

section
variable (s : State) {n : Nat} (hn : n < 16)
include hn

theorem exec_portTrainingDone_idle (h : (s.dev.port n).lock = none ∨ (s.dev.port n).param = none ∨ (s.dev.portState n ≠ 1 ∧ s.dev.portState n ≠ 4)) :
    exec (.portTrainingDone n) s = .next s := by
  obtain ⟨hlock, hparam, _⟩ := (s.dev.port n).aged_kept s.dev.laneWindow
  refine (s.runOn_next _ (decide_eq_true hn)).trans ?_
  dsimp only
  rw [hlock, hparam]
  split
  · next lock param =>
    rw [lock, param] at h
    simp only [reduceCtorEq, false_or] at h
    rw [if_pos (by simp [h])]
  · rfl

theorem exec_portTrainingDone {rx serial chip pport tx : Nat} (hst : s.dev.portState n = 1 ∨ s.dev.portState n = 4) (hl : (s.dev.port n).lock = some rx)
    (hp : (s.dev.port n).param = some (serial, chip, pport, tx)) :
    let rx' := ((s.dev.port n).aged s.dev.laneWindow).lanes (s.dev.portState n = 4)
    let tx' := (tx % 256) &&& (255 ^^^ (s.dev.port n).outTx)
    let x := s.dev.trained n serial chip pport rx' tx'
    exec (.portTrainingDone n) s = .next (s.withDev (if serial = s.dev.serial then s.dev.trainingFails n 3
      else if popCount 8 rx' < 6 || popCount 8 tx' < 6 then s.dev.trainingFails n 2
      else if s.dev.portState n = 1 then x.beginKeying n else x.backUp n (s.dev.lanesLost n rx' tx'))) := by
  obtain ⟨hlock, hparam, hout⟩ := (s.dev.port n).aged_kept s.dev.laneWindow
  intro rx' tx' x
  refine (s.runOn_next _ (decide_eq_true hn)).trans ?_
  dsimp only
  split
  · next _ _ _ _ _ _ param =>
    obtain ⟨rfl, rfl, rfl, rfl⟩ : _ = serial ∧ _ = chip ∧ _ = pport ∧ _ = tx := by simpa using (param.symm.trans hparam).trans hp
    rw [if_neg (by rcases hst with h | h <;> simp [h]), hout]
    rfl
  · next none =>
    exact absurd (hparam.trans hp) (none rx serial chip pport tx (hlock.trans hl))

end

/-! ### What a port shows once it has trained -/

/-- A field of port n's registers that a change of its state leaves alone. -/
theorem Fld.apart_stateFields {f : Fld} {n : Nat} (hn : n < 16) (hf : f.reg.ofPort = true)
    (hs : f.reg.info.base ≠ Reg.fabPortStatus.info.base ∨ (f.reg = .fabPortStatus ∧ 2 < f.lo)) : ∀ x ∈ stateFields n, f.apart (n / 4) (n % 4) x := by
  intro x hx
  obtain rfl | hx := List.mem_cons.1 hx
  · obtain hb | ⟨hr, hlo⟩ := hs
    · exact Fld.apart_port n hf (by decide) hb
    · exact Fld.apart_beside _ _ hr (.inl hlo)
  · exact Fld.apart_sideFields n hn hf x hx

theorem Fld.apart_keyingFields {f : Fld} (n : Nat) (hf : f.reg.ofPort = true)
    (hs : f.reg.info.base ≠ Reg.fabPortStatus.info.base ∨ (f.reg = .fabPortStatus ∧ 6 < f.lo)) : ∀ x ∈ keyingFields n, f.apart (n / 4) (n % 4) x := by
  intro x hx
  simp only [keyingFields, List.mem_cons, List.not_mem_nil, or_false] at hx
  obtain hb | ⟨hr, hlo⟩ := hs
  · obtain rfl | rfl := hx <;> exact Fld.apart_port n hf (by decide) hb
  · obtain rfl | rfl := hx
    · exact Fld.apart_beside _ _ hr (.inl hlo)
    · exact Fld.apart_beside _ _ hr (.inl (Nat.lt_trans (by decide) hlo))

section
variable {d e : Dev} {n serial chip pport rx tx : Nat} {fs : List (Fld × Nat × Nat)}

theorem Dev.trained_keeps (d : Dev) (n serial chip pport rx tx : Nat) : d.KeepsBytes (d.trained n serial chip pport rx tx) (partnerFields n) := by
  unfold Dev.trained
  exact (d.partnered_keeps n serial chip pport rx tx).setPort n _

theorem Dev.trained_get (d : Dev) (n serial chip pport rx tx : Nat) (f : Fld) (u i : Nat) :
    (d.trained n serial chip pport rx tx).get f u i = (d.partnered n serial chip pport rx tx).get f u i := by
  unfold Dev.trained
  rw [Dev.get_setPort]

theorem Dev.trained_pget (d : Dev) (n serial chip pport rx tx : Nat) (f : Fld) :
    (d.trained n serial chip pport rx tx).pget f n = (d.partnered n serial chip pport rx tx).pget f n := Dev.trained_get ..

/-- The lanes and the partner stand after an operation on fields apart. -/
theorem Dev.trained_shown (hk : (d.trained n serial chip pport rx tx).KeepsBytes e fs)
    (ha : ∀ f : Fld, f = F.FAB_PORT_STATUS_RX_LANES ∨ f = F.FAB_PORT_STATUS_TX_LANES ∨ f = F.FAB_PORT_PSERIAL_V → ∀ x ∈ fs, f.apart (n / 4) (n % 4) x) :
    d.sameBytes e ∧ e.pget F.FAB_PORT_STATUS_RX_LANES n = rx % 256 ∧ e.pget F.FAB_PORT_STATUS_TX_LANES n = tx % 256 ∧
      (serial < 2 ^ 64 → e.pget F.FAB_PORT_PSERIAL_V n = serial) := by
  have partner := d.trained_keeps n serial chip pport rx tx
  refine ⟨Dev.sameBytes_of (hk.mem.trans partner.mem) (hk.cores.trans partner.cores), ?_, ?_, fun h => ?_⟩
  · rw [hk.pget (by decide) (ha _ (.inl rfl)), Dev.trained_pget, Dev.partnered_rxLanes]
  · rw [hk.pget (by decide) (ha _ (.inr (.inl rfl))), Dev.trained_pget, Dev.partnered_txLanes]
  · rw [hk.pget (by decide) (ha _ (.inr (.inr rfl))), Dev.trained_pget, Dev.partnered_serial _ _ _ _ _ _ _ h]

/-- A port that has trained in TRAINING goes to KEYING. -/
theorem Dev.trained_beginKeying : let e := (d.trained n serial chip pport rx tx).beginKeying n
    d.sameBytes e ∧ e.pget F.FAB_PORT_STATUS_RX_LANES n = rx % 256 ∧ e.pget F.FAB_PORT_STATUS_TX_LANES n = tx % 256 ∧
      (serial < 2 ^ 64 → e.pget F.FAB_PORT_PSERIAL_V n = serial) ∧ e.portState n = 2 ∧ e.pget F.FAB_PORT_STATUS_KEY_PHASE n = 0 ∧
      (e.port n).key.installed = false ∧ (e.port n).key.taken = d.flag F.SEC_ID_STATUS_READY ∧
      (d.flag F.SEC_ID_STATUS_READY = true → serial < 2 ^ 64 → (e.port n).key.initiator = decide (d.serial < serial)) := by
  intro e
  obtain ⟨hk, hstate, hphase, hinst, htaken, _, hini⟩ := (d.trained n serial chip pport rx tx).beginKeying_keeps n
  have ready : (d.trained n serial chip pport rx tx).flag F.SEC_ID_STATUS_READY = d.flag F.SEC_ID_STATUS_READY := by
    unfold Dev.flag
    rw [Dev.trained_get, Dev.partnered_dev _ _ _ _ _ _ _ (by decide)]
  have own : (d.trained n serial chip pport rx tx).serial = d.serial := by
    unfold Dev.serial
    rw [Dev.trained_get, Dev.partnered_dev _ _ _ _ _ _ _ (by decide)]
  have peer (h : serial < 2 ^ 64) : (d.trained n serial chip pport rx tx).pget F.FAB_PORT_PSERIAL_V n = serial := by
    rw [Dev.trained_pget, Dev.partnered_serial _ _ _ _ _ _ _ h]
  obtain ⟨hbytes, hrx, htx, hser⟩ := Dev.trained_shown hk (fun f hf => by
    obtain rfl | rfl | rfl := hf
    · exact Fld.apart_keyingFields n (by decide) (.inr ⟨rfl, by decide⟩)
    · exact Fld.apart_keyingFields n (by decide) (.inr ⟨rfl, by decide⟩)
    · exact Fld.apart_keyingFields n (by decide) (.inl (by decide)))
  exact ⟨hbytes, hrx, htx, hser, hstate, hphase, hinst, htaken.trans ready, fun h hs => by rw [hini (ready.trans h), own, peer hs]⟩

/-- A port that has trained in RETRAINING is UP again. -/
theorem Dev.trained_backUp (hn : n < 16) (dropped : List Nat) : let e := (d.trained n serial chip pport rx tx).backUp n dropped
    d.sameBytes e ∧ e.pget F.FAB_PORT_STATUS_RX_LANES n = rx % 256 ∧ e.pget F.FAB_PORT_STATUS_TX_LANES n = tx % 256 ∧
      (serial < 2 ^ 64 → e.pget F.FAB_PORT_PSERIAL_V n = serial) ∧ e.portState n = 3 ∧ (e.port n).fails = 0 ∧ (e.port n).resend = (e.port n).retry := by
  intro e
  obtain ⟨hk, hstate, hport⟩ := (d.trained n serial chip pport rx tx).backUp_keeps n dropped
  obtain ⟨hbytes, hrx, htx, hser⟩ := Dev.trained_shown hk (fun f hf => by
    obtain rfl | rfl | rfl := hf
    · exact Fld.apart_stateFields hn (by decide) (.inr ⟨rfl, by decide⟩)
    · exact Fld.apart_stateFields hn (by decide) (.inr ⟨rfl, by decide⟩)
    · exact Fld.apart_stateFields hn (by decide) (.inl (by decide)))
  exact ⟨hbytes, hrx, htx, hser, hstate, by rw [hport], by rw [hport]⟩

end

end Sys2Proof.Machine

namespace Sys2Proof.Machine

/-! ### The commands of a port's state (Table 11-2) -/

section
variable (d : Dev) (n : Nat)

/-- A port that is enabled trains, its REASON cleared. -/
theorem Dev.enabled_shown (t : Port) : (((d.setPort n t).pput F.FAB_PORT_STATUS_REASON n 0).setPortState n 1).portState n = 1 ∧
    (((d.setPort n t).pput F.FAB_PORT_STATUS_REASON n 0).setPortState n 1).pget F.FAB_PORT_STATUS_REASON n = 0 ∧
    (((d.setPort n t).pput F.FAB_PORT_STATUS_REASON n 0).setPortState n 1).pget F.FAB_PORT_CTL_ENABLE n = d.pget F.FAB_PORT_CTL_ENABLE n ∧
    (((d.setPort n t).pput F.FAB_PORT_STATUS_REASON n 0).setPortState n 1).port n = t ∧
    d.sameBytes (((d.setPort n t).pput F.FAB_PORT_STATUS_REASON n 0).setPortState n 1) := by
  refine ⟨Dev.portState_setPortState _ n 1 (by decide), ?_, ?_, Dev.port_setPort_same d n t, Dev.sameBytes_of rfl rfl⟩
  · unfold Dev.setPortState
    rw [Dev.pget_pput_beside _ _ _ (by decide)]
    exact Dev.pget_pput_same _ _ _ _ (by decide)
  · unfold Dev.setPortState
    rw [Dev.pget_pput_other _ _ _ (by decide) (by decide) (by decide), Dev.pget_pput_other _ _ _ (by decide) (by decide) (by decide)]
    rfl

/-- Any port can be taken out of service. -/
theorem Dev.portOff_keeps (hn : n < 16) : d.KeepsBytes (if d.portState n = 5 then d.setPortState n 0 else d.portLeave n 0) (stateFields n) ∧
    (if d.portState n = 5 then d.setPortState n 0 else d.portLeave n 0).portState n = 0 := by
  split
  · exact ⟨(Dev.KeepsBytes.refl d _).setPortState 0, Dev.portState_setPortState _ n 0 (by decide)⟩
  · exact d.portLeave_keeps n 0 hn (by decide)

theorem Dev.trainingFails_training (reason : Nat) (hn : n < 16) (hr : reason < 16) (h : d.portState n = 1) :
    if (d.port n).fails < 2 then (d.trainingFails n reason).portState n = 1 ∧ ((d.trainingFails n reason).port n).fails = (d.port n).fails + 1 ∧
        ((d.trainingFails n reason).port n).retryWait = true
      else (d.trainingFails n reason).portState n = 5 ∧ (d.trainingFails n reason).pget F.FAB_PORT_STATUS_REASON n = reason := by
  unfold Dev.trainingFails
  rw [if_pos h]
  split
  · next hf =>
    rw [if_neg (by dsimp only; omega), Dev.port_setPort_same]
    exact ⟨h, rfl, rfl⟩
  · next hf =>
    rw [if_pos (by dsimp only; omega)]
    exact Dev.portFails_keeps _ n reason .fabPortDown hn (by omega) (by decide) (by decide)

theorem Dev.trainingFails_retraining (reason : Nat) (hn : n < 16) (h : d.portState n = 4) :
    if (d.port n).fails < 2 then (d.trainingFails n reason).portState n = 4 ∧ ((d.trainingFails n reason).port n).fails = (d.port n).fails + 1
      else (d.trainingFails n reason).portState n = 5 ∧ (d.trainingFails n reason).pget F.FAB_PORT_STATUS_REASON n = 6 := by
  have not1 : ¬ d.portState n = 1 := by omega
  unfold Dev.trainingFails
  dsimp only
  rw [if_neg not1, if_pos h]
  split
  · next hf =>
    rw [if_neg (by omega), Dev.port_setPort_same]
    exact ⟨h, rfl⟩
  · next hf =>
    rw [if_pos (by omega)]
    exact Dev.portFails_keeps _ n 6 .fabPortDown hn (by decide) (by decide) (by decide)

theorem Dev.trainingFails_other (reason : Nat) (h1 : d.portState n ≠ 1) (h4 : d.portState n ≠ 4) : d.trainingFails n reason = d := by
  unfold Dev.trainingFails
  rw [if_neg h1, if_neg h4]

end

section
variable (s : State) {n : Nat} (hn : n < 16)
include hn

theorem exec_portEnable_disabled (hs : s.dev.noSource = false) (h : s.dev.portState n = 0) : exec (.portEnable n) s =
    .next (s.withDev ((((s.dev.pput F.FAB_PORT_CTL_ENABLE n 1).setPort n
      { s.dev.port n with fails := 0, retryWait := false, outRx := 0, outTx := 0, lock := none, param := none }).pput F.FAB_PORT_STATUS_REASON n 0).setPortState n 1)) := by
  have state : (s.dev.pput F.FAB_PORT_CTL_ENABLE n 1).portState n = 0 := (Dev.pget_pput_other s.dev n 1 (by decide) (by decide) (by decide)).trans h
  have source : (s.dev.pput F.FAB_PORT_CTL_ENABLE n 1).noSource = false := by
    unfold Dev.noSource
    rw [Dev.get_pput_dev _ _ _ _ (by decide) (by decide)]
    exact hs
  refine (s.runOn_next _ (decide_eq_true hn)).trans ?_
  dsimp only
  rw [if_pos (by rw [state, source]; rfl)]
  rfl

theorem exec_portEnable_other (h : s.dev.noSource = true ∨ s.dev.portState n ≠ 0) : exec (.portEnable n) s =
    .next (s.withDev (s.dev.pput F.FAB_PORT_CTL_ENABLE n 1)) := by
  have state : (s.dev.pput F.FAB_PORT_CTL_ENABLE n 1).portState n = s.dev.portState n := Dev.pget_pput_other s.dev n 1 (by decide) (by decide) (by decide)
  have source : (s.dev.pput F.FAB_PORT_CTL_ENABLE n 1).noSource = s.dev.noSource := by
    unfold Dev.noSource
    rw [Dev.get_pput_dev _ _ _ _ (by decide) (by decide)]
  refine (s.runOn_next _ (decide_eq_true hn)).trans ?_
  dsimp only
  rw [if_neg (by rw [state, source]; rcases h with h | h <;> simp [h])]

theorem exec_portDisable : exec (.portDisable n) s = .next (s.withDev (
    let d := s.dev.pput F.FAB_PORT_CTL_ENABLE n 0
    let e := (if d.portState n = 5 then d.setPortState n 0 else d.portLeave n 0).dropDelay n
    e.setPort n { e.port n with outRx := 0, outTx := 0, fails := 0, retryWait := false })) := s.runOn_next _ (decide_eq_true hn)

theorem exec_portTrainingRetry : exec (.portTrainingRetry n) s = .next (s.withDev (s.dev.setPort n { s.dev.port n with retryWait := false })) :=
  s.runOn_next _ (decide_eq_true hn)

/-- Both commands that retrain a port do so by `Dev.startRetrain`. -/
theorem exec_portRetrain {i : Instr} (hi : i = .portRetrain n false ∨ i = .portRetrainCmd n) : exec i s = .next (s.withDev (s.dev.startRetrain n)) := by
  obtain rfl | rfl := hi
  · exact s.runOn_next _ (decide_eq_true hn)
  · exact s.runOn_next _ (decide_eq_true hn)

theorem exec_portRetrain_lockLost : exec (.portRetrain n true) s = .next (s.withDev ((s.dev.startRetrain n).clockEvent (·.receiverLock false n false false))) :=
  s.runOn_next _ (decide_eq_true hn)

theorem exec_portTrainingFail (reason : Nat) : exec (.portTrainingFail n reason) s = .next (s.withDev (s.dev.trainingFails n reason)) :=
  s.runOn_next _ (decide_eq_true hn)

theorem exec_keyingTimeout : exec (.keyingTimeout n) s =
    .next (s.withDev (if s.dev.portState n = 2 && (s.dev.port n).key.taken then s.dev.portFails n 5 .fabAuthFail else s.dev)) := s.runOn_next _ (decide_eq_true hn)

theorem exec_keyx (msg idx cnt : Nat) (bs : List Byte) : exec (.keyx n msg idx cnt bs) s = .next (s.withDev (
    if s.dev.portState n = 2 || (s.dev.portState n = 3 && (msg = 1 || (s.dev.port n).key.rekey)) then
      let got := if idx = 0 then bs else (s.dev.port n).key.rxMsg ++ bs
      let d := s.dev.setPort n { s.dev.port n with key := { (s.dev.port n).key with rxMsg := got } }
      if idx + 1 = cnt then (if s.dev.portState n = 2 then d.kxInKeying n msg got else d.kxInUp n msg got) else d
    else s.dev.violation n 0x09 noSrc)) := s.runOn_next _ (decide_eq_true hn)

theorem exec_rekeyStart : exec (.rekeyStart n) s = .next (s.withDev (
    if s.dev.portUp n && 2 ^ 31 ≤ (s.dev.port n).key.ctrTx && !(s.dev.port n).key.rekey then
      (s.dev.fresh 64).2.setPort n ({ s.dev.port n with key := { (s.dev.port n).key with rekey := true, ek := Config.kemKey (s.dev.fresh 64).1 } }.sendKx 1
        (Config.kemKey (s.dev.fresh 64).1) true)
    else s.dev)) := s.runOn_next _ (decide_eq_true hn)

theorem exec_keyExhausted : exec (.keyExhausted n) s = .next (s.withDev (
    if s.dev.portUp n && 2 ^ 32 - 1 ≤ (s.dev.port n).key.ctrTx then s.dev.rekeyFull n else s.dev)) := s.runOn_next _ (decide_eq_true hn)

theorem exec_quarantineEnd : exec (.quarantineEnd n) s = .next (s.withDev (
    if s.dev.pget F.FAB_PORT_STATUS_QUAR n ≠ 0 && (s.dev.port n).quarEnd ≤ s.dev.beat then
      (s.dev.setPort n { s.dev.port n with liveFrom := if s.dev.portUp n || s.dev.portState n = 4 then some s.dev.now else none }).pput F.FAB_PORT_STATUS_QUAR n 0
    else s.dev)) := s.runOn_next _ (decide_eq_true hn)

theorem exec_keyxResend_none (h : (s.dev.port n).key.unanswered = none) : exec (.keyxResend n) s = .next s := by
  refine (s.runOn_next _ (decide_eq_true hn)).trans ?_
  dsimp only
  rw [h]

theorem exec_keyxResend_some {msg : Nat} (h : (s.dev.port n).key.unanswered = some msg) : exec (.keyxResend n) s = .next (s.withDev (s.dev.setPort n
    ((s.dev.port n).sendKx msg (if (s.dev.port n).key.rekey then (s.dev.port n).key.ek else (s.dev.port n).key.message msg) true))) := by
  refine (s.runOn_next _ (decide_eq_true hn)).trans ?_
  dsimp only
  rw [h]

end

/-! ### The clauses of Table 11-2 -/

section
variable (s : State) {n : Nat} (hn : n < 16)
include hn

/-- PORT_ENABLE and PORT_DISABLE. -/
theorem portEnable_portDisable :
    (s.dev.noSource = false → s.dev.portState n = 0 → ∃ t, exec (.portEnable n) s = .next t ∧ t.pending = s.pending ∧ t.dev.portState n = 1 ∧
      t.dev.pget F.FAB_PORT_CTL_ENABLE n = 1 ∧ t.dev.pget F.FAB_PORT_STATUS_REASON n = 0 ∧ (t.dev.port n).fails = 0 ∧ (t.dev.port n).lock = none ∧
      (t.dev.port n).param = none ∧ s.dev.sameBytes t.dev) ∧
    (s.dev.noSource = true ∨ s.dev.portState n ≠ 0 → ∃ t, exec (.portEnable n) s = .next t ∧ t.pending = s.pending ∧ t.dev.pget F.FAB_PORT_CTL_ENABLE n = 1 ∧
      t.dev = { s.dev with regs := t.dev.regs } ∧ s.dev.onlyFields t.dev [(F.FAB_PORT_CTL_ENABLE, n / 4, n % 4)]) ∧
    (∃ t, exec (.portDisable n) s = .next t ∧ t.pending = s.pending ∧ t.dev.portState n = 0 ∧ t.dev.pget F.FAB_PORT_CTL_ENABLE n = 0 ∧ s.dev.sameBytes t.dev) := by
  have enabled (v : Nat) (hv : v < 2) : (s.dev.pput F.FAB_PORT_CTL_ENABLE n v).pget F.FAB_PORT_CTL_ENABLE n = v :=
    (Dev.pget_pput_same s.dev n F.FAB_PORT_CTL_ENABLE v (by decide)).trans (Nat.mod_eq_of_lt hv)
  refine ⟨fun hs h0 => ?_, fun h => ?_, ?_⟩
  · obtain ⟨hstate, hreason, henable, hport, hbytes⟩ := (s.dev.pput F.FAB_PORT_CTL_ENABLE n 1).enabled_shown n
      { s.dev.port n with fails := 0, retryWait := false, outRx := 0, outTx := 0, lock := none, param := none }
    exact ⟨_, exec_portEnable_disabled s hn hs h0, rfl, hstate, henable.trans (enabled 1 (by decide)), hreason, congrArg Port.fails hport, congrArg Port.lock hport,
      congrArg Port.param hport, hbytes⟩
  · exact ⟨_, exec_portEnable_other s hn h, rfl, enabled 1 (by decide), rfl, Dev.onlyFields_put _ _ _ _ _ (by decide)⟩
  · have hexec := exec_portDisable s hn
    have start : s.dev.KeepsBytes (s.dev.pput F.FAB_PORT_CTL_ENABLE n 0) [(F.FAB_PORT_CTL_ENABLE, n / 4, n % 4)] :=
      (Dev.KeepsBytes.refl s.dev _).put _ _ _ _ (by decide) (by simp)
    have ctl := enabled 0 (by decide)
    dsimp only at hexec
    generalize s.dev.pput F.FAB_PORT_CTL_ENABLE n 0 = d at hexec start ctl
    obtain ⟨off, state⟩ := d.portOff_keeps n hn
    generalize (if d.portState n = 5 then d.setPortState n 0 else d.portLeave n 0) = e at hexec off state
    obtain ⟨dropped, _⟩ := e.dropDelay_keeps n
    have done := dropped.setPort n { (e.dropDelay n).port n with outRx := 0, outTx := 0, fails := 0, retryWait := false }
    refine ⟨_, hexec, rfl, (done.portState hn).trans state, ?_, ?_⟩
    · rw [← ctl]
      exact ((off.trans (done.mono (sideFields_subset n)))).pget (by decide) (Fld.apart_stateFields hn (by decide) (.inl (by decide)))
    · exact Dev.sameBytes_of (done.mem.trans (off.mem.trans start.mem)) (done.cores.trans (off.cores.trans start.cores))

/-- PORT_TRAINING_RETRY, PORT_RETRAIN and PORT_RETRAIN_CMD. -/
theorem portRetry_portRetrain :
    (∃ t, exec (.portTrainingRetry n) s = .next t ∧ t.pending = s.pending ∧ t.dev.port n = { s.dev.port n with retryWait := false } ∧ t.dev.regs = s.dev.regs ∧ s.dev.sameBytes t.dev) ∧
    (∀ i, i = .portRetrain n false ∨ i = .portRetrainCmd n →
      (s.dev.portState n = 3 → ∃ t, exec i s = .next t ∧ t.pending = s.pending ∧ t.dev.portState n = 4 ∧ (t.dev.port n).retry = (s.dev.port n).retry ∧ s.dev.sameBytes t.dev) ∧
      (s.dev.portState n ≠ 3 → exec i s = .next s)) := by
  refine ⟨⟨_, exec_portTrainingRetry s hn, rfl, Dev.port_setPort_same _ _ _, rfl, Dev.sameBytes_of rfl rfl⟩, fun i hi => ⟨fun h3 => ?_, fun h3 => ?_⟩⟩
  · obtain ⟨hk, hstate, hport⟩ := s.dev.startRetrain_up n h3
    exact ⟨_, exec_portRetrain s hn hi, rfl, hstate, (congrArg Port.retry hport).trans rfl, hk.sameBytes⟩
  · rw [exec_portRetrain s hn hi, Dev.startRetrain_other _ _ h3]

/-- PORT_TRAINING_FAIL and KEYING_TIMEOUT. -/
theorem portTrainingFail_keyingTimeout :
    (∀ reason, reason < 16 → (s.dev.portState n = 1 → ∃ t, exec (.portTrainingFail n reason) s = .next t ∧ t.pending = s.pending ∧
        (if (s.dev.port n).fails < 2 then t.dev.portState n = 1 ∧ (t.dev.port n).fails = (s.dev.port n).fails + 1 ∧ (t.dev.port n).retryWait = true
          else t.dev.portState n = 5 ∧ t.dev.pget F.FAB_PORT_STATUS_REASON n = reason)) ∧
      (s.dev.portState n = 4 → ∃ t, exec (.portTrainingFail n reason) s = .next t ∧ t.pending = s.pending ∧
        (if (s.dev.port n).fails < 2 then t.dev.portState n = 4 ∧ (t.dev.port n).fails = (s.dev.port n).fails + 1
          else t.dev.portState n = 5 ∧ t.dev.pget F.FAB_PORT_STATUS_REASON n = 6)) ∧
      (s.dev.portState n ≠ 1 → s.dev.portState n ≠ 4 → exec (.portTrainingFail n reason) s = .next s)) ∧
    (s.dev.portState n = 2 → (s.dev.port n).key.taken = true →
      ∃ t, exec (.keyingTimeout n) s = .next t ∧ t.pending = s.pending ∧ t.dev.portState n = 5 ∧ t.dev.pget F.FAB_PORT_STATUS_REASON n = 5) ∧
    (s.dev.portState n ≠ 2 ∨ (s.dev.port n).key.taken = false → exec (.keyingTimeout n) s = .next s) := by
  refine ⟨fun reason hr => ⟨fun h => ⟨_, exec_portTrainingFail s hn reason, rfl, s.dev.trainingFails_training n reason hn hr h⟩,
    fun h => ⟨_, exec_portTrainingFail s hn reason, rfl, s.dev.trainingFails_retraining n reason hn h⟩, fun h1 h4 => ?_⟩, fun h2 ht => ?_, fun h => ?_⟩
  · rw [exec_portTrainingFail s hn, Dev.trainingFails_other _ _ _ h1 h4]
  · have hexec := exec_keyingTimeout s hn
    rw [if_pos (by simp [h2, ht])] at hexec
    exact ⟨_, hexec, rfl, s.dev.portFails_keeps n 5 .fabAuthFail hn (by decide) (by decide) (by decide)⟩
  · rw [exec_keyingTimeout s hn, if_neg (by rcases h with h | h <;> simp [h])]

/-- PORT_TRAINING_DONE of a port whose partner is known. -/
theorem portTrainingDone_partner {rx serial chip pport tx : Nat} (hst : s.dev.portState n = 1 ∨ s.dev.portState n = 4) (hl : (s.dev.port n).lock = some rx)
    (hp : (s.dev.port n).param = some (serial, chip, pport, tx)) :
    let rx' := ((s.dev.port n).aged s.dev.laneWindow).lanes (s.dev.portState n = 4)
    let tx' := (tx % 256) &&& (255 ^^^ (s.dev.port n).outTx)
    (serial = s.dev.serial → exec (.portTrainingDone n) s = .next (s.withDev (s.dev.trainingFails n 3))) ∧
    (serial ≠ s.dev.serial → popCount 8 rx' < 6 ∨ popCount 8 tx' < 6 → exec (.portTrainingDone n) s = .next (s.withDev (s.dev.trainingFails n 2))) ∧
    (serial ≠ s.dev.serial → 6 ≤ popCount 8 rx' → 6 ≤ popCount 8 tx' → ∃ t, exec (.portTrainingDone n) s = .next t ∧ t.pending = s.pending ∧ s.dev.sameBytes t.dev ∧
      t.dev.pget F.FAB_PORT_STATUS_RX_LANES n = rx' % 256 ∧ t.dev.pget F.FAB_PORT_STATUS_TX_LANES n = tx' % 256 ∧ (serial < 2 ^ 64 → t.dev.pget F.FAB_PORT_PSERIAL_V n = serial) ∧
      (s.dev.portState n = 1 → t.dev.portState n = 2 ∧ t.dev.pget F.FAB_PORT_STATUS_KEY_PHASE n = 0 ∧ (t.dev.port n).key.installed = false ∧
        (t.dev.port n).key.taken = s.dev.flag F.SEC_ID_STATUS_READY ∧
        (s.dev.flag F.SEC_ID_STATUS_READY = true → serial < 2 ^ 64 → (t.dev.port n).key.initiator = decide (s.dev.serial < serial))) ∧
      (s.dev.portState n = 4 → t.dev.portState n = 3 ∧ (t.dev.port n).fails = 0 ∧ (t.dev.port n).resend = (t.dev.port n).retry)) := by
  intro rx' tx'
  have hexec := exec_portTrainingDone s hn hst hl hp
  dsimp only at hexec
  refine ⟨fun h => ?_, fun h hfew => ?_, fun h hrx htx => ?_⟩
  · rw [hexec, if_pos h]
  · rw [hexec, if_neg h, if_pos (by simpa using hfew)]
  · rw [if_neg h, if_neg (by simpa using ⟨hrx, htx⟩)] at hexec
    obtain h1 | h4 := hst
    · rw [if_pos h1] at hexec
      obtain ⟨hbytes, hr, ht, hs, hstate, hphase, hinst, htaken, hini⟩ := Dev.trained_beginKeying (d := s.dev) (n := n) (serial := serial) (chip := chip) (pport := pport)
        (rx := rx') (tx := tx')
      exact ⟨_, hexec, rfl, hbytes, hr, ht, hs, fun _ => ⟨hstate, hphase, hinst, htaken, hini⟩, fun h4 => absurd (h1.symm.trans h4) (by decide)⟩
    · rw [if_neg (by rw [h4]; decide)] at hexec
      obtain ⟨hbytes, hr, ht, hs, hstate, hfails, hresend⟩ := Dev.trained_backUp (d := s.dev) (n := n) (serial := serial) (chip := chip) (pport := pport)
        (rx := rx') (tx := tx') hn (s.dev.lanesLost n rx' tx')
      exact ⟨_, hexec, rfl, hbytes, hr, ht, hs, fun h1 => absurd (h1.symm.trans h4) (by decide), fun _ => ⟨hstate, hfails, hresend⟩⟩

/-- KEYX by the state of its port. -/
theorem keyx_byState (msg idx cnt : Nat) (bs : List Byte) :
    let got := if idx = 0 then bs else (s.dev.port n).key.rxMsg ++ bs
    let d := s.dev.setPort n { s.dev.port n with key := { (s.dev.port n).key with rxMsg := got } }
    let inUp := s.dev.portState n = 3 ∧ (msg = 1 ∨ (s.dev.port n).key.rekey = true)
    (s.dev.portState n = 2 ∨ inUp → idx + 1 ≠ cnt → exec (.keyx n msg idx cnt bs) s = .next (s.withDev d)) ∧
    (s.dev.portState n = 2 → idx + 1 = cnt → exec (.keyx n msg idx cnt bs) s = .next (s.withDev (d.kxInKeying n msg got))) ∧
    (inUp → idx + 1 = cnt → exec (.keyx n msg idx cnt bs) s = .next (s.withDev (d.kxInUp n msg got))) ∧
    (s.dev.portState n ≠ 2 → ¬ inUp → exec (.keyx n msg idx cnt bs) s = .next (s.withDev (s.dev.violation n 0x09 0x1FFFF))) := by
  intro got d inUp
  have hexec := exec_keyx s hn msg idx cnt bs
  have taken (h : s.dev.portState n = 2 ∨ inUp) : (s.dev.portState n = 2 || (s.dev.portState n = 3 && (msg = 1 || (s.dev.port n).key.rekey))) = true := by
    simpa [inUp] using h
  refine ⟨fun h hc => ?_, fun h hc => ?_, fun h hc => ?_, fun h hno => ?_⟩
  · rw [hexec, if_pos (taken h)]
    dsimp only
    rw [if_neg hc]
  · rw [hexec, if_pos (taken (.inl h))]
    dsimp only
    rw [if_pos hc, if_pos h]
  · rw [hexec, if_pos (taken (.inr h))]
    dsimp only
    rw [if_pos hc, if_neg (by rw [h.1]; decide)]
  · rw [hexec, if_neg (by simpa [inUp, h] using hno), noSrc]

/-- REKEY_START and KEY_EXHAUSTED by the count of frames under the key. -/
theorem rekeyStart_keyExhausted :
    (s.dev.portState n = 3 → 2 ^ 31 ≤ (s.dev.port n).key.ctrTx → (s.dev.port n).key.rekey = false → ∃ t, exec (.rekeyStart n) s = .next t ∧ t.pending = s.pending ∧
      (t.dev.port n).key.rekey = true ∧ (t.dev.port n).key.unanswered = some 1 ∧ t.dev.regs = s.dev.regs ∧ s.dev.sameBytes t.dev) ∧
    (s.dev.portState n ≠ 3 ∨ (s.dev.port n).key.ctrTx < 2 ^ 31 ∨ (s.dev.port n).key.rekey = true → exec (.rekeyStart n) s = .next s) ∧
    (s.dev.portState n = 3 → 2 ^ 32 - 1 ≤ (s.dev.port n).key.ctrTx → ∃ t, exec (.keyExhausted n) s = .next t ∧ t.pending = s.pending ∧ t.dev.portState n = 2 ∧
      (t.dev.port n).retry = (s.dev.port n).retry ∧ s.dev.sameBytes t.dev) ∧
    (s.dev.portState n ≠ 3 ∨ (s.dev.port n).key.ctrTx < 2 ^ 32 - 1 → exec (.keyExhausted n) s = .next s) := by
  have up : s.dev.portUp n = decide (s.dev.portState n = 3) := rfl
  refine ⟨fun h3 hc hr => ?_, fun h => ?_, fun h3 hc => ?_, fun h => ?_⟩
  · have hexec := exec_rekeyStart s hn
    rw [if_pos (by rw [up, h3, hr, decide_eq_true hc]; rfl)] at hexec
    exact ⟨_, hexec, rfl, congrArg (·.key.rekey) (Dev.port_setPort_same _ n _), congrArg (·.key.unanswered) (Dev.port_setPort_same _ n _), rfl, Dev.sameBytes_of rfl rfl⟩
  · rw [exec_rekeyStart s hn, if_neg]
    obtain h | h | h := h
    · simp [up, h]
    · rw [decide_eq_false (Nat.not_le.2 h)]
      simp
    · simp [h]
  · have hexec := exec_keyExhausted s hn
    rw [if_pos (by rw [up, h3, decide_eq_true hc]; rfl)] at hexec
    obtain ⟨dropped, hfab⟩ := s.dev.dropDelay_keeps n
    obtain ⟨keyed, hstate, _, _, _, hretry, _⟩ := (s.dev.dropDelay n).beginKeying_keeps n
    exact ⟨_, hexec, rfl, hstate, hretry.trans (congrArg Port.retry (Dev.port_fab hfab n)),
      Dev.sameBytes_of (keyed.mem.trans dropped.mem) (keyed.cores.trans dropped.cores)⟩
  · rw [exec_keyExhausted s hn, if_neg]
    obtain h | h := h
    · simp [up, h]
    · rw [decide_eq_false (Nat.not_le.2 h)]
      simp

/-- QUARANTINE_END by the end of the quarantine. -/
theorem quarantineEnd_byEnd :
    (s.dev.pget F.FAB_PORT_STATUS_QUAR n ≠ 0 → (s.dev.port n).quarEnd ≤ s.dev.beat → ∃ t, exec (.quarantineEnd n) s = .next t ∧ t.pending = s.pending ∧
      t.dev.pget F.FAB_PORT_STATUS_QUAR n = 0 ∧ s.dev.onlyFields t.dev [(F.FAB_PORT_STATUS_QUAR, n / 4, n % 4)] ∧ s.dev.sameBytes t.dev) ∧
    (s.dev.pget F.FAB_PORT_STATUS_QUAR n = 0 ∨ s.dev.beat < (s.dev.port n).quarEnd → exec (.quarantineEnd n) s = .next s) := by
  refine ⟨fun hq he => ?_, fun h => ?_⟩
  · have hexec := exec_quarantineEnd s hn
    rw [if_pos (by simp [hq, he])] at hexec
    have keeps := ((Dev.KeepsBytes.refl s.dev [(F.FAB_PORT_STATUS_QUAR, n / 4, n % 4)]).setPort n
      { s.dev.port n with liveFrom := if s.dev.portUp n || s.dev.portState n = 4 then some s.dev.now else none }).put F.FAB_PORT_STATUS_QUAR (n / 4) (n % 4) 0 (by decide) (by simp)
    exact ⟨_, hexec, rfl, Dev.pget_pput_same _ n _ 0 (by decide), keeps.regs, keeps.sameBytes⟩
  · rw [exec_quarantineEnd s hn, if_neg]
    obtain h | h := h
    · simp [h]
    · simp [Nat.not_le.2 h]

end

/-- Settles O52: each command of Table 11-2 by the state of its port, the changes of state framed by `Dev.KeepsBytes`. -/
theorem portStates : Obligations.PortStates := by
  refine ⟨fun s n hn => ?_, fun s n hn h => exec_portTrainingDone_idle s hn h,
    fun s n rx serial chip pport tx hn hst hl hp => portTrainingDone_partner s hn hst hl hp, fun s n msg idx cnt bs hn => keyx_byState s hn msg idx cnt bs,
    fun s n hn => ⟨exec_keyxResend_none s hn, fun msg h => ⟨_, exec_keyxResend_some s hn h, rfl, ?_, rfl, Dev.sameBytes_of rfl rfl⟩⟩,
    fun s n hn => rekeyStart_keyExhausted s hn, fun s n hn => quarantineEnd_byEnd s hn⟩
  · obtain ⟨henable, hother, hdisable⟩ := portEnable_portDisable s hn
    obtain ⟨hretry, hretrain⟩ := portRetry_portRetrain s hn
    obtain ⟨hfail, htimeout, hnot⟩ := portTrainingFail_keyingTimeout s hn
    exact ⟨henable, hother, hdisable, hretry, hretrain, exec_portRetrain_lockLost s hn, hfail, htimeout, hnot⟩
  · exact congrArg Port.linkq (Dev.port_setPort_same _ n _)

end Sys2Proof.Machine

namespace Sys2Proof.Machine

/-! ## What HauneLink's failover leaves of the clocks (R48, R432) -/

/-- What tells that the clocks are in the safe state: no source, and a beat that is not VALID. -/
def clockParts (safe running : Bool) (regs : List (Nat × RegVal)) : Bool × Bool × Nat × Nat × Nat :=
  (safe, running, ({ regs := regs } : Dev).get F.BEAT_CLK_STATUS_SELECTED, ({ regs := regs } : Dev).get F.BEAT_CLK_STATUS_SAFE_SEEN,
    ({ regs := regs } : Dev).get F.BEAT_STATUS_VALID)

/-- The clocks' state as the device shows it. -/
def Dev.clocks (d : Dev) : Bool × Bool × Nat × Nat × Nat := clockParts d.clk.safe d.clk.running d.regs

/-- A field that is none of those of `clockParts`, whatever its unit and index. -/
def Fld.offClocks (f : Fld) : Bool :=
  f.fits && (decide (f.reg.info.scope ≠ .dev) || decide (0x200040 < f.reg.info.base) ||
    (decide (f.reg.info.stride = 0) && decide (f.reg.info.base ≠ 0x200040) && decide (f.reg.info.base ≠ 0x20000C)) ||
    (decide (f.reg = .beatStatus) && (F.BEAT_STATUS_VALID.hi < f.lo || f.hi < F.BEAT_STATUS_VALID.lo)))

section
variable (d : Dev)

@[simp] theorem Dev.clocks_mk (regs : List (Nat × RegVal)) (free out img) (clk : Clock) (pat fab flt hl mem sys num cores tolls posts pool col pwr boot) :
    (Dev.mk regs free out img clk pat fab flt hl mem sys num cores tolls posts pool col pwr boot).clocks = clockParts clk.safe clk.running regs := by rw [Dev.clocks]

@[simp] theorem clockParts_dev : clockParts d.clk.safe d.clk.running d.regs = d.clocks := by rw [Dev.clocks]

theorem Dev.clocks_eq : d.clocks = (d.clk.safe, d.clk.running, d.get F.BEAT_CLK_STATUS_SELECTED, d.get F.BEAT_CLK_STATUS_SAFE_SEEN, d.get F.BEAT_STATUS_VALID) := rfl

/-- A field that stands apart from the three that `Dev.clocks` shows. -/
theorem Dev.clocks_put_apart {f : Fld} {u i : Nat} (n : Nat) (hf : f.fits = true) (h1 : F.BEAT_CLK_STATUS_SELECTED.apart 0 0 (f, u, i))
    (h2 : F.BEAT_CLK_STATUS_SAFE_SEEN.apart 0 0 (f, u, i)) (h3 : F.BEAT_STATUS_VALID.apart 0 0 (f, u, i)) : (d.put f u i n).clocks = d.clocks := by
  have frame := d.onlyFields_put f u i n hf
  rw [Dev.clocks_eq, Dev.clocks_eq, frame _ 0 0 (by decide) (by simpa using h1), frame _ 0 0 (by decide) (by simpa using h2), frame _ 0 0 (by decide) (by simpa using h3)]
  rfl

theorem Reg.addr_notDev {r : Reg} (h : r.info.scope ≠ .dev) (u i : Nat) : 0x04000000 ≤ r.addr u i := by
  unfold Reg.addr
  dsimp only
  split
  · next hs => exact absurd hs h
  · omega
  · omega
  · omega

theorem Reg.addr_dev {r : Reg} (h : r.info.scope = .dev) (u i : Nat) : r.addr u i = r.info.base + i * r.info.stride := by
  unfold Reg.addr
  simp only [h]

theorem Dev.clocks_put_away {f : Fld} {u i : Nat} (n : Nat) (hf : f.fits = true) (status : f.reg.addr u i ≠ 0x200040) (beat : f.reg.addr u i ≠ 0x20000C) :
    (d.put f u i n).clocks = d.clocks :=
  d.clocks_put_apart n hf (.inl status.symm) (.inl status.symm) (.inl beat.symm)

@[simp] theorem Dev.clocks_put {f : Fld} (u i n : Nat) (h : f.offClocks = true) : (d.put f u i n).clocks = d.clocks := by
  simp only [Fld.offClocks, Bool.and_eq_true, Bool.or_eq_true, decide_eq_true_eq] at h
  obtain ⟨hf, h⟩ := h
  by_cases hd : f.reg.info.scope = .dev
  · have addr := Reg.addr_dev hd u i
    obtain ((hs | hb) | ⟨⟨hst, hb1⟩, hb2⟩) | ⟨hr, hbits⟩ := h
    · exact absurd hd hs
    · exact d.clocks_put_away n hf (by omega) (by omega)
    · rw [hst] at addr
      exact d.clocks_put_away n hf (by omega) (by omega)
    · have other : f.reg.addr u i = 0x20000C := by rw [hr]; rfl
      exact d.clocks_put_apart n hf (.inl (by rw [other]; decide)) (.inl (by rw [other]; decide)) (.inr ⟨hr.symm, hbits.symm⟩)
  · have addr := Reg.addr_notDev hd u i
    exact d.clocks_put_away n hf (by omega) (by omega)

@[simp] theorem Dev.clocks_put_gnz (g n : Nat) : (d.put F.NUM_GNZ_V 0 g n).clocks = d.clocks := by
  have addr : Reg.numGnz.addr 0 g = 0x10004 + g * 0x20 := rfl
  exact d.clocks_put_away n (by decide) (by rw [addr]; omega) (by rw [addr]; omega)

@[simp] theorem Dev.clocks_put_gexp (g n : Nat) : (d.put F.NUM_GEXP_EXP 0 g n).clocks = d.clocks := by
  have addr : Reg.numGexp.addr 0 g = 0x10008 + g * 0x20 := rfl
  exact d.clocks_put_away n (by decide) (by rw [addr]; omega) (by rw [addr]; omega)

/-- A group past the table's end may share BEAT_CLK_STATUS's address; its count of zero steps then lies beside the fields shown. -/
@[simp] theorem Dev.clocks_put_zeroRun (g n : Nat) : (d.put F.NUM_GWATCH_ZERO_RUN 0 g n).clocks = d.clocks := by
  have addr : Reg.numGwatch.addr 0 g = 0x10000 + g * 0x20 := rfl
  have valid : F.BEAT_STATUS_VALID.apart 0 0 (F.NUM_GWATCH_ZERO_RUN, 0, g) := .inl (by
    have : Reg.beatStatus.addr 0 0 = 0x20000C := rfl
    dsimp only
    omega)
  have kept : (d.put F.NUM_GWATCH_ZERO_RUN 0 g n).get F.BEAT_STATUS_VALID = d.get F.BEAT_STATUS_VALID :=
    d.onlyFields_put F.NUM_GWATCH_ZERO_RUN 0 g n (by decide) _ 0 0 (by decide) (by simpa using valid)
  have shown (f : Fld) (hr : f.reg = .beatClkStatus) (hf : f.lo ≤ f.hi) (hb : f.hi < 16) : (d.put F.NUM_GWATCH_ZERO_RUN 0 g n).get f = d.get f := by
    by_cases hg : Reg.numGwatch.addr 0 g = Reg.beatClkStatus.addr 0 0
    · have same (e : Dev) : e.reg .beatClkStatus 0 0 = e.reg .numGwatch 0 g := by
        unfold Dev.reg
        rw [hg]
        rfl
      unfold Dev.get
      rw [hr, same, same, Dev.put_eq, Dev.reg_setReg_at _ _ _ _ _ _ _ rfl]
      exact Fld.over_other F.NUM_GWATCH_ZERO_RUN f _ n (by decide) hf (.inr hb)
    · exact d.get_put_addr F.NUM_GWATCH_ZERO_RUN f 0 g 0 0 n (by rw [hr]; exact fun h => hg h.symm)
  rw [Dev.clocks_eq, Dev.clocks_eq, kept, shown _ rfl (by decide) (by decide), shown _ rfl (by decide) (by decide)]
  rfl

theorem clockParts_congr {e e' : Dev} (h : e'.clocks = e.clocks) (a b : Bool) : clockParts a b e'.regs = clockParts a b e.regs := by
  simp only [Dev.clocks, clockParts, Prod.mk.injEq] at h ⊢
  exact ⟨trivial, trivial, h.2.2⟩

@[simp] theorem Dev.clockParts_put {f : Fld} (a b : Bool) (u i n : Nat) (h : f.offClocks = true) : clockParts a b (d.put f u i n).regs = clockParts a b d.regs :=
  clockParts_congr (d.clocks_put u i n h) a b

@[simp] theorem Dev.clockParts_putD {f : Fld} (a b : Bool) (n : Nat) (h : f.offClocks = true) : clockParts a b (d.putD f n).regs = clockParts a b d.regs :=
  d.clockParts_put a b 0 0 n h

@[simp] theorem Dev.clockParts_count {f : Fld} (a b : Bool) (u i n : Nat) (h : f.offClocks = true) : clockParts a b (d.count f u i n).regs = clockParts a b d.regs :=
  d.clockParts_put a b u i _ h

@[simp] theorem Dev.clockParts_pput {f : Fld} (a b : Bool) (n v : Nat) (h : f.offClocks = true) : clockParts a b (d.pput f n v).regs = clockParts a b d.regs :=
  d.clockParts_put a b (n / 4) (n % 4) v h

@[simp] theorem Dev.clockParts_put_zeroRun (a b : Bool) (g n : Nat) : clockParts a b (d.put F.NUM_GWATCH_ZERO_RUN 0 g n).regs = clockParts a b d.regs :=
  clockParts_congr (d.clocks_put_zeroRun g n) a b

@[simp] theorem Dev.clockParts_put_gnz (a b : Bool) (g n : Nat) : clockParts a b (d.put F.NUM_GNZ_V 0 g n).regs = clockParts a b d.regs :=
  clockParts_congr (d.clocks_put_gnz g n) a b

@[simp] theorem Dev.clockParts_put_gexp (a b : Bool) (g n : Nat) : clockParts a b (d.put F.NUM_GEXP_EXP 0 g n).regs = clockParts a b d.regs :=
  clockParts_congr (d.clocks_put_gexp g n) a b

theorem ColSlot.group_lt (c : ColSlot) : c.group < 1024 := bits_lt c.aux 9 0

theorem DmaJob.group_lt (j : DmaJob) : j.group < 1024 := bits_lt (wordOf j.words 0) 43 34

/-- A name for a function, known to stand for it. In a definition that matches on the function's results the kernel unfolds the function itself, down to
the arithmetic of the address map, to compare two forms of the match; it does not look behind such a name. -/
theorem exists_opaque {α : Sort _} (a : α) : ∃ f, f = a := ⟨a, rfl⟩

/-- A device that stands second in a pair, once the pair is known. -/
theorem Dev.clocks_snd {α : Type} {p : α × Dev} {x : α} {e : Dev} (h : p = (x, e)) : e.clocks = p.2.clocks := by rw [h]

@[simp] theorem Dev.clocks_ite (c : Prop) [Decidable c] (e : Dev) : (if c then d else e).clocks = if c then d.clocks else e.clocks := apply_ite Dev.clocks c d e

/-- What keeps the clocks for each element keeps them for the list. -/
@[simp] theorem Dev.clocks_each {α : Type} {op : Dev → α → Dev} (hop : ∀ e x, (op e x).clocks = e.clocks) (l : List α) : (d.each l op).clocks = d.clocks :=
  Dev.each_inv (P := fun e => e.clocks = d.clocks) op (fun e x he => (hop e x).trans he) l rfl

end

/-! ### The units that a failover reaches

What each function leaves of the clocks, a callee before its callers. -/

section
variable (d : Dev)

@[simp] theorem Dev.clocks_setHlHalf (h : Nat) (v : HlHalf) : (d.setHlHalf h v).clocks = d.clocks := by simp [Dev.setHlHalf]
@[simp] theorem Dev.clocks_putD {f : Fld} (n : Nat) (h : f.offClocks = true) : (d.putD f n).clocks = d.clocks := d.clocks_put 0 0 n h
@[simp] theorem Dev.clocks_setHlLanes (h m : Nat) : (d.setHlLanes h m).clocks = d.clocks := d.clocks_putD m (by split <;> decide)
@[simp] theorem Dev.clocks_setHlState (h st : Nat) : (d.setHlState h st).clocks = d.clocks := d.clocks_putD st (by split <;> decide)
@[simp] theorem Dev.clocks_dropAcc (id : Nat) : (d.dropAcc id).clocks = d.clocks := by simp [Dev.dropAcc]
@[simp] theorem Dev.clocks_hlForget (h : Nat) : (d.hlForget h).clocks = d.clocks := by simp [Dev.hlForget]
@[simp] theorem Dev.clocks_emit (o : Output) : (d.emit o).clocks = d.clocks := by simp [Dev.emit]
@[simp] theorem Dev.clocks_hlPump (h : Nat) : (d.hlPump h).clocks = d.clocks := by simp [Dev.hlPump]

@[simp] theorem Dev.clocks_hlSend (h op tag addr reason : Nat) (data : List Byte) : (d.hlSend h op tag addr reason data).clocks = d.clocks := by
  simp [Dev.hlSend]

@[simp] theorem Dev.clocks_hlMove (h : Nat) : (d.hlMove h).clocks = d.clocks := by simp [Dev.hlMove]
@[simp] theorem Dev.clocks_showFre (q : Nat) : (d.showFre q).clocks = d.clocks := by simp +decide [Dev.showFre]
@[simp] theorem Dev.clocks_setCol (s : Nat) (c : ColSlot) : (d.setCol s c).clocks = d.clocks := by simp [Dev.setCol]
@[simp] theorem Dev.clocks_updCol (s : Nat) (f : ColSlot → ColSlot) : (d.updCol s f).clocks = d.clocks := by simp [Dev.updCol]
@[simp] theorem Dev.clocks_colFree (s : Nat) : (d.colFree s).clocks = d.clocks := by simp [Dev.colFree]
@[simp] theorem Dev.clocks_leaveOuts (s : Nat) : (d.leaveOuts s).clocks = d.clocks := by simp [Dev.leaveOuts]
@[simp] theorem Dev.clocks_dropFre (s : Nat) : (d.dropFre s).clocks = d.clocks := by simp [Dev.dropFre]
@[simp] theorem Dev.clocks_colForget (s : Nat) : (d.colForget s).clocks = d.clocks := by simp [Dev.colForget]
@[simp] theorem Dev.clocks_deliverLocal (p : Packet) : (d.deliverLocal p).clocks = d.clocks := by simp [Dev.deliverLocal]
@[simp] theorem Dev.clocks_setPort (n : Nat) (v : Port) : (d.setPort n v).clocks = d.clocks := by simp [Dev.setPort]
@[simp] theorem Dev.clocks_enqueueTx (n : Nat) (q : TxPkt) : (d.enqueueTx n q).clocks = d.clocks := by simp [Dev.enqueueTx]
@[simp] theorem Dev.clocks_enqueue (n : Nat) (p : Packet) : (d.enqueue n p).clocks = d.clocks := by simp [Dev.enqueue]
@[simp] theorem Dev.clocks_count {f : Fld} (u i n : Nat) (h : f.offClocks = true) : (d.count f u i n).clocks = d.clocks := d.clocks_put u i _ h
@[simp] theorem Dev.clocks_countRefusal (code : Nat) : (d.countRefusal code).clocks = d.clocks := by simp +decide [Dev.countRefusal]

@[simp] theorem Dev.clocks_sendAnswer (p : Packet) : (d.sendAnswer p).clocks = d.clocks := by
  unfold Dev.sendAnswer
  split
  · rfl
  · split <;> simp +decide

@[simp] theorem Dev.clocks_sendNack (p : Packet) (code : Nat) (final : Bool) : (d.sendNack p code final).clocks = d.clocks := by simp [Dev.sendNack]
@[simp] theorem Dev.clocks_setLex (q : Nat) (l : Lex) : (d.setLex q l).clocks = d.clocks := by simp [Dev.setLex]
@[simp] theorem Dev.clocks_abortHeld (s : Nat) : (d.abortHeld s).clocks = d.clocks := by simp [Dev.abortHeld]

@[simp] theorem Dev.clocks_hlRequest (op addr : Nat) (data : List Byte) (w : Waiter) : (d.hlRequest op addr data w).2.clocks = d.clocks := by
  unfold Dev.hlRequest
  dsimp only
  repeat' split
  all_goals simp

@[simp] theorem Dev.clocks_notify : d.notify.clocks = d.clocks := by simp [Dev.notify]

@[simp] theorem Dev.clocks_deliver (r : EventRec) : (d.deliver r).clocks = d.clocks := by
  unfold Dev.deliver
  dsimp only
  repeat' split
  all_goals simp +decide

@[simp] theorem Dev.clocks_recordOnly (e : Ev) (source : Nat) (detail : List (Nat × Nat)) : (d.recordOnly e source detail).clocks = d.clocks := by
  simp +decide [Dev.recordOnly]

@[simp] theorem Dev.clocks_withholdVotes : d.withholdVotes.clocks = d.clocks := by simp [Dev.withholdVotes]
@[simp] theorem Dev.clocks_noteKey (m : FaultMsg) : (d.noteKey m).clocks = d.clocks := by simp [Dev.noteKey]
@[simp] theorem Dev.clocks_flood (m : FaultMsg) : (d.flood m).clocks = d.clocks := by simp [Dev.flood]
@[simp] theorem Dev.clocks_obey (s a : Nat) : (d.obey s a).clocks = d.clocks := by simp +decide [Dev.obey]
@[simp] theorem Dev.clocks_showHolds : d.showHolds.clocks = d.clocks := by simp +decide [Dev.showHolds]
@[simp] theorem Dev.clocks_addHold (h : Hold) : (d.addHold h).clocks = d.clocks := by simp +decide [Dev.addHold]
@[simp] theorem Dev.clocks_originateOrder (repair : Bool) : (d.originateOrder repair).clocks = d.clocks := by simp +decide [Dev.originateOrder]

@[simp] theorem Dev.clocks_rewindEvent {also : Dev → Dev} (h : ∀ e, (also e).clocks = e.clocks) : (d.rewindEvent also).clocks = d.clocks := by
  unfold Dev.rewindEvent
  dsimp only
  split
  · split
    · simp [h]
    · simp [h]
  · simp [h]

@[simp] theorem Dev.clocks_spareSwap (c : Nat) : (d.spareSwap c).clocks = d.clocks := by simp [Dev.spareSwap]
@[simp] theorem Dev.clocks_pput {f : Fld} (n v : Nat) (h : f.offClocks = true) : (d.pput f n v).clocks = d.clocks := d.clocks_put (n / 4) (n % 4) v h

@[simp] theorem Dev.clocks_enterHoldover : d.enterHoldover.clocks = d.clocks := by
  unfold Dev.enterHoldover
  dsimp only
  simp +decide

@[simp] theorem Dev.clocks_reselect : d.reselect.clocks = d.clocks := by
  unfold Dev.reselect
  dsimp only
  repeat' split
  all_goals simp +decide

@[simp] theorem Dev.clocks_freeInput (q : TxPkt) : (d.freeInput q).clocks = d.clocks := by
  unfold Dev.freeInput
  split
  · split <;> simp
  · rfl

@[simp] theorem Dev.clocks_endForwards (n : Nat) (ch : Nat → Bool) : (d.endForwards n ch).clocks = d.clocks := by
  unfold Dev.endForwards
  dsimp only
  simp

@[simp] theorem Dev.clocks_sendTx (q : TxPkt) : (d.sendTx q).clocks = d.clocks := by
  unfold Dev.sendTx
  dsimp only
  repeat' split
  all_goals simp

@[simp] theorem Dev.clocks_portLeave (n state : Nat) : (d.portLeave n state).clocks = d.clocks := by
  unfold Dev.portLeave
  dsimp only
  simp +decide

@[simp] theorem Dev.clocks_knell (cause : Nat) : (d.knell cause).clocks = d.clocks := by simp +decide [Dev.knell]
@[simp] theorem Dev.clocks_failCore (c : Nat) : (d.failCore c).clocks = d.clocks := by simp [Dev.failCore]

@[simp] theorem Dev.clocks_countUe (core : Option Nat) : (d.countUe core).clocks = d.clocks := by
  unfold Dev.countUe
  dsimp only
  repeat' split
  all_goals simp +decide

@[simp] theorem Dev.clocks_record (e : Ev) (source : Nat) (detail : List (Nat × Nat)) : (d.record e source detail).clocks = d.clocks := by
  unfold Dev.record
  dsimp only
  repeat' split
  all_goals simp

@[simp] theorem Dev.clocks_setColState (s st : Nat) : (d.setColState s st).clocks = d.clocks := by simp +decide [Dev.setColState]
@[simp] theorem Dev.clocks_colFail (s reason : Nat) : (d.colFail s reason).clocks = d.clocks := by simp +decide [Dev.colFail]
@[simp] theorem Dev.clocks_setCore (c : Nat) (v : Core) : (d.setCore c v).clocks = d.clocks := by simp [Dev.setCore]
@[simp] theorem Dev.clocks_updCore (c : Nat) (f : Core → Core) : (d.updCore c f).clocks = d.clocks := by simp [Dev.updCore]
@[simp] theorem Dev.clocks_wakeTaps (c t : Nat) (v : Int) : (d.wakeTaps c t v).clocks = d.clocks := by simp [Dev.wakeTaps]
@[simp] theorem Dev.clocks_meetDeadlines (p : Nat → Deadline → Bool) : (d.meetDeadlines p).clocks = d.clocks := by simp [Dev.meetDeadlines]
@[simp] theorem Dev.clocks_tapReachesZero (c tap : Nat) : (d.tapReachesZero c tap).clocks = d.clocks := by simp [Dev.tapReachesZero]
@[simp] theorem Dev.clocks_setTap (c t : Nat) (v : Int) : (d.setTap c t v).clocks = d.clocks := by simp +decide [Dev.setTap]
@[simp] theorem Dev.clocks_tapAdd (c t : Nat) (v : Int) : (d.tapAdd c t v).clocks = d.clocks := by simp [Dev.tapAdd]
@[simp] theorem Dev.clocks_pulse (c t : Nat) : (d.pulse c t).clocks = d.clocks := by simp [Dev.pulse]

@[simp] theorem Dev.clocks_colPulse (c : ColSlot) : (d.colPulse c).clocks = d.clocks := by
  unfold Dev.colPulse
  split
  · split <;> simp
  · rfl

@[simp] theorem Dev.clocks_updateFails (s : Nat) : (d.updateFails s).clocks = d.clocks := by simp [Dev.updateFails]
@[simp] theorem Dev.clocks_collectiveEnds (slot : Nat) : (d.collectiveEnds slot).clocks = d.clocks := by simp [Dev.collectiveEnds]
@[simp] theorem Dev.clocks_colDone (s : Nat) : (d.colDone s).clocks = d.clocks := by simp [Dev.colDone]
@[simp] theorem Dev.clocks_voteEnd (s : Nat) : (d.voteEnd s).clocks = d.clocks := by simp [Dev.voteEnd]

@[simp] theorem Dev.clocks_watchGroup (step g : Nat) : (d.watchGroup step g).clocks = d.clocks := by
  unfold Dev.watchGroup
  dsimp only
  split
  · simp
  · split <;> simp

@[simp] theorem Dev.clocks_watchdog (step groups : Nat) : (d.watchdog step groups).clocks = d.clocks := by
  simp [Dev.watchdog]

@[simp] theorem Dev.clocks_lossScale (skipped : Bool) : (d.lossScale skipped).clocks = d.clocks := by
  unfold Dev.lossScale
  dsimp only
  repeat' split
  all_goals simp +decide

@[simp] theorem Dev.clocks_countSlice {f : Fld} (slice : Nat) (h : f.offClocks = true) : (d.countSlice f slice).clocks = d.clocks :=
  d.clocks_count (slice / 32) 0 1 h

@[simp] theorem Dev.clocks_putLine (l : ShcLine) : (d.putLine l).clocks = d.clocks := by simp [Dev.putLine]
@[simp] theorem Dev.clocks_dropLine (line : Nat) : (d.dropLine line).clocks = d.clocks := by simp [Dev.dropLine]
@[simp] theorem Dev.clocks_updSxu (c : Nat) (f : Sxu → Sxu) : (d.updSxu c f).clocks = d.clocks := by simp [Dev.updSxu]
@[simp] theorem Dev.clocks_setChan (ch : Nat) (v : Channel) : (d.setChan ch v).clocks = d.clocks := by simp [Dev.setChan]

@[simp] theorem Dev.clocks_mchRequest (p : Place) (line : Nat) (write : Bool) : (d.mchRequest p line write).clocks = d.clocks := by
  simp [Dev.mchRequest]

@[simp] theorem Dev.clocks_hbmStore (line : Nat) (data : List Byte) (poison : Bool) : (d.hbmStore line data poison).clocks = d.clocks := by
  simp [Dev.hbmStore]

@[simp] theorem Dev.clocks_writeBack (l : ShcLine) : (d.writeBack l).clocks = d.clocks := by
  obtain ⟨f, hf⟩ := exists_opaque Dev.writeBack
  rw [← hf]
  delta Dev.writeBack at hf
  subst hf
  beta_reduce
  cases d.place (64 * l.line) with
  | none => rfl
  | some p =>
    dsimp only
    split <;> simp +decide

@[simp] theorem Dev.clocks_evictLine (l : ShcLine) : (d.evictLine l).clocks = d.clocks := by
  unfold Dev.evictLine
  dsimp only
  repeat' split
  all_goals simp +decide

@[simp] theorem Dev.clocks_makeRoom (line : Nat) : (d.makeRoom line).2.clocks = d.clocks := by
  unfold Dev.makeRoom
  dsimp only
  repeat' split
  all_goals simp

@[simp] theorem Dev.clocks_allocLine (l : ShcLine) : (d.allocLine l).clocks = d.clocks := by simp [Dev.allocLine]

@[simp] theorem Dev.clocks_physWrite (a : Nat) (bs : List Byte) : (d.physWrite a bs).clocks = d.clocks := by
  obtain ⟨f, hf⟩ := exists_opaque Dev.physWrite
  rw [← hf]
  delta Dev.physWrite at hf
  subst hf
  beta_reduce
  cases d.place a with
  | none => dsimp only; split <;> simp
  | some p =>
    dsimp only
    split
    · simp
    · split
      · simp
      · split <;> simp

@[simp] theorem Dev.clocks_slicePut (pa : Nat) (bs : List Byte) : (d.slicePut pa bs).2.clocks = d.clocks := by
  suffices ∀ r, d.slicePut pa bs = r → r.2.clocks = d.clocks from this _ rfl
  obtain ⟨f, hf⟩ := exists_opaque Dev.slicePut
  rw [← hf]
  delta Dev.slicePut at hf
  subst hf
  beta_reduce
  cases d.home pa with
  | none => rintro _ rfl; rfl
  | scratch q o =>
    rintro _ rfl
    dsimp only
    split
    · rfl
    · split <;> simp +decide
  | hbm p =>
    rintro _ rfl
    dsimp only
    split
    · split <;> simp +decide
    · split
      · simp +decide
      · split <;> simp +decide

@[simp] theorem Dev.clocks_setPage (dp : Nat) (r : PageRec) : (d.setPage dp r).clocks = d.clocks := by simp [Dev.setPage]
@[simp] theorem Dev.clocks_touchPage (q dp : Nat) : (d.touchPage q dp).clocks = d.clocks := by simp [Dev.touchPage]

@[simp] theorem Dev.clocks_freTouch (q a : Nat) : (d.freTouch q a).clocks = d.clocks := by
  unfold Dev.freTouch
  split
  · split <;> simp
  · rfl

@[simp] theorem Dev.clocks_nsUe (c o : Nat) : (d.nsUe c o).clocks = d.clocks := by simp +decide [Dev.nsUe]
@[simp] theorem Dev.clocks_fresh (n : Nat) : (d.fresh n).2.clocks = d.clocks := by simp [Dev.fresh]

@[simp] theorem Dev.clocks_storeError (c : Nat) (l : LocalAt) (n err : Nat) : (d.storeError c l n err).clocks = d.clocks := by
  unfold Dev.storeError
  dsimp only
  repeat' split
  all_goals simp +decide

@[simp] theorem Dev.clocks_storeErrors (c : Nat) (l : LocalAt) (n err : Nat) : (d.storeErrors c l n err).2.clocks = d.clocks := by
  simp [Dev.storeErrors]

@[simp] theorem Dev.clocks_mergeErrors (c o n err : Nat) : (d.mergeErrors c o n err).clocks = d.clocks := by
  unfold Dev.mergeErrors
  extract_lets d'
  have kept : d'.clocks = d.clocks := d.clocks_each (fun e w => e.clocks_nsUe c (8 * w)) _
  split
  · exact kept
  · split
    · exact kept
    · split
      · simp +decide [kept]
      · split <;> simp [kept]

@[simp] theorem Dev.clocks_storeWrite (c : Nat) (l : LocalAt) (bs : List Byte) (err : Nat) : (d.storeWrite c l bs err).clocks = d.clocks := by
  unfold Dev.storeWrite
  dsimp only
  repeat' split
  all_goals simp

@[simp] theorem Dev.clocks_maskedWrite (c : Nat) (l : LocalAt) (mask : Nat) (bs : List Byte) (err : Nat) : (d.maskedWrite c l mask bs err).clocks = d.clocks := by
  simp [Dev.maskedWrite]

@[simp] theorem Dev.clocks_coreWindow (a : Nat) (o : AccOp) (err : Nat) : (d.coreWindow a o err).2.clocks = d.clocks := by
  unfold Dev.coreWindow
  dsimp only
  repeat' split
  all_goals simp

@[simp] theorem Dev.clocks_aheadOver (a : MemAcc) : (d.aheadOver a).clocks = d.clocks := by
  unfold Dev.aheadOver
  split <;> simp

@[simp] theorem Dev.clocks_snare (a : MemAcc) : (d.snare a).clocks = d.clocks := by
  unfold Dev.snare
  dsimp only
  repeat' split
  all_goals simp +decide

@[simp] theorem Dev.clocks_updAcc (id : Nat) (f : MemAcc → MemAcc) : (d.updAcc id f).clocks = d.clocks := by simp [Dev.updAcc]
@[simp] theorem Dev.clocks_endAcc (id code : Nat) : (d.endAcc id code).clocks = d.clocks := by simp [Dev.endAcc]
@[simp] theorem Dev.clocks_failAcc (a : MemAcc) (code : Nat) : (d.failAcc a code).clocks = d.clocks := by simp [Dev.failAcc]

@[simp] theorem Dev.clocks_countLate (a : MemAcc) : (d.countLate a).clocks = d.clocks := by
  unfold Dev.countLate
  split
  · split <;> simp +decide
  · rfl

@[simp] theorem Dev.clocks_takeTag : (d.takeTag).2.clocks = d.clocks := by simp [Dev.takeTag]
@[simp] theorem Dev.clocks_sendPacket (p : Packet) (inPort : Option Nat) : (d.sendPacket p inPort).clocks = d.clocks := by simp [Dev.sendPacket]
@[simp] theorem Dev.clocks_originate (p : Packet) : (d.originate p).clocks = d.clocks := by simp [Dev.originate]
@[simp] theorem Dev.clocks_request (p : Packet) (w : Waiter) (q : Nat) : (d.request p w q).clocks = d.clocks := by simp [Dev.request]
@[simp] theorem Dev.clocks_sendRemote (a : MemAcc) (chip addr : Nat) : (d.sendRemote a chip addr).clocks = d.clocks := by simp [Dev.sendRemote]

@[simp] theorem Dev.clocks_xltInstall (core : Option Nat) (q g e : Nat) : (d.xltInstall core q g e).clocks = d.clocks := by
  unfold Dev.xltInstall
  dsimp only
  repeat' split
  all_goals simp

@[simp] theorem Dev.clocks_aheadLook (core : Option Nat) (q g : Nat) : (d.aheadLook core q g).2.clocks = d.clocks := by
  unfold Dev.aheadLook
  split
  · simp
  · split <;> simp
  · rfl

@[simp] theorem Dev.clocks_capAcc (a : MemAcc) (c slot bank pa : Nat) : (d.capAcc a c slot bank pa).clocks = d.clocks := by
  unfold Dev.capAcc
  dsimp only
  repeat' split
  all_goals simp

@[simp] theorem Dev.clocks_setSlotBank (c slot : Nat) (bank : Option Nat) : (d.setSlotBank c slot bank).clocks = d.clocks := by simp [Dev.setSlotBank]

@[simp] theorem Dev.clocks_sendCompanion (a : MemAcc) (addr : Nat) : (d.sendCompanion a addr).clocks = d.clocks := by
  unfold Dev.sendCompanion
  dsimp only
  repeat' split
  all_goals simp

@[simp] theorem Dev.clocks_routeAcc (a : MemAcc) (e : Nat) : (d.routeAcc a e).clocks = d.clocks := by
  unfold Dev.routeAcc
  dsimp only
  repeat' split
  all_goals simp

@[simp] theorem Dev.clocks_xltLook (core : Option Nat) (q g : Nat) : (d.xltLook core q g).2.clocks = d.clocks := by
  unfold Dev.xltLook
  split
  · split <;> simp
  · split <;> simp

@[simp] theorem Dev.clocks_beginAcc (a : MemAcc) : (d.beginAcc a).clocks = d.clocks := by
  unfold Dev.beginAcc
  dsimp only
  iterate 4
    split
    · simp
  split
  · simp
  split
  · simp
  split
  · split
    · next heq => simp [Dev.clocks_snd heq]
    · next heq => simp [Dev.clocks_snd heq]
    · next heq => simp +decide [Dev.clocks_snd heq]
  · split
    · next heq => simp [Dev.clocks_snd heq]
    · next heq => simp +decide [Dev.clocks_snd heq]

@[simp] theorem Dev.clocks_access (who : Origin) (core : Option Nat) (q addr : Nat) (op : AccOp) (ahead : Bool) (werr : Nat) : (d.access who core q addr op ahead werr).2.clocks = d.clocks := by
  simp [Dev.access]

@[simp] theorem Dev.clocks_freWrite (s q a : Nat) (bs : List Byte) : (d.freWrite s q a bs).2.clocks = d.clocks := by
  unfold Dev.freWrite
  dsimp only
  repeat' split
  all_goals simp

@[simp] theorem Dev.clocks_updateEnd (s : Nat) : (d.updateEnd s).clocks = d.clocks := by simp [Dev.updateEnd]
@[simp] theorem Dev.clocks_updateStart (s step e : Nat) (vote : Bool) : (d.updateStart s step e vote).clocks = d.clocks := by simp [Dev.updateStart]

@[simp] theorem Dev.clocks_stepClose (step attempt : Nat) (vote : Bool) : (d.stepClose step attempt vote).clocks = d.clocks := by
  unfold Dev.stepClose
  dsimp only
  repeat' split
  all_goals simp +decide

@[simp] theorem Dev.clocks_colSend (s dst row : Nat) (block : Bool) (data : List Byte) : (d.colSend s dst row block data).clocks = d.clocks := by
  simp [Dev.colSend]

@[simp] theorem Dev.clocks_colMessage (s dst mtype : Nat) (flag : Bool) (step : Nat) : (d.colMessage s dst mtype flag step).clocks = d.clocks := by
  simp [Dev.colMessage]

@[simp] theorem Dev.clocks_colControl (s dst mtype : Nat) (flag : Bool) : (d.colControl s dst mtype flag).clocks = d.clocks := by
  simp [Dev.colControl]

@[simp] theorem Dev.clocks_voteTake (s : Nat) (vote : Bool) : (d.voteTake s vote).clocks = d.clocks := by simp +decide [Dev.voteTake]
@[simp] theorem Dev.clocks_voteGo (s : Nat) : (d.voteGo s).clocks = d.clocks := by simp [Dev.voteGo]
@[simp] theorem Dev.clocks_votesGo : d.votesGo.clocks = d.clocks := by simp [Dev.votesGo]
@[simp] theorem Dev.clocks_freOutFails (s : Nat) : (d.freOutFails s).clocks = d.clocks := by simp [Dev.freOutFails]
@[simp] theorem Dev.clocks_colOk (p : Packet) : (d.colOk p).clocks = d.clocks := by simp [Dev.colOk]
@[simp] theorem Dev.clocks_sealTake (s l : Nat) (p : Packet) : (d.sealTake s l p).clocks = d.clocks := by simp [Dev.sealTake]
@[simp] theorem Dev.clocks_sealsGo (s : Nat) : (d.sealsGo s).clocks = d.clocks := by simp [Dev.sealsGo]
@[simp] theorem Dev.clocks_freFetch (s q a n : Nat) : (d.freFetch s q a n).2.clocks = d.clocks := by simp [Dev.freFetch]

@[simp] theorem Dev.clocks_bringLine (line : Nat) : (d.bringLine line).clocks = d.clocks := by
  obtain ⟨f, hf⟩ := exists_opaque Dev.bringLine
  rw [← hf]
  delta Dev.bringLine at hf
  subst hf
  beta_reduce
  cases d.home (64 * line) with
  | none => rfl
  | scratch q o => rfl
  | hbm p =>
    dsimp only
    split
    · simp +decide
    · split <;> simp +decide

@[simp] theorem Dev.clocks_sliceGet (pa n : Nat) : (d.sliceGet pa n).2.clocks = d.clocks := by
  suffices ∀ r, d.sliceGet pa n = r → r.2.clocks = d.clocks from this _ rfl
  obtain ⟨f, hf⟩ := exists_opaque Dev.sliceGet
  rw [← hf]
  delta Dev.sliceGet at hf
  subst hf
  beta_reduce
  cases d.home pa with
  | none => rintro _ rfl; rfl
  | scratch q o => rintro _ rfl; rfl
  | hbm p => rintro _ rfl; exact d.clocks_bringLine (pa / 64)

@[simp] theorem Dev.clocks_freLine (s q a : Nat) : (d.freLine s q a).2.clocks = d.clocks := by
  suffices ∀ r, d.freLine s q a = r → r.2.clocks = d.clocks from this _ rfl
  obtain ⟨f, hf⟩ := exists_opaque Dev.freLine
  rw [← hf]
  delta Dev.freLine at hf
  subst hf
  obtain ⟨get, hget⟩ := exists_opaque Dev.sliceGet
  obtain ⟨window, hwindow⟩ := exists_opaque @Dev.coreWindow
  rw [← hget, ← hwindow]
  beta_reduce
  cases d.freAt a with
  | phys pa =>
    rintro _ rfl
    rw [← d.clocks_freTouch q a, ← (d.freTouch q a).clocks_sliceGet pa 64, ← hget]
  | window =>
    rintro _ rfl
    rw [← d.clocks_coreWindow (a % 2 ^ 40) (.read 64) 0, ← hwindow]
  | away =>
    cases d.freAccess s a with
    | some x => rintro _ rfl; exact d.clocks_dropAcc x.id
    | none => rintro _ rfl; rfl
  | bad => rintro _ rfl; rfl

@[simp] theorem Dev.clocks_freLines (s q a k : Nat) : (d.freLines s q a k).2.clocks = d.clocks := by
  induction k generalizing d a with
  | zero => rfl
  | succ k ih => exact (ih (d.freLine s q a).2 (a + 64)).trans (d.clocks_freLine s q a)

@[simp] theorem Dev.clocks_colTile (s : Nat) (c : ColSlot) (k : Nat) : (d.colTile s c k).2.2.clocks = d.clocks := by
  suffices ∀ r, d.colTile s c k = r → r.2.2.clocks = d.clocks from this _ rfl
  obtain ⟨f, hf⟩ := exists_opaque Dev.colTile
  rw [← hf]
  delta Dev.colTile at hf
  subst hf
  obtain ⟨lines, hlines⟩ := exists_opaque Dev.freLines
  rw [← hlines]
  rintro _ rfl
  rw [← d.clocks_freLines s c.quarter (c.dst + 16384 * k) 256, ← hlines]

theorem Dev.clocks_countConv {g : Nat} (h : g < 1024) (flushes sats : Nat) : (d.countConv g flushes sats).clocks = d.clocks := by
  have addr : Reg.numGflush.addr 0 g = 0x1000C + g * 0x20 := rfl
  have addr' : Reg.numGsat.addr 0 g = 0x10010 + g * 0x20 := rfl
  have flush (n : Nat) : (d.count F.NUM_GFLUSH_V 0 g n).clocks = d.clocks := d.clocks_put_away _ (by decide) (by rw [addr]; omega) (by rw [addr]; omega)
  have satur (e : Dev) (n : Nat) : (e.count F.NUM_GSAT_V 0 g n).clocks = e.clocks := e.clocks_put_away _ (by decide) (by rw [addr']; omega) (by rw [addr']; omega)
  unfold Dev.countConv
  dsimp only
  split
  · split
    · rfl
    · exact flush flushes
  · rw [satur]
    split
    · rfl
    · exact flush flushes

@[simp] theorem Dev.clocks_reduceSend (s : Nat) : (d.reduceSend s).2.clocks = d.clocks := by
  suffices ∀ r, d.reduceSend s = r → r.2.clocks = d.clocks from this _ rfl
  obtain ⟨f, hf⟩ := exists_opaque Dev.reduceSend
  rw [← hf]
  delta Dev.reduceSend at hf
  subst hf
  obtain ⟨fetch, hfetch⟩ := exists_opaque Dev.freFetch
  obtain ⟨tile, htile⟩ := exists_opaque Dev.colTile
  rw [← hfetch, ← htile]
  beta_reduce
  extract_lets c parent k rows row len table
  split
  · rintro _ rfl
    rfl
  · split
    · next heq =>
      rintro _ rfl
      rw [Dev.clocks_snd heq, hfetch, Dev.clocks_freFetch]
    · next fetched heq =>
      have kept : fetched.clocks = d.clocks := by rw [Dev.clocks_snd heq, hfetch, Dev.clocks_freFetch]
      have ofTile {o : Option (List F32) × Bool × Dev} (h : tile fetched s c k = o) : o.2.2.clocks = d.clocks := by
        rw [← h, htile, Dev.clocks_colTile, kept]
      split
      · next h =>
        rintro _ rfl
        rw [Dev.clocks_colFail]
        exact ofTile h
      · next h =>
        extract_lets last next
        split
        · rintro _ rfl
          rw [Dev.clocks_updCol, Dev.clocks_colSend, Dev.clocks_countConv _ (ColSlot.group_lt c)]
          exact ofTile h
        · rintro _ rfl
          rw [Dev.clocks_updCol, Dev.clocks_colSend]
          exact ofTile h

@[simp] theorem Dev.clocks_reduceSends (s k : Nat) : (Dev.reduceSends s k d).clocks = d.clocks := by
  induction k generalizing d with
  | zero => rfl
  | succ k ih =>
    unfold Dev.reduceSends
    split
    · next heq => rw [ih, Dev.clocks_snd heq, Dev.clocks_reduceSend]
    · next heq => rw [Dev.clocks_snd heq, Dev.clocks_reduceSend]

@[simp] theorem Dev.clocks_reduceGo (s : Nat) : (d.reduceGo s).clocks = d.clocks := by simp +decide [Dev.reduceGo]
@[simp] theorem Dev.clocks_bcastOut (s row : Nat) (data : List Byte) : (d.bcastOut s row data).clocks = d.clocks := by simp [Dev.bcastOut]

@[simp] theorem Dev.clocks_bcastSend (s : Nat) : (d.bcastSend s).2.clocks = d.clocks := by
  unfold Dev.bcastSend
  dsimp only
  split
  · split
    · rfl
    · split
      · next heq => simp [Dev.clocks_snd heq]
      · next heq => split <;> simp [Dev.clocks_snd heq]
  · split
    · rfl
    · split <;> simp

@[simp] theorem Dev.clocks_bcastSends (s k : Nat) : (Dev.bcastSends s k d).clocks = d.clocks := by
  induction k generalizing d with
  | zero => rfl
  | succ k ih =>
    unfold Dev.bcastSends
    split
    · next heq => rw [ih, Dev.clocks_snd heq, Dev.clocks_bcastSend]
    · next heq => rw [Dev.clocks_snd heq, Dev.clocks_bcastSend]

@[simp] theorem Dev.clocks_bcastGo (s : Nat) : (d.bcastGo s).clocks = d.clocks := by simp [Dev.bcastGo]
@[simp] theorem Dev.clocks_colGo (s : Nat) : (d.colGo s).clocks = d.clocks := by simp [Dev.colGo]
@[simp] theorem Dev.clocks_freOutDone (s : Nat) : (d.freOutDone s).clocks = d.clocks := by simp [Dev.freOutDone]

@[simp] theorem Dev.clocks_colReady (s tile : Nat) : (d.colReady s tile).2.clocks = d.clocks := by
  unfold Dev.colReady
  dsimp only
  repeat' split
  all_goals simp

@[simp] theorem Dev.clocks_countGradient (g : Nat) (vals : List F32) : (d.countGradient g vals).clocks = d.clocks := by simp [Dev.countGradient]

@[simp] theorem Dev.clocks_colPart (s tile : Nat) : (d.colPart s tile).2.clocks = d.clocks := by
  suffices ∀ r, d.colPart s tile = r → r.2.clocks = d.clocks from this _ rfl
  obtain ⟨f, hf⟩ := exists_opaque Dev.colPart
  rw [← hf]
  delta Dev.colPart at hf
  subst hf
  obtain ⟨lines, hlines⟩ := exists_opaque Dev.freLines
  rw [← hlines]
  rintro _ rfl
  have kept (q a : Nat) : (lines d s q a 256).2.clocks = d.clocks := by rw [hlines, Dev.clocks_freLines]
  dsimp only
  split
  · rfl
  · split
    · exact kept ..
    · rw [Dev.clocks_updCol]
      split
      · exact kept ..
      · rw [Dev.clocks_countGradient]
        exact kept ..

@[simp] theorem Dev.clocks_addRows (s : Nat) (h : HeldPiece) : (d.addRows s h).clocks = d.clocks := by
  unfold Dev.addRows
  dsimp only
  split
  · next heq => simp [Dev.clocks_snd heq]
  · next added heq =>
    have kept : added.clocks = d.clocks := (Dev.clocks_snd heq).trans (d.clocks_colPart ..)
    repeat' split
    all_goals simp +decide [kept]

@[simp] theorem Dev.clocks_addHeld (s k : Nat) : (Dev.addHeld s k d).clocks = d.clocks := by
  induction k generalizing d with
  | zero => rfl
  | succ k ih =>
    unfold Dev.addHeld
    dsimp only
    split
    · rfl
    · split
      · next heq => simp [Dev.clocks_snd heq]
      · next heq => rw [ih]; split <;> simp [Dev.clocks_snd heq]

@[simp] theorem Dev.clocks_freWake : d.freWake.clocks = d.clocks := by simp [Dev.freWake]

@[simp] theorem Dev.clocks_spoil (bs : List Byte) (hit : Nat → Bool) : (d.spoil bs hit).2.clocks = d.clocks := by
  unfold Dev.spoil
  induction List.range bs.length using List.reverseRecOn with
  | nil => rfl
  | append_singleton l i ih =>
    rw [List.foldl_append]
    dsimp only [List.foldl_cons, List.foldl_nil]
    split
    · rw [Dev.clocks_fresh, ih]
    · exact ih

@[simp] theorem Dev.clocks_updDma (c : Nat) (f : Dma → Dma) : (d.updDma c f).clocks = d.clocks := by simp [Dev.updDma]
@[simp] theorem Dev.clocks_updJob (c : Nat) (f : DmaJob → DmaJob) : (d.updJob c f).clocks = d.clocks := by simp [Dev.updJob]

@[simp] theorem Dev.clocks_kvSend (c ch : Nat) (j : DmaJob) (off : Nat) (bs : List Byte) : (d.kvSend c ch j off bs).clocks = d.clocks := by
  unfold Dev.kvSend
  dsimp only
  rw [Dev.clocks_request, Dev.clocks_count _ _ _ _ (by decide)]
  split
  · exact d.clocks_countConv j.group_lt ..
  · rfl

@[simp] theorem Dev.clocks_localWrite (c a : Nat) (bs : List Byte) (err : Nat) : (d.localWrite c a bs err).clocks = d.clocks := by
  unfold Dev.localWrite
  cases d.localAt c a <;> simp

@[simp] theorem Dev.clocks_showDma (c : Nat) : (d.showDma c).clocks = d.clocks := by simp +decide [Dev.showDma]

@[simp] theorem Dev.clocks_dmaWrite (c ch a : Nat) (bs : List Byte) (werr : Nat) : (d.dmaWrite c ch a bs werr).clocks = d.clocks := by
  unfold Dev.dmaWrite
  dsimp only
  repeat' split
  all_goals simp +decide

theorem Dev.clocks_dmaWrites (c ch a werr : Nat) (bs : List Byte) (l : List Nat) (x : Nat × Dev) :
    (l.foldl (fun (x : Nat × Dev) k => (x.1 + k, x.2.dmaWrite c ch (a + x.1) ((bs.drop x.1).take k) werr)) x).2.clocks = x.2.clocks := by
  induction l generalizing x with
  | nil => rfl
  | cons k l ih => rw [List.foldl_cons, ih, Dev.clocks_dmaWrite]

theorem Dev.clocks_dmaPiece {c ch werr : Nat} {j : DmaJob} {e : Dev} (h : d.dmaPiece c ch werr j = some e) : e.clocks = d.clocks := by
  unfold Dev.dmaPiece at h
  dsimp only at h
  split at h
  · exact absurd h (by simp)
  · obtain rfl := Option.some.inj h
    rw [Dev.clocks_each _ (fun e r => Dev.clocks_dmaWrites ..), Dev.clocks_updDma]

@[simp] theorem Dev.clocks_dmaFlush (c ch werr k : Nat) : (Dev.dmaFlush c ch werr k d).clocks = d.clocks := by
  induction k generalizing d with
  | zero => rfl
  | succ k ih =>
    unfold Dev.dmaFlush
    split
    · next heq =>
      obtain ⟨j, -, piece⟩ := Option.bind_eq_some_iff.mp heq
      rw [ih, Dev.clocks_dmaPiece d piece]
    · rfl

@[simp] theorem Dev.clocks_dmaLanded (c ch off len code : Nat) (lines : List Byte) (werr : Nat) : (d.dmaLanded c ch off len code lines werr).clocks = d.clocks := by
  unfold Dev.dmaLanded
  dsimp only
  repeat' split
  all_goals simp

@[simp] theorem Dev.clocks_dmaAcked (c ch index seq code : Nat) : (d.dmaAcked c ch index seq code).clocks = d.clocks := by simp [Dev.dmaAcked]
@[simp] theorem Dev.clocks_dmaFree (c : Nat) : (d.dmaFree c).clocks = d.clocks := by simp +decide [Dev.dmaFree]
@[simp] theorem Dev.clocks_dmaRingError (c ch : Nat) : (d.dmaRingError c ch).clocks = d.clocks := by simp +decide [Dev.dmaRingError]
@[simp] theorem Dev.clocks_dmaFetch (c ch : Nat) : (d.dmaFetch c ch).clocks = d.clocks := by simp [Dev.dmaFetch]
@[simp] theorem Dev.clocks_dmaNext (c ch : Nat) : (d.dmaNext c ch).clocks = d.clocks := by simp +decide [Dev.dmaNext]
@[simp] theorem Dev.clocks_dmaBacked (c ch code : Nat) : (d.dmaBacked c ch code).clocks = d.clocks := by simp [Dev.dmaBacked]
@[simp] theorem Dev.clocks_respond (p : Packet) (code : Nat) (data : List Byte) : (d.respond p code data).clocks = d.clocks := by simp [Dev.respond]

@[simp] theorem Dev.clocks_hlAnswer (half tag op addr reason : Nat) (data : List Byte) : (d.hlAnswer half tag op addr reason data).clocks = d.clocks := by
  simp [Dev.hlAnswer]

@[simp] theorem Dev.clocks_companionAnswer (half tag op addr st : Nat) (bs : List Byte) : (d.companionAnswer half tag op addr st bs).clocks = d.clocks := by
  simp [Dev.companionAnswer]

@[simp] theorem Dev.clocks_settleOne (a : MemAcc) : (d.settleOne a).clocks = d.clocks := by
  unfold Dev.settleOne
  dsimp only
  repeat' split
  all_goals simp

@[simp] theorem Dev.clocks_showSxu (c : Nat) : (d.showSxu c).clocks = d.clocks := by simp +decide [Dev.showSxu]
@[simp] theorem Dev.clocks_endStream (c k : Nat) (s : Stream) : (d.endStream c k s).clocks = d.clocks := by simp +decide [Dev.endStream]
@[simp] theorem Dev.clocks_setCtx (c k : Nat) (s : Stream) : (d.setCtx c k s).clocks = d.clocks := by simp [Dev.setCtx]

@[simp] theorem Dev.clocks_pulseBuffers (c k n : Nat) : (Dev.pulseBuffers c k n d).clocks = d.clocks := by
  induction n generalizing d with
  | zero => rfl
  | succ n ih =>
    unfold Dev.pulseBuffers
    split
    · rfl
    · dsimp only
      split
      · rfl
      · split
        · simp
        · rw [ih]
          split <;> simp

@[simp] theorem Dev.clocks_rowBytesDone (c k row n code : Nat) : (d.rowBytesDone c k row n code).clocks = d.clocks := by
  unfold Dev.rowBytesDone
  split
  · rfl
  · simp

@[simp] theorem Dev.clocks_issueLine (c k tag : Nat) : (d.issueLine c k tag).clocks = d.clocks := by
  unfold Dev.issueLine
  dsimp only
  repeat' split
  all_goals simp

@[simp] theorem Dev.clocks_pump (c k : Nat) : (Dev.pump c k d).clocks = d.clocks := by
  induction k generalizing d with
  | zero => rfl
  | succ k ih =>
    unfold Dev.pump
    dsimp only
    split
    · rfl
    · split
      · rfl
      · split
        · rfl
        · simp [ih]

@[simp] theorem Dev.clocks_pumpAll (c : Nat) : (d.pumpAll c).clocks = d.clocks := by simp [Dev.pumpAll]
@[simp] theorem Dev.clocks_offerTags : d.offerTags.clocks = d.clocks := by simp [Dev.offerTags]
@[simp] theorem Dev.clocks_resumeBehind : d.resumeBehind.clocks = d.clocks := by simp [Dev.resumeBehind]
@[simp] theorem Dev.clocks_dropXlt (hit : Nat → Bool) : (d.dropXlt hit).clocks = d.clocks := by simp [Dev.dropXlt]
@[simp] theorem Dev.clocks_writeEntries (dp : Nat) (f : Nat → Nat) : (d.writeEntries dp f).clocks = d.clocks := by simp [Dev.writeEntries]

@[simp] theorem Dev.clocks_sendSnoop (line addr : Nat) (inv owned : Bool) : (d.sendSnoop line addr inv owned).2.clocks = d.clocks := by
  unfold Dev.sendSnoop
  dsimp only
  repeat' split
  all_goals simp

@[simp] theorem Dev.clocks_hlViolation (code : Nat) : (d.hlViolation code).clocks = d.clocks := by
  unfold Dev.hlViolation
  dsimp only
  repeat' split
  all_goals simp +decide

@[simp] theorem Dev.clocks_poisonLine (line : Nat) : (d.poisonLine line).clocks = d.clocks := by
  obtain ⟨f, hf⟩ := exists_opaque Dev.poisonLine
  rw [← hf]
  delta Dev.poisonLine at hf
  subst hf
  beta_reduce
  cases d.home (64 * line) with
  | none => rfl
  | scratch q o => simp
  | hbm p => dsimp only; split <;> simp

@[simp] theorem Dev.clocks_sfDrop (line : Nat) : (d.sfDrop line).clocks = d.clocks := by simp [Dev.sfDrop]
@[simp] theorem Dev.clocks_snoopLost (line : Nat) (owned : Bool) : (d.snoopLost line owned).2.clocks = d.clocks := by simp +decide [Dev.snoopLost]
@[simp] theorem Dev.clocks_snoopFrame (loc : Nat) : (d.snoopFrame loc).clocks = d.clocks := by simp [Dev.snoopFrame]
@[simp] theorem Dev.clocks_startMove (m : PoolMove) : (d.startMove m).clocks = d.clocks := by simp [Dev.startMove]

@[simp] theorem Dev.clocks_startLater (k : Nat) : (Dev.startLater k d).clocks = d.clocks := by
  induction k generalizing d with
  | zero => rfl
  | succ k ih =>
    unfold Dev.startLater
    split
    · rfl
    · split <;> simp [ih]

@[simp] theorem Dev.clocks_showFrame (tier n : Nat) (free : Bool) : (d.showFrame tier n free).clocks = d.clocks := by simp [Dev.showFrame]

theorem Dev.clocks_takeFrame {tier g : Nat} {e : Dev} (h : d.takeFrame tier = some (g, e)) : e.clocks = d.clocks := by
  unfold Dev.takeFrame at h
  dsimp only at h
  split at h
  · exact absurd h (by simp)
  · obtain ⟨rfl, rfl⟩ := h
    simp

@[simp] theorem Dev.clocks_decideMove (dp dest : Nat) (promote sel : Bool) : (d.decideMove dp dest promote sel).2.clocks = d.clocks := by
  unfold Dev.decideMove
  dsimp only
  split
  · rfl
  · next heq => split <;> simp [d.clocks_takeFrame heq]

@[simp] theorem Dev.clocks_evictFor (p : PageRec → Bool) : (d.evictFor p).2.clocks = d.clocks := by
  unfold Dev.evictFor
  dsimp only
  repeat' split
  all_goals simp +decide

@[simp] theorem Dev.clocks_wantFrame (k : PoolCmd) (client : Nat) : (d.wantFrame k client).2.clocks = d.clocks := by
  unfold Dev.wantFrame
  dsimp only
  repeat' split
  all_goals simp

@[simp] theorem Dev.clocks_poolAct (k : PoolCmd) : (d.poolAct k).2.clocks = d.clocks := by
  unfold Dev.poolAct
  dsimp only
  split
  · rfl
  split
  · split
    · rfl
    split
    · rfl
    split
    · next heq => exact (Dev.clocks_snd heq).trans (d.clocks_wantFrame ..)
    · next kept heq =>
      have same : kept.clocks = d.clocks := (Dev.clocks_snd heq).trans (d.clocks_wantFrame ..)
      split
      · exact same
      · next taken => simp [Dev.clocks_takeFrame _ taken, same]
  split
  · rfl
  split
  · split
    · rfl
    · split <;> simp
  split
  · split
    · rfl
    split
    · rfl
    split
    · simp
    split
    · next heq => exact (Dev.clocks_snd heq).trans (d.clocks_wantFrame ..)
    · next kept heq => simp [Dev.clocks_snd heq]
  split
  · rfl
  split
  · rfl
  · simp

@[simp] theorem Dev.clocks_returnFrame (tier n : Nat) : (d.returnFrame tier n).clocks = d.clocks := by simp [Dev.returnFrame]

@[simp] theorem Dev.clocks_poolFree (k : PoolCmd) : (d.poolFree k).2.clocks = d.clocks := by
  unfold Dev.poolFree
  dsimp only
  repeat' split
  all_goals simp

@[simp] theorem Dev.clocks_poolRun : d.poolRun.clocks = d.clocks := by
  have steps (q : List PoolCmd) (x : List PoolCmd × Dev) : (q.foldl (fun (x : List PoolCmd × Dev) k =>
      let (k', d) := if k.st = 0 && d.flag F.POOL_CTL_ENABLE then x.2.poolAct k else (k, x.2)
      let (k', d) := if k'.st = 4 then d.poolFree k' else (k', d)
      (x.1 ++ [k'], d)) x).2.clocks = x.2.clocks := by
    induction q generalizing x with
    | nil => rfl
    | cons k q ih =>
      rw [List.foldl_cons, ih]
      dsimp only
      split <;> split <;> simp
  exact steps d.pool.queue ([], d)

@[simp] theorem Dev.clocks_quotaEvict : d.quotaEvict.clocks = d.clocks := by
  unfold Dev.quotaEvict
  dsimp only
  simp

@[simp] theorem Dev.clocks_showPool : d.showPool.clocks = d.clocks := by
  unfold Dev.showPool
  dsimp only
  repeat' split
  all_goals simp +decide

@[simp] theorem Dev.clocks_poolRetire (k : Nat) : (Dev.poolRetire k d).clocks = d.clocks := by
  induction k generalizing d with
  | zero => rfl
  | succ k ih =>
    unfold Dev.poolRetire
    split
    · split
      · rw [ih]
        split <;> simp +decide
      · rfl
    · rfl

@[simp] theorem Dev.clocks_poolPump : d.poolPump.clocks = d.clocks := by simp [Dev.poolPump]
@[simp] theorem Dev.clocks_settle : d.settle.clocks = d.clocks := by simp [Dev.settle]
@[simp] theorem Dev.clocks_pieceDone (id code : Nat) (bs : List Byte) : (d.pieceDone id code bs).clocks = d.clocks := by simp [Dev.pieceDone]

@[simp] theorem Dev.clocks_aheadIssued (a : MemAcc) : (d.aheadIssued a).clocks = d.clocks := by
  unfold Dev.aheadIssued
  split <;> simp +decide

@[simp] theorem Dev.clocks_failPiece (a : MemAcc) (code : Nat) : (d.failPiece a code).clocks = d.clocks := by simp [Dev.failPiece]

@[simp] theorem Dev.clocks_accDone (id code : Nat) (bs : List Byte) : (d.accDone id code bs).clocks = d.clocks := by
  unfold Dev.accDone
  dsimp only
  repeat' split
  all_goals simp

@[simp] theorem Dev.clocks_evtWriteFails : d.evtWriteFails.clocks = d.clocks := by simp +decide [Dev.evtWriteFails]

@[simp] theorem Dev.clocks_ringFails : d.ringFails.clocks = d.clocks := by
  unfold Dev.ringFails
  dsimp only
  simp +decide

@[simp] theorem Dev.clocks_ringFetch : d.ringFetch.clocks = d.clocks := by simp +decide [Dev.ringFetch]
@[simp] theorem Dev.clocks_ringPump : d.ringPump.clocks = d.clocks := by simp [Dev.ringPump]

@[simp] theorem Dev.clocks_cmdEnd (c : CmdEntry) (status : Nat) (data : Option Nat) : (d.cmdEnd c status data).clocks = d.clocks := by
  simp [Dev.cmdEnd]

@[simp] theorem Dev.clocks_cmdArrived (data : List Byte) : (d.cmdArrived data).clocks = d.clocks := by simp +decide [Dev.cmdArrived]
@[simp] theorem Dev.clocks_cmdBacked : d.cmdBacked.clocks = d.clocks := by simp +decide [Dev.cmdBacked]
@[simp] theorem Dev.clocks_cmdAnswer (ok : Bool) (data : List Byte) : (d.cmdAnswer ok data).clocks = d.clocks := by simp [Dev.cmdAnswer]

theorem Dev.clocks_swapEntry (c : Nat) (line : List Byte) : (d.swapEntry c false line).clocks = d.clocks := by
  simp [Dev.swapEntry]

theorem Dev.clocks_endWaiter (w : Waiter) {code : Nat} (h : code ≠ 0) (data : List Byte) : (d.endWaiter w code data).clocks = d.clocks := by
  unfold Dev.endWaiter
  split
  · split
    · simp
    · rfl
  · split <;> simp
  · simp
  · simp [h, Dev.clocks_swapEntry]
  all_goals rfl

@[simp] theorem Dev.clocks_hlReqEnds (r : HlReq) {code : Nat} (h : code ≠ 0) (data : List Byte) : (d.hlReqEnds r code data).clocks = d.clocks := by
  rw [Dev.hlReqEnds, Dev.clocks_endWaiter _ _ h]
  simp

@[simp] theorem Dev.clocks_dropSnoop (x : Snoop) : (d.dropSnoop x).clocks = d.clocks := by simp [Dev.dropSnoop]

@[simp] theorem Dev.clocks_homeWrite (line : Nat) (data : List Byte) : (d.homeWrite line data).clocks = d.clocks := by
  obtain ⟨f, hf⟩ := exists_opaque Dev.homeWrite
  rw [← hf]
  delta Dev.homeWrite at hf
  subst hf
  beta_reduce
  cases d.home (64 * line) <;> simp

@[simp] theorem Dev.clocks_aheadRedundant (a : MemAcc) : (d.aheadRedundant a).clocks = d.clocks := by
  unfold Dev.aheadRedundant
  split <;> simp +decide

@[simp] theorem Dev.clocks_touchReads (a : MemAcc) : (d.touchReads a).clocks = d.clocks := by simp [Dev.touchReads]

@[simp] theorem Dev.clocks_sfPut (e : SfEntry) : (d.sfPut e).clocks = d.clocks := by
  unfold Dev.sfPut
  dsimp only
  repeat' split
  all_goals simp +decide

@[simp] theorem Dev.clocks_companionServed (a : MemAcc) (line : Nat) : (d.companionServed a line).clocks = d.clocks := by
  unfold Dev.companionServed
  split
  · repeat' split
    all_goals simp
  · rfl

@[simp] theorem Dev.clocks_serveScratch (a : MemAcc) (q o pa err : Nat) : (d.serveScratch a q o pa err).clocks = d.clocks := by
  simp +decide [Dev.serveScratch]

@[simp] theorem Dev.clocks_tagError (line w : Nat) : (d.tagError line w).clocks = d.clocks := by simp +decide [Dev.tagError]

@[simp] theorem Dev.clocks_readMark (l : ShcLine) (a : MemAcc) : (d.readMark l a).clocks = d.clocks := by
  unfold Dev.readMark
  split
  · split <;> simp +decide
  · rfl

@[simp] theorem Dev.clocks_serveLine (a : MemAcc) (l : ShcLine) (pa : Nat) : (d.serveLine a l pa).clocks = d.clocks := by simp +decide [Dev.serveLine]

@[simp] theorem Dev.clocks_serve (a : MemAcc) (pa err : Nat) : (d.serve a pa err).clocks = d.clocks := by
  obtain ⟨f, hf⟩ := exists_opaque Dev.serve
  rw [← hf]
  delta Dev.serve at hf
  subst hf
  beta_reduce
  extract_lets line notOwner
  cases d.home pa with
  | none => dsimp only; split <;> simp
  | scratch q off =>
    dsimp only
    split
    · simp
    · split <;> simp
  | hbm p =>
    dsimp only
    split
    · simp
    split
    · simp
    split
    · split
      · simp +decide
      · split
        · simp +decide
        · rw [Dev.clocks_serveLine]
          split <;> simp +decide
    · split
      · simp +decide
      · split <;> simp +decide

@[simp] theorem Dev.clocks_sliceAccept (a : MemAcc) (pa err : Nat) : (d.sliceAccept a pa err).clocks = d.clocks := by
  unfold Dev.sliceAccept
  dsimp only
  repeat' split
  all_goals simp +decide

@[simp] theorem Dev.clocks_snoopResume (line : Nat) (bad : Bool) : (d.snoopResume line bad).clocks = d.clocks := by
  unfold Dev.snoopResume
  dsimp only
  rw [Dev.clocks_each, Dev.clocks_each]
  · split
    · split <;> simp
    · rfl
  · simp
  · intro e id
    split
    · split <;> simp
    · rfl

@[simp] theorem Dev.clocks_snoopFails (x : Snoop) : (d.snoopFails x).clocks = d.clocks := by
  unfold Dev.snoopFails
  dsimp only
  simp

@[simp] theorem Dev.clocks_hlLose (h : Nat) : (d.hlLose h).clocks = d.clocks := by
  unfold Dev.hlLose
  dsimp only
  simp +decide

@[simp] theorem Dev.clocks_hlFailover (h st : Nat) : (d.hlFailover h st).clocks = d.clocks := by
  unfold Dev.hlFailover
  dsimp only
  repeat' split
  all_goals simp

end

/-! ## A source that fails (R46 to R48) -/

section
variable (d : Dev)

@[simp] theorem Dev.clocks_hlAllDown : d.hlAllDown.clocks = d.clocks := by
  simp [Dev.hlAllDown]

@[simp] theorem Dev.clocks_disarmAll : d.disarmAll.clocks = d.clocks := by
  simp +decide [Dev.disarmAll]

/-- A beat that becomes invalid is not VALID, whatever it was; nothing else of the clocks changes. -/
theorem Dev.clocks_beatInvalid {safe running : Bool} {selected seen valid : Nat} (h : d.clocks = (safe, running, selected, seen, valid)) :
    d.beatInvalid.clocks = (safe, running, selected, seen, 0) := by
  simp only [Dev.clocks_eq, Prod.mk.injEq] at h
  obtain ⟨hsafe, hrunning, hselected, hseen, -⟩ := h
  unfold Dev.beatInvalid
  split
  · rw [Dev.clocks_record, Dev.clocks_disarmAll, Dev.clocks_eq, d.get_putD_same _ _ (by decide), d.get_putD_addr _ _ _ _ _ (by decide),
      d.get_putD_addr _ _ _ _ _ (by decide), hselected, hseen, ← hsafe, ← hrunning]
    rfl
  · next hflag =>
    have invalid : d.get F.BEAT_STATUS_VALID = 0 := by simpa [Dev.flag] using hflag
    rw [Dev.clocks_disarmAll, Dev.clocks_eq, invalid, hsafe, hrunning, hselected, hseen]

/-- The clock safe state as the clocks show it. -/
theorem Dev.clocks_clockSafe : d.clockSafe.clocks = (true, false, 0, 1, 0) := by
  unfold Dev.clockSafe
  extract_lets unclocked clk stopped invalid left down failed mem forgotten pwr
  have hselected : unclocked.get F.BEAT_CLK_STATUS_SELECTED = 0 := (Dev.get_putD_beside _ _ (by decide)).trans (Dev.get_putD_same _ _ _ (by decide))
  have hseen : unclocked.get F.BEAT_CLK_STATUS_SAFE_SEEN = 1 := Dev.get_putD_same _ _ _ (by decide)
  have hstopped : stopped.clocks = (true, false, 0, 1, stopped.get F.BEAT_STATUS_VALID) := by
    rw [Dev.clocks_eq, show stopped.get F.BEAT_CLK_STATUS_SELECTED = 0 from hselected, show stopped.get F.BEAT_CLK_STATUS_SAFE_SEEN = 1 from hseen]
  have hinvalid : invalid.clocks = (true, false, 0, 1, 0) :=
    Dev.clocks_beatInvalid _ (by
      rw [Dev.clocks_putD _ _ (by decide), Dev.clocks_putD _ _ (by decide), Dev.clocks_putD _ _ (by decide)]
      exact hstopped)
  have hleft : left.clocks = invalid.clocks := invalid.clocks_each (fun e n => by split <;> simp +decide) _
  have hdown : down.clocks = left.clocks := (Dev.clocks_putD _ _ (by decide)).trans (Dev.clocks_putD _ _ (by decide))
  have hfailed : failed.clocks = down.clocks := down.clocks_each (fun e c => e.clocks_put (c / 32) (c % 32) 0 (by decide)) _
  rw [Dev.clocks_emit, ← hinvalid, ← hleft, ← hdown, ← hfailed]
  simp [forgotten]

theorem Dev.safe_of_clocks {d : Dev} {safe : Bool} {rest : Bool × Nat × Nat × Nat} (h : d.clocks = (safe, rest)) : d.clk.safe = safe := congrArg Prod.fst h

/-- A clock event that brings the safe states brings them to HauneLink too. -/
theorem Dev.clockEvent_forced {d : Dev} {f : Dev → Dev} (before : d.clk.safe = false) (after : (f d).clk.safe = true) : d.clockEvent f = (f d).hlAllDown := by
  simp [Dev.clockEvent, before, after]

/-- What a source loses that receives no edges. -/
def Dev.edgeless (src : ClkSrc) : Dev := ((d.putD src.present 0).putD src.qual 0).putD src.run 0

theorem Dev.sourceFails_missing (src : ClkSrc) : (d.putD src.present 0).sourceFails src =
    if (d.edgeless src).get F.BEAT_CLK_STATUS_SELECTED = src.code then
      if (d.edgeless src).flag src.other.qual then (d.edgeless src).switchSource src.other else (d.edgeless src).clockSafe
    else d.edgeless src := rfl

theorem Dev.edgeless_get {src : ClkSrc} {g : Fld} (h : src.present.beside g = true ∧ src.qual.beside g = true ∧ src.run.beside g = true) :
    (d.edgeless src).get g = d.get g :=
  (Dev.get_putD_beside _ _ h.2.2).trans ((Dev.get_putD_beside _ _ h.2.1).trans (Dev.get_putD_beside _ _ h.1))

@[simp] theorem Dev.edgeless_selected (src : ClkSrc) : (d.edgeless src).get F.BEAT_CLK_STATUS_SELECTED = d.get F.BEAT_CLK_STATUS_SELECTED :=
  d.edgeless_get (by cases src <;> decide)

@[simp] theorem Dev.edgeless_otherQual (src : ClkSrc) : (d.edgeless src).flag src.other.qual = d.flag src.other.qual := by
  unfold Dev.flag
  rw [d.edgeless_get (by cases src <;> decide)]

theorem Dev.edgeless_cleared (src : ClkSrc) :
    (d.edgeless src).get src.present = 0 ∧ (d.edgeless src).get src.qual = 0 ∧ (d.edgeless src).get src.run = 0 := by
  have fits : src.present.fits = true ∧ src.qual.fits = true ∧ src.run.fits = true := by cases src <;> decide
  have apart : src.qual.beside src.present = true ∧ src.run.beside src.present = true ∧ src.run.beside src.qual = true := by cases src <;> decide
  obtain ⟨hpresent, hqual, hrun⟩ := fits
  obtain ⟨hqp, hrp, hrq⟩ := apart
  unfold Dev.edgeless
  rw [Dev.get_putD_beside _ _ hrp, Dev.get_putD_beside _ _ hqp, Dev.get_putD_beside _ _ hrq, Dev.get_putD_same _ _ _ hpresent,
    Dev.get_putD_same _ _ _ hqual, Dev.get_putD_same _ _ _ hrun]
  simp

theorem Dev.onlyFields_edgeless (src : ClkSrc) : d.onlyFields (d.edgeless src) [(src.present, 0, 0), (src.qual, 0, 0), (src.run, 0, 0)] :=
  Dev.onlyFields_then (Dev.onlyFields_then (d.onlyFields_putD _ _ (by cases src <;> decide)) _ 0 0 _ (by cases src <;> decide)) _ 0 0 _
    (by cases src <;> decide)

/-- The event of a switch of sources is a record and nothing more. -/
theorem Dev.record_clkSwitch : d.record .clkSwitch (devSource 15) [] = d.recordOnly .clkSwitch (devSource 15) [] :=
  d.record_eq _ _ _ (by decide) (by decide)

end

theorem exec_missingEdge (s : State) (src : ClkSrc) :
    exec (.missingEdge src) s = .next (s.withDev (s.dev.clockEvent fun d => (d.putD src.present 0).sourceFails src)) := rfl

/-- Settles O13: a source fails through `Dev.sourceFails`; of the clock safe state only what `Dev.clocks` shows is followed, through the failover
of HauneLink that comes with it. -/
theorem clockSourceFailures : Obligations.ClockSourceFailures := by
  refine ⟨fun s src other => ?_, fun s src selected qualified => ?_, fun s src selected none before => ?_⟩
  · have lost : (s.dev.putD src.present 0).sourceFails src = s.dev.edgeless src := by
      rw [Dev.sourceFails_missing, if_neg (by rwa [Dev.edgeless_selected])]
    obtain ⟨hpresent, hqual, hrun⟩ := s.dev.edgeless_cleared src
    rw [exec_missingEdge, Dev.clockEvent_safe (by rw [lost]; rfl), lost]
    exact ⟨_, rfl, rfl, hpresent, hqual, hrun, rfl, s.dev.onlyFields_edgeless src⟩
  · intro d
    have switched : (s.dev.putD src.present 0).sourceFails src = d.record .clkSwitch (devSource 15) [] := by
      rw [Dev.sourceFails_missing, if_pos (by rwa [Dev.edgeless_selected]), if_pos (by rwa [Dev.edgeless_otherQual])]
      rfl
    have kept := (d.recordOnly_frame .clkSwitch (devSource 15) []).1
    have clk : (d.record .clkSwitch (devSource 15) []).clk = s.dev.clk := by
      obtain ⟨-, -, -, hclk, -⟩ := kept
      rw [Dev.record_clkSwitch, hclk]
      rfl
    refine ⟨?_, ?_, Dev.get_putD_same _ _ _ (by decide), clk, ?_⟩
    · rw [exec_missingEdge, Dev.clockEvent_safe (by rw [switched, clk]), switched]
    · refine (Dev.get_putD_beside _ _ (by decide)).trans ((Dev.get_putD_same _ _ _ (by decide)).trans ?_)
      cases src <;> rfl
    · rw [Dev.record_clkSwitch]
      exact Dev.unitsKept_sameBytes (d := s.dev) kept
  · have failed : (s.dev.putD src.present 0).sourceFails src = (s.dev.edgeless src).clockSafe := by
      rw [Dev.sourceFails_missing, if_pos (by rwa [Dev.edgeless_selected]), if_neg (by simp [none])]
    have shown := (s.dev.edgeless src).clocks_clockSafe
    have safe : (s.dev.edgeless src).clockSafe.clk.safe = true := Dev.safe_of_clocks shown
    have final : (s.dev.edgeless src).clockSafe.hlAllDown.clocks = (true, false, 0, 1, 0) := by rw [Dev.clocks_hlAllDown, shown]
    rw [exec_missingEdge, Dev.clockEvent_forced before (by rw [failed, safe]), failed]
    simp only [Dev.clocks_eq, Prod.mk.injEq] at final
    obtain ⟨hsafe, hrunning, hselected, hseen, hvalid⟩ := final
    exact ⟨_, rfl, rfl, hsafe, hrunning, hselected, hseen, hvalid⟩

end Sys2Proof.Machine

/-! # The matrix engine (R75 to R101) -/

namespace Sys2Proof.Machine

/-! ## The drained value of an accumulator (R85) -/

theorem Acc.drain_of_special {a : Acc} (comp : Bool) (h : a.s.val.special = true) : a.drain comp = a.s := by simp [Acc.drain, h]

theorem Acc.drain_uncompensated (a : Acc) : a.drain false = a.s := by simp [Acc.drain]

theorem Acc.drain_compensated {a : Acc} (h : a.s.val.special = false) : a.drain true = (a.s.val.add a.c.val).f32 := by
  simp [Acc.drain, h, fadd]

/-- A magnitude that overflows FP32 is encoded as the infinity of its sign (R109). -/
theorem FVal.f32_of_overflow {n : Bool} {m : Nat} {e : Int} (h : l32.round m e = none) : (FVal.fin n m e).f32 = if n then f32ninf else f32inf := by
  have encoded : l32.encode (.fin n m e) = { v := l32.sgn n + l32.infinity } := by simp only [Layout.encode, h]
  rw [FVal.f32, encoded]
  cases n <;> rfl

/-- Settles O23: the two cases of `Acc.drain`, and the encoding of an overflow. -/
theorem drainedValues : Obligations.DrainedValues := by
  refine ⟨fun a comp h => Acc.drain_of_special comp h, Acc.drain_uncompensated, fun a h => Acc.drain_compensated h, fun a n m e hs hsum hround => ?_⟩
  rw [Acc.drain_compensated hs, hsum, FVal.f32_of_overflow hround]

/-! ## What a change of the engine leaves unchanged -/

section
variable (d : Dev) (c : Nat) (f : Mxe → Mxe)

@[simp] theorem Dev.mxe_updMxe : ((d.updMxe c f).core c).mxe = f (d.core c).mxe := by simp [Dev.updMxe]

theorem Dev.core_updMxe_other {k : Nat} (h : k ≠ c) : (d.updMxe c f).core k = d.core k := d.core_updCore_other c k _ h

@[simp] theorem Dev.core_showMxe (k : Nat) : (d.showMxe c).core k = d.core k := rfl

theorem Dev.core_shown_other {k : Nat} (h : k ≠ c) : ((d.updMxe c f).showMxe c).core k = d.core k := d.core_updMxe_other c f h

/-- The fields of MXE_STATUS that follow the engine's state. -/
def mxeShownFields (c : Nat) : List (Fld × Nat × Nat) :=
  [(F.MXE_STATUS_QDEPTH, c, 0), (F.MXE_STATUS_HELD, c, 0), (F.MXE_STATUS_DRAINING, c, 0), (F.MXE_STATUS_BUSY, c, 0)]

theorem Dev.KeepsStores.updMxe {d e : Dev} {fs : List (Fld × Nat × Nat)} (h : d.KeepsStores e fs) (c : Nat) (f : Mxe → Mxe) :
    d.KeepsStores (e.updMxe c f) fs := h.updCore c _ (fun _ => rfl) (fun _ => rfl) fun _ => rfl

theorem Dev.KeepsStores.showMxe {d e : Dev} {c : Nat} (h : d.KeepsStores e (mxeShownFields c)) : d.KeepsStores (e.showMxe c) (mxeShownFields c) :=
  (((h.put F.MXE_STATUS_QDEPTH c 0 _ (by decide) (by simp [mxeShownFields])).put F.MXE_STATUS_HELD c 0 _ (by decide) (by simp [mxeShownFields])).put
    F.MXE_STATUS_DRAINING c 0 _ (by decide) (by simp [mxeShownFields])).put F.MXE_STATUS_BUSY c 0 _ (by decide) (by simp [mxeShownFields])

end

/-! ## MM (R88, R95, R96, R99) -/

/-- The head of the queue is a matrix command and may be taken: no PAUSE, no ERR, and no command in progress. -/
structure Dev.MxHead (d : Dev) (c : Nat) (q : MxeCmd) (rest : List MxeCmd) : Prop where
  queue : (d.core c).mxe.queue = q :: rest
  takes : d.mxTakes c = true
  idle : (d.core c).mxe.run = none
  notMark : mxOpc q.words ≠ 2

/-- The head of the queue is taken off. -/
def Dev.popMxe (d : Dev) (c : Nat) (rest : List MxeCmd) : Dev := d.updMxe c fun m => { m with queue := rest }

section
variable {d : Dev} {c : Nat} {q : MxeCmd} {rest : List MxeCmd} (h : d.MxHead c q rest)
include h

theorem Dev.mxStart_of_bad (hc : d.mxCheck c q.words ≠ 0) : d.mxStart c =
    ((((d.popMxe c rest).put F.MXE_STATUS_ERR c 0 1).put F.MXE_STATUS_ERR_CODE c 0 (d.mxCheck c q.words)).put F.MXE_ERR_CMD_V c 0 (wordOf q.words 0)).record
      .mxeCmdError (coreSource c 1) [(1, d.mxCheck c q.words), (8, wordOf q.words 0)] := by
  simp [Dev.mxStart, Dev.popMxe, h.queue, h.takes, h.idle, h.notMark, hc]

theorem Dev.mxStart_of_good (hc : d.mxCheck c q.words = 0) : d.mxStart c =
    if mxKpass q.words ≠ 0 then (d.popMxe c rest).updMxe c fun m => { m with run := some { cmd := q, started := mxInit q.words = 2 } }
    else if mxInit q.words = 2 then (d.popMxe c rest).mxFinish c q.words
    else if !d.setFree c q.words then d
    else ((d.popMxe c rest).startTile c q.words).mxFinish c q.words := by
  simp [Dev.mxStart, Dev.popMxe, h.queue, h.takes, h.idle, h.notMark, hc]

end

/-- What lets nothing start: an empty queue, PAUSE or ERR, a command in progress, a MARK at the head. -/
theorem Dev.mxStart_of_held {d : Dev} {c : Nat} (h : (d.core c).mxe.queue = [] ∨ d.mxTakes c = false ∨ (d.core c).mxe.run.isSome = true ∨
    ∃ q rest, (d.core c).mxe.queue = q :: rest ∧ mxOpc q.words = 2) : d.mxStart c = d := by
  cases hq : (d.core c).mxe.queue with
  | nil => simp [Dev.mxStart, hq]
  | cons q rest =>
    have held : (!d.mxTakes c || (d.core c).mxe.run.isSome || decide (mxOpc q.words = 2)) = true := by
      rcases h with h | h | h | ⟨q', rest', h, mark⟩
      · exact absurd (hq.symm.trans h) (by simp)
      · simp [h]
      · simp [h]
      · obtain ⟨rfl, -⟩ := List.cons.inj (hq.symm.trans h)
        simp [mark]
    simp only [Dev.mxStart, hq]
    exact if_pos held

section
variable (s : State) {c : Nat} (hc : c < 272) (hg : s.dev.clockGated c = false)
include hc

theorem exec_mxeErrClear : exec (.mxeErrClear c) s = .next (s.withDev (s.dev.put F.MXE_STATUS_ERR c 0 0)) := s.runOn_next _ (decide_eq_true hc)

include hg

theorem exec_mm : exec (.mm c) s = .next (s.withDev ((s.dev.mxStart c).showMxe c)) := s.runCore_next _ hc rfl hg

theorem exec_mxeDrainStart_nil (hx : (s.dev.core c).mxe.drains = []) : exec (.mxeDrainStart c) s = .next s :=
  (s.runCore_next _ hc rfl hg).trans (by simp [hx])

theorem exec_mxeDrainStart_cons {x : MxeDrain} {rest : List MxeDrain} (hx : (s.dev.core c).mxe.drains = x :: rest) :
    exec (.mxeDrainStart c) s = .next (s.withDev (
      if x.running || ((s.dev.core c).vxe.vrun.toList ++ (s.dev.core c).vxe.xrun.toList).any (fun i => i.buffers.contains (mxDst x.words)) then s.dev
      else (s.dev.updMxe c fun m => { m with drains := { x with running := true } :: rest }).showMxe c)) :=
  (s.runCore_next _ hc rfl hg).trans (by simp only [hx])

end

/-- Settles O21: the branches of `Dev.mxStart`, framed by `Dev.KeepsStores` where the statement says what stands. -/
theorem matrixCommandsStartAndDrain : Obligations.MatrixCommandsStartAndDrain := by
  refine ⟨?runs, ?refused, ?atOnce, ?held, ?drains, ?drainWaits, ?cleared⟩
  case runs =>
    intro s c q rest hc hg hq htakes hrun hopc hcheck hk
    let d := (s.dev.popMxe c rest).updMxe c fun m => { m with run := some { cmd := q, started := mxInit q.words = 2 } }
    have started : exec (.mm c) s = .next (s.withDev (d.showMxe c)) := by
      rw [exec_mm s hc hg, Dev.mxStart_of_good ⟨hq, htakes, hrun, hopc⟩ hcheck, if_pos hk]
    have kept : s.dev.KeepsStores (d.showMxe c) (mxeShownFields c) := (((Dev.KeepsStores.refl s.dev _).updMxe c _).updMxe c _).showMxe
    have others (k : Nat) (hk : k ≠ c) : (d.showMxe c).core k = s.dev.core k :=
      (Dev.core_shown_other _ c _ hk).trans (Dev.core_updMxe_other s.dev c _ hk)
    exact ⟨_, started, rfl, by simp [d, Dev.popMxe], by simp [d], others, rfl, kept.byteAt, kept.regs⟩
  case refused =>
    intro s c q rest hc hg hq htakes hrun hopc hcheck
    rw [exec_mm s hc hg, Dev.mxStart_of_bad ⟨hq, htakes, hrun, hopc⟩ hcheck, Dev.popMxe]
  case atOnce =>
    intro s c q rest hc hg hq htakes hrun hopc hcheck hk d
    have start := Dev.mxStart_of_good ⟨hq, htakes, hrun, hopc⟩ hcheck
    rw [if_neg (not_not.2 hk)] at start
    rw [exec_mm s hc hg, start]
    refine ⟨fun cont => ?_, fun new free => ?_, fun new full => ?_⟩
    · rw [if_pos cont]
      rfl
    · rw [if_neg new, if_neg (by simp [free])]
      rfl
    · rw [if_neg new, if_pos (by simp [full])]
  case held =>
    intro s c hc hg h
    rw [exec_mm s hc hg, Dev.mxStart_of_held h]
  case drains =>
    intro s c x rest hc hg hx hwait hfree
    let d := s.dev.updMxe c fun m => { m with drains := { x with running := true } :: rest }
    have started : exec (.mxeDrainStart c) s = .next (s.withDev (d.showMxe c)) := by
      rw [exec_mxeDrainStart_cons s hc hg hx, hwait, hfree]
      rfl
    have kept : s.dev.KeepsStores (d.showMxe c) (mxeShownFields c) := ((Dev.KeepsStores.refl s.dev _).updMxe c _).showMxe
    exact ⟨_, started, rfl, by simp [d], fun k hk => Dev.core_shown_other s.dev c _ hk, rfl, kept.byteAt⟩
  case drainWaits =>
    intro s c hc hg h
    cases hx : (s.dev.core c).mxe.drains with
    | nil => exact exec_mxeDrainStart_nil s hc hg hx
    | cons x rest => rw [exec_mxeDrainStart_cons s hc hg hx, if_pos (by simpa only [Bool.or_eq_true] using h x rest hx)]
  case cleared =>
    intro s c hc
    exact ⟨_, exec_mxeErrClear s hc, rfl, Dev.get_put_same _ _ _ _ _ (by decide), rfl, s.dev.onlyFields_put _ _ _ _ (by decide)⟩

end Sys2Proof.Machine

/-! ## Marks, rows, completions of drains and ABORT (R75, R88 to R90, R98, R101, R388) -/

namespace Sys2Proof.Machine

/-- The device after the wait of a row for its operands: the fast limiter's turn is noted, and the cycles without entry are counted (R75, R388). -/
def Dev.rowFed (d : Dev) (c feed : Nat) : Dev :=
  let d := d.updMxe c fun m => { m with skip := d.pwr.fast }
  if feed = 0 then d else d.count F.MXE_STALL_FEED_V c 0 feed

/-- Whether the next row of a command may enter, and the device after the question, which is not asked of a command that has started (R90). -/
def Dev.rowGoes (d : Dev) (c : Nat) (r : MxeRun) : Bool × Dev := if r.started then (true, d) else d.mayEnter c r.cmd.words

/-- The device in which a row enters: the first row of a command that starts a tile starts it. -/
def Dev.rowTile (d : Dev) (c : Nat) (r : MxeRun) : Dev := if r.started then d else d.startTile c r.cmd.words

/-- The entry of a row whose operands are there. -/
def Dev.rowEntry (d : Dev) (c : Nat) (r : MxeRun) (aErr wErr : Nat) : Dev :=
  let x := d.rowGoes c r
  if !x.1 then x.2.count F.MXE_STALL_DRAIN_V c
  else
    let e := x.2.rowTile c r
    match (e.core c).mxe.tile with
    | some t => (e.enterRow c r t aErr wErr).showMxe c
    | none => e

section
variable (d : Dev) (c feed : Nat) {r : MxeRun} (aErr wErr : Nat)

theorem Dev.tile_rowFed : ((d.rowFed c feed).core c).mxe.tile = (d.core c).mxe.tile := by
  have noted : ((d.updMxe c fun m => { m with skip := d.pwr.fast }).core c).mxe.tile = (d.core c).mxe.tile := by simp
  unfold Dev.rowFed
  split
  · exact noted
  · exact noted

theorem Dev.rowEntry_started (hs : r.started = true) {t : MxeTile} (ht : (d.core c).mxe.tile = some t) :
    d.rowEntry c r aErr wErr = (d.enterRow c r t aErr wErr).showMxe c := by
  simp [Dev.rowEntry, Dev.rowGoes, Dev.rowTile, hs, ht]

theorem Dev.rowEntry_waits (hs : r.started = false) (hw : (d.mayEnter c r.cmd.words).1 = false) :
    d.rowEntry c r aErr wErr = (d.mayEnter c r.cmd.words).2.count F.MXE_STALL_DRAIN_V c := by
  simp [Dev.rowEntry, Dev.rowGoes, hs, hw]

theorem Dev.rowEntry_starts (hs : r.started = false) (hw : (d.mayEnter c r.cmd.words).1 = true) {t : MxeTile}
    (ht : (((d.mayEnter c r.cmd.words).2.startTile c r.cmd.words).core c).mxe.tile = some t) :
    d.rowEntry c r aErr wErr = (((d.mayEnter c r.cmd.words).2.startTile c r.cmd.words).enterRow c r t aErr wErr).showMxe c := by
  simp [Dev.rowEntry, Dev.rowGoes, Dev.rowTile, hs, hw, ht]

end

section
variable (s : State) {c : Nat} (hc : c < 272) (hg : s.dev.clockGated c = false)
include hc hg

theorem exec_mark {q : MxeCmd} {rest : List MxeCmd} (h : (s.dev.core c).mxe.queue = q :: rest) (htakes : s.dev.mxTakes c = true)
    (hrun : (s.dev.core c).mxe.run = none) (hdrains : (s.dev.core c).mxe.drains = []) (hopc : mxOpc q.words = 2) :
    exec (.mark c) s = .next (s.withDev (if mxTapEn q.words then ((s.dev.popMxe c rest).showMxe c).pulse c (mxTap q.words) else (s.dev.popMxe c rest).showMxe c)) :=
  (s.runCore_next _ hc rfl hg).trans (by simp [h, htakes, hrun, hdrains, hopc, Dev.popMxe])

theorem exec_mxeDrainComplete {x : MxeDrain} {rest : List MxeDrain} (hx : (s.dev.core c).mxe.drains = x :: rest) (hr : x.running = true) :
    let d := ((s.dev.each (List.range x.tile.m) (fun d r => d.drainRow c x r)).updMxe c fun m => { m with drains := rest }).showMxe c
    exec (.mxeDrainComplete c) s = .next (s.withDev ((if mxTapEn x.words then d.pulse c (mxTap x.words) else d).vecPump c)) :=
  (s.runCore_next _ hc rfl hg).trans (by simp only [hx, hr]; rfl)

theorem exec_mxeRowEntry {r : MxeRun} (hr : (s.dev.core c).mxe.run = some r) (aErr wErr feed : Nat) :
    exec (.mxeRowEntry c aErr wErr feed) s = .next (s.withDev (
      if s.dev.pwr.fast && (s.dev.core c).mxe.skip then s.dev.updMxe c fun m => { m with skip := false }
      else (s.dev.rowFed c feed).rowEntry c r aErr wErr)) :=
  (s.runCore_next _ hc rfl hg).trans (by simp only [hr]; rfl)

end

/-- No load of a tile from its buffer is in progress for the command that runs (R88). -/
def MxeRun.loadDone (r : MxeRun) : Prop := r.started = false ∨ mxInit r.cmd.words ≠ 1 ∨ r.pass ≠ 0 ∨ r.sub ≠ 0 ∨ mxM r.cmd.words ≤ 2 * r.row

theorem MxeRun.loadDone_iff (r : MxeRun) : r.loadDone ↔
    (r.started && mxInit r.cmd.words = 1 && r.pass = 0 && r.sub = 0 && 2 * r.row < mxM r.cmd.words) = false := by
  simp only [MxeRun.loadDone, Bool.and_eq_false_iff, decide_eq_false_iff_not, not_lt, or_assoc, ne_eq]

/-- An ABORT that cuts off neither a drain nor a load leaves no row undefined. -/
theorem exec_mxeAbort (s : State) {c : Nat} (hc : c < 272) (hx : ∀ x rest, (s.dev.core c).mxe.drains = x :: rest → x.running = false)
    (hl : ∀ r, (s.dev.core c).mxe.run = some r → r.loadDone) :
    exec (.mxeAbort c) s = .next (s.withDev (((s.dev.updMxe c fun _ => {}).showMxe c).vecPump c)) := by
  refine (s.runOn_next _ (decide_eq_true hc)).trans ?_
  cases hd : (s.dev.core c).mxe.drains with
  | nil =>
    cases hr : (s.dev.core c).mxe.run with
    | none => simp only [hd, hr]
    | some r => simp [hd, hr, r.loadDone_iff.1 (hl r hr)]
  | cons x rest =>
    cases hr : (s.dev.core c).mxe.run with
    | none => simp [hd, hr, hx x rest hd]
    | some r => simp [hd, hr, hx x rest hd, r.loadDone_iff.1 (hl r hr)]

/-- Settles O22: a row's entry is `Dev.rowFed` and then `Dev.rowEntry`; an ABORT that cuts nothing off is the reset of the engine alone. -/
theorem matrixEngineEvents : Obligations.MatrixEngineEvents := by
  refine ⟨?mark, ?rows, ?drains, ?aborts⟩
  case mark =>
    intro s c q rest hc hg hq htakes hrun hdrains hopc
    exact exec_mark s hc hg hq htakes hrun hdrains hopc
  case rows =>
    intro s c aErr wErr feed r hc hg hr
    have entry := exec_mxeRowEntry s hc hg hr aErr wErr feed
    refine ⟨fun hfast hskip => ?_, fun turn => ?_⟩
    · rw [entry, hfast, hskip]
      rfl
    · have goes : exec (.mxeRowEntry c aErr wErr feed) s = .next (s.withDev ((s.dev.rowFed c feed).rowEntry c r aErr wErr)) := by
        rw [entry, if_neg (by rcases turn with h | h <;> simp [h])]
      refine ⟨fun t hs ht => ?_, fun hs => ⟨fun hw => ?_, fun t hw ht => ?_⟩⟩
      · exact goes.trans (by rw [Dev.rowEntry_started (s.dev.rowFed c feed) c aErr wErr hs ((s.dev.tile_rowFed c feed).trans ht)]; rfl)
      · exact goes.trans (by rw [Dev.rowEntry_waits (s.dev.rowFed c feed) c aErr wErr hs hw]; rfl)
      · exact goes.trans (by rw [Dev.rowEntry_starts (s.dev.rowFed c feed) c aErr wErr hs hw ht]; rfl)
  case drains =>
    intro s c x rest hc hg hx hrun
    exact exec_mxeDrainComplete s hc hg hx hrun
  case aborts =>
    intro s c hc hx hl
    exact exec_mxeAbort s hc hx hl

end Sys2Proof.Machine

/-! # Instructions of the control processor that hand work to other units (R95, R190, R215, R440) -/

namespace Sys2Proof.Machine

theorem insnOk_of_issues {d : Dev} {c t : Nat} {rs : List Nat} (hi : d.issues c t) (hr : ∀ r ∈ rs, r < 32) : insnOk c t rs = true := by
  simpa [insnOk, regsOk, hi.1, hi.2.1] using hr

/-- An instruction that CTC issues, its operands being of the device, acts after the choice of its thread, and CTC_STATUS shows the threads after it. -/
theorem State.runOn_issue (s : State) {c t : Nat} {ok : Bool} (hi : s.dev.issues c t) (h : ok = true) (f : Dev → Dev) :
    s.runOn ok (fun d => d.issue c t f) = .next (s.withDev ((f (s.dev.takeThread c t)).showCtc c)) := by
  rw [s.runOn_next _ h, Dev.issue_eq hi]

/-- The matrix engine's queue with one command more, as MXE_STATUS shows it. -/
def Dev.pushMxe (d : Dev) (c : Nat) (q : MxeCmd) : Dev :=
  (d.updCore c fun k => { k with mxe := { k.mxe with queue := k.mxe.queue ++ [q] } }).put F.MXE_STATUS_QDEPTH c 0 ((d.core c).mxe.queue.length + 1)

/-- The command of the matrix engine that stands at a core-local address (Table 04-5). -/
def Dev.mxeCmdAt (d : Dev) (c a : Nat) : MxeCmd := { words := (List.range 4).map (fun i => leAt (d.localRead c a 32) (8 * i) 8) }

section
variable (s : State) {c t : Nat} (hi : s.dev.issues c t)
include hi

theorem exec_cmx {ra : Nat} (hra : ra < 32) :
    let d := s.dev.takeThread c t
    let a := (d.g c t ra).toNat
    exec (.cmx c t ra false) s = .next (s.withDev (Dev.showCtc (
      if d.localFault c a 32 ≠ 0 then d.faultHere c t (d.localFault c a 32)
      else if 16 ≤ (d.core c).mxe.queue.length then d.blockThread c t (.room 2)
      else (d.pushMxe c (d.mxeCmdAt c a)).pcNext c t) c)) :=
  s.runOn_issue hi (insnOk_of_issues hi (by simpa using hra)) _

theorem exec_csx {ra : Nat} (hra : ra < 32) :
    let d := s.dev.takeThread c t
    let a := (d.g c t ra).toNat
    exec (.csx c t ra false) s = .next (s.withDev (Dev.showCtc (
      if d.localFault c a 64 ≠ 0 then d.faultHere c t (d.localFault c a 64)
      else if (d.acceptStream c a).1 then ((d.acceptStream c a).2.pcNext c t).settle
      else (d.acceptStream c a).2.blockThread c t (.room 3)) c)) :=
  s.runOn_issue hi (insnOk_of_issues hi (by simpa using hra)) _

theorem exec_cdb {ra : Nat} (hra : ra < 32) :
    let d := s.dev.takeThread c t
    let a := (d.g c t ra).toNat
    exec (.cdb c t ra false) s = .next (s.withDev (Dev.showCtc (if 15 < a then d.faultHere c t 1 else (d.dmaRing c a).pcNext c t) c)) :=
  s.runOn_issue hi (insnOk_of_issues hi (by simpa using hra)) _

theorem exec_csrr {rd ra : Nat} {imm : Int} (wide : Bool) (hrd : rd < 32) (hra : ra < 32) (himm : immOk imm = true) :
    let d := s.dev.takeThread c t
    let n := if wide then 8 else 4
    let a := d.ea c t ra imm
    let x := if a < 0x10000000 then d.csrRead (d.windowAddr a) n else (.unmapped, 0, d)
    exec (.csrr c t rd ra imm wide false) s = .next (s.withDev (Dev.showCtc (
      if a % n ≠ 0 then d.faultHere c t 2 else ((x.2.2.countUnmapped x.1).setG c t rd x.2.1).pcNext c t) c)) :=
  s.runOn_issue hi (by rw [insnOk_of_issues hi (by simp [hrd, hra]), himm]; rfl) _

theorem exec_csrw {rb ra : Nat} {imm : Int} (wide : Bool) (hrb : rb < 32) (hra : ra < 32) (himm : immOk imm = true) :
    let d := s.dev.takeThread c t
    let n := if wide then 8 else 4
    let a := d.ea c t ra imm
    let x := if a < 0x10000000 then (d.pcNext c t).csrWrite ((d.pcNext c t).windowAddr a) n (d.g c t rb).toNat else (.unmapped, d.pcNext c t)
    exec (.csrw c t rb ra imm wide false) s = .next (s.withDev (Dev.showCtc (
      if a % n ≠ 0 then d.faultHere c t 2 else x.2.countUnmapped x.1) c)) :=
  s.runOn_issue hi (by rw [insnOk_of_issues hi (by simp [hrb, hra]), himm]; rfl) _

end

/-- Settles O36: each clause is one branch of its instruction's meaning, after the choice of the thread. -/
theorem ctcIssuesToUnits : Obligations.CtcIssuesToUnits := by
  refine ⟨?pass, ?read, ?write⟩
  case pass =>
    intro s c t ra hi hra d a
    have cmx := exec_cmx s hi hra
    have csx := exec_csx s hi hra
    have cdb := exec_cdb s hi hra
    refine ⟨fun hf room => ?_, fun hf full => ?_, fun hf => ?_, fun hf took => ?_, fun hf busy => ?_, fun hf => ?_, fun high => ?_, fun ch => ?_⟩
    · exact cmx.trans (by rw [if_neg (not_not.2 hf), if_neg (Nat.not_le.2 room)]; rfl)
    · exact cmx.trans (by rw [if_neg (not_not.2 hf), if_pos full])
    · exact cmx.trans (by rw [if_pos hf])
    · exact csx.trans (by rw [if_neg (not_not.2 hf), if_pos took])
    · exact csx.trans (by rw [if_neg (not_not.2 hf), if_neg (Bool.eq_false_iff.1 busy)])
    · exact csx.trans (by rw [if_pos hf])
    · exact cdb.trans (by rw [if_pos high])
    · exact cdb.trans (by rw [if_neg (Nat.not_lt.2 ch)])
  case read =>
    intro s c t rd ra imm wide hi hrd hra himm d n a
    have csrr := exec_csrr s hi wide hrd hra himm
    refine ⟨fun aligned inside => ?_, fun aligned beyond => ?_, fun odd => ?_⟩
    · exact csrr.trans (by rw [if_neg (not_not.2 aligned), if_pos inside])
    · exact csrr.trans (by rw [if_neg (not_not.2 aligned), if_neg (Nat.not_lt.2 beyond)]; rfl)
    · exact csrr.trans (by rw [if_pos odd])
  case write =>
    intro s c t rb ra imm wide hi hrb hra himm d n a
    have csrw := exec_csrw s hi wide hrb hra himm
    refine ⟨fun aligned inside => ?_, fun aligned beyond => ?_, fun odd => ?_⟩
    · exact csrw.trans (by rw [if_neg (not_not.2 aligned), if_pos inside])
    · exact csrw.trans (by rw [if_neg (not_not.2 aligned), if_neg (Nat.not_lt.2 beyond)]; rfl)
    · exact csrw.trans (by rw [if_pos odd])

end Sys2Proof.Machine

/-! # Number formats, the loss scale, softmax rows and lane-wise results (R103 to R109, R120, R124 to R126, R135, R136) -/

namespace Sys2Proof.Machine

/-! ## Rounding a value that a format holds (R108) -/

/-- A significand of at most p bits on the grid is rounded to itself, where it stands at the lowest bit or is normalised. -/
theorem rne_of_fits {p m : Nat} {q e : Int} (fits : m < 2 ^ p) (h : e = q ∨ q ≤ e ∧ 2 ^ (p - 1) ≤ m) : rne p q m e = (m, e) := by
  by_cases zero : m = 0
  · have : ¬ 2 ^ (p - 1) ≤ m := by simp [zero]
    obtain rfl : e = q := by tauto
    simp [rne, zero]
  · have short : Nat.log2 m < p := (Nat.log2_lt zero).2 fits
    have grid : max q (e + Nat.log2 m + 1 - p) = e := by
      rcases h with rfl | ⟨above, normal⟩
      · omega
      · have long : p - 1 ≤ Nat.log2 m := (Nat.le_log2 zero).2 normal
        omega
    simp [rne, zero, grid]

namespace Layout

variable (l : Layout) {m e : Nat}

theorem round_subnormal (hm : m < 2 ^ l.mb) : l.round m l.low = some m := by
  have kept : rne (l.mb + 1) l.low m l.low = (m, l.low) := rne_of_fits (by omega) (.inl rfl)
  have whole : m ≠ 2 ^ (l.mb + 1) := by omega
  simp [round, kept, pack, whole, hm]

theorem round_normal (hm : m < 2 ^ l.mb) (he : e ≠ 0) (top : e * 2 ^ l.mb + m ≤ l.top) :
    l.round (m + 2 ^ l.mb) (e - l.bias - l.mb) = some (e * 2 ^ l.mb + m) := by
  have kept : rne (l.mb + 1) l.low (m + 2 ^ l.mb) (e - l.bias - l.mb) = (m + 2 ^ l.mb, e - l.bias - l.mb) :=
    rne_of_fits (by omega) (.inr ⟨by unfold low; omega, by simp⟩)
  have whole : m + 2 ^ l.mb ≠ 2 ^ (l.mb + 1) := by omega
  have field : (e - l.bias - l.mb + l.bias + l.mb : Int).toNat = e := by omega
  simp [round, kept, pack, whole, field, top]

/-! ## The element of a value (R104, R109) -/

/-- The magnitude of an element: its exponent field above its fraction. -/
theorem mag_eq (v : Nat) : v % 2 ^ (l.eb + l.mb) = v / 2 ^ l.mb % 2 ^ l.eb * 2 ^ l.mb + v % 2 ^ l.mb := by
  rw [Nat.add_comm l.eb, Nat.pow_add, Nat.mod_mul]
  ring

theorem sgn_add_mag {v : Nat} (hv : v < 2 ^ (l.eb + l.mb + 1)) : l.sgn (bitOf v (l.eb + l.mb)) + v % 2 ^ (l.eb + l.mb) = v := by
  have one : v / 2 ^ (l.eb + l.mb) < 2 := Nat.div_lt_of_lt_mul (by rwa [← Nat.pow_succ])
  have sign : b2n (bitOf v (l.eb + l.mb)) = v / 2 ^ (l.eb + l.mb) := by
    simp only [b2n, bitOf, Nat.shiftRight_eq_div_pow, decide_eq_true_eq]
    generalize v / 2 ^ (l.eb + l.mb) = q at one ⊢
    split <;> omega
  rw [sgn, sign, Nat.div_add_mod']

/-- The E4M3 layouts of Table 05-2, whose one NaN is the pattern above the largest magnitude, have 4 and 3 bits. -/
def E4m3Shape (l : Layout) : Prop := l.sp = .e4m3 → l.eb = 4 ∧ l.mb = 3

/-- A pattern that is no special case is at most the largest finite magnitude. -/
theorem mag_le_top (shape : l.E4m3Shape) (he : e < 2 ^ l.eb) (hm : m < 2 ^ l.mb) (hieee : l.sp = .ieee → e ≠ 2 ^ l.eb - 1)
    (he4m3 : l.sp = .e4m3 → ¬ (e = 15 ∧ m = 7)) : e * 2 ^ l.mb + m ≤ l.top := by
  cases hs : l.sp with
  | ieee =>
    have below : (e + 1) * 2 ^ l.mb ≤ (2 ^ l.eb - 1) * 2 ^ l.mb := Nat.mul_le_mul_right _ (by have := hieee hs; omega)
    simp only [top, hs]
    exact Nat.le_sub_one_of_lt (by linarith)
  | e4m3 =>
    obtain ⟨heb, hmb⟩ := shape hs
    have := he4m3 hs
    simp only [top, hs, heb, hmb] at *
    omega
  | none =>
    have below : (e + 1) * 2 ^ l.mb ≤ 2 ^ l.eb * 2 ^ l.mb := Nat.mul_le_mul_right _ he
    simp only [top, hs, Nat.pow_add]
    exact Nat.le_sub_one_of_lt (by linarith)

/-- What the value of an element is: NaN, the infinity of an IEEE layout, or a finite value that rounds to the element's own magnitude. -/
theorem decode_cases (shape : l.E4m3Shape) (v : Nat) :
    l.decode v = .nan ∨
    (l.sp = .ieee ∧ v % 2 ^ (l.eb + l.mb) = l.infinity ∧ l.decode v = .inf (bitOf v (l.eb + l.mb))) ∨
    ∃ (k : Nat) (t : Int), l.decode v = .fin (bitOf v (l.eb + l.mb)) k t ∧ l.round k t = some (v % 2 ^ (l.eb + l.mb)) ∧
      (v % 2 ^ (l.eb + l.mb) = 0 → k = 0) := by
  have he : v / 2 ^ l.mb % 2 ^ l.eb < 2 ^ l.eb := Nat.mod_lt _ (Nat.two_pow_pos _)
  have hm : v % 2 ^ l.mb < 2 ^ l.mb := Nat.mod_lt _ (Nat.two_pow_pos _)
  rw [l.mag_eq]
  simp only [decode, Bool.and_eq_true, decide_eq_true_eq]
  generalize v / 2 ^ l.mb % 2 ^ l.eb = e at he ⊢
  generalize v % 2 ^ l.mb = m at hm ⊢
  by_cases ones : l.sp = .ieee ∧ e = 2 ^ l.eb - 1
  · rw [if_pos ones]
    by_cases hz : m = 0
    · exact .inr (.inl ⟨ones.1, by simp [infinity, ones.2, hz], if_pos hz⟩)
    · exact .inl (if_neg hz)
  rw [if_neg ones]
  by_cases nan : (l.sp = .e4m3 ∧ e = 15) ∧ m = 7
  · exact .inl (if_pos nan)
  rw [if_neg nan]
  have top := l.mag_le_top shape he hm (fun hs h => ones ⟨hs, h⟩) (fun hs h => nan ⟨⟨hs, h.1⟩, h.2⟩)
  by_cases sub : e = 0
  · subst sub
    exact .inr (.inr ⟨m, l.low, if_pos rfl, by simpa using l.round_subnormal hm, by simp⟩)
  · exact .inr (.inr ⟨m + 2 ^ l.mb, e - l.bias - l.mb, if_neg sub, l.round_normal hm sub top, by simp [sub]⟩)

/-- Conversion to a layout that overflows to infinity gives an element back from its value. -/
theorem encode_decode (shape : l.E4m3Shape) {v : Nat} (hv : v < 2 ^ (l.eb + l.mb + 1)) (number : l.decode v ≠ .nan) :
    l.encode (l.decode v) = { v := v } := by
  have whole := l.sgn_add_mag hv
  rcases l.decode_cases shape v with nan | ⟨-, mag, inf⟩ | ⟨k, t, fin, round, zero⟩
  · exact absurd nan number
  · rw [inf, encode, ← mag, whole]
  · simpa [fin, encode, round, whole] using mt zero

/-- Conversion to a layout that saturates gives an element back from its value: only a layout with infinities has an infinite element. -/
theorem encodeSat_decode (shape : l.E4m3Shape) {v : Nat} (hv : v < 2 ^ (l.eb + l.mb + 1)) (number : l.decode v ≠ .nan) :
    l.encodeSat (l.decode v) = { v := v } := by
  have whole := l.sgn_add_mag hv
  rcases l.decode_cases shape v with nan | ⟨ieee, mag, inf⟩ | ⟨k, t, fin, round, zero⟩
  · exact absurd nan number
  · rw [inf, encodeSat, if_pos ieee, ← mag, whole]
  · simpa [fin, encodeSat, round, whole] using mt zero

end Layout

theorem Fmt.layout_e4m3Shape (f : Fmt) : f.layout.E4m3Shape := by cases f <;> simp [layout, Layout.E4m3Shape]

/-! ## Integer formats -/

theorem unsigned_signed {n v : Nat} (hv : v < 2 ^ n) : unsigned n (signed n v) = v := by
  have low : signed n v % (2 ^ n : Nat) = (v : Int) := by
    rw [signed, Nat.mod_eq_of_lt hv]
    split
    · exact Int.emod_eq_of_lt (by omega) (by omega)
    · rw [Int.sub_emod_right]
      exact Int.emod_eq_of_lt (by omega) (by omega)
  simp only [unsigned, low, Int.toNat_natCast]

/-- Every pattern of n bits but that of the most negative integer lies within the limits of the conversion. -/
theorem natAbs_signed_le {n v : Nat} (hn : n ≠ 0) (hv : v < 2 ^ n) (least : v ≠ 2 ^ (n - 1)) : (signed n v).natAbs ≤ 2 ^ (n - 1) - 1 := by
  have half : 2 ^ n = 2 * 2 ^ (n - 1) := (mul_pow_sub_one hn 2).symm
  rw [signed, Nat.mod_eq_of_lt hv]
  split <;> omega

/-- Conversion to an integer format gives back an integer within the limits. -/
theorem encodeInt_ofInt {n : Nat} {k e i : Int} (unit : e + k = 0) (limits : i.natAbs ≤ 2 ^ (n - 1) - 1) :
    encodeInt n k (.ofInt i e) = { v := unsigned n i } := by
  have kept : rne (max 1 (0 + Nat.log2 i.natAbs + 1 : Int).toNat + 1) 0 i.natAbs 0 = (i.natAbs, 0) := by
    refine rne_of_fits (Nat.lt_log2_self.trans_le (Nat.pow_le_pow_right (by decide) ?_)) (.inl rfl)
    omega
  have sign : (if i < 0 then -(i.natAbs : Int) else i.natAbs) = i := by split <;> omega
  simp only [encodeInt, FVal.ofInt, unit, kept]
  simpa [Nat.not_lt.2 limits] using congrArg (unsigned n) sign

/-- The round trip of an integer format, every pattern of n bits but that of the most negative integer. -/
theorem encodeInt_signed {n v : Nat} {k e : Int} (unit : e + k = 0) (hn : n ≠ 0) (hv : v < 2 ^ n) (least : v ≠ 2 ^ (n - 1)) :
    encodeInt n k (.ofInt (signed n v) e) = { v := v } := by
  rw [encodeInt_ofInt unit (natAbs_signed_le hn hv least), unsigned_signed hv]

/-- Settles O24: a floating-point element is its sign and the magnitude to which its value rounds, and an integer within the limits is kept. -/
theorem numberFormatsRoundTrip : Obligations.NumberFormatsRoundTrip := by
  intro f v hv number least8 least32
  have shape := f.layout_e4m3Shape
  cases f with
  | int32 => exact encodeInt_signed (n := 32) rfl (by decide) hv (least32 rfl)
  | mxint8 => exact encodeInt_signed (n := 8) rfl (by decide) hv (least8 rfl)
  | fp32 | bf16 | fp16 => exact Layout.encode_decode _ shape hv number
  | e4m3 | e5m2 | mxe4m3 | mxe5m2 | mxe2m3 | mxe3m2 | mxe2m1 => exact Layout.encodeSat_decode _ shape hv number

/-! ## Writes of the loss scale (R120) -/

theorem exec_numLsSet_hold (s : State) {v : Nat} (hold : bitOf v 31 = true) : exec (.numLsSet v) s =
    .next (s.withDev ({ s.dev with num := { s.dev.num with held := some (min 24 (bits v 4 0)) } }.putD F.NUM_STEP_STATUS_HOLD_PENDING 1)) :=
  (s.run_eq _).trans (by rw [if_pos hold])

theorem exec_numLsSet_noHold (s : State) {v : Nat} (hold : bitOf v 31 = false) : exec (.numLsSet v) s = .next s :=
  (s.run_eq _).trans (by rw [if_neg (ne_true_of_eq_false hold)])

theorem exec_numLsClean (s : State) (v : Nat) : exec (.numLsClean v) s =
    .next (s.withDev (s.dev.putD F.NUM_LS_CLEAN_CLEAN_STEPS (min 1048576 (atLeast1 (bits v 20 0))))) := rfl

/-- Settles O20: each write is one field, HOLD_PENDING beside the exponent that is held, or CLEAN_STEPS, whose 21 bits hold its limit. -/
theorem lossScaleWrites : Obligations.LossScaleWrites := by
  refine ⟨fun s v hold => ?_, fun s v hold => exec_numLsSet_noHold s hold, fun s v => ?_⟩
  · exact ⟨_, exec_numLsSet_hold s hold, rfl, rfl, Dev.get_putD_same _ _ _ (by decide), rfl,
      Dev.onlyFields_mono (Dev.onlyFields_trans (Dev.onlyFields_regs rfl []) (Dev.onlyFields_putD _ _ _ (by decide))) (by simp)⟩
  · refine ⟨_, exec_numLsClean s v, rfl, ?_, rfl, Dev.onlyFields_putD _ _ _ (by decide)⟩
    exact (Dev.get_putD_same _ _ _ (by decide)).trans (Nat.mod_eq_of_lt ((Nat.min_le_left _ _).trans_lt (by decide)))

/-! ## Softmax rows: one equation per row of Table 05-9 -/

section
variable (scale : F32) {a b : RowStat}

theorem mergeRow_nan (h : a.cls = clsNan ∨ b.cls = clsNan) :
    (mergeRow scale a b).1 = { a with m := f32nan, l := f32nan, cls := clsNan } := by
  simp [mergeRow, h]

theorem mergeRow_inf_inf (ha : a.cls = clsInf) (hb : b.cls = clsInf) :
    (mergeRow scale a b).1 = { a with m := f32inf, l := fadd a.l b.l, cls := clsInf } := by
  simp [mergeRow, ha, hb, clsNan, clsInf]

theorem mergeRow_inf_left (ha : a.cls = clsInf) (hb : b.cls = clsNormal ∨ b.cls = clsMasked) :
    (mergeRow scale a b).1 = { a with m := f32inf, l := a.l, cls := clsInf } := by
  rcases hb with hb | hb <;> simp [mergeRow, ha, hb, clsNormal, clsMasked, clsInf, clsNan]

theorem mergeRow_inf_right (ha : a.cls = clsNormal ∨ a.cls = clsMasked) (hb : b.cls = clsInf) :
    (mergeRow scale a b).1 = { a with m := f32inf, l := b.l, cls := clsInf } := by
  rcases ha with ha | ha <;> simp [mergeRow, ha, hb, clsNormal, clsMasked, clsInf, clsNan]

theorem mergeRow_masked_masked (ha : a.cls = clsMasked) (hb : b.cls = clsMasked) :
    (mergeRow scale a b).1 = { a with m := f32ninf, l := 0, cls := clsMasked } := by
  simp [mergeRow, ha, hb, clsMasked, clsInf, clsNan]

theorem mergeRow_normal_masked (ha : a.cls = clsNormal) (hb : b.cls = clsMasked) : (mergeRow scale a b).1 = { a with cls := clsNormal } := by
  simp [mergeRow, ha, hb, clsNormal, clsMasked, clsInf, clsNan]

theorem mergeRow_masked_normal (ha : a.cls = clsMasked) (hb : b.cls = clsNormal) :
    (mergeRow scale a b).1 = { a with m := b.m, l := b.l, cls := clsNormal } := by
  simp [mergeRow, ha, hb, clsNormal, clsMasked, clsInf, clsNan]

theorem mergeRow_normal_normal (ha : a.cls = clsNormal) (hb : b.cls = clsNormal) : (mergeRow scale a b).1 =
    let m := fmax a.m b.m
    { a with m := m, l := fadd (fmul a.l (mergeFactor a.m m scale)) (fmul b.l (mergeFactor b.m m scale)), cls := clsNormal } := by
  simp [mergeRow, ha, hb, clsNormal, clsMasked, clsInf, clsNan]

theorem finishLse_masked (h : a.cls = clsMasked) : finishLse scale a = f32ninf := by simp [finishLse, h, clsNormal, clsMasked]
theorem finishLse_inf (h : a.cls = clsInf) : finishLse scale a = f32inf := by simp [finishLse, h, clsNormal, clsMasked, clsInf]
theorem finishLse_nan (h : a.cls = clsNan) : finishLse scale a = f32nan := by simp [finishLse, h, clsNormal, clsMasked, clsInf, clsNan]

end

/-- Settles O25: each clause reads the result of its pair of classes. -/
theorem softmaxRowMerge : Obligations.SoftmaxRowMerge := by
  intro scale a b
  refine ⟨fun h => ?_, fun ha hb => ?_, fun ha hb => ?_, fun hb ha => ?_, fun ha hb => ?_, mergeRow_normal_masked scale, fun ha hb => ?_, fun ha hb => ?_,
    finishLse_masked scale, finishLse_inf scale, finishLse_nan scale⟩
  · rw [mergeRow_nan scale h]
    exact ⟨rfl, rfl⟩
  · rw [mergeRow_inf_inf scale ha hb]
    exact ⟨rfl, rfl⟩
  · rw [mergeRow_inf_left scale ha hb]
    exact ⟨rfl, rfl⟩
  · rw [mergeRow_inf_right scale ha hb]
    exact ⟨rfl, rfl⟩
  · rw [mergeRow_masked_masked scale ha hb]
    exact ⟨rfl, rfl, rfl⟩
  · rw [mergeRow_masked_normal scale ha hb]
    exact ⟨rfl, rfl, rfl⟩
  · rw [mergeRow_normal_normal scale ha hb]
    exact ⟨rfl, rfl⟩

/-! ## Lanes of a vector (R135, R136) -/

section
variable {l : Nat} (hl : l < 128)
include hl

/-- A lane of a vector that is given lane by lane. -/
theorem getD_lanes (g : Nat → F32) : ((List.range 128).map g).getD l 0 = g l := by simp [hl]

theorem getD_mergeLanes (p : BitVec 128) (old new : List F32) : (mergeLanes p old new).getD l 0 = if p.getLsbD l then new.getD l 0 else old.getD l 0 :=
  getD_lanes hl _

theorem getD_lanewise (f : F32 → F32 → F32 → F32) (a b c : List F32) :
    (lanewise f a b c).getD l 0 = f (a.getD l 0) (b.getD l 0) (c.getD l 0) := getD_lanes hl _

end

/-- Settles O28: the opcode selects the operation, and each operation makes its result lane by lane. -/
theorem laneResults : Obligations.LaneResults := by
  refine ⟨fun i a b c p l hl => ⟨fun o => ?_, fun o => ?_, fun o => ?_, fun o => ?_, fun o => ?_, fun o => ?_, fun o => ?_, fun o => ?_, fun o => ?_⟩,
    fun p old new l hl => getD_mergeLanes hl p old new⟩
  all_goals simp only [lanesResult, o, reduceIte, Nat.reduceEqDiff]
  iterate 7 exact getD_lanewise hl _ a b c
  · exact getD_lanes hl _
  · exact getD_lanes hl _

end Sys2Proof.Machine

/-! # Control cores: integer instructions, branches, fences and threads (R140, R142, R147, R149) -/

namespace Sys2Proof.Machine

/-! ## Registers of one core -/

/-- Fields of registers of one core lie apart where the registers stand at different offsets of its block. -/
theorem Fld.apart_of_offset {g x : Fld} (c : Nat) {i j : Nat} (hg : g.reg.info.scope = .core) (hx : x.reg.info.scope = .core)
    (h : g.reg.info.base + i * g.reg.info.stride ≠ x.reg.info.base + j * x.reg.info.stride) : g.apart c i (x, c, j) := by
  refine .inl ?_
  simp only [Reg.addr, hg, hx]
  omega

/-! ## What the issue of an instruction leaves unchanged -/

/-- From d to e the bytes of every memory stand, of the registers the fields listed alone change, and of the rest of the device the cores and the
count of free values alone. -/
structure Dev.CoreActs (d e : Dev) (fs : List (Fld × Nat × Nat)) : Prop where
  bytes : d.sameBytes e
  regs : d.onlyFields e fs
  rest : e = { d with regs := e.regs, cores := e.cores, free := e.free }

theorem Dev.issues.core_lt {d : Dev} {c t : Nat} (h : d.issues c t) : c < 272 := h.1
theorem Dev.issues.thread_lt {d : Dev} {c t : Nat} (h : d.issues c t) : t < 8 := h.2.1

theorem Dev.takeThread_rest (d : Dev) (c t : Nat) :
    d.takeThread c t = { d with regs := (d.takeThread c t).regs, cores := (d.takeThread c t).cores } := by
  unfold Dev.takeThread
  dsimp only
  split <;> split <;> rfl

theorem Dev.free_takeThread (d : Dev) (c t : Nat) : (d.takeThread c t).free = d.free := by rw [d.takeThread_rest c t]

namespace Dev.CoreActs
variable {d e : Dev} {fs : List (Fld × Nat × Nat)}

theorem refl (d : Dev) (fs : List (Fld × Nat × Nat)) : d.CoreActs d fs := ⟨fun _ => rfl, d.onlyFields_refl fs, rfl⟩

theorem of_keeps {gs : List (Fld × Nat × Nat)} (h : d.KeepsStores e gs) (hs : gs ⊆ fs) (hr : e = { d with regs := e.regs, cores := e.cores, free := e.free }) :
    d.CoreActs e fs := ⟨h.byteAt, Dev.onlyFields_mono h.regs hs, hr⟩

theorem takeThread (d : Dev) (c t : Nat) : d.CoreActs (d.takeThread c t) (issueFields c t) :=
  of_keeps (d.takeThread_keeps c t) (by simp [issueFields]) (by rw [d.takeThread_rest c t])

theorem put (h : d.CoreActs e fs) (x : Fld) (u i n : Nat) (hx : x.fits = true) (hm : (x, u, i) ∈ fs) : d.CoreActs (e.put x u i n) fs :=
  ⟨h.bytes, Dev.onlyFields_step h.regs x u i n hx hm, by rw [h.rest]; rfl⟩

theorem updCtc (h : d.CoreActs e fs) (c : Nat) (f : Ctc → Ctc) : d.CoreActs (e.updCtc c f) fs :=
  ⟨fun p => (e.updCtc_sameBytes c f p).trans (h.bytes p), Dev.onlyFields_mid h.regs rfl, by rw [h.rest]; rfl⟩

theorem updThread (h : d.CoreActs e fs) (c t : Nat) (f : Thread → Thread) : d.CoreActs (e.updThread c t f) fs := h.updCtc c _

theorem blockThread (h : d.CoreActs e fs) (c t : Nat) (b : Block) : d.CoreActs (e.blockThread c t b) fs := (h.updThread c t _).updCtc c _

theorem stopThread (h : d.CoreActs e fs) (c t : Nat) : d.CoreActs (e.stopThread c t) fs := (h.updThread c t _).updCtc c _

theorem setG (h : d.CoreActs e fs) (c t r : Nat) (v : BitVec 64) : d.CoreActs (e.setG c t r v) fs := by
  unfold Dev.setG
  split
  · exact h
  · exact h.updThread c t _

theorem fresh (h : d.CoreActs e fs) (n : Nat) : d.CoreActs (e.fresh n).2 fs :=
  ⟨h.bytes, h.regs, by rw [h.rest]; rfl⟩

theorem setPc {c t : Nat} (h : d.CoreActs e fs) (a : Nat) (hm : (F.CTC_PC_V, c, t) ∈ fs) : d.CoreActs (e.setPc c t a) fs :=
  h.put F.CTC_PC_V c t a (by decide) hm

theorem pcNext {c t : Nat} (h : d.CoreActs e fs) (hm : (F.CTC_PC_V, c, t) ∈ fs) : d.CoreActs (e.pcNext c t) fs := h.setPc _ hm

theorem showCtc {c : Nat} (h : d.CoreActs e fs) (hm : statusFields c ⊆ fs) : d.CoreActs (e.showCtc c) fs :=
  ((h.put F.CTC_STATUS_RUNNING c 0 _ (by decide) (hm (by simp [statusFields]))).put F.CTC_STATUS_BLOCKED c 0 _ (by decide)
    (hm (by simp [statusFields]))).put F.CTC_STATUS_FAULTED c 0 _ (by decide) (hm (by simp [statusFields]))

end Dev.CoreActs

theorem pc_mem_issueFields (c t : Nat) : (F.CTC_PC_V, c, t) ∈ issueFields c t := List.mem_cons_self

theorem status_subset_issueFields (c t : Nat) : statusFields c ⊆ issueFields c t := by simp [statusFields, issueFields]

/-- An instruction that acts on its core alone does so from the choice of its thread to the show of CTC_STATUS. -/
theorem Dev.CoreActs.issued {d e : Dev} {c t : Nat} (h : d.CoreActs e (issueFields c t)) : d.CoreActs (e.showCtc c) (issueFields c t) :=
  h.showCtc (status_subset_issueFields c t)

/-- A thread goes on at an address. -/
theorem Dev.CoreActs.goesTo {d e : Dev} {c t : Nat} (h : d.CoreActs e (issueFields c t)) (a : Nat) :
    d.CoreActs ((e.setPc c t a).showCtc c) (issueFields c t) := (h.setPc a (pc_mem_issueFields c t)).issued

/-! ## Program counters, general registers and threads under the operations of an instruction -/

section
variable (d : Dev) (c t : Nat)

@[simp] theorem Dev.pc_updCtc (f : Ctc → Ctc) (c' t' : Nat) : (d.updCtc c f).pc c' t' = d.pc c' t' := rfl
@[simp] theorem Dev.pc_updThread (f : Thread → Thread) (c' t' : Nat) : (d.updThread c t f).pc c' t' = d.pc c' t' := rfl
@[simp] theorem Dev.pc_blockThread (b : Block) (c' t' : Nat) : (d.blockThread c t b).pc c' t' = d.pc c' t' := rfl
@[simp] theorem Dev.pc_stopThread (c' t' : Nat) : (d.stopThread c t).pc c' t' = d.pc c' t' := rfl
@[simp] theorem Dev.pc_setG (r : Nat) (v : BitVec 64) (c' t' : Nat) : (d.setG c t r v).pc c' t' = d.pc c' t' := Dev.get_regs (d.setG_regs c t r v) _ _ _

theorem Dev.pc_setPc_of_lt {a : Nat} (h : a < 2 ^ 64) : (d.setPc c t a).pc c t = a := (d.pc_setPc c t a).trans (Nat.mod_eq_of_lt h)

@[simp] theorem Dev.pc_pcNext : (d.pcNext c t).pc c t = (d.pc c t + 8) % 2 ^ 64 := d.pc_setPc_of_lt c t (Nat.mod_lt _ (by decide))

theorem Dev.pc_takeThread {t : Nat} (ht : t < 8) : (d.takeThread c t).pc c t = d.pc c t := by
  refine (d.takeThread_keeps c t).regs F.CTC_PC_V c t (by decide) fun x hx => ?_
  rw [List.mem_singleton.1 hx]
  exact ctcPc_apart c t ht rfl (by decide)

theorem Dev.pc_showCtc {t : Nat} (ht : t < 8) : (d.showCtc c).pc c t = d.pc c t := by
  refine (d.showCtc_keeps c).regs F.CTC_PC_V c t (by decide) fun x hx => ?_
  simp only [statusFields, List.mem_cons, List.not_mem_nil, or_false] at hx
  rcases hx with rfl | rfl | rfl <;> exact ctcPc_apart c t ht rfl (by decide)

theorem Dev.pc_goesTo {t a : Nat} (ht : t < 8) (ha : a < 2 ^ 64) : ((d.setPc c t a).showCtc c).pc c t = a :=
  (Dev.pc_showCtc _ c ht).trans (d.pc_setPc_of_lt c t ha)

@[simp] theorem Dev.core_showCtc (k : Nat) : (d.showCtc c).core k = d.core k := rfl
@[simp] theorem Dev.core_setPc (a k : Nat) : (d.setPc c t a).core k = d.core k := rfl
@[simp] theorem Dev.core_pcNext (k : Nat) : (d.pcNext c t).core k = d.core k := rfl

theorem Dev.thread_congr {d e : Dev} {c : Nat} (h : e.core c = d.core c) (t : Nat) : e.thread c t = d.thread c t := by rw [Dev.thread, Dev.thread, h]
theorem Dev.g_congr {d e : Dev} {c t : Nat} (h : e.thread c t = d.thread c t) (r : Nat) : e.g c t r = d.g c t r := by rw [Dev.g, Dev.g, h]

@[simp] theorem Dev.core_put (x : Fld) (u i n k : Nat) : (d.put x u i n).core k = d.core k := rfl
@[simp] theorem Dev.core_count (x : Fld) (u i n k : Nat) : (d.count x u i n).core k = d.core k := rfl
@[simp] theorem Dev.thread_put (x : Fld) (u i n c' t' : Nat) : (d.put x u i n).thread c' t' = d.thread c' t' := Dev.thread_congr (d.core_put x u i n c') t'
@[simp] theorem Dev.thread_showCtc (c' t' : Nat) : (d.showCtc c).thread c' t' = d.thread c' t' := Dev.thread_congr (d.core_showCtc c c') t'
@[simp] theorem Dev.thread_setPc (a c' t' : Nat) : (d.setPc c t a).thread c' t' = d.thread c' t' := Dev.thread_congr (d.core_setPc c t a c') t'
@[simp] theorem Dev.thread_pcNext (c' t' : Nat) : (d.pcNext c t).thread c' t' = d.thread c' t' := d.thread_setPc c t _ c' t'
@[simp] theorem Dev.thread_takeThread (c' t' : Nat) : (d.takeThread c t).thread c' t' = d.thread c' t' := by
  simp only [Dev.thread, (d.takeThread_keeps c t).threads]

@[simp] theorem Dev.g_put (x : Fld) (u i n c' t' r : Nat) : (d.put x u i n).g c' t' r = d.g c' t' r := Dev.g_congr (d.thread_put x u i n c' t') r
@[simp] theorem Dev.g_showCtc (c' t' r : Nat) : (d.showCtc c).g c' t' r = d.g c' t' r := Dev.g_congr (d.thread_showCtc c c' t') r
@[simp] theorem Dev.g_setPc (a c' t' r : Nat) : (d.setPc c t a).g c' t' r = d.g c' t' r := Dev.g_congr (d.thread_setPc c t a c' t') r
@[simp] theorem Dev.g_pcNext (c' t' r : Nat) : (d.pcNext c t).g c' t' r = d.g c' t' r := Dev.g_congr (d.thread_pcNext c t c' t') r
@[simp] theorem Dev.g_takeThread (c' t' r : Nat) : (d.takeThread c t).g c' t' r = d.g c' t' r := (d.takeThread_keeps c t).g c' t' r

/-- A change of the control core beside its threads. -/
theorem Dev.thread_updCtc {f : Ctc → Ctc} (hf : ∀ x, (f x).threads = x.threads) (c' t' : Nat) : (d.updCtc c f).thread c' t' = d.thread c' t' := by
  by_cases h : c' = c
  · subst h
    simp [Dev.thread, hf]
  · simp [Dev.thread, Dev.core_updCtc_other _ _ _ _ h]

theorem Dev.g_updCtc {f : Ctc → Ctc} (hf : ∀ x, (f x).threads = x.threads) (c' t' r : Nat) : (d.updCtc c f).g c' t' r = d.g c' t' r := by
  rw [Dev.g, Dev.g, d.thread_updCtc c hf]

/-- A change of a thread beside its general registers. -/
theorem Dev.g_updThread {f : Thread → Thread} (hf : ∀ x, (f x).g = x.g) (c' t' r : Nat) : (d.updThread c t f).g c' t' r = d.g c' t' r := by
  by_cases h : c' = c ∧ t' = t
  · obtain ⟨rfl, rfl⟩ := h
    simp [Dev.g, hf]
  · rw [Dev.g, Dev.g, Dev.thread_updThread_other _ _ _ _ _ _ (not_and_or.1 h)]

@[simp] theorem Dev.thread_blockThread (b : Block) : (d.blockThread c t b).thread c t = { d.thread c t with block := some b } := by
  rw [Dev.blockThread, Dev.thread_updCtc, Dev.thread_updThread_same]
  exact fun _ => rfl

@[simp] theorem Dev.thread_stopThread : (d.stopThread c t).thread c t = { d.thread c t with live := false, block := none } := by
  rw [Dev.stopThread, Dev.thread_updCtc, Dev.thread_updThread_same]
  exact fun _ => rfl

@[simp] theorem Dev.g_stopThread (c' t' r : Nat) : (d.stopThread c t).g c' t' r = d.g c' t' r := by
  rw [Dev.stopThread, Dev.g_updCtc, Dev.g_updThread]
  · exact fun _ => rfl
  · exact fun _ => rfl

/-- A general register after a write of it: R0 reads as zero. -/
theorem Dev.g_setG (r : Nat) (v : BitVec 64) : (d.setG c t r v).g c t r = if r = 0 then 0 else v := by
  by_cases h : r = 0
  · subst h
    rfl
  · rw [d.g_setG_same c t r v h, if_neg h]

theorem Dev.g_setG_ne (r : Nat) (v : BitVec 64) {c' t' r' : Nat} (h : ¬ (c' = c ∧ t' = t ∧ r' = r)) : (d.setG c t r v).g c' t' r' = d.g c' t' r' :=
  d.g_setG_other c t r c' t' r' v (by tauto)

@[simp] theorem Dev.vxe_updCtc (f : Ctc → Ctc) (k : Nat) : ((d.updCtc c f).core k).vxe = (d.core k).vxe := by
  by_cases h : k = c
  · simp [h]
  · rw [Dev.core_updCtc_other _ _ _ _ h]

theorem Dev.slots_updCtc {f : Ctc → Ctc} (hf : ∀ x, (f x).slots = x.slots) (k : Nat) : ((d.updCtc c f).core k).ctc.slots = (d.core k).ctc.slots := by
  by_cases h : k = c
  · simp [h, hf]
  · rw [Dev.core_updCtc_other _ _ _ _ h]

@[simp] theorem Dev.vxe_takeThread (k : Nat) : ((d.takeThread c t).core k).vxe = (d.core k).vxe := by
  unfold Dev.takeThread
  dsimp only
  split <;> split <;> simp

@[simp] theorem Dev.slots_takeThread (k : Nat) : ((d.takeThread c t).core k).ctc.slots = (d.core k).ctc.slots := by
  unfold Dev.takeThread
  dsimp only
  split <;> split <;> simp [Dev.slots_updCtc]
end

theorem Ctc.ready_of_selected {x : Ctc} {t : Nat} (h : x.selected = some t) : (mget {} x.threads t).ready = true := by
  have first (h : Ctc.selected.arbiter8 x = some t) : (mget {} x.threads t).ready = true := by
    unfold Ctc.selected.arbiter8 at h
    exact List.find?_some (p := fun t => (mget {} x.threads t).ready) h
  unfold Ctc.selected at h
  split at h
  · split at h
    · next ready => rwa [Option.some.inj h] at ready
    · exact first h
  · exact first h

/-- The thread that CTC issues from waits for nothing. -/
theorem Dev.issues.block {d : Dev} {c t : Nat} (h : d.issues c t) : (d.thread c t).block = none := by
  obtain ⟨-, -, hsel, -⟩ := h
  have ready : (d.thread c t).ready = true := Ctc.ready_of_selected hsel
  simpa [Thread.ready] using (Bool.and_eq_true_iff.1 ready).2

/-! ## Integer instructions (Table 06-9) -/

/-- The second operand of an integer instruction. -/
def CtcSrc.value (d : Dev) (c t : Nat) : CtcSrc → BitVec 64
  | .reg rb => d.g c t rb
  | .imm v => BitVec.ofInt 64 v

/-- A result, or a free value where none is stated, and the device after the choice of it. -/
def Dev.orFree (d : Dev) : Option (BitVec 64) → BitVec 64 × Dev
  | some v => (v, d)
  | none => (BitVec.ofNat 64 (d.fresh 64).1, (d.fresh 64).2)

/-- The device after the issue of an instruction that writes RD and goes on. -/
def Dev.ctcWrote (d : Dev) (c t rd : Nat) (v : BitVec 64) : Dev := ((d.setG c t rd v).pcNext c t).showCtc c

section
variable (d : Dev) (c t : Nat)

theorem Dev.orFree_acts {e : Dev} {fs : List (Fld × Nat × Nat)} (h : d.CoreActs e fs) (v : Option (BitVec 64)) : d.CoreActs (e.orFree v).2 fs := by
  cases v with
  | some v => exact h
  | none => exact h.fresh 64

@[simp] theorem Dev.g_orFree (v : Option (BitVec 64)) (c' t' r : Nat) : (d.orFree v).2.g c' t' r = d.g c' t' r := by cases v <;> rfl

@[simp] theorem Dev.pc_orFree (v : Option (BitVec 64)) (c' t' : Nat) : (d.orFree v).2.pc c' t' = d.pc c' t' := by cases v <;> rfl

theorem Dev.ctcWrote_acts {e : Dev} (h : d.CoreActs e (issueFields c t)) (rd : Nat) (v : BitVec 64) :
    d.CoreActs (e.ctcWrote c t rd v) (issueFields c t) := (h.setG c t rd v).goesTo _

theorem Dev.ctcWrote_g (rd : Nat) (v : BitVec 64) : (d.ctcWrote c t rd v).g c t rd = if rd = 0 then 0 else v := d.g_setG c t rd v

theorem Dev.ctcWrote_g_ne (rd : Nat) (v : BitVec 64) {c' t' r : Nat} (h : ¬ (c' = c ∧ t' = t ∧ r = rd)) :
    (d.ctcWrote c t rd v).g c' t' r = d.g c' t' r := d.g_setG_ne c t rd v h

theorem Dev.ctcWrote_pc {t : Nat} (ht : t < 8) (rd : Nat) (v : BitVec 64) : (d.ctcWrote c t rd v).pc c t = (d.pc c t + 8) % 2 ^ 64 := by
  rw [Dev.ctcWrote, Dev.pc_showCtc _ _ ht, Dev.pc_pcNext, Dev.pc_setG]
end

/-- The device after an integer instruction. -/
def Dev.ctcComputed (d : Dev) (c t : Nat) (op : IntInsn) (rd ra : Nat) (src : CtcSrc) : Dev :=
  let x := (d.takeThread c t).orFree (intResult op (d.g c t ra) (src.value d c t))
  x.2.ctcWrote c t rd x.1

theorem exec_ctcIntegerOp (s : State) {c t rd ra : Nat} {src : CtcSrc} (hi : s.dev.issues c t) (hrd : rd < 32) (hra : ra < 32) (hsrc : src.ok = true)
    (op : IntInsn) : exec (.ctcIntegerOp c t op rd ra src false) s = .next (s.withDev (s.dev.ctcComputed c t op rd ra src)) := by
  have ok : (insnOk c t [rd, ra] && src.ok) = true := by rw [insnOk_of_issues hi (by simp [hrd, hra]), hsrc]; rfl
  refine (s.runOn_issue hi ok _).trans ?_
  cases src with
  | reg rb =>
    simp only [Dev.ctcComputed, CtcSrc.value, Dev.g_takeThread]
    cases intResult op (s.dev.g c t ra) (s.dev.g c t rb) <;> rfl
  | imm v =>
    simp only [Dev.ctcComputed, CtcSrc.value, Dev.g_takeThread]
    cases intResult op (s.dev.g c t ra) (BitVec.ofInt 64 v) <;> rfl

/-- An integer instruction writes RD, takes its thread to the next instruction, and changes nothing else but what its issue shows. -/
theorem ctcIntegerOp_writes (s : State) {c t rd ra : Nat} {src : CtcSrc} (hi : s.dev.issues c t) (hrd : rd < 32) (hra : ra < 32) (hsrc : src.ok = true)
    (op : IntInsn) : ∃ u, exec (.ctcIntegerOp c t op rd ra src false) s = .next u ∧ u.pending = s.pending ∧
      (∀ v, intResult op (s.dev.g c t ra) (src.value s.dev c t) = some v → u.dev.g c t rd = if rd = 0 then 0 else v) ∧
      (∀ c' t' r, ¬ (c' = c ∧ t' = t ∧ r = rd) → u.dev.g c' t' r = s.dev.g c' t' r) ∧ u.dev.g c t 0 = 0 ∧
      u.dev.pc c t = (s.dev.pc c t + 8) % 2 ^ 64 ∧ s.dev.CoreActs u.dev (issueFields c t) := by
  refine ⟨_, exec_ctcIntegerOp s hi hrd hra hsrc op, rfl, fun v hv => ?_, fun c' t' r h => ?_, rfl, ?_, ?_⟩
  · exact (Dev.ctcWrote_g _ c t rd _).trans (by rw [hv]; rfl)
  · exact (Dev.ctcWrote_g_ne _ c t rd _ h).trans (by simp)
  · exact (Dev.ctcWrote_pc _ c hi.thread_lt rd _).trans (by rw [Dev.pc_orFree, Dev.pc_takeThread _ _ hi.thread_lt])
  · exact Dev.ctcWrote_acts _ c t (Dev.orFree_acts _ (.takeThread s.dev c t) _) rd _

/-! ## Comparisons -/

theorem Cond.holds_lt (a b : BitVec 64) : Cond.lt.holds a b = decide (a.toInt < b.toInt) := rfl
theorem Cond.holds_ge (a b : BitVec 64) : Cond.ge.holds a b = decide (b.toInt ≤ a.toInt) := by simp [Cond.holds, BitVec.slt, ← decide_not]
theorem Cond.holds_ltu (a b : BitVec 64) : Cond.ltu.holds a b = decide (a.toNat < b.toNat) := rfl
theorem Cond.holds_geu (a b : BitVec 64) : Cond.geu.holds a b = decide (b.toNat ≤ a.toNat) := by simp [Cond.holds, BitVec.ult, ← decide_not]

/-- Settles O29: the device after an integer instruction is `Dev.ctcComputed`, a write of RD and the step of the program counter. -/
theorem ctcIntegerResults : Obligations.CtcIntegerResults := by
  refine ⟨fun s c t op rd ra src hi hrd hra hsrc => ?_, fun a b => ⟨rfl, rfl, rfl, rfl, rfl, rfl, fun h => ?_, fun h => ?_, ?_⟩⟩
  · obtain ⟨u, hu, pending, written, kept, zero, pc, acts⟩ := ctcIntegerOp_writes s hi hrd hra hsrc op
    exact ⟨u, hu, pending, by cases src <;> exact written, kept, zero, pc, acts.bytes, acts.regs, acts.rest⟩
  · simp only [intResult, if_pos h, and_self]
  · simp only [intResult, if_neg (Nat.not_lt.2 h), and_self]
  · simp only [intResult, Cond.holds_lt, Cond.holds_ge, Cond.holds_ltu, Cond.holds_geu, decide_eq_true_eq, true_and]
    simp [Cond.holds]

/-! ## Branches and jumps (Table 06-9) -/

section
variable (d : Dev) (c t : Nat)

theorem Dev.target_lt (imm : Int) : d.target c t imm < 2 ^ 64 := BitVec.isLt _

theorem Dev.target_takeThread {t : Nat} (ht : t < 8) (imm : Int) : (d.takeThread c t).target c t imm = d.target c t imm := by
  rw [Dev.target, Dev.target, d.pc_takeThread c ht]

/-- Where a branch takes its thread. -/
def Dev.branchTo (cond : Cond) (ra rb : Nat) (imm : Int) : Nat :=
  if cond.holds (d.g c t ra) (d.g c t rb) then d.target c t imm else (d.pc c t + 8) % 2 ^ 64

theorem Dev.branchTo_lt (cond : Cond) (ra rb : Nat) (imm : Int) : d.branchTo c t cond ra rb imm < 2 ^ 64 := by
  unfold Dev.branchTo
  split
  · exact d.target_lt c t imm
  · exact Nat.mod_lt _ (by decide)
end

section
variable (s : State) {c t : Nat} (hi : s.dev.issues c t)
include hi

theorem exec_ctcBranch {ra rb : Nat} {imm : Int} (hra : ra < 32) (hrb : rb < 32) (himm : immOk imm = true) (cond : Cond) :
    exec (.ctcBranch c t cond ra rb imm false) s =
      .next (s.withDev (((s.dev.takeThread c t).setPc c t (s.dev.branchTo c t cond ra rb imm)).showCtc c)) := by
  have ok : (insnOk c t [ra, rb] && immOk imm) = true := by rw [insnOk_of_issues hi (by simp [hra, hrb]), himm]; rfl
  refine (s.runOn_issue hi ok _).trans ?_
  simp only [Dev.g_takeThread, s.dev.target_takeThread c hi.thread_lt, Dev.pcNext, s.dev.pc_takeThread c hi.thread_lt, Dev.branchTo]
  split <;> rfl

theorem exec_jumpAndLink {rd : Nat} {imm : Int} (hrd : rd < 32) (himm : immOk imm = true) :
    exec (.jumpAndLink c t rd imm) s = .next (s.withDev
      ((((s.dev.takeThread c t).setG c t rd (BitVec.ofNat 64 (s.dev.pc c t + 8))).setPc c t (s.dev.target c t imm)).showCtc c)) := by
  have ok : (insnOk c t [rd] && immOk imm) = true := by rw [insnOk_of_issues hi (by simp [hrd]), himm]; rfl
  refine (s.runOn_issue hi ok _).trans ?_
  simp only [s.dev.target_takeThread c hi.thread_lt, s.dev.pc_takeThread c hi.thread_lt]

theorem exec_jumpRegister {ra : Nat} (hra : ra < 32) :
    exec (.jumpRegister c t ra false) s = .next (s.withDev (((s.dev.takeThread c t).setPc c t (s.dev.g c t ra).toNat).showCtc c)) :=
  (s.runOn_issue hi (insnOk_of_issues hi (by simp [hra])) _).trans (by rw [Dev.g_takeThread])
end

/-- Settles O30: each goes on at its own address from the choice of its thread, JUMP_AND_LINK after its write of RD. -/
theorem ctcBranchesAndJumps : Obligations.CtcBranchesAndJumps := by
  refine ⟨fun s c t cond ra rb imm hi hra hrb himm => ?_, fun s c t rd imm hi hrd himm => ?_, fun s c t ra hi hra => ?_⟩
  · have acts := (Dev.CoreActs.takeThread s.dev c t).goesTo (s.dev.branchTo c t cond ra rb imm)
    refine ⟨_, exec_ctcBranch s hi hra hrb himm cond, rfl, Dev.pc_goesTo _ c hi.thread_lt (s.dev.branchTo_lt c t cond ra rb imm), s.dev.g_takeThread c t,
      acts.bytes, acts.regs, ?_⟩
    have free : (((s.dev.takeThread c t).setPc c t (s.dev.branchTo c t cond ra rb imm)).showCtc c).free = s.dev.free := s.dev.free_takeThread c t
    exact acts.rest.trans (by rw [free])
  · have acts := ((Dev.CoreActs.takeThread s.dev c t).setG c t rd (BitVec.ofNat 64 (s.dev.pc c t + 8))).goesTo (s.dev.target c t imm)
    exact ⟨_, exec_jumpAndLink s hi hrd himm, rfl, Dev.pc_goesTo _ c hi.thread_lt (s.dev.target_lt c t imm), Dev.g_setG _ c t rd _,
      fun c' t' r h => (Dev.g_setG_ne _ c t rd _ h).trans (s.dev.g_takeThread c t c' t' r), acts.bytes, acts.regs⟩
  · have acts := (Dev.CoreActs.takeThread s.dev c t).goesTo (s.dev.g c t ra).toNat
    exact ⟨_, exec_jumpRegister s hi hra, rfl, Dev.pc_goesTo _ c hi.thread_lt (BitVec.isLt _), s.dev.g_takeThread c t, acts.bytes, acts.regs⟩

/-! ## Bits of a mask -/

theorem bitOf_eq_testBit (v b : Nat) : bitOf v b = v.testBit b := by
  rw [bitOf, Nat.shiftRight_eq_div_pow, Nat.testBit_eq_decide_div_mod_eq]

theorem bitOf_setBit (v b : Nat) (on : Bool) : bitOf (setBit v b on) b = on := by
  unfold setBit
  split
  · assumption
  · next other =>
    cases on with
    | true =>
      have off : v.testBit b = false := by simpa [bitOf_eq_testBit] using other
      rw [if_pos rfl, bitOf_eq_testBit, Nat.add_comm, Nat.testBit_two_pow_add_eq, off]
      rfl
    | false =>
      have on : v.testBit b = true := by simpa [bitOf_eq_testBit] using other
      have sum := Nat.testBit_two_pow_add_eq (v - 2 ^ b) b
      rw [Nat.add_sub_cancel' (Nat.ge_two_pow_of_testBit on), on] at sum
      rw [if_neg (by decide), bitOf_eq_testBit]
      simpa using sum

/-- A bit below the width of a field, after a write of the field with that bit set or cleared. -/
theorem bitOf_setBit_mod (v : Nat) {b w : Nat} (on : Bool) (hb : b < w) : bitOf (setBit v b on % 2 ^ w) b = on := by
  rw [bitOf_eq_testBit, Nat.testBit_mod_two_pow, ← bitOf_eq_testBit, bitOf_setBit, decide_eq_true hb, Bool.true_and]

/-! ## Fences, HALT, YIELD and SGET (Table 06-8) -/

/-- The device after an instruction that goes on and then blocks its thread where it has a condition to wait for. -/
def Dev.ctcWaited (d : Dev) (c t : Nat) (b : Option Block) : Dev :=
  let e := (d.takeThread c t).pcNext c t
  (b.elim e (e.blockThread c t)).showCtc c

section
variable (d : Dev) (c t : Nat)

theorem Dev.ctcWaited_acts (b : Option Block) : d.CoreActs (d.ctcWaited c t b) (issueFields c t) := by
  have goes := (Dev.CoreActs.takeThread d c t).pcNext (pc_mem_issueFields c t)
  cases b with
  | none => exact goes.issued
  | some b => exact (goes.blockThread c t b).issued

theorem Dev.pc_ctcWaited {t : Nat} (ht : t < 8) (b : Option Block) : (d.ctcWaited c t b).pc c t = (d.pc c t + 8) % 2 ^ 64 := by
  rw [Dev.ctcWaited, Dev.pc_showCtc _ c ht]
  cases b <;> simp [d.pc_takeThread c ht]

theorem Dev.block_ctcWaited {d : Dev} {c t : Nat} (hi : d.issues c t) (b : Option Block) : ((d.ctcWaited c t b).thread c t).block = b := by
  cases b with
  | none => simpa [Dev.ctcWaited] using hi.block
  | some b => simp [Dev.ctcWaited]
end

/-- An instruction that waits for nothing but what it is given to wait for. -/
theorem ctcWaited_waits {s : State} {c t : Nat} {i : Instr} {b : Option Block} (hi : s.dev.issues c t)
    (h : exec i s = .next (s.withDev (s.dev.ctcWaited c t b))) : ∃ u, exec i s = .next u ∧ u.pending = s.pending ∧
      u.dev.pc c t = (s.dev.pc c t + 8) % 2 ^ 64 ∧ (u.dev.thread c t).block = b ∧ s.dev.sameBytes u.dev :=
  ⟨_, h, rfl, s.dev.pc_ctcWaited c hi.thread_lt b, Dev.block_ctcWaited hi b, (s.dev.ctcWaited_acts c t b).bytes⟩

section
variable (s : State) {c t : Nat} (hi : s.dev.issues c t)
include hi

theorem exec_vfence : exec (.vfence c t) s = .next (s.withDev
    (s.dev.ctcWaited c t (if (s.dev.core c).vxe.open_ = [] then none else some (.vfence (s.dev.core c).vxe.nextId)))) := by
  refine (s.runOn_issue hi (insnOk_of_issues hi (by simp)) _).trans ?_
  simp only [Dev.ctcWaited, Dev.core_pcNext, Dev.vxe_takeThread, List.isEmpty_iff]
  split <;> rfl

theorem exec_mfence : exec (.mfence c t) s = .next (s.withDev
    (s.dev.ctcWaited c t (if (s.dev.core c).ctc.slots.any (fun e => e.2.thread = t) then some .mfence else none))) := by
  refine (s.runOn_issue hi (insnOk_of_issues hi (by simp)) _).trans ?_
  simp only [Dev.ctcWaited, Dev.core_pcNext, Dev.slots_takeThread]
  split <;> rfl

theorem exec_fence : exec (.fence c t) s = .next (s.withDev
    (s.dev.ctcWaited c t (if (s.dev.core c).vxe.open_ = [] ∧ (s.dev.core c).ctc.slots.any (fun e => e.2.thread = t) = false then none
      else some (.fence (s.dev.core c).vxe.nextId)))) := by
  refine (s.runOn_issue hi (insnOk_of_issues hi (by simp)) _).trans ?_
  simp only [Dev.ctcWaited, Dev.core_pcNext, Dev.slots_takeThread, Dev.vxe_takeThread, Bool.and_eq_true, List.isEmpty_iff, Bool.not_eq_true']
  split <;> rfl

theorem exec_halt : exec (.halt c t) s = .next (s.withDev ((((s.dev.takeThread c t).pcNext c t).stopThread c t).showCtc c)) :=
  s.runOn_issue hi (insnOk_of_issues hi (by simp)) _

theorem exec_yield : exec (.yield c t) s =
    .next (s.withDev ((((s.dev.takeThread c t).pcNext c t).updCtc c fun x => { x with cur := none }).showCtc c)) :=
  s.runOn_issue hi (insnOk_of_issues hi (by simp)) _

theorem exec_sget {rd k : Nat} (hrd : rd < 32) (hk : k < 16) :
    let d := (s.dev.takeThread c t).pcNext c t
    exec (.sget c t rd k) s = .next (s.withDev (Dev.showCtc (
      if (s.dev.core c).vxe.summValid k then d.setG c t rd ((s.dev.core c).vxe.summAt k) else d.blockThread c t (.sget rd k)) c)) := by
  have ok : (insnOk c t [rd] && decide (k < 16)) = true := by rw [insnOk_of_issues hi (by simp [hrd]), decide_eq_true hk]; rfl
  refine (s.runOn_issue hi ok _).trans ?_
  simp only [Dev.core_pcNext, Dev.vxe_takeThread]
end

/-! ## Waking, starting and stopping a thread (R147, R149) -/

/-- The bit of a thread in CTC_CTL is set or cleared. -/
def Dev.putRun (d : Dev) (c t : Nat) (on : Bool) : Dev := d.put F.CTC_CTL_RUN c 0 (setBit (d.get F.CTC_CTL_RUN c) t on)

/-- The device after CTC_RUN_START. -/
def Dev.ctcStarted (d : Dev) (c t : Nat) : Dev :=
  (((d.putRun c t true).setPc c t ((d.putRun c t true).get F.CTC_START_V c t)).updThread c t fun x => { x with live := true, block := none }).showCtc c

/-- A thread waits for the data of a load or atomic. -/
def Dev.awaitsLoad (d : Dev) (c t : Nat) : Bool :=
  match (d.thread c t).block with
  | some (.load _) => true
  | _ => false

/-- The device after CTC_RUN_STOP: a thread whose load is still out goes on past it. -/
def Dev.ctcStopped (d : Dev) (c t : Nat) : Dev :=
  let e := d.putRun c t false
  if !(e.thread c t).live then e.showCtc c else ((if e.awaitsLoad c t then e.pcNext c t else e).stopThread c t).showCtc c

section
variable (d : Dev) (c t : Nat)

theorem Dev.run_putRun {t : Nat} (ht : t < 8) (on : Bool) : bitOf ((d.putRun c t on).get F.CTC_CTL_RUN c) t = on := by
  rw [Dev.putRun, Dev.get_put_same _ _ _ _ _ (by decide)]
  exact bitOf_setBit_mod _ on ht

theorem Dev.start_putRun (on : Bool) : (d.putRun c t on).get F.CTC_START_V c t = d.get F.CTC_START_V c t := by
  refine d.onlyFields_put F.CTC_CTL_RUN c 0 _ (by decide) F.CTC_START_V c t (by decide) fun x hx => ?_
  rw [List.mem_singleton.1 hx]
  exact Fld.apart_of_offset c rfl rfl (show 0x4010 + t * 0x18 ≠ 0x4000 + 0 * 0 by omega)

/-- The issue of an instruction leaves CTC_CTL. -/
theorem Dev.CoreActs.run {d e : Dev} {c t : Nat} (h : d.CoreActs e (issueFields c t)) : e.get F.CTC_CTL_RUN c = d.get F.CTC_CTL_RUN c := by
  refine h.regs F.CTC_CTL_RUN c 0 (by decide) fun x hx => ?_
  simp only [issueFields, List.mem_cons, List.not_mem_nil, or_false] at hx
  rcases hx with rfl | rfl | rfl | rfl | rfl
  · exact Fld.apart_of_offset c rfl rfl (show 0x4000 + 0 * 0 ≠ 0x4018 + t * 0x18 by omega)
  all_goals exact Fld.apart_of_offset c rfl rfl (by decide)

theorem Dev.putRun_sameBytes (on : Bool) : d.sameBytes (d.putRun c t on) := fun _ => rfl

/-- From the bit of CTC_CTL on, a start is like an issue. -/
theorem Dev.ctcStarted_acts : (d.putRun c t true).CoreActs (d.ctcStarted c t) (issueFields c t) :=
  (((Dev.CoreActs.refl _ _).setPc _ (pc_mem_issueFields c t)).updThread c t _).issued

theorem Dev.pc_ctcStarted {t : Nat} (ht : t < 8) : (d.ctcStarted c t).pc c t = d.get F.CTC_START_V c t := by
  rw [Dev.ctcStarted, Dev.pc_showCtc _ c ht, Dev.pc_updThread, Dev.start_putRun, Dev.pc_setPc_of_lt]
  exact bits_lt _ 63 0

theorem Dev.thread_ctcStarted : (d.ctcStarted c t).thread c t = { d.thread c t with live := true, block := none } := by
  rw [Dev.ctcStarted, Dev.thread_showCtc, Dev.thread_updThread_same, Dev.thread_setPc, Dev.putRun, Dev.thread_put]

theorem Dev.g_ctcStarted (c' t' r : Nat) : (d.ctcStarted c t).g c' t' r = d.g c' t' r := by
  rw [Dev.ctcStarted, Dev.g_showCtc, Dev.g_updThread, Dev.g_setPc, Dev.putRun, Dev.g_put]
  exact fun _ => rfl

/-- From the bit of CTC_CTL on, a stop is like an issue. -/
theorem Dev.ctcStopped_acts : (d.putRun c t false).CoreActs (d.ctcStopped c t) (issueFields c t) := by
  have here : (d.putRun c t false).CoreActs (d.putRun c t false) (issueFields c t) := .refl _ _
  unfold Dev.ctcStopped
  dsimp only
  split
  · exact here.issued
  split
  · exact ((here.pcNext (pc_mem_issueFields c t)).stopThread c t).issued
  · exact (here.stopThread c t).issued

theorem Dev.live_ctcStopped : ((d.ctcStopped c t).thread c t).live = false := by
  unfold Dev.ctcStopped
  dsimp only
  split
  · next stopped => simpa using stopped
  · rw [Dev.thread_showCtc, Dev.thread_stopThread]
end

section
variable (s : State) {c t : Nat} (hc : c < 272) (ht : t < 8)
include hc ht

theorem insnOk_of_lt : insnOk c t [] = true := by simp [insnOk, regsOk, hc, ht]

theorem exec_threadWake (hg : s.dev.clockGated c = false) : exec (.threadWake c t) s = .next (s.withDev (
    if s.dev.unblocked c t then (s.dev.updThread c t fun x => { x with block := none }).showCtc c else s.dev)) :=
  s.runCore_next _ hc (insnOk_of_lt hc ht) hg

theorem exec_ctcRunStart : exec (.ctcRunStart c t) s = .next (s.withDev (s.dev.ctcStarted c t)) := s.runOn_next _ (insnOk_of_lt hc ht)

theorem exec_ctcRunStop : exec (.ctcRunStop c t) s = .next (s.withDev (s.dev.ctcStopped c t)) := s.runOn_next _ (insnOk_of_lt hc ht)
end

/-- Settles O35: the three fences are `Dev.ctcWaited`, a start and a stop are a bit of CTC_CTL and then a change of the thread. -/
theorem ctcFencesAndThreads : Obligations.CtcFencesAndThreads := by
  refine ⟨?issued, ?wakes, ?sleeps, ?starts, ?stops, ?takes, ?awaits⟩
  case issued =>
    intro s c t hi
    have goes := (Dev.CoreActs.takeThread s.dev c t).pcNext (pc_mem_issueFields c t)
    have pc : ((s.dev.takeThread c t).pcNext c t).pc c t = (s.dev.pc c t + 8) % 2 ^ 64 := by rw [Dev.pc_pcNext, s.dev.pc_takeThread c hi.thread_lt]
    refine ⟨ctcWaited_waits hi (exec_vfence s hi), ctcWaited_waits hi (exec_mfence s hi), ctcWaited_waits hi (exec_fence s hi),
      ⟨_, exec_halt s hi, rfl, by rw [Dev.pc_showCtc _ c hi.thread_lt, Dev.pc_stopThread, pc], ?_, fun c' t' r => ?_, (goes.stopThread c t).issued.bytes⟩,
      ⟨_, exec_yield s hi, rfl, by rw [Dev.pc_showCtc _ c hi.thread_lt, Dev.pc_updCtc, pc], ?_, fun c' t' r => ?_, (goes.updCtc c _).issued.bytes⟩⟩
    · simp
    · simp
    · simp
    · rw [Dev.g_showCtc, Dev.g_updCtc _ _ (by exact fun _ => rfl), Dev.g_pcNext, Dev.g_takeThread]
  case wakes =>
    intro s c t hc ht hg h
    refine ⟨_, exec_threadWake s hc ht hg, rfl, ?_⟩
    simp [h]
  case sleeps =>
    intro s c t hc ht hg h
    rw [exec_threadWake s hc ht hg, h]
    rfl
  case starts =>
    intro s c t hc ht
    have run : bitOf ((s.dev.ctcStarted c t).get F.CTC_CTL_RUN c) t = true := by rw [(s.dev.ctcStarted_acts c t).run, s.dev.run_putRun c ht]
    have thread := s.dev.thread_ctcStarted c t
    exact ⟨_, exec_ctcRunStart s hc ht, rfl, by rw [thread], by rw [thread], s.dev.pc_ctcStarted c ht, run, s.dev.g_ctcStarted c t,
      fun p => ((s.dev.ctcStarted_acts c t).bytes p).trans (s.dev.putRun_sameBytes c t true p)⟩
  case stops =>
    intro s c t hc ht
    have run : bitOf ((s.dev.ctcStopped c t).get F.CTC_CTL_RUN c) t = false := by rw [(s.dev.ctcStopped_acts c t).run, s.dev.run_putRun c ht]
    exact ⟨_, exec_ctcRunStop s hc ht, rfl, s.dev.live_ctcStopped c t, run,
      fun p => ((s.dev.ctcStopped_acts c t).bytes p).trans (s.dev.putRun_sameBytes c t false p)⟩
  case takes =>
    intro s c t rd k hi hrd hk valid
    have goes := (Dev.CoreActs.takeThread s.dev c t).pcNext (pc_mem_issueFields c t)
    refine ⟨s.withDev ((((s.dev.takeThread c t).pcNext c t).setG c t rd ((s.dev.core c).vxe.summAt k)).showCtc c), ?_, rfl, ?_, ?_, fun c' t' r h => ?_,
      (goes.setG c t rd _).issued.bytes⟩
    · rw [exec_sget s hi hrd hk, if_pos valid]
    · rw [Dev.g_showCtc, Dev.g_setG]
    · rw [Dev.pc_showCtc _ c hi.thread_lt, Dev.pc_setG, Dev.pc_pcNext, s.dev.pc_takeThread c hi.thread_lt]
    · rw [Dev.g_showCtc, Dev.g_setG_ne _ _ _ _ _ h, Dev.g_pcNext, Dev.g_takeThread]
  case awaits =>
    intro s c t rd k hi hrd hk invalid
    rw [exec_sget s hi hrd hk, if_neg (Bool.eq_false_iff.1 invalid)]

end Sys2Proof.Machine

/-! # Vector and cross-lane instructions (R132 to R134, R146, R155, R156) -/

namespace Sys2Proof.Machine

/-! ## Issue to the queues (Table 06-4) -/

/-- A row of Table 06-4 is the issue of its opcode. -/
theorem exec_of_vectorForm {i : Instr} {opc c t x e : Nat} (h : vectorForm i = some (opc, c, t, x, e)) (s : State) :
    exec i s = s.runOn (threadOk c t) fun d => d.vecIssue c t opc x e := by
  unfold vectorForm at h
  split at h <;> cases h <;> rfl

/-- The instruction that an issue puts in a queue. -/
def Dev.vecInsn (d : Dev) (c opc x e : Nat) : VInsn := { id := (d.core c).vxe.nextId, word := opc * 2 ^ 56 + x % 2 ^ 56, err := e }

/-- The vector unit with one instruction more in the queue that its opcode selects. -/
def Vxe.push (v : Vxe) (opc : Nat) (w : VInsn) : Vxe :=
  if 0xC0 ≤ opc then { v with nextId := v.nextId + 1, xq := v.xq ++ [w] } else { v with nextId := v.nextId + 1, vq := v.vq ++ [w] }

section
variable (v : Vxe) (opc : Nat) (w : VInsn)

theorem Vxe.vq_push : (v.push opc w).vq = v.vq ++ if 0xC0 ≤ opc then [] else [w] := by
  unfold Vxe.push
  split <;> simp

theorem Vxe.xq_push : (v.push opc w).xq = v.xq ++ if 0xC0 ≤ opc then [w] else [] := by
  unfold Vxe.push
  split <;> simp

theorem Vxe.vec_push : (v.push opc w).vec = v.vec := by
  unfold Vxe.push
  split <;> rfl

theorem Vxe.pred_push : (v.push opc w).pred = v.pred := by
  unfold Vxe.push
  split <;> rfl
end

/-- The queue that an opcode selects is full: 32 entries of VXE, 16 of XLR. -/
def Vxe.full (v : Vxe) (opc : Nat) : Bool := if 0xC0 ≤ opc then 16 ≤ v.xq.length else 32 ≤ v.vq.length

theorem Vxe.full_iff (v : Vxe) (opc : Nat) : v.full opc = true ↔ if 0xC0 ≤ opc then 16 ≤ v.xq.length else 32 ≤ v.vq.length := by
  unfold Vxe.full
  split <;> simp

theorem Vxe.not_full_iff (v : Vxe) (opc : Nat) : v.full opc = false ↔ if 0xC0 ≤ opc then v.xq.length < 16 else v.vq.length < 32 := by
  unfold Vxe.full
  split <;> simp

/-- A vector instruction goes to the end of its queue. -/
def Dev.vecPush (d : Dev) (c opc x e : Nat) : Dev := d.updVxe c fun v => v.push opc (d.vecInsn c opc x e)

/-- The device as the issue of a vector instruction leaves it, before the units take what they may. -/
def Dev.vecQueued (d : Dev) (c t opc x e : Nat) : Dev := ((d.takeThread c t).vecPush c opc x e).pcNext c t

/-- A thread that issues a vector instruction, once it is chosen. -/
theorem Dev.vecIssue_eq (d : Dev) (c t opc x e : Nat) : d.vecIssue c t opc x e = d.issue c t fun d =>
    if (d.core c).vxe.full opc then d.blockThread c t (.room (if 0xC0 ≤ opc then 1 else 0)) else ((d.vecPush c opc x e).pcNext c t).vecPump c := by
  unfold Dev.vecIssue Vxe.full Dev.vecPush Vxe.push
  by_cases xlr : 0xC0 ≤ opc
  · simp only [xlr, decide_true, if_true, decide_eq_true_eq]
    rfl
  · simp only [xlr, decide_false, if_false, decide_eq_true_eq, Bool.false_eq_true]
    rfl

section
variable {i : Instr} {opc c t x e : Nat} (form : vectorForm i = some (opc, c, t, x, e)) (s : State) (hi : s.dev.issues c t)
include form hi

theorem exec_vector :
    let d := s.dev.takeThread c t
    exec i s = .next (s.withDev (Dev.showCtc (
      if (d.core c).vxe.full opc then d.blockThread c t (.room (if 0xC0 ≤ opc then 1 else 0)) else ((d.vecPush c opc x e).pcNext c t).vecPump c) c)) := by
  have ok : threadOk c t = true := by simp [threadOk, hi.core_lt, hi.thread_lt]
  simp only [exec_of_vectorForm form, Dev.vecIssue_eq]
  exact s.runOn_issue hi ok _

theorem exec_vector_room (h : ((s.dev.takeThread c t).core c).vxe.full opc = false) : exec i s =
    .next (s.withDev (((s.dev.vecQueued c t opc x e).vecPump c).showCtc c)) := by
  rw [exec_vector form s hi, if_neg (Bool.eq_false_iff.1 h), Dev.vecQueued]

theorem exec_vector_full (h : ((s.dev.takeThread c t).core c).vxe.full opc = true) : exec i s =
    .next (s.withDev (((s.dev.takeThread c t).blockThread c t (.room (if 0xC0 ≤ opc then 1 else 0))).showCtc c)) := by
  rw [exec_vector form s hi, if_pos h]
end

/-! ## PAUSE (R155) -/

/-- The fields of VXE_STATUS that show the queues. -/
def vxeShownFields (c : Nat) : List (Fld × Nat × Nat) := [(F.VXE_STATUS_VQDEPTH, c, 0), (F.VXE_STATUS_XQDEPTH, c, 0), (F.VXE_STATUS_BUSY, c, 0)]

section
variable (d : Dev) (c t : Nat)

theorem Dev.vecStart_paused (h : d.flag F.VXE_CTL_PAUSE c = true) (xlr : Bool) : d.vecStart c xlr = d := by
  unfold Dev.vecStart
  dsimp only
  split
  · rfl
  · rw [h]
    rfl

/-- Units that are paused take nothing. -/
theorem Dev.vecPump_paused (h : d.flag F.VXE_CTL_PAUSE c = true) : d.vecPump c = d.showVxe c := by
  rw [Dev.vecPump, d.vecStart_paused c h, d.vecStart_paused c h, d.vecStart_paused c h]

theorem Dev.showVxe_keeps : d.KeepsStores (d.showVxe c) (vxeShownFields c) :=
  (((Dev.KeepsStores.refl d _).put F.VXE_STATUS_VQDEPTH c 0 _ (by decide) (by simp [vxeShownFields])).put F.VXE_STATUS_XQDEPTH c 0 _ (by decide)
    (by simp [vxeShownFields])).put F.VXE_STATUS_BUSY c 0 _ (by decide) (by simp [vxeShownFields])

theorem Dev.pc_showVxe {t : Nat} (ht : t < 8) : (d.showVxe c).pc c t = d.pc c t := by
  refine (d.showVxe_keeps c).regs F.CTC_PC_V c t (by decide) fun x hx => ?_
  simp only [vxeShownFields, List.mem_cons, List.not_mem_nil, or_false] at hx
  rcases hx with rfl | rfl | rfl <;> exact ctcPc_apart c t ht rfl (by decide)

@[simp] theorem Dev.core_showVxe (k : Nat) : (d.showVxe c).core k = d.core k := rfl

/-- Neither the choice of a thread nor its program counter moves VXE_CTL. -/
theorem Dev.CoreActs.pause {d e : Dev} {c t : Nat} (h : d.CoreActs e (issueFields c t)) : e.flag F.VXE_CTL_PAUSE c = d.flag F.VXE_CTL_PAUSE c := by
  have same : e.get F.VXE_CTL_PAUSE c = d.get F.VXE_CTL_PAUSE c := by
    refine h.regs F.VXE_CTL_PAUSE c 0 (by decide) fun x hx => ?_
    simp only [issueFields, List.mem_cons, List.not_mem_nil, or_false] at hx
    rcases hx with rfl | rfl | rfl | rfl | rfl
    · exact Fld.apart_of_offset c rfl rfl (show 0x3000 + 0 * 0 ≠ 0x4018 + t * 0x18 by omega)
    all_goals exact Fld.apart_of_offset c rfl rfl (by decide)
  rw [Dev.flag, Dev.flag, same]

theorem Dev.KeepsStores.updVxe {d e : Dev} {fs : List (Fld × Nat × Nat)} (h : d.KeepsStores e fs) (c : Nat) (f : Vxe → Vxe) :
    d.KeepsStores (e.updVxe c f) fs := h.updCore c _ (fun _ => rfl) (fun _ => rfl) fun _ => rfl

theorem Dev.CoreActs.updVxe {d e : Dev} {fs : List (Fld × Nat × Nat)} (h : d.CoreActs e fs) (c : Nat) (f : Vxe → Vxe) : d.CoreActs (e.updVxe c f) fs :=
  ⟨fun p => (((Dev.KeepsStores.refl e []).updVxe c f).byteAt p).trans (h.bytes p), Dev.onlyFields_mid h.regs rfl, by rw [h.rest]; rfl⟩

@[simp] theorem Dev.vxe_updVxe (f : Vxe → Vxe) : ((d.updVxe c f).core c).vxe = f (d.core c).vxe := by simp [Dev.updVxe]

@[simp] theorem Dev.pc_updVxe (f : Vxe → Vxe) (c' t' : Nat) : (d.updVxe c f).pc c' t' = d.pc c' t' := rfl

theorem Dev.vecInsn_takeThread (opc x e : Nat) : (d.takeThread c t).vecInsn c opc x e = d.vecInsn c opc x e := by
  rw [Dev.vecInsn, Dev.vecInsn, Dev.vxe_takeThread]

theorem Dev.vecQueued_acts (opc x e : Nat) : d.CoreActs (d.vecQueued c t opc x e) (issueFields c t) :=
  ((Dev.CoreActs.takeThread d c t).updVxe c _).pcNext (pc_mem_issueFields c t)

theorem Dev.pc_vecQueued {t : Nat} (ht : t < 8) (opc x e : Nat) : (d.vecQueued c t opc x e).pc c t = (d.pc c t + 8) % 2 ^ 64 := by
  rw [Dev.vecQueued, Dev.pc_pcNext, Dev.vecPush, Dev.pc_updVxe, d.pc_takeThread c ht]

theorem Dev.vxe_vecQueued (opc x e : Nat) : ((d.vecQueued c t opc x e).core c).vxe = (d.core c).vxe.push opc (d.vecInsn c opc x e) := by
  rw [Dev.vecQueued, Dev.core_pcNext, Dev.vecPush, Dev.vxe_updVxe, Dev.vxe_takeThread, Dev.vecInsn_takeThread]

/-- Units that are paused leave the queues as the issue made them. -/
theorem Dev.vecPump_vecQueued (h : d.flag F.VXE_CTL_PAUSE c = true) (opc x e : Nat) :
    (d.vecQueued c t opc x e).vecPump c = (d.vecQueued c t opc x e).showVxe c :=
  Dev.vecPump_paused _ c ((d.vecQueued_acts c t opc x e).pause.trans h)
end

/-- Settles O26: `exec_vector` by the room in the queue; units that are paused take nothing, so that the queues are as the issue left them. -/
theorem vectorInstructionsIssue : Obligations.VectorInstructionsIssue := by
  refine ⟨fun i opc c t x e s form hi room => ?_, fun i opc c t x e s form hi full => ?_, fun i opc c t x e s form hi paused room => ?_⟩
  · exact exec_vector_room form s hi ((Vxe.not_full_iff _ _).2 room)
  · exact exec_vector_full form s hi ((Vxe.full_iff _ _).2 full)
  · have notFull : ((s.dev.takeThread c t).core c).vxe.full opc = false := by
      rw [Dev.vxe_takeThread]
      exact (Vxe.not_full_iff _ _).2 room
    have issued := exec_vector_room form s hi notFull
    rw [s.dev.vecPump_vecQueued c t paused] at issued
    have vxe : ((((s.dev.vecQueued c t opc x e).showVxe c).showCtc c).core c).vxe = (s.dev.core c).vxe.push opc (s.dev.vecInsn c opc x e) := by
      rw [Dev.core_showCtc, Dev.core_showVxe, Dev.vxe_vecQueued]
    refine ⟨_, issued, rfl, ?_, fun b => ?_, ?_, ?_, ?_, ?_⟩
    · exact (Dev.pc_showCtc _ c hi.thread_lt).trans ((Dev.pc_showVxe _ c hi.thread_lt).trans (s.dev.pc_vecQueued c hi.thread_lt opc x e))
    · exact ((Dev.showCtc_keeps _ c).byteAt b).trans (((Dev.showVxe_keeps _ c).byteAt b).trans ((s.dev.vecQueued_acts c t opc x e).bytes b))
    · simp only [vxe, Vxe.vq_push, Dev.vecInsn]
    · simp only [vxe, Vxe.xq_push, Dev.vecInsn]
    · simp only [vxe, Vxe.vec_push]
    · simp only [vxe, Vxe.pred_push]

/-! ## Completion, error clearing and ABORT (R133, R134, R140, R155, R156) -/

section
variable (d : Dev) (c t : Nat)

@[simp] theorem Dev.vxe_updThread (f : Thread → Thread) (k : Nat) : ((d.updThread c t f).core k).vxe = (d.core k).vxe := d.vxe_updCtc c _ k

@[simp] theorem Dev.vxe_setG (r : Nat) (v : BitVec 64) (k : Nat) : ((d.setG c t r v).core k).vxe = (d.core k).vxe := by
  unfold Dev.setG
  split
  · rfl
  · exact d.vxe_updThread c t _ k

@[simp] theorem Dev.vxe_due (k : Nat) : ((d.due c t).core k).vxe = (d.core k).vxe := d.vxe_updThread c t _ k

/-- Threads that take a summary register change nothing of the vector unit. -/
@[simp] theorem Dev.vxe_serveSget (k : Nat) : ((d.serveSget c).core k).vxe = (d.core k).vxe := by
  refine List.foldlRecOn (motive := fun e : Dev => (e.core k).vxe = (d.core k).vxe) _ _ rfl fun e h t _ => ?_
  split
  · dsimp only
    split
    · rw [Dev.vxe_due, Dev.vxe_setG, h]
    · exact h
  · exact h

/-- The vector unit with nothing in its queues and units, and no summary register held back. -/
def Vxe.emptied (v : Vxe) (summs : List Nat) (cursor : Nat) : Vxe :=
  { summs.foldl (fun v s => v.setSumm s summLost) v with vq := [], xq := [], vrun := none, xrun := none, vheld := [], xheld := [], cursor := cursor }

/-- Whatever an ABORT makes free values, it empties the unit last. -/
theorem Dev.vecAbort_eq : ∃ e summs cursor, d.vecAbort c = ((Dev.updVxe e c fun v => v.emptied summs cursor).showVxe c).serveSget c := ⟨_, _, _, rfl⟩

theorem Dev.vxe_vecAbort : ∃ v summs cursor, ((d.vecAbort c).core c).vxe = Vxe.emptied v summs cursor := by
  obtain ⟨e, summs, cursor, h⟩ := d.vecAbort_eq c
  exact ⟨(e.core c).vxe, summs, cursor, by rw [h, Dev.vxe_serveSget, Dev.core_showVxe, Dev.vxe_updVxe]⟩

theorem Dev.vecComplete_running {xlr : Bool} {i : VInsn} (h : (if xlr then (d.core c).vxe.xrun else (d.core c).vxe.vrun) = some i) (stall : Nat) :
    let e := d.updVxe c fun v => if xlr then { v with xrun := none } else { v with vrun := none }
    let w := if stall = 0 then e else e.count F.VXE_STALL_V c 0 stall
    d.vecComplete c xlr stall = ((if i.tapEn then w.pulse c i.tap else w).vecPump c).serveSget c := by
  simp only [Dev.vecComplete, h]
end

/-- Settles O27: a completion is the branch of a running instruction, and an ABORT empties the unit last. -/
theorem vectorUnitEvents : Obligations.VectorUnitEvents := by
  refine ⟨fun s c stall xlr i hc hg running => ?_, fun s c hc => ⟨?_, ?_⟩, fun s c hc => ?_⟩
  · refine (s.runCore_next _ hc rfl hg).trans ?_
    rw [s.dev.vecComplete_running c running]
  · exact s.runOn_next _ (decide_eq_true hc)
  · exact s.runOn_next _ (decide_eq_true hc)
  · obtain ⟨v, summs, cursor, h⟩ := s.dev.vxe_vecAbort c
    refine ⟨s.withDev (s.dev.vecAbort c), s.runOn_next _ (decide_eq_true hc), rfl, ?_⟩
    dsimp only
    rw [h]
    exact ⟨rfl, rfl, rfl, rfl, rfl, rfl⟩

end Sys2Proof.Machine

/-! # Loads, stores and atomics of a control core, and the toll barrier (R145, R146, R148, R152 to R154, R210, R211, R237, R424) -/

namespace Sys2Proof.Machine

/-! ## Issue of an access (R145, R146) -/

section
variable (s : State) {c t : Nat} (hi : s.dev.issues c t)
include hi

theorem exec_ctcLoad {size rd ra : Nat} {imm : Int} (hrd : rd < 32) (hra : ra < 32) (himm : immOk imm = true) (hsize : sizeOk size = true) (err stall : Nat) :
    let d := s.dev.takeThread c t
    let a := d.ea c t ra imm
    let r := d.readError c a size err
    let x := r.2.loadValue { thread := t, access := 0, size := size } (r.2.localRead c a size)
    exec (.ctcLoad c t size rd ra imm err stall false) s = .next (s.withDev (Dev.showCtc (
      if d.accessFault c a size ≠ 0 then d.faultHere c t (d.accessFault c a size)
      else if bitOf a 63 then if r.1 then r.2.faultHere c t 6 else ((x.2.setG c t rd x.1).count F.CTC_STALL_LOCAL_V c 0 stall).pcNext c t
      else d.miss c t a (.read size) { thread := t, access := 0, rd := rd, size := size } err) c)) :=
  s.runOn_issue hi (by rw [insnOk_of_issues hi (by simp [hrd, hra]), himm, hsize]; rfl) _

theorem exec_ctcStore {size rs ra : Nat} {imm : Int} (hrs : rs < 32) (hra : ra < 32) (himm : immOk imm = true) (hsize : sizeOk size = true) (err : Nat) :
    let d := s.dev.takeThread c t
    let a := d.ea c t ra imm
    let bs := leBytes size (d.g c t rs).toNat
    exec (.ctcStore c t size rs ra imm err false) s = .next (s.withDev (Dev.showCtc (
      if d.accessFault c a size ≠ 0 then d.faultHere c t (d.accessFault c a size)
      else if bitOf a 63 then (d.localWrite c a bs err).pcNext c t
      else d.miss c t a (.write bs) { thread := t, access := 0, size := size, store := true } err) c)) :=
  s.runOn_issue hi (by rw [insnOk_of_issues hi (by simp [hrs, hra]), himm, hsize]; rfl) _
end

/-- Each atomic of Table 09-2 is the issue of its operation. -/
theorem exec_of_atomicForm {i : Instr} {op : AtomOp} {c t rd ra rb : Nat} {imm : Int} (h : atomicForm i = some (op, c, t, rd, ra, rb, imm)) (s : State) :
    exec i s = s.runOn (atomicOk c t rd ra rb imm) fun d => d.atomic c t op rd ra rb imm false := by
  unfold atomicForm at h
  split at h <;> cases h <;> rfl

/-- The fault of an atomic: a core-local address takes none. -/
def Dev.atomicFault (d : Dev) (c a n : Nat) : Nat := if a % n = 0 && bitOf a 63 then 3 else d.accessFault c a n

theorem Dev.atomicFault_local (d : Dev) (c : Nat) {a n : Nat} (aligned : a % n = 0) (h : bitOf a 63 = true) : d.atomicFault c a n = 3 := by
  simp [Dev.atomicFault, aligned, h]

theorem Dev.atomicFault_global (d : Dev) (c n : Nat) {a : Nat} (h : bitOf a 63 = false) : d.atomicFault c a n = d.accessFault c a n := by
  simp [Dev.atomicFault, h]

theorem exec_atomic {i : Instr} {op : AtomOp} {c t rd ra rb : Nat} {imm : Int} (form : atomicForm i = some (op, c, t, rd, ra, rb, imm)) (s : State)
    (hi : s.dev.issues c t) (hrd : rd < 32) (hra : ra < 32) (hrb : rb < 32) (himm : immOk imm = true) :
    let d := s.dev.takeThread c t
    let a := d.ea c t ra imm
    let n := if op.float then 4 else 8
    exec i s = .next (s.withDev (Dev.showCtc (
      if d.atomicFault c a n ≠ 0 then d.faultHere c t (d.atomicFault c a n)
      else d.miss c t a (.atomic op (d.g c t rb) (d.g c t rd)) { thread := t, access := 0, rd := rd, size := n, float := op.float } 0) c)) := by
  have ok : atomicOk c t rd ra rb imm = true := by rw [atomicOk, insnOk_of_issues hi (by simp [hrd, hra, hrb]), himm]; rfl
  rw [exec_of_atomicForm form]
  exact s.runOn_issue hi ok _

/-! ## Parity errors of the registers (R424) -/

theorem Dev.issue_parity {d : Dev} {c t : Nat} (h : d.issues c t) (f : Dev → Dev) : d.issue c t f true = (d.takeThread c t).faultHere c t 6 := by
  obtain ⟨-, -, hsel, hclk, hpc⟩ := h
  simp [Dev.issue, hsel, hclk, hpc, Dev.faultHere]

/-- An instruction that reads a register with a parity error is an issue that meets it, whatever it would have done. -/
theorem exec_of_parityForm {i : Instr} {c t : Nat} (h : parityForm i = some (c, t)) : ∃ ok f, i.wf = ok ∧ ∀ s, exec i s = s.runOn ok fun d => d.issue c t f true := by
  unfold parityForm at h
  split at h <;> cases h
  -- the check of a load or store writes the sizes of `Instr.wf` otherwise
  case h_12 | h_13 => exact ⟨_, _, congrArg (_ && ·) (sizeOk_eq_contains _).symm, fun _ => rfl⟩
  all_goals exact ⟨_, _, rfl, fun _ => rfl⟩

theorem exec_parity {i : Instr} {c t : Nat} (form : parityForm i = some (c, t)) (wf : i.wf = true) (s : State) (hi : s.dev.issues c t) :
    exec i s = .next (s.withDev ((s.dev.takeThread c t).faultHere c t 6)) := by
  obtain ⟨ok, f, hok, h⟩ := exec_of_parityForm form
  rw [h, s.runOn_next _ (hok.symm.trans wf), Dev.issue_parity hi]

/-! ## Answers of global accesses (R146, R148, R210, R211) -/

section
variable (s : State) {c k : Nat} {m : MissSlot} {a : MemAcc} {code : Nat} {bs : List Byte} (hc : c < 272) (hk : k < 64) (hg : s.dev.clockGated c = false)
  (slot : (s.dev.core c).ctc.slots.find? (fun s => s.1 = k) = some (k, m)) (acc : s.dev.acc m.access = some a) (done : a.st = .done code bs)
include hc hk hg slot acc done

theorem exec_globalLoadReturn (load : m.store = false) (stall : Nat) :
    let b := s.dev.countStall c stall
    let d := b.freeSlot c k m
    let x := d.loadValue m bs
    let e := x.2.setG c m.thread m.rd x.1
    exec (.globalLoadReturn c k stall) s = .next (s.withDev ((Dev.settle (
      if code = 0 then if (b.thread c m.thread).block = some (.load k) then (e.pcNext c m.thread).due c m.thread else e
      else d.ctcFault c m.thread m.pc (if code = stTranslation then 5 else 6))).showCtc c)) := by
  refine (s.runCore_next _ hc (decide_eq_true hk) hg).trans ?_
  simp only [slot, acc, done, load, Option.map_some, decide_eq_true_eq]
  rfl

theorem exec_storeAck (store : m.store = true) (stall : Nat) :
    let d := (s.dev.countStall c stall).freeSlot c k m
    exec (.storeAck c k stall) s = .next (s.withDev ((if code = stTranslation then d.ctcFault c m.thread m.pc 5 else d).settle.showCtc c)) := by
  refine (s.runCore_next _ hc (decide_eq_true hk) hg).trans ?_
  simp only [slot, acc, done, store, Option.map_some]
  rfl
end

/-- Settles O32: each clause is one branch of its instruction's meaning after the choice of the thread, or of the answer to a slot's access. -/
theorem ctcLoadsAndAtomics : Obligations.CtcLoadsAndAtomics := by
  refine ⟨?loads, ?stores, ?atomics, fun i c t s form wf hi => exec_parity form wf s hi, ?answers⟩
  case loads =>
    intro s c t size rd ra imm err stall hi hrd hra himm hsize d a r
    have load := exec_ctcLoad s hi hrd hra himm hsize err stall
    refine ⟨fun hf here good => ?_, fun hf here bad => ?_, fun hf away => ?_, fun hf => ?_⟩
    · exact load.trans (by rw [if_neg (not_not.2 hf), if_pos here, if_neg (Bool.eq_false_iff.1 good)])
    · exact load.trans (by rw [if_neg (not_not.2 hf), if_pos here, if_pos bad])
    · exact load.trans (by rw [if_neg (not_not.2 hf), if_neg (Bool.eq_false_iff.1 away)])
    · exact load.trans (by rw [if_pos hf])
  case stores =>
    intro s c t size rs ra err imm hi hrs hra himm hsize d a
    have store := exec_ctcStore s hi hrs hra himm hsize err
    refine ⟨fun hf away => ?_, fun hf => ?_⟩
    · exact store.trans (by rw [if_neg (not_not.2 hf), if_neg (Bool.eq_false_iff.1 away)])
    · exact store.trans (by rw [if_pos hf])
  case atomics =>
    intro i op c t rd ra rb imm s form hi hrd hra hrb himm d a n
    have atomic := exec_atomic form s hi hrd hra hrb himm
    refine ⟨fun hf away => ?_, fun aligned here => ?_, fun away hf => ?_⟩
    · exact atomic.trans (by rw [d.atomicFault_global c n away, if_neg (not_not.2 hf)])
    · exact atomic.trans (by rw [d.atomicFault_local c aligned here, if_pos (by decide)])
    · exact atomic.trans (by rw [d.atomicFault_global c n away, if_pos hf])
  case answers =>
    intro s c k stall code m a bs hc hk hg slot acc done
    refine ⟨fun load => ?_, fun store => exec_storeAck s hc hk hg slot acc done store stall⟩
    have answer := exec_globalLoadReturn s hc hk hg slot acc done load stall
    refine ⟨fun good waits => ?_, fun good goes => ?_, fun bad => ?_⟩
    · exact answer.trans (by rw [if_pos good, if_pos waits])
    · exact answer.trans (by rw [if_pos good, if_neg goes])
    · exact answer.trans (by rw [if_neg bad])

/-! ## The toll barrier (R152 to R154) -/

/-- A generation is released where it has arrivals and misses no member. -/
theorem exec_tollRelease (s : State) {b : Nat} (hb : b < 16) : exec (.tollRelease b) s =
    .next (s.withDev (if !(s.dev.toll b).now.isEmpty && (s.dev.tollMissing b).isEmpty then s.dev.tollOver b false else s.dev)) :=
  s.runOn_next _ (decide_eq_true hb)

theorem exec_tollTimeout (s : State) {b : Nat} (hb : b < 16) :
    exec (.tollTimeout b) s = .next (s.withDev (if s.dev.tollLate b then s.dev.tollExpire b else s.dev)) := s.runOn_next _ (decide_eq_true hb)

theorem Dev.tollLate_iff (d : Dev) (b : Nat) : d.tollLate b = true ↔ (d.toll b).now ≠ [] ∧ d.tollMissing b ≠ [] ∧ d.get F.TOLL_TIMEOUT_BEATS ≠ 0 ∧
    (d.toll b).first + 65536 * d.get F.TOLL_TIMEOUT_BEATS ≤ d.now := by
  simp [Dev.tollLate, and_assoc]

section
variable (s : State) {c t b : Nat} (hi : s.dev.issues c t) (hb : b < 16)
include hi hb

theorem exec_toll {rd : Nat} (hrd : rd < 32) :
    let d := s.dev.takeThread c t
    exec (.toll c t rd b) s = .next (s.withDev (Dev.showCtc ((d.tollMember b c).elim (d.faultHere c t 8) fun m =>
      ((d.pcNext c t).blockThread c t (.toll rd b)).tollArrive b { core := c, member := m, thread := some t, rd := rd }) c)) := by
  have ok : (insnOk c t [rd] && decide (b < 16)) = true := by rw [insnOk_of_issues hi (by simp [hrd]), decide_eq_true hb]; rfl
  refine (s.runOn_issue hi ok _).trans ?_
  cases (s.dev.takeThread c t).tollMember b c <;> rfl

theorem exec_tolla {k : Nat} (hk : k < 64) :
    let d := s.dev.takeThread c t
    exec (.tolla c t b k) s = .next (s.withDev (Dev.showCtc ((d.tollMember b c).elim (d.faultHere c t 8) fun m =>
      (d.pcNext c t).tollArrive b { core := c, member := m, thread := none, tap := k }) c)) := by
  have ok : (insnOk c t [] && decide (b < 16) && decide (k < 64)) = true := by rw [insnOk_of_issues hi (by simp), decide_eq_true hb, decide_eq_true hk]; rfl
  refine (s.runOn_issue hi ok _).trans ?_
  cases (s.dev.takeThread c t).tollMember b c <;> rfl
end

/-- Settles O34: an arrival by the member that the core is, and a release, a timeout or a reset by the state of the channel's generation. -/
theorem tollBarrier : Obligations.TollBarrier := by
  refine ⟨fun s c t rd b m hi hrd hb member => ?_, fun s c t b k m hi hb hk member => ?_, fun s i c t rd b k hi hrd hb hk stranger form => ?_,
    fun s b hb arrived complete => ?_, fun s b hb missing => ?_, fun s b hb late => ?_, fun s b hb inTime => ?_, Dev.tollLate_iff, fun s mask => rfl⟩
  · exact (exec_toll s hi hb hrd).trans (by rw [member, Option.elim_some])
  · exact (exec_tolla s hi hb hk).trans (by rw [member, Option.elim_some])
  · rcases form with rfl | rfl
    · exact (exec_toll s hi hb hrd).trans (by rw [stranger, Option.elim_none])
    · exact (exec_tolla s hi hb hk).trans (by rw [stranger, Option.elim_none])
  · exact (exec_tollRelease s hb).trans (by simp [arrived, complete])
  · exact (exec_tollRelease s hb).trans (by simp [missing])
  · exact (exec_tollTimeout s hb).trans (by rw [if_pos late])
  · exact (exec_tollTimeout s hb).trans (by rw [if_neg (Bool.eq_false_iff.1 inTime)])

end Sys2Proof.Machine

/-! # The stream unit and translation (R185 to R209) -/

namespace Sys2Proof.Machine

/-! ## SXU_ABORT over a bad word of the near store (R199, R229) -/

/-- A READ stream of one row of 4 bytes that lands at the bottom of the core's near store. -/
def nearStoreRead : Stream := { words := [1, 0x1000, 2 ^ 63 + 0x1000000, 4 + 2 ^ 32, 4 + 4 * 2 ^ 32, 1, 0], desc := 2 ^ 63, id := 0 }

/-- Core 0 holds that stream, not yet landed, and the check bits of the word that its row lies in are inverted. -/
def abortOverBadWord : State :=
  { dev := { img := { inForce := some { groups := [{}], mem := [{ regions := [1] }] } }
             cores := [(0, { sxu := { ctx := [(0, nearStoreRead)], nextId := 1 }, nsBad := [0] })] } }

/-- Refutes O42, by the frame of its clause on SXU_ABORT: the bytes that become undefined (R199) are written one by one, each a narrow write that reads its word
(R229), so that an uncorrectable word of the near store is counted. Here the model counts 4 in NS_UE_CNT, where the statement has SXU_STATUS alone change. -/
theorem not_streamUnit : ¬ Obligations.StreamUnit := by
  rintro ⟨-, -, -, -, -, -, -, -, aborts⟩
  obtain ⟨u, answered, -, -, -, -, -, frame⟩ := aborts abortOverBadWord 0 (by decide)
  have model : exec (.sxuAbort 0) abortOverBadWord = .next (abortOverBadWord.withDev (abortOverBadWord.dev.abortStreams 0)) := rfl
  obtain rfl : abortOverBadWord.withDev (abortOverBadWord.dev.abortStreams 0) = u := Host.Outcome.next.inj (model.symm.trans answered)
  have unchanged := frame F.NS_UE_CNT_V 0 0 (by decide) (by unfold Fld.apart; decide)
  have counted : (abortOverBadWord.dev.abortStreams 0).get F.NS_UE_CNT_V 0 = 4 := by decide +kernel
  exact absurd (counted.symm.trans unchanged) (by decide)

/-! ## A walk of the translation table (R187, R188) -/

/-- The granule of the next byte of an access. -/
abbrev MemAcc.granule (a : MemAcc) : Nat := a.at_ % 2 ^ 40 / 65536

/-- The device once the line of the entry that a walk reads is in its home slice. -/
abbrev Dev.walked (d : Dev) (a : MemAcc) : Dev := d.bringLine (d.entryAddr a.granule / 64)

/-- A walk that no invalidation has overtaken, for a granule of this chip's table. -/
structure Dev.WalkHere (d : Dev) (a : MemAcc) : Prop where
  current : d.sys.staleWalks.contains a.id = false
  chip : a.at_ / 2 ^ 40 = d.chip
  mapped : bits a.at_ 39 36 ≠ 0xF
  granule : a.granule < d.granules

section
variable {d : Dev} {a : MemAcc} (h : d.WalkHere a)
include h

theorem Dev.WalkHere.served : ¬ (a.at_ / 2 ^ 40 ≠ d.chip || bits a.at_ 39 36 = 0xF || d.granules ≤ a.granule) = true := by
  simp only [h.chip, h.mapped, Nat.not_le.2 h.granule, ne_eq, not_true, decide_false, Bool.or_self, Bool.false_eq_true, not_false_iff]

theorem Dev.walkDone_failed : d.walkDone a true = d.failAcc a 0x06 := by
  rw [Dev.walkDone, if_neg (Bool.eq_false_iff.1 h.current), if_neg h.served]
  rfl

theorem Dev.walkDone_unreadable (unread : (d.walked a).tableEntry a.granule = none) : d.walkDone a false = (d.walked a).failAcc a 0x06 := by
  rw [Dev.walkDone, if_neg (Bool.eq_false_iff.1 h.current), if_neg h.served]
  simp only [Bool.false_eq_true, if_false, unread]
  rfl

/-- What the entry that a walk has read decides. -/
theorem Dev.walkDone_entry {e : Nat} (entry : (d.walked a).tableEntry a.granule = some e) : d.walkDone a false =
    if !xltValid e then (d.walked a).failAcc a 0x05
    else if xltMotion e then (if a.ahead then (d.walked a).snare a else (d.walked a).updAcc a.id fun a => { a with st := .motion })
    else if a.ahead && xltTier e ≠ 3 then (d.walked a).snare a
    else ((d.walked a).xltInstall a.core a.q a.granule e).routeAcc a e := by
  rw [Dev.walkDone, if_neg (Bool.eq_false_iff.1 h.current), if_neg h.served]
  simp only [Bool.false_eq_true, if_false, entry]
  rfl
end

theorem Dev.walkDone_overtaken {d : Dev} {a : MemAcc} (h : d.sys.staleWalks.contains a.id = true) (err : Bool) : d.walkDone a err =
    ({ d with sys := { d.sys with staleWalks := d.sys.staleWalks.filter (· ≠ a.id) } } : Dev).count F.XLT_WALKS_V := if_pos h

theorem exec_translationWalkDone (s : State) {id : Nat} {a : MemAcc} (acc : s.dev.acc id = some a) (walks : a.st = .walk) (err : Bool) :
    exec (.translationWalkDone id err) s = .next (s.withDev (s.dev.walkDone a err).settle.freWake) := by
  have answer : exec (.translationWalkDone id err) s = .next (s.withDev ((s.dev.acc id).elim s.dev fun a =>
      (if a.st = .walk then s.dev.walkDone a err else s.dev).settle.freWake)) := by
    refine Eq.trans (show exec (.translationWalkDone id err) s = execTranslationWalkDone id err s from rfl) ?_
    rw [execTranslationWalkDone, State.run_eq]
    cases s.dev.acc id <;> rfl
  rw [answer, acc, Option.elim_some, if_pos walks]

/-! ## XLT_INVAL and its end (R189) -/

theorem Dev.stc_dropXlt {d : Dev} {hit : Nat → Bool} {c : Nat} {h : XltHeld} (held : h ∈ ((d.dropXlt hit).core c).stc) : hit h.granule = false := by
  rcases mget_eq_or_mem {} (d.dropXlt hit).cores c with none | kept
  · rw [Dev.core, none] at held
    cases held
  · obtain ⟨e, -, core⟩ := List.mem_map.1 (List.mem_of_mem_filter kept)
    rw [Dev.core, ← (Prod.mk.inj core).2] at held
    simpa using (List.mem_filter.1 held).2

theorem Dev.qtc_dropXlt {d : Dev} {hit : Nat → Bool} {q : Nat} {h : XltHeld} (held : h ∈ mget [] (d.dropXlt hit).sys.qtc q) : hit h.granule = false := by
  rcases mget_eq_or_mem [] (d.dropXlt hit).sys.qtc q with none | kept
  · rw [none] at held
    cases held
  · obtain ⟨e, -, quarter⟩ := List.mem_map.1 (List.mem_of_mem_filter kept)
    rw [← (Prod.mk.inj quarter).2] at held
    simpa using (List.mem_filter.1 held).2

section
variable (s : State) (all : Bool) (g : Nat)

/-- The invalidation begins, with the walks and requests that it waits for. -/
theorem exec_xltInval_idle (h : s.dev.get F.XLT_STATUS_INVAL_BUSY = 0) : ∃ walks opened, exec (.xltInval all g) s = .next (s.withDev (
    ({ s.dev.dropXlt fun k => all || k = g with
       sys := { (s.dev.dropXlt fun k => all || k = g).sys with staleWalks := walks, draining := opened } } : Dev).putD F.XLT_STATUS_INVAL_BUSY 1)) :=
  ⟨_, _, congrArg (fun d => Host.Outcome.next (s.withDev d)) (if_neg (by simp [Dev.flag, h]))⟩

theorem exec_xltInval_busy (h : s.dev.get F.XLT_STATUS_INVAL_BUSY ≠ 0) :
    exec (.xltInval all g) s = .next (s.withDev (s.dev.putD F.XLT_STATUS_INVAL_REFUSED 1)) :=
  congrArg (fun d => Host.Outcome.next (s.withDev d)) (if_pos (by simp [Dev.flag, h]))
end

section
variable {s : State}

theorem exec_invalComplete_ended (walks : s.dev.sys.staleWalks = [])
    (ended : ∀ id ∈ s.dev.sys.draining, s.dev.acc id = none ∨ ∃ a k bs, s.dev.acc id = some a ∧ a.st = .done k bs) :
    exec .invalComplete s = .next (s.withDev (({ s.dev with sys := { s.dev.sys with draining := [] } } : Dev).putD F.XLT_STATUS_INVAL_BUSY 0)) := by
  refine congrArg (fun d => Host.Outcome.next (s.withDev d)) (if_pos ?_)
  rw [walks, List.filter_eq_nil_iff.2]
  · rfl
  · intro id hid
    rcases ended id hid with gone | ⟨a, k, bs, acc, done⟩
    · simp [gone]
    · simp [acc, done]

theorem exec_invalComplete_open (h : s.dev.sys.staleWalks ≠ [] ∨ ∃ id ∈ s.dev.sys.draining, ∃ a, s.dev.acc id = some a ∧ ∀ k bs, a.st ≠ .done k bs) :
    exec .invalComplete s = .next s := by
  refine congrArg (fun d => Host.Outcome.next (s.withDev d)) (if_neg fun ended => ?_)
  obtain ⟨walks, left⟩ := Bool.and_eq_true_iff.1 ended
  rcases h with walking | ⟨id, drains, a, acc, opened⟩
  · exact walking (List.isEmpty_iff.1 walks)
  · refine List.filter_eq_nil_iff.1 (List.isEmpty_iff.1 left) id drains ?_
    simp only [acc]
end

/-- Settles O43: a walk decides by the entry that it reads (`Dev.walkDone_entry`), and an invalidation begins, is refused, waits or ends by INVAL_BUSY and by what is
still open. -/
theorem translationAndInvalidation : Obligations.TranslationAndInvalidation := by
  refine ⟨?decides, ?overtaken, ?begins, ?refused, ?ends, fun s => exec_invalComplete_open⟩
  case decides =>
    intro s id a acc walks current g d chip mapped granule
    have here : s.dev.WalkHere a := ⟨current, chip, mapped, granule⟩
    have walked (e : Dev) (h : s.dev.walkDone a false = e) : exec (.translationWalkDone id false) s = .next (s.withDev e.settle.freWake) := by
      rw [exec_translationWalkDone s acc walks, h]
    refine ⟨?_, fun unread => walked _ (Dev.walkDone_unreadable here unread), fun e entry => ⟨fun invalid => walked _ ?_, fun valid moving demand => walked _ ?_,
      fun valid rests goes => walked _ ?_⟩⟩
    · rw [exec_translationWalkDone s acc walks, Dev.walkDone_failed here]
    · rw [Dev.walkDone_entry here entry, if_pos (by rw [invalid]; rfl)]
    · rw [Dev.walkDone_entry here entry, if_neg (by rw [valid]; decide), if_pos moving, if_neg (Bool.eq_false_iff.1 demand)]
    · have held : ¬ (a.ahead && xltTier e ≠ 3) = true := by rcases goes with h | h <;> simp [h]
      rw [Dev.walkDone_entry here entry, if_neg (by rw [valid]; decide), if_neg (Bool.eq_false_iff.1 rests), if_neg held]
  case overtaken =>
    intro s id a err acc walks stale
    rw [exec_translationWalkDone s acc walks, Dev.walkDone_overtaken stale]
  case begins =>
    intro s all g idle
    obtain ⟨walks, opened, began⟩ := exec_xltInval_idle s all g idle
    refine ⟨_, began, rfl, Dev.get_putD_same _ _ _ (by decide), rfl, fun c h held => ?_, fun q h held => ?_, ?_⟩
    · simpa using Dev.stc_dropXlt (d := s.dev) (hit := fun k => all || k = g) (c := c) held
    · simpa using Dev.qtc_dropXlt (d := s.dev) (hit := fun k => all || k = g) (q := q) held
    · exact Dev.onlyFields_trans (Dev.onlyFields_regs rfl []) (Dev.onlyFields_putD _ _ _ (by decide))
  case refused =>
    intro s all g busy
    exact ⟨_, exec_xltInval_busy s all g busy, rfl, Dev.get_putD_same _ _ _ (by decide), rfl, Dev.onlyFields_putD _ _ _ (by decide)⟩
  case ends =>
    intro s walks ended
    exact ⟨_, exec_invalComplete_ended walks ended, rfl, Dev.get_putD_same _ _ _ (by decide), rfl, fun _ => rfl,
      Dev.onlyFields_trans (Dev.onlyFields_regs rfl []) (Dev.onlyFields_putD _ _ _ (by decide))⟩

end Sys2Proof.Machine

/-! # The DMA engine (R212 to R223) -/

namespace Sys2Proof.Machine

/-! ## The other bits of a mask -/

theorem testBit_add_two_pow_other {v b k : Nat} (off : v.testBit b = false) (h : k ≠ b) : (v + 2 ^ b).testBit k = v.testBit k := by
  rcases Nat.lt_or_gt_of_ne h with below | above
  · rw [Nat.add_comm, Nat.testBit_two_pow_add_gt below]
  · obtain ⟨i, rfl⟩ := Nat.exists_eq_add_of_lt above
    have even : v / 2 ^ b % 2 = 0 := by
      have odd := Nat.testBit_eq_decide_div_mod_eq (x := v) (i := b)
      rw [off] at odd
      have := of_decide_eq_false odd.symm
      omega
    have same : (v + 2 ^ b) / 2 ^ (b + 1) = v / 2 ^ (b + 1) := by
      rw [Nat.pow_succ, ← Nat.div_div_eq_div_mul, ← Nat.div_div_eq_div_mul, Nat.add_div_right _ (Nat.two_pow_pos b)]
      omega
    rw [show b + i + 1 = i + (b + 1) by omega, Nat.testBit_add, Nat.testBit_add, same]

theorem bitOf_setBit_other (v : Nat) {b k : Nat} (on : Bool) (h : k ≠ b) : bitOf (setBit v b on) k = bitOf v k := by
  unfold setBit
  split
  · rfl
  · next other =>
    rw [bitOf_eq_testBit] at other
    cases on with
    | true => rw [if_pos rfl, bitOf_eq_testBit, bitOf_eq_testBit, testBit_add_two_pow_other (by simpa using other) h]
    | false =>
      have set : v.testBit b = true := by simpa using other
      have sum := Nat.sub_add_cancel (Nat.ge_two_pow_of_testBit set)
      have off : (v - 2 ^ b).testBit b = false := by
        have flip := Nat.testBit_two_pow_add_eq (v - 2 ^ b) b
        rw [Nat.add_comm, sum, set] at flip
        simpa using flip
      rw [if_neg (by decide), bitOf_eq_testBit, bitOf_eq_testBit, ← testBit_add_two_pow_other off h, sum]

theorem bitOf_mod (v : Nat) {k w : Nat} (h : k < w) : bitOf (v % 2 ^ w) k = bitOf v k := by
  rw [bitOf_eq_testBit, bitOf_eq_testBit, Nat.testBit_mod_two_pow, decide_eq_true h, Bool.true_and]

/-! ## The arbiter (R69) -/

theorem arbiter_lt {n p ch : Nat} {req : Nat → Bool} (hn : 0 < n) (h : arbiter n p req = some ch) : ch < n := by
  obtain ⟨k, -, rfl⟩ := List.mem_map.1 (List.mem_of_find?_eq_some h)
  exact Nat.mod_lt _ hn

theorem arbiter_none {n p : Nat} {req : Nat → Bool} (h : ∀ ch, ch < n → req ch = false) : arbiter n p req = none := by
  refine List.find?_eq_none.2 fun ch hch => ?_
  obtain ⟨k, hk, rfl⟩ := List.mem_map.1 hch
  exact Bool.eq_false_iff.1 (h _ (Nat.mod_lt _ (Nat.zero_lt_of_lt (List.mem_range.1 hk))))

/-! ## The state of the DMA engine -/

/-- The fields of DMA_STATUS. -/
def dmaShownFields (c : Nat) : List (Fld × Nat × Nat) := [(F.DMA_STATUS_PENDING, c, 0), (F.DMA_STATUS_ACTIVE, c, 0), (F.DMA_STATUS_BUSY, c, 0)]

/-- A register of the core other than DMA_STATUS lies apart from its fields. -/
theorem Fld.apart_dmaShown {g : Fld} (c i : Nat) (hs : g.reg.info.scope = .core) (h : g.reg.info.base + i * g.reg.info.stride ≠ 0x8004) :
    ∀ x ∈ dmaShownFields c, g.apart c i x := by
  intro x hx
  simp only [dmaShownFields, List.mem_cons, List.not_mem_nil, or_false] at hx
  rcases hx with rfl | rfl | rfl <;> exact Fld.apart_of_offset c hs rfl h

theorem Dev.KeepsStores.updDma {d e : Dev} {fs : List (Fld × Nat × Nat)} (h : d.KeepsStores e fs) (c : Nat) (f : Dma → Dma) : d.KeepsStores (e.updDma c f) fs :=
  h.updCore c _ (fun _ => rfl) (fun _ => rfl) fun _ => rfl

section
variable (d : Dev) (c : Nat)

@[simp] theorem Dev.dma_updDma (f : Dma → Dma) : ((d.updDma c f).core c).dma = f (d.core c).dma := by simp [Dev.updDma]

@[simp] theorem Dev.get_updDma (f : Dma → Dma) (g : Fld) (u i : Nat) : (d.updDma c f).get g u i = d.get g u i := rfl

@[simp] theorem Dev.core_showDma (k : Nat) : (d.showDma c).core k = d.core k := rfl

theorem Dev.get_put_apart (f g : Fld) {u i u' i' n : Nat} (hf : f.fits = true) (hg : g.lo ≤ g.hi) (ha : g.apart u' i' (f, u, i)) :
    (d.put f u i n).get g u' i' = d.get g u' i' := d.onlyFields_put f u i n hf g u' i' hg fun _ hx => List.mem_singleton.1 hx ▸ ha

theorem Dev.get_put_beside {f g : Fld} (n : Nat) (h : f.beside g = true) : (d.put f c 0 n).get g c = d.get g c := by
  simp only [Fld.beside, Bool.and_eq_true, decide_eq_true_eq] at h
  obtain ⟨⟨⟨hr, hf⟩, hg⟩, hb⟩ := h
  exact d.get_put_field f g c 0 n hr hf hg hb

/-- The descriptor at HEAD stands where RING_BASE and RING_HEAD of its channel say. -/
theorem Dev.dmaDescAt_shown {d e : Dev} {c : Nat} (h : d.onlyFields e (dmaShownFields c)) (ch : Nat) : e.dmaDescAt c ch = d.dmaDescAt c ch := by
  rw [Dev.dmaDescAt, Dev.dmaDescAt, h F.DMA_RING_BASE_V c ch (by decide) (Fld.apart_dmaShown c ch rfl (show 0x8100 + ch * 0x10 ≠ 0x8004 by omega)),
    h F.DMA_RING_HEAD_HEAD c ch (by decide) (Fld.apart_dmaShown c ch rfl (show 0x810C + ch * 0x10 ≠ 0x8004 by omega))]
end

/-! ## Doorbells (R215) -/

/-- From d to e the doorbell has rung some channels of core c. -/
structure Dev.Rung (d e : Dev) (c : Nat) (chs : List Nat) : Prop where
  rest : e = { d with regs := e.regs, cores := e.cores }
  kept : d.KeepsStores e [(F.DMA_STATUS_PENDING, c, 0)]
  pending : ∀ ch, ch < 16 → bitOf (e.get F.DMA_STATUS_PENDING c) ch =
    (bitOf (d.get F.DMA_STATUS_PENDING c) ch || (decide (ch ∈ chs) && !bitOf (d.get F.DMA_RING_ERR_CH c) ch && d.dmaActive c ≠ ch))
  noted : (e.core c).dma.rung = ((d.core c).dma.rung || (decide (d.dmaActive c ∈ chs) && !bitOf (d.get F.DMA_RING_ERR_CH c) (d.dmaActive c)))

section
variable {d e : Dev} {c : Nat} {chs : List Nat}

theorem Dev.Rung.none (d : Dev) (c : Nat) : d.Rung d c [] := ⟨rfl, .refl d _, by simp, by simp⟩

theorem Dev.Rung.get (h : d.Rung e c chs) {g : Fld} (hg : g.lo ≤ g.hi) (ha : g.apart c 0 (F.DMA_STATUS_PENDING, c, 0)) : e.get g c = d.get g c :=
  h.kept.regs g c 0 hg fun _ hx => List.mem_singleton.1 hx ▸ ha

/-- One more channel. -/
theorem Dev.Rung.ring (h : d.Rung e c chs) (enabled : d.get F.DMA_CTL_DISABLE c = 0) (ch : Nat) : d.Rung (e.dmaRing c ch) c (chs ++ [ch]) := by
  have ctl : e.get F.DMA_CTL_DISABLE c = 0 := (h.get (by decide) (Fld.apart_of_offset c rfl rfl (by decide))).trans enabled
  have err : e.get F.DMA_RING_ERR_CH c = d.get F.DMA_RING_ERR_CH c := h.get (by decide) (Fld.apart_of_offset c rfl rfl (by decide))
  have active : e.dmaActive c = d.dmaActive c := h.get (by decide) (Fld.apart_beside c 0 rfl (by decide))
  obtain ⟨rest, kept, pending, noted⟩ := h
  unfold Dev.dmaRing
  simp only [Dev.flag, ctl, err, active, ne_eq, not_true, decide_false, Bool.false_or]
  split
  case isTrue failed =>
    refine ⟨rest, kept, fun k hk => ?_, ?_⟩
    · rw [pending k hk]
      by_cases hc : k = ch
      · simp [hc, failed]
      · simp [hc]
    · rw [noted]
      by_cases hc : d.dmaActive c = ch
      · simp [hc, failed]
      · simp [hc]
  case isFalse sound =>
    split
    case isTrue serves =>
      refine ⟨by rw [rest]; rfl, kept.updDma c _, fun k hk => ?_, ?_⟩
      · rw [Dev.get_updDma, pending k hk]
        by_cases hc : k = ch
        · simp [hc, serves]
        · simp [hc]
      · rw [Dev.dma_updDma]
        simp [serves, sound]
    case isFalse other =>
      refine ⟨by rw [rest]; rfl, kept.put _ c 0 _ (by decide) List.mem_cons_self, fun k hk => ?_, ?_⟩
      · rw [Dev.get_put_same _ _ _ _ _ (by decide)]
        refine (bitOf_mod _ hk).trans ?_
        by_cases hc : k = ch
        · subst hc
          rw [bitOf_setBit]
          simp [other, sound]
        · rw [bitOf_setBit_other _ _ hc, pending k hk]
          simp [hc]
      · rw [Dev.core_put, noted]
        simp [other]

theorem Dev.Rung.each (enabled : d.get F.DMA_CTL_DISABLE c = 0) (chs : List Nat) : d.Rung (d.each chs fun d ch => d.dmaRing c ch) c chs := by
  induction chs using List.reverseRecOn with
  | nil => exact .none d c
  | append_singleton chs ch ih =>
    rw [Dev.each, List.foldl_append]
    exact ih.ring enabled ch

theorem Dev.dmaRing_disabled {d : Dev} {c : Nat} (h : d.get F.DMA_CTL_DISABLE c ≠ 0) (ch : Nat) : d.dmaRing c ch = d := if_pos (by simp [Dev.flag, h])

/-- The channels that a doorbell rings. -/
def channelsOf (mask : Nat) : List Nat := (List.range 16).filter fun ch => bitOf mask ch

theorem mem_channelsOf (mask : Nat) {ch : Nat} (h : ch < 16) : decide (ch ∈ channelsOf mask) = bitOf mask ch := by simp [channelsOf, h]

theorem exec_dmaDoorbell (s : State) (hc : c < 272) (mask : Nat) :
    exec (.dmaDoorbell c mask) s = .next (s.withDev (s.dev.each (channelsOf mask) fun d ch => d.dmaRing c ch)) := s.runOn_next _ (decide_eq_true hc)
end

/-! ## The engine takes a channel (R214, R216) -/

/-- The engine serves a channel. -/
def Dev.dmaChosen (d : Dev) (c ch : Nat) : Dev :=
  ((d.put F.DMA_STATUS_PENDING c 0 (setBit (d.get F.DMA_STATUS_PENDING c) ch false)).put F.DMA_STATUS_ACTIVE c 0 ch).updDma c
    fun m => { m with ptr := (ch + 1) % 16 }

/-- The engine reads a descriptor. -/
def Dma.fetching (m : Dma) : Dma := { m with reading := true, rung := false, job := none, backs := 0, backBad := false }

section
variable (d : Dev) (c : Nat) {ch : Nat}

theorem Dev.dmaChosen_keeps : d.KeepsStores (d.dmaChosen c ch) (dmaShownFields c) :=
  (((Dev.KeepsStores.refl d (dmaShownFields c)).put F.DMA_STATUS_PENDING c 0 _ (by decide) (by simp [dmaShownFields])).put F.DMA_STATUS_ACTIVE c 0 _ (by decide)
    (by simp [dmaShownFields])).updDma c _

theorem Dev.dmaActive_dmaChosen (hch : ch < 16) : (d.dmaChosen c ch).dmaActive c = ch :=
  (Dev.get_put_same _ F.DMA_STATUS_ACTIVE c 0 ch (by decide)).trans (Nat.mod_eq_of_lt (Nat.lt_trans hch (by decide)))

theorem Dev.pending_dmaChosen (hch : ch < 16) : bitOf ((d.dmaChosen c ch).get F.DMA_STATUS_PENDING c) ch = false := by
  rw [Dev.dmaChosen, Dev.get_updDma, Dev.get_put_beside _ _ _ (by decide), Dev.get_put_same _ _ _ _ _ (by decide)]
  exact bitOf_setBit_mod _ false hch

theorem Dev.dma_dmaChosen : ((d.dmaChosen c ch).core c).dma = { (d.core c).dma with ptr := (ch + 1) % 16 } := by
  rw [Dev.dmaChosen, Dev.dma_updDma, Dev.core_put, Dev.core_put]

theorem Dev.dmaFetch_local (h : isLocalAddr (d.dmaDescAt c ch) = true) : d.dmaFetch c ch = d.updDma c Dma.fetching := if_pos h

theorem Dev.dmaFetch_global (h : isLocalAddr (d.dmaDescAt c ch) = false) : d.dmaFetch c ch =
    ((d.updDma c Dma.fetching).access (.dmaDesc c ch) (some c) (c / 68) (d.dmaDescAt c ch) (.read 32)).2 := if_neg (Bool.eq_false_iff.1 h)

theorem Dev.dmaSelect_chosen (idle : d.dmaActive c = 0x1F)
    (chosen : arbiter 16 (d.core c).dma.ptr (fun ch => bitOf (d.get F.DMA_STATUS_PENDING c) ch) = some ch) :
    d.dmaSelect c = ((d.dmaChosen c ch).dmaFetch c ch).showDma c := by
  simp only [Dev.dmaSelect, idle, chosen, ne_eq, not_true, if_false]
  rfl

theorem Dev.dmaSelect_none (h : d.dmaActive c ≠ 0x1F ∨ ∀ ch, ch < 16 → bitOf (d.get F.DMA_STATUS_PENDING c) ch = false) : d.dmaSelect c = d := by
  rcases h with busy | none
  · exact if_pos busy
  · simp only [Dev.dmaSelect, arbiter_none none, ite_self]

/-- The engine shows as busy while it serves a channel. -/
theorem Dev.busy_showDma (h : d.dmaActive c ≠ 0x1F) : (d.showDma c).get F.DMA_STATUS_BUSY c = 1 := by
  rw [Dev.showDma, Dev.get_put_same _ _ _ _ _ (by decide), decide_eq_true h]
  rfl
end

section
variable (s : State) {c : Nat} (hc : c < 272)
include hc

theorem exec_dmaChannelSelect (hg : s.dev.clockGated c = false) : exec (.dmaChannelSelect c) s = .next (s.withDev (s.dev.dmaSelect c)) :=
  s.runCore_next _ hc rfl hg

theorem exec_dmaDescRead (hg : s.dev.clockGated c = false) (err : Nat) : exec (.dmaDescRead c err) s = .next (s.withDev (s.dev.dmaDescRead c err).settle) :=
  s.runCore_next _ hc rfl hg

theorem exec_dmaDisable : exec (.dmaDisable c) s = .next (s.withDev (s.dev.dmaDisable c)) := s.runOn_next _ (decide_eq_true hc)
end

/-- An idle engine takes the channel that arbitration gives, whose descriptor lies in the core's own memory. -/
theorem dmaChannelSelect_local {s : State} {c ch : Nat} (hc : c < 272) (hg : s.dev.clockGated c = false) (idle : s.dev.dmaActive c = 0x1F)
    (chosen : arbiter 16 (s.dev.core c).dma.ptr (fun ch => bitOf (s.dev.get F.DMA_STATUS_PENDING c) ch) = some ch)
    (here : isLocalAddr (s.dev.dmaDescAt c ch) = true) :
    ∃ u, exec (.dmaChannelSelect c) s = .next u ∧ u.pending = s.pending ∧ u.dev.dmaActive c = ch ∧ bitOf (u.dev.get F.DMA_STATUS_PENDING c) ch = false ∧
      u.dev.get F.DMA_STATUS_BUSY c = 1 ∧ (u.dev.core c).dma.reading = true ∧ (u.dev.core c).dma.ptr = (ch + 1) % 16 ∧ s.dev.sameBytes u.dev ∧
      s.dev.onlyFields u.dev (dmaShownFields c) := by
  have hch : ch < 16 := arbiter_lt (by decide) chosen
  let e := (s.dev.dmaChosen c ch).updDma c Dma.fetching
  have taken : s.dev.dmaSelect c = e.showDma c := by
    rw [s.dev.dmaSelect_chosen c idle chosen, Dev.dmaFetch_local _ _ (by rwa [Dev.dmaDescAt_shown (s.dev.dmaChosen_keeps c).regs])]
  have active : e.dmaActive c = ch := s.dev.dmaActive_dmaChosen c hch
  have kept : s.dev.KeepsStores (e.showDma c) (dmaShownFields c) :=
    ((s.dev.dmaChosen_keeps c).updDma c _).put F.DMA_STATUS_BUSY c 0 _ (by decide) (by simp [dmaShownFields])
  have engine : ((e.showDma c).core c).dma = Dma.fetching { (s.dev.core c).dma with ptr := (ch + 1) % 16 } := by
    rw [Dev.core_showDma, Dev.dma_updDma, Dev.dma_dmaChosen]
  refine ⟨s.withDev (e.showDma c), by rw [exec_dmaChannelSelect s hc hg, taken], rfl, ?_, ?_, ?_, ?_, ?_, kept.byteAt, kept.regs⟩
  · exact (e.get_put_beside c _ (by decide)).trans active
  · rw [Dev.showDma, Dev.get_put_beside _ _ _ (by decide)]
    exact s.dev.pending_dmaChosen c hch
  · exact e.busy_showDma c (by omega)
  · rw [engine, Dma.fetching]
  · rw [engine, Dma.fetching]

/-! ## The descriptor at HEAD, in the core's own memory (R214, R216, R221, R222) -/

/-- The engine reads the descriptor of a channel whose ring lies in the core's own memory. -/
structure Dev.DmaReads (d : Dev) (c : Nat) : Prop where
  reading : (d.core c).dma.reading = true
  serving : d.dmaActive c ≠ 0x1F
  here : isLocalAddr (d.dmaDescAt c (d.dmaActive c)) = true

/-- What the check of the store finds where the descriptor lies. -/
abbrev Dev.dmaDescError (d : Dev) (c err : Nat) : Bool × Dev := d.readError c (d.dmaDescAt c (d.dmaActive c)) 32 err

/-- The words of the descriptor at HEAD, read from the core's own memory. -/
abbrev Dev.dmaDescWords (d : Dev) (c : Nat) (e : Dev) : List Nat :=
  (List.range 4).map fun i => leAt (e.localRead c (d.dmaDescAt c (d.dmaActive c)) 32) (8 * i) 8

/-- A job begins. -/
abbrev Dev.dmaBegins (d : Dev) (c : Nat) (j : DmaJob) : Dev := d.updDma c fun m => { m with reading := false, job := some j }

section
variable {d : Dev} {c err : Nat} (h : d.DmaReads c)
include h

theorem Dev.dmaDescRead_lost (lost : d.localOk c (d.dmaDescAt c (d.dmaActive c)) 32 = false ∨ (d.dmaDescError c err).1 = true) :
    d.dmaDescRead c err = (d.dmaDescError c err).2.dmaRingError c (d.dmaActive c) := by
  obtain ⟨reading, serving, here⟩ := h
  have unread : ¬ (d.localOk c (d.dmaDescAt c (d.dmaActive c)) 32 && !(d.dmaDescError c err).1) = true := by rcases lost with h | h <;> simp [h]
  simp only [Dev.dmaDescRead, reading, serving, here, unread, Bool.not_true, Bool.false_or, decide_false, Bool.false_eq_true, if_true, if_false]

theorem Dev.dmaDescRead_read (ok : d.localOk c (d.dmaDescAt c (d.dmaActive c)) 32 = true) (sound : (d.dmaDescError c err).1 = false) :
    d.dmaDescRead c err =
      let e := (d.dmaDescError c err).2
      let j : DmaJob := { words := d.dmaDescWords c e }
      if !bitOf (wordOf j.words 0) 63 then (if (e.core c).dma.rung then e.dmaFetch c (d.dmaActive c) else e.dmaFree c)
      else if (e.dmaBegins c j).dmaCheck c j ≠ 0 then (e.dmaBegins c j).dmaComplete c (d.dmaActive c) j ((e.dmaBegins c j).dmaCheck c j)
        (if (e.dmaBegins c j).dmaCheck c j = 0x02 then (e.dmaBegins c j).dmaOutside c j else 0)
      else e.dmaBegins c j := by
  obtain ⟨reading, serving, here⟩ := h
  simp only [Dev.dmaDescRead, reading, serving, here, ok, sound, Bool.not_true, Bool.not_false, Bool.and_self, Bool.false_or, decide_false, Bool.false_eq_true,
    if_true, if_false]
end

/-! ## A write of a ring's registers (R212) -/

/-- HEAD of a channel and its error bit are cleared. -/
def Dev.dmaRingReset (d : Dev) (c ch : Nat) : Dev :=
  (d.put F.DMA_RING_HEAD_HEAD c ch 0).put F.DMA_RING_ERR_CH c 0 (setBit (d.get F.DMA_RING_ERR_CH c) ch false)

section
variable (d : Dev) (c : Nat) {ch : Nat}

theorem Dev.onlyFields_dmaRingReset : d.onlyFields (d.dmaRingReset c ch) [(F.DMA_RING_HEAD_HEAD, c, ch), (F.DMA_RING_ERR_CH, c, 0)] :=
  Dev.onlyFields_trans (d.onlyFields_put F.DMA_RING_HEAD_HEAD c ch 0 (by decide)) (Dev.onlyFields_put _ F.DMA_RING_ERR_CH c 0 _ (by decide))

theorem Dev.head_dmaRingReset (hch : ch < 16) : (d.dmaRingReset c ch).get F.DMA_RING_HEAD_HEAD c ch = 0 := by
  rw [Dev.dmaRingReset, Dev.get_put_apart _ _ _ (by decide) (by decide) (Fld.apart_of_offset c rfl rfl (show 0x810C + ch * 0x10 ≠ 0x8018 + 0 * 0 by omega)),
    Dev.get_put_same _ _ _ _ _ (by decide), Nat.zero_mod]

theorem Dev.err_dmaRingReset (hch : ch < 16) : bitOf ((d.dmaRingReset c ch).get F.DMA_RING_ERR_CH c) ch = false := by
  rw [Dev.dmaRingReset, Dev.get_put_same _ _ _ _ _ (by decide)]
  exact bitOf_setBit_mod _ false hch

/-- A register of the ring at another offset stands. -/
theorem Dev.get_dmaRingReset {g : Fld} (hg : g.lo ≤ g.hi) (hs : g.reg.info.scope = .core)
    (hhead : g.reg.info.base + ch * g.reg.info.stride ≠ 0x810C + ch * 0x10) (herr : g.reg.info.base + ch * g.reg.info.stride ≠ 0x8018) :
    (d.dmaRingReset c ch).get g c ch = d.get g c ch := by
  refine d.onlyFields_dmaRingReset c g c ch hg fun x hx => ?_
  rcases List.mem_cons.1 hx with rfl | hx
  · exact Fld.apart_of_offset c hs rfl hhead
  · rw [List.mem_singleton.1 hx]
    exact Fld.apart_of_offset c hs rfl herr
end

theorem log2Size_lt (v : Nat) : log2Size v < 2 ^ 4 := by
  unfold log2Size
  split <;> omega

section
variable (s : State) {c ch : Nat} (hc : c < 272) (hch : ch < 16) (ctl : Bool) (v : Nat)
include hc hch

theorem exec_dmaRingWrite_held (h : bitOf (s.dev.get F.DMA_STATUS_PENDING c) ch = true ∨ s.dev.dmaActive c = ch) : exec (.dmaRingWrite c ch ctl v) s = .next s := by
  refine (s.runOn_next _ (by simp [hc, hch])).trans ?_
  rw [if_pos (by simpa only [Bool.or_eq_true, decide_eq_true_eq] using h)]

theorem exec_dmaRingWrite_idle (still : bitOf (s.dev.get F.DMA_STATUS_PENDING c) ch = false) (idle : s.dev.dmaActive c ≠ ch) :
    exec (.dmaRingWrite c ch ctl v) s = .next (s.withDev (Dev.dmaRingReset (if ctl then s.dev.put F.DMA_RING_CTL_LOG2SIZE c ch (log2Size v)
      else s.dev.put F.DMA_RING_BASE_V c ch v) c ch)) := by
  refine (s.runOn_next _ (by simp [hc, hch])).trans ?_
  rw [if_neg (by simp [still, idle])]
  rfl

/-- A ring of a channel that waits for nothing begins anew. -/
theorem dmaRingWrite_resets (still : bitOf (s.dev.get F.DMA_STATUS_PENDING c) ch = false) (idle : s.dev.dmaActive c ≠ ch) :
    ∃ u, exec (.dmaRingWrite c ch ctl v) s = .next u ∧ u.pending = s.pending ∧ u.dev.get F.DMA_RING_HEAD_HEAD c ch = 0 ∧
      bitOf (u.dev.get F.DMA_RING_ERR_CH c) ch = false ∧
      (if ctl then u.dev.get F.DMA_RING_CTL_LOG2SIZE c ch = log2Size v
        else u.dev.get F.DMA_RING_BASE_V c ch = v % 2 ^ (F.DMA_RING_BASE_V.hi - F.DMA_RING_BASE_V.lo + 1)) ∧
      u.dev = { s.dev with regs := u.dev.regs } ∧ s.dev.onlyFields u.dev
        [(if ctl then F.DMA_RING_CTL_LOG2SIZE else F.DMA_RING_BASE_V, c, ch), (F.DMA_RING_HEAD_HEAD, c, ch), (F.DMA_RING_ERR_CH, c, 0)] := by
  refine ⟨_, exec_dmaRingWrite_idle s hc hch ctl v still idle, rfl, Dev.head_dmaRingReset _ c hch, Dev.err_dmaRingReset _ c hch, ?_⟩
  cases ctl with
  | true =>
    refine ⟨?_, rfl, Dev.onlyFields_trans (s.dev.onlyFields_put F.DMA_RING_CTL_LOG2SIZE c ch (log2Size v) (by decide)) (Dev.onlyFields_dmaRingReset _ c)⟩
    rw [if_pos rfl, if_pos rfl, Dev.get_dmaRingReset _ c (by decide) rfl (show 0x8108 + ch * 0x10 ≠ 0x810C + ch * 0x10 by omega)
      (show 0x8108 + ch * 0x10 ≠ 0x8018 by omega), Dev.get_put_same _ _ _ _ _ (by decide)]
    exact Nat.mod_eq_of_lt (log2Size_lt v)
  | false =>
    refine ⟨?_, rfl, Dev.onlyFields_trans (s.dev.onlyFields_put F.DMA_RING_BASE_V c ch v (by decide)) (Dev.onlyFields_dmaRingReset _ c)⟩
    rw [if_neg (by decide), if_neg (by decide), Dev.get_dmaRingReset _ c (by decide) rfl (show 0x8100 + ch * 0x10 ≠ 0x810C + ch * 0x10 by omega)
      (show 0x8100 + ch * 0x10 ≠ 0x8018 by omega), Dev.get_put_same _ _ _ _ _ (by decide)]
end

/-! ## DISABLE (R223) -/

/-- The engine is freed, its open writes are forgotten, and no channel is pending. -/
def Dev.dmaDropped (d : Dev) (c : Nat) : Dev :=
  ((d.updDma c fun m => { m with unacked := [], failed := [], wbase := m.wseq }).dmaFree c).put F.DMA_STATUS_PENDING c 0 0

/-- The counters and every HEAD become free values. -/
def Dev.dmaUndefined (d : Dev) (c : Nat) : Dev :=
  let e := (d.fresh 64).2
  (((e.fresh 32).2.put F.DMA_BYTES_V c 0 (d.fresh 64).1).put F.DMA_ERR_CNT_V c 0 (e.fresh 32).1).each (List.range 16) fun d ch =>
    (d.fresh 12).2.put F.DMA_RING_HEAD_HEAD c ch (d.fresh 12).1

/-- The engine is disabled: it serves no channel, none is pending, and no write of it is open. -/
structure Dev.DmaOff (d : Dev) (c : Nat) : Prop where
  disabled : d.get F.DMA_CTL_DISABLE c = 1
  still : d.get F.DMA_STATUS_PENDING c = 0
  idle : d.dmaActive c = 0x1F
  job : (d.core c).dma.job = none
  unacked : (d.core c).dma.unacked = []

namespace Dev.DmaOff
variable {d : Dev} {c : Nat}

theorem fresh (h : d.DmaOff c) (n : Nat) : (d.fresh n).2.DmaOff c := ⟨h.disabled, h.still, h.idle, h.job, h.unacked⟩

/-- A register above DMA_CTL and DMA_STATUS shows nothing of it. -/
theorem put (h : d.DmaOff c) {f : Fld} (i n : Nat) (hf : f.fits = true) (hs : f.reg.info.scope = .core) (hb : 0x8004 < f.reg.info.base + i * f.reg.info.stride) :
    (d.put f c i n).DmaOff c where
  disabled := (d.get_put_apart _ _ hf (by decide) (Fld.apart_of_offset c rfl hs (show 0x8000 + 0 * 0 ≠ _ by omega))).trans h.disabled
  still := (d.get_put_apart _ _ hf (by decide) (Fld.apart_of_offset c rfl hs (show 0x8004 + 0 * 0 ≠ _ by omega))).trans h.still
  idle := (d.get_put_apart _ _ hf (by decide) (Fld.apart_of_offset c rfl hs (show 0x8004 + 0 * 0 ≠ _ by omega))).trans h.idle
  job := h.job
  unacked := h.unacked

theorem of_dmaDropped (disabled : d.get F.DMA_CTL_DISABLE c = 1) : (d.dmaDropped c).DmaOff c := by
  have apart (f : Fld) (hr : f.reg = .dmaStatus) : F.DMA_CTL_DISABLE.apart c 0 (f, c, 0) :=
    Fld.apart_of_offset c rfl (by rw [hr]; rfl) (by rw [hr]; decide)
  refine ⟨?_, Dev.get_put_same _ _ _ _ _ (by decide), ?_, ?_, ?_⟩
  · rw [Dev.dmaDropped, Dev.get_put_apart _ _ _ (by decide) (by decide) (apart _ rfl), Dev.dmaFree, Dev.showDma,
      Dev.get_put_apart _ _ _ (by decide) (by decide) (apart _ rfl), Dev.get_put_apart _ _ _ (by decide) (by decide) (apart _ rfl), Dev.get_updDma,
      Dev.get_updDma, disabled]
  · rw [Dev.dmaActive, Dev.dmaDropped, Dev.get_put_beside _ _ _ (by decide), Dev.dmaFree, Dev.showDma, Dev.get_put_beside _ _ _ (by decide)]
    exact Dev.get_put_same _ _ _ _ _ (by decide)
  · rw [Dev.dmaDropped, Dev.core_put, Dev.dmaFree, Dev.core_showDma, Dev.core_put, Dev.dma_updDma]
  · rw [Dev.dmaDropped, Dev.core_put, Dev.dmaFree, Dev.core_showDma, Dev.core_put, Dev.dma_updDma, Dev.dma_updDma]

theorem undefine (h : d.DmaOff c) : (d.dmaUndefined c).DmaOff c :=
  Dev.each_inv (P := (Dev.DmaOff · c)) _ (fun _ ch h => (h.fresh 12).put (f := F.DMA_RING_HEAD_HEAD) ch _ (by decide) rfl
    (show 0x8004 < 0x810C + ch * 0x10 by omega)) _ ((((h.fresh 64).fresh 32).put 0 _ (by decide) rfl (by decide)).put 0 _ (by decide) rfl (by decide))

end Dev.DmaOff

theorem Dev.dmaDisable_eq (d : Dev) (c : Nat) : ∃ e : Dev, e.get F.DMA_CTL_DISABLE c = 1 ∧ d.dmaDisable c = (e.dmaDropped c).dmaUndefined c := by
  refine ⟨_, ?_, rfl⟩
  exact Dev.get_put_same _ F.DMA_CTL_DISABLE c 0 1 (by decide)

theorem Dev.dmaDisable_off (d : Dev) (c : Nat) : (d.dmaDisable c).DmaOff c := by
  obtain ⟨e, disabled, dropped⟩ := d.dmaDisable_eq c
  rw [dropped]
  exact (Dev.DmaOff.of_dmaDropped disabled).undefine

/-- Settles O44: a doorbell by induction on the channels rung (`Dev.Rung`), the choice and the descriptor by the branches of `Dev.dmaSelect` and
`Dev.dmaDescRead`, and DISABLE by what nothing after it changes (`Dev.DmaOff`). -/
theorem dmaChannels : Obligations.DmaChannels := by
  refine ⟨?rings, ?deaf, ?selects, ?rests, ?reads, fun s c ch ctl v hc hch => ⟨exec_dmaRingWrite_held s hc hch ctl v, dmaRingWrite_resets s hc hch ctl v⟩, ?drops⟩
  case rings =>
    intro s c mask hc enabled
    have rung := Dev.Rung.each enabled (channelsOf mask)
    refine ⟨_, exec_dmaDoorbell s hc mask, rfl, rung.rest, rung.kept.byteAt, rung.kept.regs, fun ch hch => ?_, fun serving => ?_⟩
    · rw [rung.pending ch hch, mem_channelsOf mask hch]
    · rw [rung.noted, mem_channelsOf mask serving]
  case deaf =>
    intro s c mask hc disabled
    rw [exec_dmaDoorbell s hc mask]
    exact congrArg (fun d => Host.Outcome.next (s.withDev d))
      (Dev.each_inv (P := fun e => e = s.dev) _ (fun e ch h => by rw [h, Dev.dmaRing_disabled disabled]) _ rfl)
  case selects =>
    intro s c ch hc hg idle chosen
    refine ⟨dmaChannelSelect_local hc hg idle chosen, fun away => ?_⟩
    have at_ := Dev.dmaDescAt_shown (s.dev.dmaChosen_keeps c (ch := ch)).regs ch
    rw [exec_dmaChannelSelect s hc hg, s.dev.dmaSelect_chosen c idle chosen, Dev.dmaFetch_global _ _ (by rw [at_, away]), at_]
    rfl
  case rests =>
    intro s c hc hg h
    rw [exec_dmaChannelSelect s hc hg, s.dev.dmaSelect_none c h]
  case reads =>
    intro s c err hc hg reading serving ch a r ws e here
    have reads : s.dev.DmaReads c := ⟨reading, serving, here⟩
    refine ⟨fun lost => ?_, fun ok sound free => ?_, fun ok sound own => ⟨fun good => ?_, fun bad => ?_, fun outside => ?_⟩⟩
    · rw [exec_dmaDescRead s hc hg, Dev.dmaDescRead_lost reads lost]
    · rw [exec_dmaDescRead s hc hg, Dev.dmaDescRead_read reads ok sound]
      exact congrArg (fun d => Host.Outcome.next (s.withDev (Dev.settle d))) (if_pos (by rw [free]; rfl))
    all_goals
      rw [exec_dmaDescRead s hc hg, Dev.dmaDescRead_read reads ok sound]
      refine congrArg (fun d => Host.Outcome.next (s.withDev (Dev.settle d))) ((if_neg (by rw [own]; decide)).trans ?_)
    · exact if_neg (not_not.2 good)
    · rw [bad]
      rfl
    · rw [outside]
      rfl
  case drops =>
    intro s c hc
    have off := s.dev.dmaDisable_off c
    exact ⟨_, exec_dmaDisable s hc, rfl, off.disabled, off.still, off.idle, off.job, off.unacked⟩

end Sys2Proof.Machine

namespace Sys2Proof.Machine

/-! ## COPY and DRAIN (R217 to R221) -/

/-- A stripe waits: for its answer to BUSY, after a refusal, or for its header to be accepted (R171, R220). -/
abbrev DmaJob.held (j : DmaJob) : Bool := j.kv && (j.kvWait.isSome || j.kvCode ≠ 0 || (j.next ≠ 0 && j.kvSent < 64))

/-- Bytes that the next read of a job asks for. -/
abbrev DmaJob.part (j : DmaJob) : Nat := if j.kv then j.kvChunk else min (j.len - j.next) (64 - (j.src + j.next) % 64)

/-- The whole lines of the next read: their address and length. -/
abbrev DmaJob.base (j : DmaJob) : Nat := (j.src + j.next) / 64 * 64
abbrev DmaJob.whole (j : DmaJob) : Nat := (j.src + j.next + j.part - j.base + 63) / 64 * 64

/-- The next read of a job has begun. -/
abbrev Dev.dmaReadsOn (d : Dev) (c n : Nat) : Dev := d.updJob c fun j => { j with next := j.next + n, reading := j.reading + 1 }

theorem DmaJob.opc_of_kv {j : DmaJob} (h : j.kv = true) : j.opc = 1 := of_decide_eq_true (Bool.and_eq_true_iff.1 h).1

section
variable {d : Dev} {c : Nat} {j : DmaJob} (job : (d.core c).dma.job = some j)
include job

theorem Dev.dmaCopyStep_rests (h : j.opc ≠ 1 ∨ j.len ≤ j.next ∨ j.held = true) (err werr : Nat) : d.dmaCopyStep c err werr = d := by
  simp only [Dev.dmaCopyStep, job]
  exact if_pos (by simpa only [Bool.or_eq_true, decide_eq_true_eq, or_assoc] using h)

/-- The next part is read where it lies. -/
theorem Dev.dmaCopyStep_reads (copy : j.opc = 1) (left : j.next < j.len) (go : j.held = false) (err werr : Nat) : d.dmaCopyStep c err werr =
    if isLocalAddr (j.src + j.next) then
      let r := (d.dmaReadsOn c j.part).readError c j.base j.whole err
      let b := r.2.localSpoilt c j.base j.whole j.touched
      b.2.dmaLanded c (d.dmaActive c) j.next j.part (if r.1 then 0x06 else 0) b.1 werr
    else ((d.dmaReadsOn c j.part).access (.dmaRead c (d.dmaActive c) j.next j.part) (some c) (c / 68) j.base (.read j.whole) false err).2 := by
  have moves : ¬ (j.opc ≠ 1 || j.len ≤ j.next || j.held) = true := by
    rw [go, decide_eq_false (not_not.2 copy), decide_eq_false (Nat.not_le.2 left)]
    decide
  simp only [Dev.dmaCopyStep, job]
  exact if_neg moves

theorem Dev.dmaCopyDone_copy (copy : j.opc = 1) (plain : j.kv = false) : d.dmaCopyDone c =
    if j.next = j.len ∧ j.reading = 0 then d.dmaComplete c (d.dmaActive c) j (j.err.getD (0, 0)).2 (j.err.getD (0, 0)).1 else d := by
  simp only [Dev.dmaCopyDone, job, copy, plain, ne_eq, not_true, Bool.false_eq_true, if_false, Bool.and_eq_true, decide_eq_true_eq]

theorem Dev.dmaCopyDone_stripe (stripe : j.kv = true) : d.dmaCopyDone c =
    if j.kvCode ≠ 0 then
      if j.kvCode < 0x100 then d.dmaComplete c (d.dmaActive c) j 0x0A j.kvCode
      else d.dmaComplete c (d.dmaActive c) j (j.kvCode - 0x100) (j.err.getD (0, 0)).1
    else if j.kvSent = j.len then d.dmaComplete c (d.dmaActive c) j 0 0 else d := by
  simp only [Dev.dmaCopyDone, job, DmaJob.opc_of_kv stripe, stripe, ne_eq, not_true, if_false, if_true]

theorem Dev.dmaDrain_waits (drain : j.opc = 2) : d.dmaDrain c = d.updJob c fun j => { j with draining := true } := by
  simp only [Dev.dmaDrain, job, drain, if_true]

theorem Dev.dmaDrained_drain (drain : j.opc = 2) : d.dmaDrained c =
    if j.draining = true ∧ mget 0 (d.core c).dma.unacked (d.dmaActive c) = 0 then
      let f := mget (0, 0, 0) (d.core c).dma.failed (d.dmaActive c)
      (d.updDma c fun m => { m with failed := mset (0, 0, 0) m.failed (d.dmaActive c) (0, 0, 0) }).dmaComplete c (d.dmaActive c) j f.2.2 f.2.1
    else d := by
  simp only [Dev.dmaDrained, job, drain, decide_true, Bool.true_and, Bool.and_eq_true, decide_eq_true_eq]
end

section
variable (s : State) {c : Nat} (hc : c < 272) (hg : s.dev.clockGated c = false)
include hc hg

theorem exec_copy (err werr : Nat) : exec (.copy c err werr) s = .next (s.withDev (s.dev.dmaCopyStep c err werr).settle) := s.runCore_next _ hc rfl hg

theorem exec_dmaCopyComplete : exec (.dmaCopyComplete c) s = .next (s.withDev (s.dev.dmaCopyDone c).settle) := s.runCore_next _ hc rfl hg

theorem exec_drain : exec (.drain c) s = .next (s.withDev (s.dev.dmaDrain c)) := s.runCore_next _ hc rfl hg

theorem exec_dmaDrainComplete : exec (.dmaDrainComplete c) s = .next (s.withDev (s.dev.dmaDrained c).settle) := s.runCore_next _ hc rfl hg
end

/-- Settles O45: each clause is one branch of its command on the job in hand. -/
theorem dmaMovesAndDrains : Obligations.DmaMovesAndDrains := by
  intro s c err werr j hc hg job ch hold a n base whole d
  refine ⟨fun copy left go here => ?_, fun copy left go away => ?_, fun rests => ?_, fun copy plain read gone => ?_, fun copy plain opened => ?_,
    fun stripe accepted => ?_, fun stripe refused receiver => ?_, fun drain => ?_, fun drain draining acked => ?_, fun drain waits => ?_⟩
  · rw [exec_copy s hc hg, Dev.dmaCopyStep_reads job copy left go, if_pos here]
  · rw [exec_copy s hc hg, Dev.dmaCopyStep_reads job copy left go, if_neg (Bool.eq_false_iff.1 away)]
  · rw [exec_copy s hc hg, Dev.dmaCopyStep_rests job rests]
  · rw [exec_dmaCopyComplete s hc hg, Dev.dmaCopyDone_copy job copy plain, if_pos ⟨read, gone⟩]
  · rw [exec_dmaCopyComplete s hc hg, Dev.dmaCopyDone_copy job copy plain, if_neg (by tauto)]
  · rw [exec_dmaCopyComplete s hc hg, Dev.dmaCopyDone_stripe job stripe, if_neg (not_not.2 accepted)]
  · rw [exec_dmaCopyComplete s hc hg, Dev.dmaCopyDone_stripe job stripe, if_pos refused, if_pos receiver]
  · rw [exec_drain s hc hg, Dev.dmaDrain_waits job drain]
  · rw [exec_dmaDrainComplete s hc hg, Dev.dmaDrained_drain job drain, if_pos ⟨draining, acked⟩]
  · refine (exec_dmaDrainComplete s hc hg).trans ?_
    rw [Dev.dmaDrained_drain job drain, if_neg (fun done => waits.elim (fun idle => by simp [idle] at done) fun unacked => unacked done.2)]

end Sys2Proof.Machine

/-! # The shared pool (R242 to R253) -/

namespace Sys2Proof.Machine

/-! ## A command that cannot act (R249) -/

section
variable {d : Dev} {k : PoolCmd}

theorem Dev.poolAct_beyond (beyond : d.granules / 32 ≤ k.dp) : d.poolAct k = ({ k with st := 5, code := 1 }, d) := if_pos beyond

theorem Dev.poolAct_alloc (within : k.dp < d.granules / 32) (alloc : k.op = 0) (h : (d.page k.dp).state ≠ 0 ∨ d.get F.POOL_CLIENT_INFO_VALID 0 k.client = 0) :
    d.poolAct k = ({ k with st := 5, code := if (d.page k.dp).state ≠ 0 then 1 else 2 }, d) := by
  refine (if_neg (Nat.not_le.2 within)).trans ((if_pos alloc).trans ?_)
  by_cases present : (d.page k.dp).state ≠ 0
  · rw [if_pos present]
    exact if_pos present
  · have invalid : (!d.flag F.POOL_CLIENT_INFO_VALID 0 k.client) = true := by simpa [Dev.flag] using h.resolve_left present
    rw [if_neg present]
    exact (if_neg present).trans (if_pos invalid)

theorem Dev.poolAct_absent (within : k.dp < d.granules / 32) (other : k.op ≠ 0) (absent : (d.page k.dp).state = 0) :
    d.poolAct k = ({ k with st := 5, code := 1 }, d) :=
  (if_neg (Nat.not_le.2 within)).trans ((if_neg other).trans (if_pos absent))
end

/-- Settles O49: the three tests of R249 stand first in `Dev.poolAct`, in the order of the rule. -/
theorem poolBadPageAndBadClient : Obligations.PoolBadPageAndBadClient := by
  refine fun d k _ => ⟨fun bad => ?_, fun within alloc absent invalid => ?_⟩
  · by_cases beyond : d.granules / 32 ≤ k.dp
    · exact Dev.poolAct_beyond beyond
    · have within := Nat.not_le.1 beyond
      obtain ⟨alloc, present⟩ | ⟨other, absent⟩ := bad.resolve_left beyond
      · rw [Dev.poolAct_alloc within alloc (.inl present), if_pos present]
      · exact Dev.poolAct_absent within other absent
  · rw [Dev.poolAct_alloc within alloc (.inr invalid), if_neg (not_not.2 absent)]

/-! ## The pool's registers -/

/-- Fields of the pool's registers lie apart where the registers stand at different offsets of their block. -/
theorem Fld.apart_of_poolOffset {g x : Fld} {u v i j : Nat} (hg : g.reg.info.scope = .quarterD) (hx : x.reg.info.scope = .quarterD)
    (h : g.reg.info.base + i * g.reg.info.stride ≠ x.reg.info.base + j * x.reg.info.stride) : g.apart u i (x, v, j) := by
  refine .inl ?_
  simp only [Reg.addr, hg, hx]
  omega

/-- A field of the pool's block above another register of the block. -/
def Fld.abovePool (g f : Fld) : Bool :=
  f.fits && g.fits && decide (f.reg.info.scope = .quarterD) && decide (f.reg.info.stride = 0) && decide (g.reg.info.scope = .quarterD) &&
    decide (f.reg.info.base < g.reg.info.base)

theorem Dev.get_putD_abovePool (d : Dev) {f g : Fld} (h : g.abovePool f = true) (n i : Nat) : (d.putD f n).get g 0 i = d.get g 0 i := by
  simp only [Fld.abovePool, Bool.and_eq_true, decide_eq_true_eq] at h
  obtain ⟨⟨⟨⟨⟨hf, hg⟩, scope⟩, stride⟩, gscope⟩, above⟩ := h
  refine d.get_put_apart f g hf ?_ (Fld.apart_of_poolOffset gscope scope (by rw [stride]; omega))
  simp only [Fld.fits, Bool.and_eq_true, decide_eq_true_eq] at hg
  exact hg.1

/-- ENABLE is no frame register (R242). -/
theorem Dev.readSegs_putD_enable (d : Dev) (n : Nat) : (d.putD F.POOL_CTL_ENABLE n).readSegs = d.readSegs := by
  simp (disch := decide) only [Dev.readSegs, Dev.flag, Dev.get_putD_abovePool]

/-! ## What the status registers show (Table 09-11) -/

/-- A field that is neither ENABLE of POOL_CTL nor ENABLED of POOL_STATUS. -/
def Fld.offPoolRun (f : Fld) : Bool :=
  f.fits && ((decide (f.reg = .poolStatus) && decide (0 < f.lo)) || (decide (f.reg.info.scope = .quarterD) && decide (0x3000004 < f.reg.info.base)))

/-- From d to e the pool and the memories stand, ENABLE stands, and ENABLED shows whether the engine runs. -/
structure Dev.ShowsRun (d e : Dev) (run : Bool) : Prop where
  mem : e.mem = d.mem
  cores : e.cores = d.cores
  pool : e.pool = d.pool
  enable : e.get F.POOL_CTL_ENABLE = d.get F.POOL_CTL_ENABLE
  enabled : e.get F.POOL_STATUS_ENABLED = b2n run

namespace Dev.ShowsRun
variable {d e : Dev} {run : Bool}

theorem put (h : d.ShowsRun e run) {f : Fld} (hf : f.offPoolRun = true) (i n : Nat) : d.ShowsRun (e.put f 0 i n) run := by
  simp only [Fld.offPoolRun, Bool.and_eq_true, Bool.or_eq_true, decide_eq_true_eq] at hf
  obtain ⟨fits, place⟩ := hf
  have apart : F.POOL_CTL_ENABLE.apart 0 0 (f, 0, i) ∧ F.POOL_STATUS_ENABLED.apart 0 0 (f, 0, i) := by
    obtain ⟨status, bit⟩ | ⟨scope, above⟩ := place
    · exact ⟨.inl (by rw [status]; exact (by omega : (0x7000000 : Nat) ≠ 0x7000004 + i * 0)), .inr ⟨status.symm, .inr bit⟩⟩
    · exact ⟨Fld.apart_of_poolOffset rfl scope (show 0x3000000 + 0 * 0 ≠ _ by omega), Fld.apart_of_poolOffset rfl scope (show 0x3000004 + 0 * 0 ≠ _ by omega)⟩
  exact ⟨h.mem, h.cores, h.pool, (e.get_put_apart _ _ fits (by decide) apart.1).trans h.enable, (e.get_put_apart _ _ fits (by decide) apart.2).trans h.enabled⟩

theorem putD (h : d.ShowsRun e run) {f : Fld} (hf : f.offPoolRun = true) (n : Nat) : d.ShowsRun (e.putD f n) run := h.put hf 0 n

theorem ite (c : Prop) [Decidable c] {f : Dev} (h : d.ShowsRun e run) (h' : d.ShowsRun f run) : d.ShowsRun (if c then e else f) run := by
  split
  · exact h
  · exact h'

/-- The counts of free frames follow. -/
theorem showFree (h : d.ShowsRun e run) : d.ShowsRun (if e.pool.known then
    ((e.putD F.POOL_FREE_T3 (e.freeFrames 3).length).putD F.POOL_FREE_T4 (e.freeFrames 4).length).putD F.POOL_FREE_T5 (e.freeFrames 5).length else e) run :=
  .ite _ (((h.putD (by decide) _).putD (by decide) _).putD (by decide) _) h

/-- STUCK clears once no tier is stuck (R247). -/
theorem showUnstuck (h : d.ShowsRun e run) :
    d.ShowsRun (if e.flag F.POOL_STATUS_STUCK && !e.poolStuck 3 && !e.poolStuck 4 then e.putD F.POOL_STATUS_STUCK 0 else e) run :=
  .ite _ (h.putD (by decide) _) h

/-- Each client's T3 count follows. -/
theorem showClients (h : d.ShowsRun e run) : d.ShowsRun (e.each (List.range 64) fun d k =>
    if d.get F.POOL_CLIENT_INFO_T3 0 k = d.t3Count k then d else d.put F.POOL_CLIENT_INFO_T3 0 k (d.t3Count k)) run :=
  Dev.each_inv (P := fun e => d.ShowsRun e run) _ (fun _ k h => .ite _ h (h.put (by decide) k _)) _ h

/-- The counts of the pool and whether it runs, as POOL_STATUS shows them first. -/
theorem showRun (d : Dev) (moves queued : Nat) (run : Bool) :
    d.ShowsRun (((d.putD F.POOL_STATUS_MOVES moves).putD F.POOL_STATUS_QDEPTH queued).putD F.POOL_STATUS_ENABLED (b2n run)) run where
  mem := rfl
  cores := rfl
  pool := rfl
  enable := by rw [Dev.get_putD_addr _ _ _ _ _ _ (by decide), Dev.get_putD_addr _ _ _ _ _ _ (by decide), Dev.get_putD_addr _ _ _ _ _ _ (by decide)]
  enabled := by
    rw [Dev.get_putD_same _ _ _ (by decide)]
    cases run <;> rfl

end Dev.ShowsRun

/-- ENABLED shows whether the engine is enabled or a move is in progress (R253). -/
theorem Dev.showPool_showsRun (d : Dev) : d.ShowsRun d.showPool (d.flag F.POOL_CTL_ENABLE || !d.pool.moves.isEmpty) := by
  have shown := (Dev.ShowsRun.showRun d d.pool.moves.length d.pool.queue.length (d.flag F.POOL_CTL_ENABLE || !d.pool.moves.isEmpty)).putD
    (f := F.POOL_STATUS_BUSY) (by decide) (b2n (!d.pool.moves.isEmpty || !d.pool.queue.isEmpty || !d.pool.later.isEmpty))
  exact shown.showFree.showUnstuck.showClients

/-! ## The engine goes on -/

section
variable {d : Dev}

theorem Dev.startLater_none (later : d.pool.later = []) : ∀ n, Dev.startLater n d = d
  | 0 => rfl
  | _ + 1 => by simp only [Dev.startLater, later]

theorem Dev.withQueue_same {q : List PoolCmd} (queue : d.pool.queue = q) : { d with pool := { d.pool with queue := q } } = d := by
  subst queue
  rfl

theorem Dev.poolRun_none (queue : d.pool.queue = []) : d.poolRun = d := by
  rw [Dev.poolRun, queue]
  exact Dev.withQueue_same queue

theorem Dev.poolRetire_none (queue : d.pool.queue = []) : ∀ n, Dev.poolRetire n d = d
  | 0 => rfl
  | _ + 1 => by simp only [Dev.poolRetire, queue]

theorem Dev.poolPump_unknown (unknown : d.pool.known = false) : d.poolPump = d := by simp only [Dev.poolPump, unknown, Bool.not_false, if_true]

/-- A stopped engine with nothing queued and no move waiting only shows its state. -/
theorem Dev.poolPump_stopped (known : d.pool.known = true) (stopped : d.flag F.POOL_CTL_ENABLE = false) (queue : d.pool.queue = []) (later : d.pool.later = []) :
    d.poolPump = d.showPool := by
  simp only [Dev.poolPump, known, Bool.not_true, Bool.false_eq_true, if_false, Dev.startLater_none later, Dev.poolRun_none queue, stopped,
    Dev.poolRetire_none queue]
end

/-! ## Commands of software (R248, R253) -/

/-- The four commands of POOL_CMD with the OP of each (Table 09-12). -/
def poolCommands (dp client : Nat) : List (Instr × Nat) := [(.alloc dp client, 0), (.free dp, 1), (.promote dp, 2), (.evict dp, 3)]

theorem exec_poolCommand (s : State) {i : Instr} {op client dp : Nat} (h : (i, op) ∈ poolCommands dp client) (plain : op ≠ 0 → client = 0) (hdp : dp < 524288)
    (hclient : client < 64) : exec i s = .next (s.withDev (s.dev.poolCommand op client dp).settle) := by
  have page : decide (dp < nPages) = true := decide_eq_true hdp
  simp only [poolCommands, List.mem_cons, Prod.mk.injEq, List.not_mem_nil, or_false] at h
  obtain ⟨rfl, rfl⟩ | ⟨rfl, rfl⟩ | ⟨rfl, rfl⟩ | ⟨rfl, rfl⟩ := h
  · exact s.runOn_next _ (by rw [page, decide_eq_true hclient]; rfl)
  all_goals
    rw [plain (by decide)]
    exact s.runOn_next _ page

section
variable {d : Dev} (op client dp : Nat)

theorem Dev.poolCommand_queued (enabled : d.flag F.POOL_CTL_ENABLE = true) (room : d.pool.queue.length < 32) : d.poolCommand op client dp =
    ({ d with pool := { d.pool with queue := d.pool.queue ++ [{ op := op, client := client, dp := dp }] } } : Dev).poolPump :=
  if_neg (by simp [enabled, room])

theorem Dev.poolCommand_refused (h : d.flag F.POOL_CTL_ENABLE = false ∨ 32 ≤ d.pool.queue.length) : d.poolCommand op client dp = d.putD F.POOL_STATUS_REFUSED 1 :=
  if_pos (by simpa using h)
end

section
variable (s : State)

theorem exec_poolEnable_first (unknown : s.dev.pool.known = false) : exec .poolEnable s = .next (s.withDev
    ({ s.dev.putD F.POOL_CTL_ENABLE 1 with pool := { s.dev.pool with known := true, segs := s.dev.readSegs, used := [] } } : Dev).clearBitmap.poolPump) := by
  change execPoolEnable s = _
  rw [execPoolEnable, State.run_eq]
  simp only [Dev.putD_pool, unknown, Bool.false_eq_true, if_false, Dev.readSegs_putD_enable]

theorem exec_poolEnable_again (known : s.dev.pool.known = true) : exec .poolEnable s = .next (s.withDev (s.dev.putD F.POOL_CTL_ENABLE 1).poolPump) := by
  change execPoolEnable s = _
  rw [execPoolEnable, State.run_eq]
  simp only [Dev.putD_pool, known, if_true]

/-- The device as POOL_DISABLE leaves it before the engine goes on: commands that had not begun have ended DISABLED. -/
def Dev.poolStopped (d : Dev) : Dev :=
  { d.putD F.POOL_CTL_ENABLE 0 with pool := { d.pool with queue := d.pool.queue.map (fun k => { k with st := 5, code := 7 }) } }

theorem Dev.enable_poolStopped (d : Dev) : d.poolStopped.get F.POOL_CTL_ENABLE = 0 := Dev.get_putD_same d F.POOL_CTL_ENABLE 0 (by decide)

theorem Dev.flag_poolStopped (d : Dev) : d.poolStopped.flag F.POOL_CTL_ENABLE = false := by rw [Dev.flag, d.enable_poolStopped]; rfl

/-- Of the commands that wait none has a move of its own, and no move waits. -/
theorem Dev.poolStopped_eq {d : Dev} (later : d.pool.later = []) (waiting : ∀ k ∈ d.pool.queue, k.st = 0 ∨ k.st = 2 ∨ k.st = 3) :
    ({ d.putD F.POOL_CTL_ENABLE 0 with pool := { d.pool with later := [], queue := d.pool.queue.map fun k =>
      if k.st = 5 || k.st = 4 || (k.st = 1 && d.pool.moves.any (fun m => m.dp = k.dp)) then k else { k with st := 5, code := 7 } } } : Dev) = d.poolStopped := by
  rw [Dev.poolStopped, ← later, List.map_congr_left fun k hk => if_neg ?_]
  obtain h | h | h := waiting k hk <;> simp [h]

theorem exec_poolDisable (later : s.dev.pool.later = []) (waiting : ∀ k ∈ s.dev.pool.queue, k.st = 0 ∨ k.st = 2 ∨ k.st = 3) :
    exec .poolDisable s = .next (s.withDev s.dev.poolStopped.poolPump) := by
  have unwaited : (s.dev.putD F.POOL_CTL_ENABLE 0).pool.later = [] := later
  change execPoolDisable s = _
  rw [execPoolDisable, State.run_eq, ← Dev.poolStopped_eq later waiting]
  simp only [unwaited, Dev.each, List.foldl_nil]
  rfl

/-- A stopped engine that has nothing to do shows it, and nothing else changes. -/
theorem Dev.poolStopped_pump {d : Dev} (known : d.pool.known = true) (queue : d.pool.queue = []) (later : d.pool.later = []) :
    d.poolStopped.poolPump = d.poolStopped.showPool :=
  Dev.poolPump_stopped known d.flag_poolStopped (by rw [Dev.poolStopped, queue, List.map_nil]) later

theorem poolDisable_idle (queue : s.dev.pool.queue = []) (later : s.dev.pool.later = []) : ∃ t, exec .poolDisable s = .next t ∧ t.pending = s.pending ∧
    t.dev.get F.POOL_CTL_ENABLE = 0 ∧ (s.dev.pool.known = true → t.dev.get F.POOL_STATUS_ENABLED = if s.dev.pool.moves = [] then 0 else 1) ∧
    t.dev.pool.moves = s.dev.pool.moves ∧ s.dev.sameBytes t.dev := by
  refine ⟨_, exec_poolDisable s later (by simp [queue]), rfl, ?_⟩
  cases known : s.dev.pool.known with
  | false =>
    rw [Dev.poolPump_unknown (d := s.dev.poolStopped) known]
    exact ⟨s.dev.enable_poolStopped, fun known => absurd known (by decide), rfl, Dev.sameBytes_of rfl rfl⟩
  | true =>
    rw [Dev.poolStopped_pump known queue later]
    have shows := s.dev.poolStopped.showPool_showsRun
    have moves : s.dev.poolStopped.pool.moves = s.dev.pool.moves := rfl
    rw [s.dev.flag_poolStopped, moves] at shows
    dsimp only
    refine ⟨shows.enable.trans s.dev.enable_poolStopped, fun _ => shows.enabled.trans ?_, (congrArg Pool.moves shows.pool).trans moves,
      Dev.sameBytes_of shows.mem shows.cores⟩
    cases s.dev.pool.moves <;> rfl
end

/-! ## Quotas (R245) -/

/-- The sum of the clients' MIN_PAGES. -/
abbrev Dev.poolMinima (d : Dev) : Nat := ((List.range 64).map (fun i => d.get F.POOL_CLIENT_MIN_PAGES 0 i)).foldl (· + ·) 0

/-- The quotas of a client are written. -/
def Dev.putQuotas (d : Dev) (k mn mx : Nat) : Dev := (d.put F.POOL_CLIENT_MIN_PAGES 0 k mn).put F.POOL_CLIENT_MAX_PAGES 0 k mx

/-- OVERCOMMIT shows whether the minima exceed the T3 frames. -/
def Dev.showOvercommit (d : Dev) : Dev := d.putD F.POOL_STATUS_OVERCOMMIT (b2n (d.get F.POOL_T3_FRAMES_T3 < d.poolMinima))

theorem exec_poolClientWrite (s : State) {k : Nat} (hk : k < 64) (mn mx : Nat) :
    exec (.poolClientWrite k mn mx) s = .next (s.withDev (s.dev.putQuotas k mn mx).showOvercommit.poolPump) := s.runOn_next _ (decide_eq_true hk)

section
variable (d : Dev) (k mn mx : Nat)

theorem Dev.min_putQuotas : (d.putQuotas k mn mx).get F.POOL_CLIENT_MIN_PAGES 0 k = mn % 2 ^ (F.POOL_CLIENT_MIN_PAGES.hi - F.POOL_CLIENT_MIN_PAGES.lo + 1) := by
  rw [Dev.putQuotas, Dev.get_put_field _ F.POOL_CLIENT_MAX_PAGES F.POOL_CLIENT_MIN_PAGES _ _ _ rfl (by decide) (by decide) (by decide),
    Dev.get_put_same _ _ _ _ _ (by decide)]

theorem Dev.max_putQuotas : (d.putQuotas k mn mx).get F.POOL_CLIENT_MAX_PAGES 0 k = mx % 2 ^ (F.POOL_CLIENT_MAX_PAGES.hi - F.POOL_CLIENT_MAX_PAGES.lo + 1) :=
  Dev.get_put_same _ _ _ _ _ (by decide)

/-- The quotas are registers alone. -/
theorem Dev.showOvercommit_putQuotas : (d.putQuotas k mn mx).showOvercommit = { d with regs := (d.putQuotas k mn mx).showOvercommit.regs } := rfl

theorem Dev.t3Frames_putQuotas : (d.putQuotas k mn mx).get F.POOL_T3_FRAMES_T3 = d.get F.POOL_T3_FRAMES_T3 := by
  have apart {x : Fld} (hx : x.reg = .poolClient) : F.POOL_T3_FRAMES_T3.apart 0 0 (x, 0, k) :=
    Fld.apart_of_poolOffset rfl (by rw [hx]; rfl) (by rw [hx]; exact (by omega : (0x3000028 : Nat) + 0 * 0 ≠ 0x3001000 + k * 0x10))
  rw [Dev.putQuotas, Dev.get_put_apart _ _ _ (by decide) (by decide) (apart rfl), Dev.get_put_apart _ _ _ (by decide) (by decide) (apart rfl)]

theorem Dev.onlyFields_putQuotas : d.onlyFields (d.putQuotas k mn mx) [(F.POOL_CLIENT_MIN_PAGES, 0, k), (F.POOL_CLIENT_MAX_PAGES, 0, k)] :=
  Dev.onlyFields_then (d.onlyFields_put F.POOL_CLIENT_MIN_PAGES 0 k mn (by decide)) F.POOL_CLIENT_MAX_PAGES 0 k mx (by decide)

theorem Dev.overcommit_showOvercommit : d.showOvercommit.get F.POOL_STATUS_OVERCOMMIT = if d.get F.POOL_T3_FRAMES_T3 < d.poolMinima then 1 else 0 := by
  rw [Dev.showOvercommit, Dev.get_putD_same _ _ _ (by decide)]
  by_cases exceeds : d.get F.POOL_T3_FRAMES_T3 < d.poolMinima <;> simp [exceeds, b2n]

/-- OVERCOMMIT is no quota. -/
theorem Dev.quota_showOvercommit {g : Fld} (h : g.abovePool F.POOL_STATUS_OVERCOMMIT = true) (i : Nat) : d.showOvercommit.get g 0 i = d.get g 0 i :=
  d.get_putD_abovePool h _ i

theorem Dev.poolMinima_showOvercommit : d.showOvercommit.poolMinima = d.poolMinima := by
  simp only [Dev.poolMinima, d.quota_showOvercommit (g := F.POOL_CLIENT_MIN_PAGES) (by decide)]
end

/-! ## Selection of a page (R246, R247) -/

/-- A selected move is leaving the tier. -/
abbrev Dev.selectLeaves (d : Dev) (t : Nat) : Bool := (d.pool.moves ++ d.pool.later).any (fun m => m.sel && m.fromTier = t)

section
variable (s : State) {t : Nat} (ht : t = 3 ∨ t = 4)
include ht

theorem exec_poolEvictSelect_rests (h : s.dev.flag F.POOL_CTL_ENABLE = false ∨ s.dev.pool.known = false ∨ s.dev.poolShort t = false ∨ s.dev.selectLeaves t = true) :
    exec (.poolEvictSelect t) s = .next s := by
  have rests : (!s.dev.flag F.POOL_CTL_ENABLE || !s.dev.pool.known || !s.dev.poolShort t || s.dev.selectLeaves t) = true := by
    simpa only [Bool.or_eq_true, Bool.not_eq_true', or_assoc] using h
  refine (s.runOn_next _ (by simpa using ht)).trans ?_
  rw [if_pos rests]

/-- The oldest eligible page moves one tier down; with none the pool is stuck. Pages in motion that were passed over count. -/
theorem exec_poolEvictSelect_short (enabled : s.dev.flag F.POOL_CTL_ENABLE = true) (known : s.dev.pool.known = true) (short : s.dev.poolShort t = true)
    (free : s.dev.selectLeaves t = false) (skips : Nat) :
    let d := if skips = 0 then s.dev else s.dev.count F.POOL_SKIPS_V 0 0 skips
    (∀ dp, s.dev.choosePage t (fun _ => true) = (some dp, skips) →
      exec (.poolEvictSelect t) s = .next (s.withDev (d.decideMove dp (t + 1) false true).2.poolPump)) ∧
    (s.dev.choosePage t (fun _ => true) = (none, skips) → exec (.poolEvictSelect t) s = .next (s.withDev (d.putD F.POOL_STATUS_STUCK 1).showPool)) := by
  have begins : ¬ (!s.dev.flag F.POOL_CTL_ENABLE || !s.dev.pool.known || !s.dev.poolShort t || s.dev.selectLeaves t) = true := by
    rw [enabled, known, short, free]
    decide
  have tier : (decide (t = 3) || decide (t = 4)) = true := by simpa using ht
  refine ⟨fun dp chosen => (s.runOn_next _ tier).trans ?_, fun chosen => (s.runOn_next _ tier).trans ?_⟩
  all_goals rw [if_neg begins, chosen]
end

/-! ## Ends of moves (R250, R251) -/

section
variable (s : State) {dp : Nat} (hdp : dp < 524288) (bs : List Byte)
include hdp

theorem exec_poolMove_ends {m : PoolMove} (moves : s.dev.pool.moves.find? (fun m => m.dp = dp) = some m) :
    exec (.poolMoveComplete dp bs) s = .next (s.withDev (s.dev.moveDone m bs).settle) ∧ exec (.poolMoveFailed dp) s = .next (s.withDev (s.dev.moveFails m).settle) := by
  constructor <;> refine (s.runOn_next _ (decide_eq_true hdp)).trans ?_ <;> simp only [moves]

theorem exec_poolMove_none (rests : s.dev.pool.moves.find? (fun m => m.dp = dp) = none) :
    exec (.poolMoveComplete dp bs) s = .next s ∧ exec (.poolMoveFailed dp) s = .next s := by
  constructor <;> refine (s.runOn_next _ (decide_eq_true hdp)).trans ?_ <;> simp only [rests]
end

/-- Settles O48: each clause is a branch of its command; POOL_DISABLE of an idle engine by what `Dev.showPool` shows and leaves (`Dev.ShowsRun`), and the quotas by
the places of the registers. -/
theorem poolEngine : Obligations.PoolEngine := by
  refine ⟨?commands, fun s => ⟨exec_poolEnable_first s, exec_poolEnable_again s⟩, poolDisable_idle, exec_poolDisable, ?quotas,
    fun s t ht => ⟨exec_poolEvictSelect_rests s ht, exec_poolEvictSelect_short s ht⟩,
    fun s dp bs hdp => ⟨fun m => exec_poolMove_ends s hdp bs, exec_poolMove_none s hdp bs⟩⟩
  case commands =>
    intro s i op client dp command plain hdp hclient
    have run := exec_poolCommand s command plain hdp hclient
    exact ⟨fun enabled room => by rw [run, Dev.poolCommand_queued op client dp enabled room],
      fun refused => by rw [run, Dev.poolCommand_refused op client dp refused]⟩
  case quotas =>
    intro s k mn mx hk
    refine ⟨_, exec_poolClientWrite s hk mn mx, fun unknown => ?_, ?_, ?_, ?_, s.dev.showOvercommit_putQuotas k mn mx, ?_⟩
    · rw [Dev.poolPump_unknown (show (s.dev.putQuotas k mn mx).showOvercommit.pool.known = false from unknown)]
    · exact (Dev.quota_showOvercommit _ (by decide) k).trans (s.dev.min_putQuotas k mn mx)
    · exact (Dev.quota_showOvercommit _ (by decide) k).trans (s.dev.max_putQuotas k mn mx)
    · rw [Dev.overcommit_showOvercommit, s.dev.t3Frames_putQuotas k mn mx, ← Dev.poolMinima_showOvercommit]
    · exact Dev.onlyFields_trans (s.dev.onlyFields_putQuotas k mn mx) (Dev.onlyFields_putD _ F.POOL_STATUS_OVERCOMMIT _ (by decide))

end Sys2Proof.Machine

/-! # Local HBM: the interleave (R257 to R259) -/

namespace Sys2Proof.Machine

/-! ## Turning a residue by w and back -/

theorem rotate_back {c x w : Nat} (hx : x < c) : ((x + w) % c + c - w % c) % c = x := by
  have hw := Nat.mod_lt w (Nat.zero_lt_of_lt hx)
  rw [Nat.add_mod, Nat.mod_eq_of_lt hx]
  rcases Nat.lt_or_ge (x + w % c) c with below | past
  · rw [Nat.mod_eq_of_lt below, show x + w % c + c - w % c = x + c by omega, Nat.add_mod_right, Nat.mod_eq_of_lt hx]
  · rw [Nat.mod_eq_sub_mod past, Nat.mod_eq_of_lt (a := x + w % c - c) (by omega), show x + w % c - c + c - w % c = x by omega, Nat.mod_eq_of_lt hx]

theorem rotate_forth {c k w : Nat} (hk : k < c) : ((k + c - w % c) % c + w) % c = k := by
  have hw := Nat.mod_lt w (Nat.zero_lt_of_lt hk)
  rw [Nat.mod_add_mod, ← Nat.add_mod_mod, show k + c - w % c + w % c = k + c by omega, Nat.add_mod_right, Nat.mod_eq_of_lt hk]

/-! ## Units and slots -/

/-- The slot of unit u over c slots (R257). -/
def hbmSlot (c u : Nat) : Nat := (u % c + u / c) % c

/-- The unit that lies at unit w of slot k (R257). -/
def hbmUnit (c k w : Nat) : Nat := w * c + (k + c - w % c) % c

section
variable {c k w u : Nat}

theorem hbmSlot_lt (hc : 0 < c) (u : Nat) : hbmSlot c u < c := Nat.mod_lt _ hc

theorem hbmUnit_hbmSlot (hc : 0 < c) (u : Nat) : hbmUnit c (hbmSlot c u) (u / c) = u := by
  rw [hbmUnit, hbmSlot, rotate_back (Nat.mod_lt u hc), Nat.mul_comm, Nat.div_add_mod]

theorem hbmUnit_div (hc : 0 < c) (k w : Nat) : hbmUnit c k w / c = w := by
  rw [hbmUnit, Nat.mul_comm, Nat.mul_add_div hc, Nat.div_eq_of_lt (Nat.mod_lt _ hc), Nat.add_zero]

theorem hbmSlot_hbmUnit (hk : k < c) (w : Nat) : hbmSlot c (hbmUnit c k w) = k := by
  have hc := Nat.zero_lt_of_lt hk
  have residue : hbmUnit c k w % c = (k + c - w % c) % c := by rw [hbmUnit, Nat.mul_add_mod_self_right, Nat.mod_mod]
  rw [hbmSlot, residue, hbmUnit_div hc, rotate_forth hk]

/-- R257 is one-to-one: unit u is the one at unit w of slot k. -/
theorem hbmSlot_div_iff (hk : k < c) : hbmSlot c u = k ∧ u / c = w ↔ u = hbmUnit c k w := by
  have hc := Nat.zero_lt_of_lt hk
  constructor
  · rintro ⟨rfl, rfl⟩
    exact (hbmUnit_hbmSlot hc u).symm
  · rintro rfl
    exact ⟨hbmSlot_hbmUnit hk w, hbmUnit_div hc k w⟩

/-- The units of c channels of 2.25 GiB. -/
theorem unit_lt_iff (c a : Nat) : a < c * chBytes ↔ a / 256 < c * (chBytes / 256) := by
  simp only [chBytes]
  omega

theorem hbmUnit_lt (hc : 0 < c) (k : Nat) (hw : w < chBytes / 256) : hbmUnit c k w < c * (chBytes / 256) := by
  rwa [Nat.mul_comm, ← Nat.div_lt_iff_lt_mul hc, hbmUnit_div hc]

end

/-! ## Places of the device -/

section
variable {d : Dev} {a ch k w : Nat}

/-- The place of an address, through its unit (R259). -/
def Dev.placeOf (d : Dev) (u : Nat) : Place :=
  let w := u / d.sys.slots.length
  { chan := d.sys.slots.getD (hbmSlot d.sys.slots.length u) 0, pc := w % 2, chunk := w / 2 % 4, bank := w / 8 % 48, row := w / 384, unit := w }

theorem Dev.place_inside (h : a < d.sys.slots.length * chBytes) : d.place a = some (d.placeOf (a / 256)) := if_pos h

theorem Dev.place_outside (h : d.sys.slots.length * chBytes ≤ a) : d.place a = none := if_neg (Nat.not_lt.2 h)

theorem Dev.slots_pos (h : a < d.sys.slots.length * chBytes) : 0 < d.sys.slots.length := Nat.pos_of_mul_pos_right (Nat.zero_lt_of_lt h)

theorem Dev.slots_placeOf (hc : 0 < d.sys.slots.length) (u : Nat) :
    d.sys.slots[hbmSlot d.sys.slots.length u]? = some (d.placeOf u).chan := by
  simp [Dev.placeOf, hbmSlot_lt hc u]

/-- In a list without repeats a channel's slot is found. -/
theorem Dev.unitAddr_slot (nodup : d.sys.slots.Nodup) (hk : d.sys.slots[k]? = some ch) (w : Nat) :
    d.unitAddr ch w = some (256 * hbmUnit d.sys.slots.length k w) := by
  obtain ⟨hlt, rfl⟩ := List.getElem?_eq_some_iff.1 hk
  have found : d.sys.slots.findIdx? (· = d.sys.slots[k]) = some k :=
    List.findIdx?_eq_some_iff_getElem.2 ⟨hlt, decide_eq_true rfl, fun j hj => by
      simpa [nodup.getElem_inj_iff] using Nat.ne_of_lt hj⟩
  simp only [Dev.unitAddr, found, hbmUnit]

/-- The place of an address and the way back (R257, R259). -/
theorem Dev.place_unitAddr (nodup : d.sys.slots.Nodup) (h : a < d.sys.slots.length * chBytes) :
    d.unitAddr (d.placeOf (a / 256)).chan (d.placeOf (a / 256)).unit = some (a / 256 * 256) := by
  have hc := d.slots_pos h
  rw [d.unitAddr_slot nodup (d.slots_placeOf hc _), Nat.mul_comm]
  exact congrArg (some <| · * 256) (hbmUnit_hbmSlot hc _)

/-- The addresses at unit w of the channel in slot k. -/
theorem Dev.place_iff (nodup : d.sys.slots.Nodup) (hk : d.sys.slots[k]? = some ch) (hw : w < chBytes / 256) (a : Nat) :
    (∃ p, d.place a = some p ∧ p.chan = ch ∧ p.unit = w) ↔ a / 256 = hbmUnit d.sys.slots.length k w := by
  obtain ⟨hlt, -⟩ := List.getElem?_eq_some_iff.1 hk
  have hc := Nat.zero_lt_of_lt hlt
  rw [← hbmSlot_div_iff hlt]
  have sameSlot : (d.placeOf (a / 256)).chan = ch ↔ hbmSlot d.sys.slots.length (a / 256) = k := by
    rw [← Option.some_inj, ← d.slots_placeOf hc, ← hk]
    exact List.getElem?_inj (hbmSlot_lt hc _) nodup
  constructor
  · rintro ⟨p, hp, hchan, hunit⟩
    by_cases inside : a < d.sys.slots.length * chBytes
    · cases (Dev.place_inside inside).symm.trans hp
      exact ⟨sameSlot.1 hchan, hunit⟩
    · cases (Dev.place_outside (Nat.not_lt.1 inside)).symm.trans hp
  · intro unit
    have inside : a < d.sys.slots.length * chBytes := by
      rw [unit_lt_iff, (hbmSlot_div_iff hlt).1 unit]
      exact hbmUnit_lt hc k hw
    exact ⟨_, Dev.place_inside inside, sameSlot.2 unit.1, unit.2⟩

end

/-- Settles O50: `hbmUnit` is the inverse of `hbmSlot` and the division by the number of slots, and the slot list names each channel once. -/
theorem hbmInterleaveIsOneToOne : Obligations.HbmInterleaveIsOneToOne := by
  intro d nodup
  refine ⟨fun a ha => ?_, fun ch w hch hw => ?_, fun a ha => Dev.place_outside ha⟩
  · have hc := d.slots_pos ha
    have hw : a / 256 / d.sys.slots.length < chBytes / 256 := (Nat.div_lt_iff_lt_mul hc).2 (Nat.mul_comm _ _ ▸ (unit_lt_iff _ a).1 ha)
    exact ⟨_, Dev.place_inside ha, rfl, d.slots_placeOf hc _, hw, rfl, rfl, rfl, rfl, Dev.place_unitAddr nodup ha⟩
  · obtain ⟨k, hk⟩ := List.mem_iff_getElem?.1 hch
    obtain ⟨hlt, -⟩ := List.getElem?_eq_some_iff.1 hk
    have top := hbmUnit_lt (Nat.zero_lt_of_lt hlt) k hw
    refine ⟨k, hk, Dev.unitAddr_slot nodup hk w, ?_, fun a => (Dev.place_iff nodup hk hw a).trans ?_⟩
    · have last : (256 * hbmUnit d.sys.slots.length k w + 255) / 256 = hbmUnit d.sys.slots.length k w := by omega
      exact (unit_lt_iff _ _).2 (lt_of_eq_of_lt last top)
    · change _ ↔ 256 * hbmUnit _ k w ≤ a ∧ a < 256 * hbmUnit _ k w + 256
      omega

end Sys2Proof.Machine

/-! # The memory channels (R256 to R281) -/

namespace Sys2Proof.Machine

/-! ## The registers of the channels (R283) -/

/-- A register of the channels' blocks. -/
def Reg.ofChannel (r : Reg) : Bool :=
  decide (r.info.scope = .quarter) && decide (r.info.stride = 0x80) && decide (0x2401000 ≤ r.info.base) && decide (r.info.base < 0x2401080)

theorem Reg.ofChannel_addr {r : Reg} (h : r.ofChannel = true) (u i : Nat) : r.addr u i = 0x04000000 * (u + 1) + r.info.base + i * 0x80 ∧
    0x2401000 ≤ r.info.base ∧ r.info.base < 0x2401080 := by
  simp only [Reg.ofChannel, Bool.and_eq_true, decide_eq_true_eq] at h
  obtain ⟨⟨⟨scope, stride⟩, low⟩, high⟩ := h
  refine ⟨?_, low, high⟩
  unfold Reg.addr
  simp only [scope, stride]

/-- Fields of the channels' blocks without a bit in common. -/
def Fld.apartInChannel (f g : Fld) : Bool :=
  f.reg.ofChannel && g.reg.ofChannel && f.fits && decide (g.lo ≤ g.hi) &&
    (decide (f.reg.info.base ≠ g.reg.info.base) || decide (g.reg = f.reg) && decide (f.hi < g.lo ∨ g.hi < f.lo))

/-- An address among the registers of the memory channels of a quarter. -/
def inMch (a : Nat) : Prop := ∃ q o, a = 0x6400000 + 0x04000000 * q + o ∧ o < 0x2000

theorem inMch_channel {r : Reg} (h : r.ofChannel = true) (ch : Nat) : inMch (r.addr (ch / 32) (ch % 32)) := by
  obtain ⟨addr, low, high⟩ := Reg.ofChannel_addr h (ch / 32) (ch % 32)
  exact ⟨ch / 32, r.info.base - 0x2400000 + ch % 32 * 0x80, by omega, by omega⟩

theorem recordFields_addr : ∀ x ∈ recordFields, x.1.reg.addr x.2.1 x.2.2 < 0x04000000 ∨
    (0x6802000 ≤ x.1.reg.addr x.2.1 x.2.2 ∧ x.1.reg.addr x.2.1 x.2.2 < 0x6803000) := by decide

section
variable (d : Dev)

theorem Dev.chGet_chPut_same {f : Fld} (hf : f.fits = true) (ch : Nat) {v : Nat} (hv : v < 2 ^ (f.hi - f.lo + 1)) : (d.chPut f ch v).chGet f ch = v :=
  (d.get_put_same f _ _ v hf).trans (Nat.mod_eq_of_lt hv)

theorem Dev.chGet_chPut_apart {f g : Fld} (h : f.apartInChannel g = true) (ch k v : Nat) : (d.chPut f ch v).chGet g k = d.chGet g k := by
  simp only [Fld.apartInChannel, Bool.and_eq_true, Bool.or_eq_true, decide_eq_true_eq] at h
  obtain ⟨⟨⟨⟨hf, hg⟩, fits⟩, order⟩, apart⟩ := h
  refine d.get_put_apart f g fits order ?_
  rcases apart with bases | beside
  · obtain ⟨addrF, lowF, highF⟩ := Reg.ofChannel_addr hf (ch / 32) (ch % 32)
    obtain ⟨addrG, lowG, highG⟩ := Reg.ofChannel_addr hg (k / 32) (k % 32)
    refine .inl ?_
    dsimp only
    omega
  · exact .inr beside

theorem Dev.chGet_chPut_other {f : Fld} (hc : f.reg.ofChannel = true) {ch k : Nat} (h : k ≠ ch) (v : Nat) : (d.chPut f ch v).chGet f k = d.chGet f k := by
  refine d.get_put_addr f f _ _ _ _ v ?_
  rw [(Reg.ofChannel_addr hc _ _).1, (Reg.ofChannel_addr hc _ _).1]
  omega

theorem Dev.chGet_putD {f g : Fld} (hg : g.reg.ofChannel = true) (hf : f.reg.addr 0 0 < 0x6401000) (ch v : Nat) :
    (d.putD f v).chGet g ch = d.chGet g ch := by
  obtain ⟨addr, low, -⟩ := Reg.ofChannel_addr hg (ch / 32) (ch % 32)
  exact d.get_putD_addr f g _ _ v (by omega)

theorem Dev.get_chPut {f g : Fld} (hf : f.reg.ofChannel = true) (hg : g.reg.addr 0 0 < 0x6401000) (ch v : Nat) :
    (d.chPut f ch v).get g = d.get g := by
  obtain ⟨addr, low, -⟩ := Reg.ofChannel_addr hf (ch / 32) (ch % 32)
  exact d.get_put_addr f g _ _ 0 0 v (by omega)

theorem Dev.get_put_sameReg {f g : Fld} (h : f.beside g = true) (u i v : Nat) : (d.put f u i v).get g u i = d.get g u i := by
  simp only [Fld.beside, Bool.and_eq_true, decide_eq_true_eq] at h
  obtain ⟨⟨⟨same, fits⟩, order⟩, apart⟩ := h
  exact d.get_put_field f g u i v same fits order apart

/-- An event that asks for no rewind leaves the registers of the memory channels. -/
theorem Dev.get_record_mch (e : Ev) (source : Nat) (detail : List (Nat × Nat)) (h4 : e.info.2 ≠ 4) (h5 : e.info.2 ≠ 5) {g : Fld} {u i : Nat} (hg : g.lo ≤ g.hi)
    (ha : inMch (g.reg.addr u i)) : (d.record e source detail).get g u i = d.get g u i := by
  rw [d.record_eq e source detail h4 h5]
  refine (d.recordOnly_frame e source detail).2 g u i hg fun x hx => .inl ?_
  have := recordFields_addr x hx
  obtain ⟨q, o, ha, ho⟩ := ha
  omega

theorem Dev.chGet_record (e : Ev) (source : Nat) (detail : List (Nat × Nat)) (h4 : e.info.2 ≠ 4) (h5 : e.info.2 ≠ 5) {g : Fld} (hg : g.lo ≤ g.hi)
    (hc : g.reg.ofChannel = true) (ch : Nat) : (d.record e source detail).chGet g ch = d.chGet g ch :=
  d.get_record_mch e source detail h4 h5 hg (inMch_channel hc ch)

theorem Dev.chanOf_sys {d e : Dev} (h : e.sys = d.sys) (ch : Nat) : e.chanOf ch = d.chanOf ch := by simp only [Dev.chanOf, h]

/-! ## Channels and their pseudo-channels -/

@[simp] theorem Channel.pc_setPc (c : Channel) (k : Nat) (p : PseudoCh) : (c.setPc k p).pc k = p := by
  by_cases h : k = 0 <;> simp [Channel.setPc, Channel.pc, h]

@[simp] theorem Dev.pc_updPc (ch pc : Nat) (f : PseudoCh → PseudoCh) : ((d.updPc ch pc f).chanOf ch).pc pc = f ((d.chanOf ch).pc pc) := by
  simp only [Dev.updPc, Dev.chanOf_setChan_same, Channel.pc_setPc]

theorem Dev.updPc_congr {ch pc : Nat} {f g : PseudoCh → PseudoCh} (h : f ((d.chanOf ch).pc pc) = g ((d.chanOf ch).pc pc)) : d.updPc ch pc f = d.updPc ch pc g := by
  simp only [Dev.updPc, h]

theorem Dev.unitAddr_slots {d e : Dev} (h : e.sys.slots = d.sys.slots) (ch w : Nat) : e.unitAddr ch w = d.unitAddr ch w := by simp only [Dev.unitAddr, h]

theorem Dev.place_slots {d e : Dev} (h : e.sys.slots = d.sys.slots) (a : Nat) : e.place a = d.place a := by simp only [Dev.place, h]

/-- What a change of a pseudo-channel leaves of what an offer of the scrubber reads. -/
theorem Dev.updPc_kept (ch pc : Nat) (f : PseudoCh → PseudoCh) :
    (d.updPc ch pc f).sys.slots = d.sys.slots ∧ (d.updPc ch pc f).sys.nextReq = d.sys.nextReq ∧ (d.updPc ch pc f).now = d.now := ⟨rfl, rfl, rfl⟩

theorem Dev.updPc_sameBytes (ch pc : Nat) (f : PseudoCh → PseudoCh) : d.sameBytes (d.updPc ch pc f) := Dev.sameBytes_of rfl rfl

@[simp] theorem Dev.chanOf_chPut (f : Fld) (ch v k : Nat) : (d.chPut f ch v).chanOf k = d.chanOf k := rfl

@[simp] theorem Dev.chGet_setChan (f : Fld) (ch k : Nat) (c : Channel) : (d.setChan ch c).chGet f k = d.chGet f k := rfl

end

/-! ## What leaves the memories as they are -/

/-- From d to e the memories and the cores stand. -/
structure Dev.KeepsMemory (d e : Dev) : Prop where
  mem : e.mem = d.mem
  cores : e.cores = d.cores

namespace Dev.KeepsMemory
variable {d e f : Dev}

theorem refl (d : Dev) : d.KeepsMemory d := ⟨rfl, rfl⟩

theorem trans (h : d.KeepsMemory e) (h' : e.KeepsMemory f) : d.KeepsMemory f := ⟨h'.mem.trans h.mem, h'.cores.trans h.cores⟩

theorem beside (h : d.KeepsMemory e) (hm : f.mem = e.mem) (hc : f.cores = e.cores) : d.KeepsMemory f := ⟨hm.trans h.mem, hc.trans h.cores⟩

theorem chPut (h : d.KeepsMemory e) (x : Fld) (ch v : Nat) : d.KeepsMemory (e.chPut x ch v) := h.beside rfl rfl

theorem putD (h : d.KeepsMemory e) (x : Fld) (v : Nat) : d.KeepsMemory (e.putD x v) := h.beside rfl rfl

theorem setChan (h : d.KeepsMemory e) (ch : Nat) (c : Channel) : d.KeepsMemory (e.setChan ch c) := h.beside rfl rfl

theorem put (h : d.KeepsMemory e) (x : Fld) (u i v : Nat) : d.KeepsMemory (e.put x u i v) := h.beside rfl rfl

theorem chCount (h : d.KeepsMemory e) (x : Fld) (ch n : Nat) : d.KeepsMemory (e.chCount x ch n) := h.beside rfl rfl

theorem updPc (h : d.KeepsMemory e) (ch pc : Nat) (x : PseudoCh → PseudoCh) : d.KeepsMemory (e.updPc ch pc x) := h.beside rfl rfl

theorem fresh (h : d.KeepsMemory e) (n : Nat) : d.KeepsMemory (e.fresh n).2 := h.beside rfl rfl

theorem ite {c : Prop} [Decidable c] (h : d.KeepsMemory e) (h' : d.KeepsMemory f) : d.KeepsMemory (if c then e else f) := by
  split
  · exact h
  · exact h'

theorem record (h : d.KeepsMemory e) (x : Ev) (source : Nat) (detail : List (Nat × Nat)) (h4 : x.info.2 ≠ 4) (h5 : x.info.2 ≠ 5) :
    d.KeepsMemory (e.record x source detail) := by
  rw [e.record_eq x source detail h4 h5]
  obtain ⟨mem, cores, -⟩ := (e.recordOnly_frame x source detail).1
  exact h.beside mem cores

theorem sameBytes (h : d.KeepsMemory e) : d.sameBytes e := Dev.sameBytes_of h.mem h.cores

end Dev.KeepsMemory

/-! ## Command slots and refresh (R263, R265) -/

/-- A channel that issues what its queues had accepted before it retrains (R274). -/
abbrev Dev.draining (d : Dev) (ch : Nat) : Prop := d.chanState ch = chTraining ∧ ((d.chanOf ch).why = 1 ∨ (d.chanOf ch).why = 3)

/-- A meaning whose operands name units of the device, by what it makes of the device. -/
theorem State.runOn_withDev (s : State) {ok : Bool} {f : Dev → Dev} {e : Dev} (h : ok = true) (he : f s.dev = e) : s.runOn ok f = .next (s.withDev e) :=
  he ▸ s.runOn_next f h

section
variable (s : State) {ch pc : Nat} (hch : ch < 128) (hpc : pc < 2)
include hch hpc

theorem exec_mchCommandIssue (can : Nat) : exec (.mchCommandIssue ch pc can) s = .next (s.withDev (
    if s.dev.noSource = false ∧ ((s.dev.chLive ch = true ∧ s.dev.get F.MCH_GSTATE_STATE = 0) ∨ s.dev.draining ch) then s.dev.commandSlot ch pc can else s.dev)) := by
  refine s.runOn_withDev (by simp [hch, hpc]) (if_congr ?_ rfl rfl)
  simp [Dev.draining]

theorem exec_requestUrgent (id : Nat) : exec (.requestUrgent ch pc id) s = .next (s.withDev (s.dev.updPc ch pc fun p =>
    { p with queue := p.queue.map (fun r => if r.id = id && r.accepted ≠ 0 && r.accepted + 98303 ≤ s.dev.now then { r with urgent := true } else r) })) :=
  s.runOn_next _ (by simp [hch, hpc])

end

section
variable (p : PseudoCh) (r : MchReq)

theorem PseudoCh.column_eq : p.column r = (p.open_.find? (fun e => e.1 = r.bank)).any (fun e => e.2 = r.row) := rfl

/-- An activate opens the request's row. -/
theorem PseudoCh.command_activates (closed : p.open_.find? (fun e => e.1 = r.bank) = none) :
    (p.command r).open_ = p.open_.filter (fun e => e.1 ≠ r.bank) ++ [(r.bank, r.row)] := by
  simp [PseudoCh.command, PseudoCh.column_eq, closed, PseudoCh.put, PseudoCh.slot]

variable {row : Nat} (opened : p.open_.find? (fun e => e.1 = r.bank) = some (r.bank, row))
include opened

/-- A precharge closes the row in the way. -/
theorem PseudoCh.command_precharges (conflict : row ≠ r.row) : (p.command r).open_ = p.open_.filter (fun e => e.1 ≠ r.bank) := by
  simp [PseudoCh.command, PseudoCh.column_eq, opened, conflict, PseudoCh.put, PseudoCh.slot]

/-- A column command of an open row. -/
theorem PseudoCh.command_column (hit : row = r.row) : (p.command r).open_ = p.open_ ∧ (p.command r).slots.head? = some true := by
  simp only [PseudoCh.command, PseudoCh.column_eq, opened, hit, Option.any_some, decide_true, if_true]
  split <;> exact ⟨rfl, rfl⟩

end

end Sys2Proof.Machine

namespace Sys2Proof.Machine

/-- An interval of a bank passes, or its refresh is issued: one that stands at its limit, or that is asked for and owed, is issued. -/
def PseudoCh.interval (p : PseudoCh) (bank : Nat) (due issue : Bool) : PseudoCh :=
  let owed := mget 8 p.owed bank + b2n due
  let q := { p with owed := mset 8 p.owed bank owed }
  if owed = 17 ∨ (issue = true ∧ 0 < owed) then q.refresh bank else q

section
variable (p : PseudoCh) (bank : Nat) (due issue : Bool)

theorem PseudoCh.interval_issues (h : mget 8 p.owed bank + b2n due = 17 ∨ (issue = true ∧ 0 < mget 8 p.owed bank + b2n due)) :
    mget 8 (p.interval bank due issue).owed bank = mget 8 p.owed bank + b2n due - 1 ∧
      (p.interval bank due issue).open_ = p.open_.filter (fun e => e.1 ≠ bank) := by
  rw [PseudoCh.interval, if_pos h]
  simp [PseudoCh.refresh]

theorem PseudoCh.interval_postpones (limit : mget 8 p.owed bank + b2n due ≠ 17) (h : issue = false ∨ mget 8 p.owed bank + b2n due = 0) :
    mget 8 (p.interval bank due issue).owed bank = mget 8 p.owed bank + b2n due ∧ (p.interval bank due issue).open_ = p.open_ := by
  rw [PseudoCh.interval, if_neg]
  · exact ⟨mget_mset_same _ _ _ _, rfl⟩
  · rcases h with h | h
    · simp [limit, h]
    · omega

end

section
variable (s : State) {ch pc bank : Nat} (hch : ch < 128) (hpc : pc < 2) (hbank : bank < 48) (due issue : Bool)
include hch hpc hbank

theorem exec_hbmRefresh : exec (.hbmRefresh ch pc bank due issue) s = .next (s.withDev (
    if s.dev.chLive ch = false ∨ s.dev.get F.MCH_GSTATE_STATE ≠ 0 then s.dev else s.dev.updPc ch pc (·.interval bank due issue))) := by
  refine s.runOn_withDev (by simp [hch, hpc, hbank]) (if_congr (by simp) rfl (congrArg (s.dev.updPc ch pc) (funext fun p => ?_)))
  exact if_congr (by simp) rfl rfl

theorem exec_hbmRefresh_rests (h : s.dev.chLive ch = false ∨ s.dev.get F.MCH_GSTATE_STATE ≠ 0) : exec (.hbmRefresh ch pc bank due issue) s = .next s := by
  rw [exec_hbmRefresh s hch hpc hbank, if_pos h]

theorem exec_hbmRefresh_runs (live : s.dev.chLive ch = true) (running : s.dev.get F.MCH_GSTATE_STATE = 0) :
    exec (.hbmRefresh ch pc bank due issue) s = .next (s.withDev (s.dev.updPc ch pc (·.interval bank due issue))) := by
  rw [exec_hbmRefresh s hch hpc hbank, if_neg (by simp [live, running])]

end

/-! ## Reads and the scrubber (R268, R271) -/

/-- A codeword without a wrong symbol delivers its bytes. -/
theorem Dev.decode_clean (d : Dev) (ch pc : Nat) (data : List Byte) : d.decode ch pc data false { errs := [] } = (.good, data, d) := by
  simp [Dev.decode, Codeword.carry]

/-- A read that has taken one more clean codeword: the line that it is part of, and its 32 bytes. -/
def Dev.burstTaken (d : Dev) (r : MchReq) : MchReq :=
  { r with got := r.got ++ slice (d.hbmLine (r.line + r.got.length / 64)) (r.got.length % 64) 32 }

section
variable (s : State) {ch pc : Nat} (hch : ch < 128) (hpc : pc < 2)
include hch hpc

theorem exec_hbmReadDecode_none {id : Nat} (h : ((s.dev.chanOf ch).pc pc).awaited id = none) (cw : Codeword) : exec (.hbmReadDecode ch pc id cw) s = .next s := by
  refine (s.runOn_next _ (by simp [hch, hpc])).trans ?_
  simp only [h]

theorem exec_hbmReadDecode_clean {id : Nat} {r : MchReq} (h : ((s.dev.chanOf ch).pc pc).awaited id = some r)
    (sound : s.dev.mem.poison.contains (r.line + r.got.length / 64) = false) : exec (.hbmReadDecode ch pc id { errs := [] }) s = .next (s.withDev (
      if (s.dev.burstTaken r).got.length < 32 * r.bursts then s.dev.updPc ch pc (·.update id (some (s.dev.burstTaken r)))
      else if r.scrub then s.dev.scrubbed ch pc (s.dev.burstTaken r)
      else ((s.dev.updPc ch pc (·.update id none)).fillDone (r.line + r.got.length / 64) (s.dev.burstTaken r).got r.bad).settle)) := by
  refine (s.runOn_next _ (by simp [hch, hpc])).trans ?_
  simp only [h, sound, Dev.decode_clean]
  simp [Decoded.lost, Decoded.fixed, Dev.burstTaken, MchReq.bursts]

end

/-- The scrubber of a pseudo-channel has nothing to offer in this beat. -/
abbrev Dev.scrubRests (d : Dev) (ch pc : Nat) : Prop :=
  d.flag F.MCH_CTL_SCRUB_EN (ch / 32) = false ∨ d.chLive ch = false ∨ d.get F.MCH_GSTATE_STATE ≠ 0 ∨ ((d.chanOf ch).pc pc).scrubBeat = d.beat + 1

section
variable (s : State) {ch pc : Nat} (hch : ch < 128) (hpc : pc < 2)
include hch hpc

theorem exec_hbmScrub_rests (h : s.dev.scrubRests ch pc) : exec (.hbmScrub ch pc) s = .next s := by
  refine s.runOn_withDev (by simp [hch, hpc]) ((if_pos ?_))
  rcases h with h | h | h | h <;> simp [h]

theorem exec_hbmScrub_offers (h : ¬ s.dev.scrubRests ch pc) {a : Nat} {pl : Place}
    (unit : s.dev.unitAddr ch (2 * ((s.dev.chanOf ch).pc pc).scrub + pc) = some a) (place : s.dev.place a = some pl) :
    let d := s.dev.updPc ch pc fun p => { p with scrub := (p.scrub + 1) % 4718592, scrubBeat := s.dev.beat + 1 }
    let r : MchReq := { id := s.dev.sys.nextReq, line := a / 64, bank := pl.bank, row := pl.row, scrub := true }
    exec (.hbmScrub ch pc) s = .next (s.withDev (({ d with sys := { d.sys with nextReq := s.dev.sys.nextReq + 1 } } : Dev).updPc ch pc
      fun p => { p with queue := p.queue ++ [r] }.accept s.dev.now)) := by
  intro d r
  have moved : (s.dev.updPc ch pc fun p => { p with scrub := (((s.dev.chanOf ch).pc pc).scrub + 1) % pcUnits, scrubBeat := s.dev.beat + 1 }) = d :=
    s.dev.updPc_congr rfl
  obtain ⟨slots, next, now⟩ : d.sys.slots = s.dev.sys.slots ∧ d.sys.nextReq = s.dev.sys.nextReq ∧ d.now = s.dev.now := s.dev.updPc_kept ch pc _
  have unit' : d.unitAddr ch (2 * ((s.dev.chanOf ch).pc pc).scrub + pc) = some a := (Dev.unitAddr_slots slots _ _).trans unit
  have place' : d.place a = some pl := (Dev.place_slots slots _).trans place
  have goes : ¬ ((!(s.dev.flag F.MCH_CTL_SCRUB_EN (ch / 32) && s.dev.chLive ch && s.dev.get F.MCH_GSTATE_STATE = 0) ||
      ((s.dev.chanOf ch).pc pc).scrubBeat = s.dev.beat + 1) = true) := by
    simpa [Dev.scrubRests, and_assoc] using h
  refine s.runOn_withDev (by simp [hch, hpc]) ((if_neg goes).trans ?_)
  dsimp only
  rw [moved]
  clear_value d
  have numbered (n : Nat) : ({ d with sys := { d.sys with nextReq := n } } : Dev).now = s.dev.now := (Dev.now_congr rfl rfl).trans now
  rw [unit', Option.bind_some, place']
  dsimp only
  rw [numbered, next]

end

/-! ## Parity errors of commands (R256) -/

section
variable (p : PseudoCh) (r : MchReq) (n : Nat)

theorem PseudoCh.undo_activate (h : r.last = .activate) : (p.undo r n).open_ = p.open_.filter (fun e => e.1 ≠ r.bank) := by
  simp only [PseudoCh.undo, h, PseudoCh.put]

theorem PseudoCh.undo_precharge {row : Nat} (h : r.last = .precharge row) : (p.undo r n).open_ = p.open_.filter (fun e => e.1 ≠ r.bank) ++ [(r.bank, row)] := by
  simp only [PseudoCh.undo, h, PseudoCh.put]

theorem PseudoCh.undo_column (h : r.last = .column) (done : r ∈ p.bursts) : (p.undo r n).open_ = p.open_ ∧
    (p.undo r n).queue = { r with cols := r.cols - 1, parity := n, got := r.got.take (32 * (r.cols - 1)) } :: p.queue := by
  have issued : p.bursts.any (fun x => x.id = r.id) = true := List.any_eq_true.2 ⟨r, done, decide_eq_true rfl⟩
  simp only [PseudoCh.undo, h, issued, if_true, and_self]

end

theorem Dev.parityRetrain_live {d : Dev} {ch : Nat} (live : d.chLive ch = true) :
    ((d.parityRetrain ch).chanOf ch).why = 3 ∧ (d.parityRetrain ch).chGet F.MCH_CH_STATE_RETRAIN_PENDING ch = 1 := by
  rw [Dev.parityRetrain, if_pos live]
  exact ⟨by simp, Dev.chGet_chPut_same _ (by decide) _ (by decide)⟩

/-- The last refresh of a bank is undone, to issue once more or not. -/
abbrev PseudoCh.refreshUndone (p : PseudoCh) (bank n : Nat) : PseudoCh :=
  { p with refs := mset 0 p.refs bank n, owed := mset 8 p.owed bank (mget 8 p.owed bank + 1) }

section
variable (s : State) {ch pc : Nat} (hch : ch < 128) (hpc : pc < 2)
include hch hpc

theorem exec_commandAddressParity_request {id : Nat} {r : MchReq}
    (h : (((s.dev.chanOf ch).pc pc).bursts ++ ((s.dev.chanOf ch).pc pc).queue).find? (fun r => r.id = id) = some r) :
    exec (.commandAddressParity ch pc (.request id)) s = .next (s.withDev (if r.parity = 1 then s.dev
      else if r.parity = 2 then (s.dev.updPc ch pc (·.undo r 0)).parityRetrain ch else s.dev.updPc ch pc (·.undo r 1))) := by
  refine (s.runOn_next _ (by simp [hch, hpc])).trans ?_
  simp only [h]

theorem exec_commandAddressParity_refresh (bank : Nat) : exec (.commandAddressParity ch pc (.refresh bank)) s = .next (s.withDev (
    if mget 0 ((s.dev.chanOf ch).pc pc).refs bank = 1 then s.dev.updPc ch pc (·.refreshUndone bank 2)
    else if mget 0 ((s.dev.chanOf ch).pc pc).refs bank = 3 then (s.dev.updPc ch pc (·.refreshUndone bank 0)).parityRetrain ch else s.dev)) :=
  s.runOn_next _ (by simp [hch, hpc])

end

/-! ## Training (R272 to R275) -/

/-- With no lane lost and none marked, a repair leaves none marked. -/
theorem repairLanes_none (spares : List Nat) : ∃ spares', repairLanes spares [] [] = some (spares', []) := by
  simp [repairLanes]

theorem Dev.showRepair_keeps (d : Dev) (ch pc : Nat) (spares erased : List Nat) : d.KeepsMemory (d.showRepair ch pc spares erased) ∧
    (d.showRepair ch pc spares erased).sys = d.sys := by
  unfold Dev.showRepair
  split <;> exact ⟨⟨rfl, rfl⟩, rfl⟩

theorem Dev.KeepsMemory.showRepair {d e : Dev} (h : d.KeepsMemory e) (ch pc : Nat) (spares erased : List Nat) :
    d.KeepsMemory (e.showRepair ch pc spares erased) := h.beside (e.showRepair_keeps ch pc spares erased).1.mem (e.showRepair_keeps ch pc spares erased).1.cores

/-- A retrain in service (R274), and a retrain for a second parity error (R256). -/
abbrev Channel.inService (c : Channel) : Bool := c.why = 1 || c.why = 3

/-- The state that a training without a lost lane leads to (Table 10-4). -/
def Channel.trainedTo (c : Channel) : Nat := if c.why = 2 then chTest else chInService

/-- The reason that a failed command bus or a silent stack leaves (Table 10-14). -/
def Channel.failReason (c : Channel) (silent : Bool) : Nat := if c.why = 3 then 4 else if silent then 3 else 2

/-- The channel after a training that lost no lane. -/
def Dev.channelTrained (d : Dev) (ch : Nat) (spares0 spares1 : List Nat) : Dev :=
  let e := ((d.showRepair ch 0 spares0 []).showRepair ch 1 spares1 []).chPut F.MCH_CH_STATE_STATE ch (d.chanOf ch).trainedTo
  if (d.chanOf ch).inService then e.record .hbmRetrain (chSource ch) [] else e

/-- The channel after a training that failed: mapped out, and at start-up or an APPLY out of the map (R273, R276). -/
def Dev.channelMappedOut (d : Dev) (ch reason : Nat) : Dev :=
  let e := (d.chPut F.MCH_CH_STATE_STATE ch 5).chPut F.MCH_CH_STATE_REASON ch reason
  if (d.chanOf ch).why = 2 then e else (e.putD F.MCH_MAP_V (setBit (e.get F.MCH_MAP_V) ch false)).record .hbmTrainFail (chSource ch) []

section
variable (d : Dev) (ch : Nat)

theorem Dev.channelTrained_keeps (spares0 spares1 : List Nat) : d.KeepsMemory (d.channelTrained ch spares0 spares1) := by
  have shown : d.KeepsMemory ((d.showRepair ch 0 spares0 []).showRepair ch 1 spares1 []) := ((Dev.KeepsMemory.refl d).showRepair _ _ _ _).showRepair _ _ _ _
  exact ((shown.chPut _ _ _).record _ _ _ (by decide) (by decide)).ite (shown.chPut _ _ _)

theorem Dev.channelTrained_state (spares0 spares1 : List Nat) : (d.channelTrained ch spares0 spares1).chanState ch = (d.chanOf ch).trainedTo := by
  have shown (e : Dev) : (e.chPut F.MCH_CH_STATE_STATE ch (d.chanOf ch).trainedTo).chanState ch = (d.chanOf ch).trainedTo := by
    refine Dev.chGet_chPut_same e (by decide) ch ?_
    unfold Channel.trainedTo
    split <;> decide
  unfold Dev.channelTrained
  split
  · exact (Dev.chGet_record _ _ _ _ (by decide) (by decide) (by decide) (by decide) ch).trans (shown _)
  · exact shown _

variable {reason : Nat} (hr : reason < 16)

theorem Dev.channelMappedOut_keeps (reason : Nat) : d.KeepsMemory (d.channelMappedOut ch reason) := by
  have out : d.KeepsMemory ((d.chPut F.MCH_CH_STATE_STATE ch 5).chPut F.MCH_CH_STATE_REASON ch reason) := ((Dev.KeepsMemory.refl d).chPut _ _ _).chPut _ _ _
  unfold Dev.channelMappedOut
  exact out.ite ((out.putD _ _).record _ _ _ (by decide) (by decide))

include hr in
/-- The channel's state and reason, and its bit of the map. -/
theorem Dev.channelMappedOut_shown (hch : ch < 128) : (d.channelMappedOut ch reason).chanState ch = 5 ∧
    (d.channelMappedOut ch reason).chGet F.MCH_CH_STATE_REASON ch = reason ∧
    bitOf ((d.channelMappedOut ch reason).get F.MCH_MAP_V) ch = (bitOf (d.get F.MCH_MAP_V) ch && decide ((d.chanOf ch).why = 2)) := by
  have state : ((d.chPut F.MCH_CH_STATE_STATE ch 5).chPut F.MCH_CH_STATE_REASON ch reason).chanState ch = 5 :=
    (Dev.chGet_chPut_apart _ (by decide) _ _ _).trans (d.chGet_chPut_same (by decide) _ (by decide))
  have shown : ((d.chPut F.MCH_CH_STATE_STATE ch 5).chPut F.MCH_CH_STATE_REASON ch reason).chGet F.MCH_CH_STATE_REASON ch = reason :=
    Dev.chGet_chPut_same _ (by decide) _ hr
  have map : ((d.chPut F.MCH_CH_STATE_STATE ch 5).chPut F.MCH_CH_STATE_REASON ch reason).get F.MCH_MAP_V = d.get F.MCH_MAP_V := by
    rw [Dev.get_chPut _ (by decide) (by decide), Dev.get_chPut _ (by decide) (by decide)]
  unfold Dev.channelMappedOut
  split
  · next test => exact ⟨state, shown, by simp [map, test]⟩
  · next start =>
    refine ⟨(Dev.chGet_record _ _ _ _ (by decide) (by decide) (by decide) (by decide) ch).trans ((Dev.chGet_putD _ (by decide) (by decide) _ _).trans state),
      (Dev.chGet_record _ _ _ _ (by decide) (by decide) (by decide) (by decide) ch).trans ((Dev.chGet_putD _ (by decide) (by decide) _ _).trans shown), ?_⟩
    rw [Dev.get_record_mch _ _ _ _ (by decide) (by decide) (by decide) ⟨0, 0x20, rfl, by decide⟩, Dev.get_putD_same _ _ _ (by decide), decide_eq_false start,
      Bool.and_false]
    exact bitOf_setBit_mod _ _ hch

end

theorem Channel.failReason_lt (c : Channel) (silent : Bool) : c.failReason silent < 16 := by
  unfold Channel.failReason
  split
  · decide
  · cases silent <;> decide

section
variable (s : State) {ch : Nat} (hch : ch < 128) (training : s.dev.chanState ch = 1) (source : s.dev.noSource = false)
  (issued : (s.dev.chanOf ch).inService = true → ∀ r ∈ (s.dev.chanOf ch).pc0.queue ++ (s.dev.chanOf ch).pc1.queue, r.accepted = 0)
include training source issued

/-- A training ends once what the queues had accepted has issued (R274). -/
theorem channelTrainDone_goes : ¬ ((decide (s.dev.chanState ch ≠ chTraining) || ((s.dev.chanOf ch).inService &&
    ((s.dev.chanOf ch).pc0.queue ++ (s.dev.chanOf ch).pc1.queue).any (fun r => r.accepted ≠ 0)) || s.dev.noSource) = true) := by
  simp only [training, source, chTraining, ne_eq, not_true, decide_false, Bool.false_or, Bool.or_false, Bool.and_eq_true, List.any_eq_true, decide_eq_true_eq, not_and,
    not_exists]
  exact fun service r hr => not_not_intro (issued service r hr)

include hch

theorem exec_channelTrainDone_trained (clean0 : s.dev.erasures ch 0 = []) (clean1 : s.dev.erasures ch 1 = []) : ∃ spares0 spares1,
    let e := s.dev.channelTrained ch spares0 spares1
    exec (.channelTrainDone ch [] [] false false) s = .next (s.withDev (e.setChan ch
      { e.chanOf ch with pc0 := (e.chanOf ch).pc0.accept e.now, pc1 := (e.chanOf ch).pc1.accept e.now })) := by
  obtain ⟨spares0, repair0⟩ := repairLanes_none (s.dev.spares ch 0)
  obtain ⟨spares1, repair1⟩ := repairLanes_none (s.dev.spares ch 1)
  refine ⟨spares0, spares1, s.runOn_withDev (decide_eq_true hch) ((if_neg (channelTrainDone_goes s training source issued)).trans ?_)⟩
  simp only [clean0, clean1, repair0, repair1]
  rfl

theorem exec_channelTrainDone_fails (bad0 bad1 : List Nat) {ca silent : Bool} (lost : ca = true ∨ silent = true) :
    exec (.channelTrainDone ch bad0 bad1 ca silent) s = .next (s.withDev (
      if (s.dev.chanOf ch).inService then s.dev.channelFails ch ((s.dev.chanOf ch).failReason silent)
      else s.dev.channelMappedOut ch ((s.dev.chanOf ch).failReason silent))) := by
  have none : (ca || silent) = true := by simpa using lost
  have reason : (if (s.dev.chanOf ch).why = 3 then 4 else if silent = true then 3 else if ca = true then 2 else 1) = (s.dev.chanOf ch).failReason silent := by
    unfold Channel.failReason
    cases silent with
    | true => rfl
    | false => rw [lost.resolve_right (by decide)]; rfl
  refine s.runOn_withDev (decide_eq_true hch) ((if_neg (channelTrainDone_goes s training source issued)).trans ?_)
  simp only [none, if_true, reason]
  rfl

end

end Sys2Proof.Machine

namespace Sys2Proof.Machine

/-! ## Commands of one channel (R273, R274) -/

section
variable (d : Dev) (ch : Nat)

/-- A channel's command is refused (Table 10-13). -/
abbrev Dev.chRefuse : Dev := d.chPut F.MCH_CH_STATE_CMD_REFUSED ch 1

theorem Dev.chRefuse_shown : (d.chRefuse ch).chGet F.MCH_CH_STATE_CMD_REFUSED ch = 1 ∧ (d.chRefuse ch).chanState ch = d.chanState ch :=
  ⟨d.chGet_chPut_same (by decide) _ (by decide), d.chGet_chPut_apart (by decide) _ _ _⟩

/-- A channel notes why it trains, and a field of it is written. -/
abbrev Dev.chMark (why : Nat) (f : Fld) (v : Nat) : Dev := (d.setChan ch { d.chanOf ch with why := why }).chPut f ch v

theorem Dev.why_chMark (why : Nat) (f : Fld) (v : Nat) : ((d.chMark ch why f v).chanOf ch).why = why := by simp

theorem Dev.onlyFields_chMark (why : Nat) {f : Fld} (v : Nat) (hf : f.fits = true) : d.onlyFields (d.chMark ch why f v) [(f, ch / 32, ch % 32)] :=
  Dev.onlyFields_step (Dev.onlyFields_regs rfl _) f _ _ v hf List.mem_cons_self

theorem Dev.tgHalt_shown : (d.tgHalt ch).chGet F.MCH_CH_STATE_TG_RUN ch = 0 ∧ (d.tgHalt ch).chGet F.MCH_TG_CTL_START ch = 0 ∧
    ((d.tgHalt ch).chanOf ch).tg = none ∧ d.KeepsMemory (d.tgHalt ch) :=
  ⟨(Dev.chGet_chPut_apart _ (by decide) _ _ _).trans (Dev.chGet_chPut_same _ (by decide) _ (by decide)), Dev.chGet_chPut_same _ (by decide) _ (by decide), by simp [Dev.tgHalt],
    (((Dev.KeepsMemory.refl d).setChan _ _).chPut _ _ _).chPut _ _ _⟩

end

section
variable (s : State) {ch : Nat} (hch : ch < 128)
include hch

theorem exec_retrain : exec (.retrain ch) s = .next (s.withDev (
    if s.dev.chLive ch then s.dev.chMark ch 1 F.MCH_CH_STATE_RETRAIN_PENDING 1 else s.dev.chRefuse ch)) := s.runOn_next _ (decide_eq_true hch)

theorem exec_testEnter : exec (.testEnter ch) s = .next (s.withDev (
    if s.dev.chanState ch = 5 then s.dev.chMark ch 2 F.MCH_CH_STATE_STATE 1 else s.dev.chRefuse ch)) := s.runOn_next _ (decide_eq_true hch)

theorem exec_testExit : exec (.testExit ch) s = .next (s.withDev (
    if s.dev.chanState ch = 6 then (s.dev.tgHalt ch).chPut F.MCH_CH_STATE_STATE ch 5 else s.dev.chRefuse ch)) := s.runOn_next _ (decide_eq_true hch)

theorem retrain_live (live : s.dev.chLive ch = true) : ∃ t, exec (.retrain ch) s = .next t ∧ t.pending = s.pending ∧
    t.dev.chGet F.MCH_CH_STATE_RETRAIN_PENDING ch = 1 ∧ (t.dev.chanOf ch).why = 1 ∧ s.dev.onlyFields t.dev [(F.MCH_CH_STATE_RETRAIN_PENDING, ch / 32, ch % 32)] := by
  have hexec := exec_retrain s hch
  rw [if_pos live] at hexec
  exact ⟨_, hexec, rfl, Dev.chGet_chPut_same _ (by decide) _ (by decide), Dev.why_chMark _ _ _ _ _, Dev.onlyFields_chMark _ _ _ _ (by decide)⟩

theorem testEnter_mappedOut (out : s.dev.chanState ch = 5) : ∃ t, exec (.testEnter ch) s = .next t ∧ t.pending = s.pending ∧ t.dev.chanState ch = 1 ∧
    (t.dev.chanOf ch).why = 2 ∧ s.dev.onlyFields t.dev [(F.MCH_CH_STATE_STATE, ch / 32, ch % 32)] := by
  have hexec := exec_testEnter s hch
  rw [if_pos out] at hexec
  exact ⟨_, hexec, rfl, Dev.chGet_chPut_same _ (by decide) _ (by decide), Dev.why_chMark _ _ _ _ _, Dev.onlyFields_chMark _ _ _ _ (by decide)⟩

theorem testExit_test (test : s.dev.chanState ch = 6) : ∃ t, exec (.testExit ch) s = .next t ∧ t.pending = s.pending ∧ t.dev.chanState ch = 5 ∧
    t.dev.chGet F.MCH_CH_STATE_TG_RUN ch = 0 ∧ (t.dev.chanOf ch).tg = none := by
  obtain ⟨run, -, none, -⟩ := s.dev.tgHalt_shown ch
  have hexec := exec_testExit s hch
  rw [if_pos test] at hexec
  exact ⟨_, hexec, rfl, Dev.chGet_chPut_same _ (by decide) _ (by decide), (Dev.chGet_chPut_apart _ (by decide) _ _ _).trans run,
    (congrArg Channel.tg (Dev.chanOf_chPut _ _ _ _ _)).trans none⟩

end

/-! ## The traffic generator (R281) -/

/-- A write of a register's eight bytes asks a field that lies in them to take its bits of the value. -/
theorem FieldInfo.asked_wholeWord (f : FieldInfo) (v : Nat) (cur : RegVal) (hf : f.lo ≤ f.hi) (hw : f.hi < 64) :
    f.asked (window 0 8) (BitVec.ofNat 256 (v % 2 ^ (8 * 8) * 2 ^ (8 * 0))) cur = bits v f.hi f.lo := by
  have merged : (cur &&& ~~~window 0 8) ||| (BitVec.ofNat 256 (v % 2 ^ (8 * 8) * 2 ^ (8 * 0)) &&& window 0 8) =
      (⟨.mchTgCtl, 63, 0⟩ : Fld).over cur (v % 2 ^ (8 * 8)) := by rw [window_eq_maskOf 0 (by decide)]; rfl
  rw [FieldInfo.asked, merged]
  apply Nat.eq_of_testBit_eq
  intro i
  rw [testBit_bits, testBit_bits, BitVec.testBit_toNat]
  by_cases hi : i < f.hi - f.lo + 1
  · have inside : f.lo + i < 8 * 8 := by omega
    rw [Fld.over_getLsbD _ _ _ _ (by decide) (by omega), if_pos (by simp only; omega), Nat.sub_zero, Nat.testBit_mod_two_pow]
    simp [inside]
  · simp [hi]

/-- The write of a field leaves the bits beside it. -/
theorem FieldInfo.bits_write_outside (f : FieldInfo) (r : Reg) (locked : Bool) (win new cur : RegVal) {hi lo : Nat} (hf : f.lo ≤ f.hi) (order : lo ≤ hi)
    (apart : hi < f.lo ∨ f.hi < lo) : bits (f.write r locked win new cur).toNat hi lo = bits cur.toNat hi lo := by
  apply Nat.eq_of_testBit_eq
  intro i
  rw [testBit_bits, testBit_bits, BitVec.testBit_toNat, BitVec.testBit_toNat]
  by_cases hi' : i < hi - lo + 1
  · rw [FieldInfo.write_getLsbD_outside hf (by omega)]
  · simp [hi']

section
variable (d : Dev) (ch v : Nat)

/-- MCH_TG_CTL of a channel after a write of its fields but START. -/
def Dev.tgCtl : RegVal :=
  (Reg.mchTgCtl.info.fields).foldl (fun x f => f.write .mchTgCtl d.img.locked (window 0 8)
    (BitVec.ofNat 256 ((v / 2 * 2 + d.chGet F.MCH_TG_CTL_START ch) % 2 ^ (8 * 8) * 2 ^ (8 * 0))) x) (d.reg .mchTgCtl (ch / 32) (ch % 32))

theorem Dev.tgWrite_eq : d.tgWrite ch v = d.setReg .mchTgCtl (ch / 32) (ch % 32) (d.tgCtl ch v) := by
  have occupied : d.vacant ⟨.mchTgCtl, ch / 32, ch % 32, 0⟩ = false := rfl
  rw [Dev.tgWrite, Dev.regWrite, occupied]
  rfl

/-- The seed is that of the value written. -/
theorem Dev.tgCtl_seed : bits (d.tgCtl ch v).toNat 31 8 = bits v 31 8 := by
  have start := bits_lt (d.reg .mchTgCtl (ch / 32) (ch % 32)).toNat 0 0
  have value : bits (v / 2 * 2 + d.chGet F.MCH_TG_CTL_START ch) 31 8 = bits v 31 8 := by
    have : (v / 2 * 2 + d.chGet F.MCH_TG_CTL_START ch) >>> 8 = v >>> 8 := by
      rw [Nat.shiftRight_eq_div_pow, Nat.shiftRight_eq_div_pow]
      change d.chGet F.MCH_TG_CTL_START ch < 2 at start
      omega
    rw [bits, this, bits]
  have fields : Reg.mchTgCtl.info.fields = [⟨63, 48, .rw, 0⟩, ⟨31, 8, .rw, 0⟩, ⟨7, 4, .rw, 0⟩, ⟨3, 2, .rw, 0⟩, ⟨1, 1, .rw, 0⟩, ⟨0, 0, .rw, 0⟩] := rfl
  simp only [Dev.tgCtl, fields, List.foldl_cons, List.foldl_nil]
  rw [FieldInfo.bits_write_outside _ _ _ _ _ _ (by decide) (by decide) (by decide), FieldInfo.bits_write_outside _ _ _ _ _ _ (by decide) (by decide) (by decide),
    FieldInfo.bits_write_outside _ _ _ _ _ _ (by decide) (by decide) (by decide), FieldInfo.bits_write_outside _ _ _ _ _ _ (by decide) (by decide) (by decide),
    FieldInfo.write_writable (by decide) (.inl rfl)]
  refine (Fld.over_same (FieldInfo.fld ⟨31, 8, .rw, 0⟩ .mchTgCtl) _ _ (by decide)).trans ?_
  have free (x : Nat) : encodingOk .mchTgCtl 8 x = true := rfl
  rw [FieldInfo.taken, if_pos (free _), FieldInfo.asked_wholeWord _ _ _ (by decide) (by decide), value]
  exact Nat.mod_eq_of_lt (bits_lt _ _ _)

theorem Dev.seed_tgWrite : (d.tgWrite ch v).chGet F.MCH_TG_CTL_SEED ch = bits v 31 8 := by
  rw [Dev.tgWrite_eq]
  refine Eq.trans ?_ (d.tgCtl_seed ch v)
  exact congrArg (fun x : RegVal => bits x.toNat 31 8) (d.reg_setReg_at .mchTgCtl _ _ _ _ _ rfl)

theorem Dev.chGet_tgWrite {g : Fld} (hg : g.reg.ofChannel = true) (other : g.reg.info.base ≠ 0x2401028) (k : Nat) : (d.tgWrite ch v).chGet g k = d.chGet g k := by
  have addr : g.reg.addr (k / 32) (k % 32) ≠ Reg.mchTgCtl.addr (ch / 32) (ch % 32) := by
    obtain ⟨addrG, lowG, highG⟩ := Reg.ofChannel_addr hg (k / 32) (k % 32)
    have addrT := (Reg.ofChannel_addr (r := .mchTgCtl) (by decide) (ch / 32) (ch % 32)).1
    have base : Reg.mchTgCtl.info.base = 0x2401028 := rfl
    omega
  rw [Dev.tgWrite_eq]
  simp only [Dev.chGet, Dev.get, Dev.reg, Dev.setReg, mget_mset_other _ _ _ _ _ _ addr]

theorem Dev.chanState_tgWrite : (d.tgWrite ch v).chanState ch = d.chanState ch := d.chGet_tgWrite ch v (by decide) (by decide) ch

theorem Dev.tgWrite_keeps : d.KeepsMemory (d.tgWrite ch v) ∧ (d.tgWrite ch v).sys = d.sys := by
  rw [Dev.tgWrite_eq]
  exact ⟨⟨rfl, rfl⟩, rfl⟩

/-- The generator's run begins. -/
def Dev.tgBegun (d : Dev) (ch : Nat) : Dev :=
  ((((d.setChan ch { d.chanOf ch with tg := some (d.tgRun ch) }).chPut F.MCH_CH_STATE_TG_RUN ch 1).chPut F.MCH_TG_CTL_START ch 1).chPut
    F.MCH_TG_LANES0_LANES ch 0).chPut F.MCH_TG_LANES1_V ch 0

theorem Dev.tgBegun_shown : (d.tgBegun ch).chGet F.MCH_CH_STATE_TG_RUN ch = 1 ∧ (d.tgBegun ch).chGet F.MCH_TG_CTL_START ch = 1 ∧
    (d.tgBegun ch).chGet F.MCH_TG_CTL_SEED ch = d.chGet F.MCH_TG_CTL_SEED ch ∧ (d.tgBegun ch).chGet F.MCH_TG_LANES0_LANES ch = 0 ∧
    ((d.tgBegun ch).chanOf ch).tg.isSome = true ∧ d.KeepsMemory (d.tgBegun ch) := by
  refine ⟨?_, ?_, ?_, ?_, by simp [Dev.tgBegun], ?_⟩
  · simp (disch := decide) only [Dev.tgBegun, Dev.chGet_chPut_apart, Dev.chGet_chPut_same]
  · simp (disch := decide) only [Dev.tgBegun, Dev.chGet_chPut_apart, Dev.chGet_chPut_same]
  · simp (disch := decide) only [Dev.tgBegun, Dev.chGet_chPut_apart, Dev.chGet_setChan]
  · simp (disch := decide) only [Dev.tgBegun, Dev.chGet_chPut_apart, Dev.chGet_chPut_same]
  · exact (((((Dev.KeepsMemory.refl d).setChan _ _).chPut _ _ _).chPut _ _ _).chPut _ _ _).chPut _ _ _

end

/-! ### The check of what came back -/

section
variable (d : Dev) (ch : Nat)

theorem Dev.correctedSymbol_keeps (pc lane : Nat) : d.KeepsMemory (d.correctedSymbol ch pc lane) := by
  have counted := fun x => ((((Dev.KeepsMemory.refl d).chCount F.MCH_CE_V ch 1).chPut F.MCH_LAST_CE_PC ch pc).chPut F.MCH_LAST_CE_LANE ch lane).updPc ch pc x
  unfold Dev.correctedSymbol
  refine (counted _).ite (.ite ?_ (((counted _).chPut _ _ _).record _ _ _ (by decide) (by decide)))
  have repaired := fun x => ((counted x).showRepair ch pc)
  refine .ite (((Dev.KeepsMemory.record ?_ _ _ _ (by decide) (by decide)).setChan _ _).chPut _ _ _) (.record ?_ _ _ _ (by decide) (by decide))
  all_goals exact ((repaired _ _ _).chPut _ _ _).ite (repaired _ _ _)

theorem Dev.KeepsMemory.ite_device {d : Dev} {α β : Type} {c : Prop} [Decidable c] {x y : α × β × Dev} (h : d.KeepsMemory x.2.2) (h' : d.KeepsMemory y.2.2) :
    d.KeepsMemory (if c then x else y).2.2 := by
  split
  · exact h
  · exact h'

theorem Dev.decode_keeps (pc : Nat) (data : List Byte) (poison : Bool) (cw : Codeword) : d.KeepsMemory (d.decode ch pc data poison cw).2.2 := by
  have kept := Dev.KeepsMemory.refl d
  unfold Dev.decode
  refine .ite_device kept (.ite_device kept (.ite_device (.ite_device (kept.fresh 1) ((kept.fresh 1).chCount _ _ _)) ?_))
  dsimp only
  split
  · exact d.correctedSymbol_keeps ch pc _
  · exact kept
  · exact kept
  · exact kept.chCount _ _ _

theorem Dev.tgMismatch_keeps (raw : Bool) (x : TgSymbol) (lanes : List Nat) : d.KeepsMemory (d.tgMismatch ch raw x lanes) := by
  have counted : d.KeepsMemory (d.chCount F.MCH_TG_ERRS_V ch) := (Dev.KeepsMemory.refl d).chCount _ _ _
  have marked : d.KeepsMemory (if !raw then d.chCount F.MCH_TG_ERRS_V ch else (d.chCount F.MCH_TG_ERRS_V ch).each lanes fun d l =>
      let f := if x.unit % 2 = 0 then F.MCH_TG_LANES0_LANES else F.MCH_TG_LANES1_V
      d.chPut f ch (setBit (d.chGet f ch) l true)) := counted.ite (Dev.each_inv _ (fun e l h => h.chPut _ _ _) lanes counted)
  unfold Dev.tgMismatch
  exact marked.ite (((((marked.chPut _ _ _).chPut _ _ _).chPut _ _ _).chPut _ _ _).chPut _ _ _)

theorem Dev.tgBurst_keeps (t : TgRun) (xs : List TgSymbol) (x : TgSymbol) : d.KeepsMemory (d.tgBurst ch t xs x) := by
  have kept := Dev.KeepsMemory.refl d
  unfold Dev.tgBurst
  refine kept.ite (.ite (d.tgMismatch_keeps ch true x _) (.ite (Dev.KeepsMemory.trans ?_ (Dev.tgMismatch_keeps _ ch false x _)) ?_))
  all_goals exact d.decode_keeps ch (x.unit % 2) _ _ _

/-- The bursts that came back, checked (R281). -/
def Dev.tgChecked (d : Dev) (ch : Nat) (t : TgRun) (rx : List TgSymbol) : Dev :=
  let key := fun (x : TgSymbol) => (x.pass, x.unit, x.burst)
  let seen := rx.filter t.reads
  d.each ((seen.map key).eraseDups) fun d k =>
    match seen.filter (fun x => key x = k) with
    | [] => d
    | x :: xs => d.tgBurst ch t (x :: xs) x

theorem Dev.tgChecked_keeps (t : TgRun) (rx : List TgSymbol) : d.KeepsMemory (d.tgChecked ch t rx) := by
  refine Dev.each_inv (P := d.KeepsMemory) _ (fun e k h => ?_) _ (Dev.KeepsMemory.refl d)
  dsimp only
  split
  · exact h
  · exact h.trans (e.tgBurst_keeps ch t _ _)

end

section
variable (s : State) {ch : Nat} (hch : ch < 128)
include hch

theorem exec_tgStart (v : Nat) : exec (.tgStart ch v) s = .next (s.withDev (
    if (s.dev.tgWrite ch v).chanState ch ≠ 6 then (s.dev.tgWrite ch v).chRefuse ch else (s.dev.tgWrite ch v).tgBegun ch)) :=
  s.runOn_next _ (decide_eq_true hch)

theorem exec_tgStop (v : Nat) : exec (.tgStop ch v) s = .next (s.withDev ((s.dev.tgWrite ch v).setChan ch
    { (s.dev.tgWrite ch v).chanOf ch with tg := ((s.dev.tgWrite ch v).chanOf ch).tg.map (fun r => { r with stopping := true }) })) :=
  s.runOn_next _ (decide_eq_true hch)

theorem exec_tgDone_rests (rx : List TgSymbol) (h : (s.dev.chanOf ch).tg = none ∨ (∃ r, (s.dev.chanOf ch).tg = some r ∧ r.loops = 0 ∧ r.stopping = false)) :
    exec (.tgDone ch rx) s = .next s := by
  refine s.runOn_withDev (decide_eq_true hch) ?_
  rcases h with none | ⟨r, run, loops, going⟩
  · rw [none]
  · rw [run]
    exact if_pos (by simp [loops, going])

theorem exec_tgDone_ends (rx : List TgSymbol) {r : TgRun} (run : (s.dev.chanOf ch).tg = some r) (h : r.loops ≠ 0 ∨ r.stopping = true) :
    exec (.tgDone ch rx) s = .next (s.withDev (((s.dev.tgChecked ch r rx).tgHalt ch).chPut F.MCH_CH_STATE_TG_DONE ch 1)) := by
  refine s.runOn_withDev (decide_eq_true hch) ?_
  rw [run]
  exact if_neg (by simpa [imp_iff_not_or, or_comm] using h)

theorem tgStart_test (v : Nat) (test : s.dev.chanState ch = 6) : ∃ t, exec (.tgStart ch v) s = .next t ∧ t.pending = s.pending ∧
    t.dev.chGet F.MCH_CH_STATE_TG_RUN ch = 1 ∧ t.dev.chGet F.MCH_TG_CTL_START ch = 1 ∧ t.dev.chGet F.MCH_TG_CTL_SEED ch = bits v 31 8 ∧
    t.dev.chGet F.MCH_TG_LANES0_LANES ch = 0 ∧ (t.dev.chanOf ch).tg.isSome = true ∧ s.dev.sameBytes t.dev := by
  have hexec := exec_tgStart s hch v
  rw [if_neg (not_not_intro ((s.dev.chanState_tgWrite ch v).trans test))] at hexec
  obtain ⟨running, start, seed, lanes, some, keeps⟩ := (s.dev.tgWrite ch v).tgBegun_shown ch
  exact ⟨_, hexec, rfl, running, start, seed.trans (s.dev.seed_tgWrite ch v), lanes, some, ((s.dev.tgWrite_keeps ch v).1.trans keeps).sameBytes⟩

theorem tgStop_stopping (v : Nat) : ∃ t, exec (.tgStop ch v) s = .next t ∧ t.pending = s.pending ∧
    (t.dev.chanOf ch).tg = (s.dev.chanOf ch).tg.map (fun r => { r with stopping := true }) ∧
    t.dev.chGet F.MCH_CH_STATE_TG_RUN ch = s.dev.chGet F.MCH_CH_STATE_TG_RUN ch ∧ s.dev.sameBytes t.dev := by
  obtain ⟨keeps, sys⟩ := s.dev.tgWrite_keeps ch v
  refine ⟨_, exec_tgStop s hch v, rfl, ?_, (Dev.chGet_setChan _ _ _ _ _).trans (s.dev.chGet_tgWrite ch v (by decide) (by decide) ch), (keeps.setChan _ _).sameBytes⟩
  simp only [Dev.chanOf_setChan_same, Dev.chanOf_sys sys]

theorem tgDone_ends (rx : List TgSymbol) {r : TgRun} (run : (s.dev.chanOf ch).tg = some r) (h : r.loops ≠ 0 ∨ r.stopping = true) :
    ∃ t, exec (.tgDone ch rx) s = .next t ∧ t.pending = s.pending ∧ t.dev.chGet F.MCH_CH_STATE_TG_DONE ch = 1 ∧ t.dev.chGet F.MCH_CH_STATE_TG_RUN ch = 0 ∧
      t.dev.chGet F.MCH_TG_CTL_START ch = 0 ∧ (t.dev.chanOf ch).tg = none ∧ s.dev.sameBytes t.dev := by
  obtain ⟨running, start, none, keeps⟩ := (s.dev.tgChecked ch r rx).tgHalt_shown ch
  exact ⟨_, exec_tgDone_ends s hch rx run h, rfl, Dev.chGet_chPut_same _ (by decide) _ (by decide), (Dev.chGet_chPut_apart _ (by decide) _ _ _).trans running,
    (Dev.chGet_chPut_apart _ (by decide) _ _ _).trans start, (congrArg Channel.tg (Dev.chanOf_chPut _ _ _ _ _)).trans none,
    (((s.dev.tgChecked_keeps ch r rx).trans keeps).chPut _ _ _).sameBytes⟩

/-- The commands of a channel in a state that does not take them (R273). -/
theorem channelCommand_refused (v : Nat) (i : Instr) (h : (i = .retrain ch ∧ s.dev.chLive ch = false) ∨ (i = .testEnter ch ∧ s.dev.chanState ch ≠ 5) ∨
    (i = .testExit ch ∧ s.dev.chanState ch ≠ 6) ∨ (i = .tgStart ch v ∧ s.dev.chanState ch ≠ 6)) :
    ∃ t, exec i s = .next t ∧ t.pending = s.pending ∧ t.dev.chGet F.MCH_CH_STATE_CMD_REFUSED ch = 1 ∧ t.dev.chanState ch = s.dev.chanState ch := by
  obtain ⟨refused, state⟩ := s.dev.chRefuse_shown ch
  rcases h with ⟨rfl, h⟩ | ⟨rfl, h⟩ | ⟨rfl, h⟩ | ⟨rfl, h⟩
  · exact ⟨s.withDev (s.dev.chRefuse ch), (exec_retrain s hch).trans (by rw [if_neg (ne_true_of_eq_false h)]), rfl, refused, state⟩
  · exact ⟨s.withDev (s.dev.chRefuse ch), (exec_testEnter s hch).trans (by rw [if_neg h]), rfl, refused, state⟩
  · exact ⟨s.withDev (s.dev.chRefuse ch), (exec_testExit s hch).trans (by rw [if_neg h]), rfl, refused, state⟩
  · have same := s.dev.chanState_tgWrite ch v
    have hexec := exec_tgStart s hch v
    rw [if_pos (same ▸ h)] at hexec
    obtain ⟨refused, state⟩ := (s.dev.tgWrite ch v).chRefuse_shown ch
    exact ⟨_, hexec, rfl, refused, state.trans same⟩

end

end Sys2Proof.Machine

namespace Sys2Proof.Machine

/-! ## STOP, APPLY and its end (R258, R276, R277) -/

section
variable (d : Dev)

theorem Dev.mchRefuse_shown {reason : Nat} (h : reason < 256) : (d.mchRefuse reason).get F.MCH_GSTATE_REFUSED = 1 ∧
    (d.mchRefuse reason).get F.MCH_GSTATE_REASON = reason ∧ d.mchRefuse reason = { d with regs := (d.mchRefuse reason).regs } ∧
    d.onlyFields (d.mchRefuse reason) [(F.MCH_GSTATE_REFUSED, 0, 0), (F.MCH_GSTATE_REASON, 0, 0)] :=
  ⟨(Dev.get_putD_beside _ _ (by decide)).trans (d.get_putD_same _ _ (by decide)), (Dev.get_putD_same _ _ _ (by decide)).trans (Nat.mod_eq_of_lt h), rfl,
    Dev.onlyFields_then (d.onlyFields_putD _ _ (by decide)) _ 0 0 _ (by decide)⟩

/-- The channels stopped: the translations and the lines of the shared cache are gone. -/
def Dev.mchStopped : Dev := { d.dropXlt (fun _ => true) with sys := { (d.dropXlt (fun _ => true)).sys with shc := [] } }.putD F.MCH_GSTATE_STATE 1

theorem Dev.mchStopped_shown : d.mchStopped.get F.MCH_GSTATE_STATE = 1 ∧ d.mchStopped.sys.shc = [] ∧ d.mchStopped.mem = d.mem ∧
    d.onlyFields d.mchStopped [(F.MCH_GSTATE_STATE, 0, 0)] :=
  ⟨Dev.get_putD_same _ _ _ (by decide), rfl, rfl, Dev.onlyFields_step (Dev.onlyFields_regs rfl _) _ 0 0 _ (by decide) List.mem_cons_self⟩

/-- A channel begins to train for APPLY. -/
abbrev Dev.applyTrain (ch : Nat) : Dev := d.chMark ch 0 F.MCH_CH_STATE_STATE 1

theorem Dev.applyTrain_state (ch k : Nat) : (d.applyTrain ch).chanState k = if k = ch then 1 else d.chanState k := by
  split
  · next same => exact same ▸ Dev.chGet_chPut_same _ (by decide) _ (by decide)
  · next other => exact (Dev.chGet_chPut_other _ (by decide) other _).trans (Dev.chGet_setChan _ _ _ _ _)

/-- Of the channels of a list each trains. -/
theorem Dev.each_applyTrain_state (chs : List Nat) (k : Nat) : (d.each chs Dev.applyTrain).chanState k = if k ∈ chs then 1 else d.chanState k := by
  induction chs generalizing d with
  | nil => rfl
  | cons ch chs ih =>
    refine (ih (d.applyTrain ch)).trans ?_
    rw [Dev.applyTrain_state]
    by_cases same : k = ch <;> simp [same]

/-- APPLY begins: the mapped channels that are OFF or MAPPED_OUT train. -/
def Dev.mchApplied : Dev :=
  let e := d.putD F.MCH_GSTATE_STATE 2
  e.each ((List.range 128).filter (fun ch => bitOf (e.get F.MCH_MAP_V) ch && (e.chanState ch = chOff || e.chanState ch = chMappedOut))) Dev.applyTrain

theorem Dev.mchApplied_shown : d.mchApplied.get F.MCH_GSTATE_STATE = 2 ∧ d.KeepsMemory d.mchApplied ∧
    ∀ ch, ch < 128 → bitOf (d.get F.MCH_MAP_V) ch = true → d.chanState ch = 0 ∨ d.chanState ch = 5 → d.mchApplied.chanState ch = 1 := by
  refine ⟨?_, ?_, fun ch hch mapped out => ?_⟩
  · refine Dev.each_inv (P := fun e => e.get F.MCH_GSTATE_STATE = 2) _ (fun e ch h => ?_) _ (Dev.get_putD_same _ _ _ (by decide))
    exact (Dev.get_chPut _ (by decide) (by decide) _ _).trans h
  · exact Dev.each_inv (P := d.KeepsMemory) _ (fun e ch h => (h.setChan _ _).chPut _ _ _) _ ((Dev.KeepsMemory.refl d).putD _ _)
  · have map : (d.putD F.MCH_GSTATE_STATE 2).get F.MCH_MAP_V = d.get F.MCH_MAP_V := d.get_putD_addr _ _ _ _ _ (by decide)
    have state : (d.putD F.MCH_GSTATE_STATE 2).chanState ch = d.chanState ch := d.chGet_putD (by decide) (by decide) _ _
    refine (Dev.each_applyTrain_state _ _ ch).trans (if_pos (List.mem_filter.2 ⟨List.mem_range.2 hch, ?_⟩))
    rw [map, mapped, state]
    rcases out with out | out <;> rw [out] <;> rfl

end

section
variable (s : State)

theorem exec_stop : exec .stop s = .next (s.withDev (
    if s.dev.get F.MCH_GSTATE_STATE = 2 then s.dev.mchRefuse 6
    else if s.dev.get F.IMG_STATUS_STATE ≠ 0 then s.dev.mchRefuse 1
    else if !s.dev.quiescent then s.dev.mchRefuse 2
    else if s.dev.flag F.POOL_CTL_ENABLE || s.dev.flag F.POOL_STATUS_BUSY then s.dev.mchRefuse 3
    else s.dev.mchStopped)) := rfl

theorem exec_apply : exec .apply s = .next (s.withDev (
    if s.dev.noSource then s.dev
    else if s.dev.get F.MCH_GSTATE_STATE = 2 then s.dev.mchRefuse 6
    else if s.dev.get F.MCH_GSTATE_STATE ≠ 1 then s.dev.mchRefuse 4
    else if s.dev.get F.MCH_MAP_V = 0 then s.dev.mchRefuse 5
    else s.dev.mchApplied)) := rfl

theorem exec_mchApplyDone : exec .mchApplyDone s = .next (s.withDev (
    if !s.dev.applyOver then s.dev
    else (if s.dev.rebuildSlots.boot.q8 = 0 then s.dev.rebuildSlots else s.dev.rebuildSlots.showService s.dev.rebuildSlots.withChannels).step9Done)) := rfl

end

/-! ### The slot list (R258) -/

theorem slotKey_keyChannel : ∀ k < 128, slotKey (keyChannel k) = k := by decide

theorem keyChannel_nodup : ((List.range 128).map keyChannel).Nodup := by
  refine List.Nodup.map_on (fun j hj k hk same => ?_) List.nodup_range
  rw [← slotKey_keyChannel j (List.mem_range.1 hj), same, slotKey_keyChannel k (List.mem_range.1 hk)]

section
variable (d : Dev)

/-- The channels of the map in service, in the order of their keys. -/
abbrev Dev.slotList : List Nat := ((List.range 128).map keyChannel).filter (fun ch => bitOf (d.get F.MCH_MAP_V) ch && d.chLive ch)

theorem Dev.slotList_nodup : d.slotList.Nodup := keyChannel_nodup.filter _

/-- The slot list rebuilt, and what it makes undefined gone. -/
def Dev.rehashed : Dev :=
  { d with sys := { d.sys with slots := d.slotList, shc := [] }, mem := { d.mem with hbm := [], poison := [], epoch := d.mem.epoch + 1 },
           pool := { d.pool with recs := [], used := [], known := false } }

theorem Dev.rebuildSlots_kept : d.rebuildSlots.sys = d.rehashed.sys ∧ d.rebuildSlots.mem = d.rehashed.mem ∧ d.rebuildSlots.boot = d.rehashed.boot := by
  have out := fun chs => Dev.each_inv (P := fun e => e.sys = d.rehashed.sys ∧ e.mem = d.rehashed.mem ∧ e.boot = d.rehashed.boot)
    (fun e ch => e.chPut F.MCH_CH_STATE_STATE ch chMappedOut) (fun _ _ h => h) chs (d := d.rehashed) ⟨rfl, rfl, rfl⟩
  exact out _

theorem Dev.rebuildSlots_shown : d.rebuildSlots.sys.slots = d.slotList ∧ d.rebuildSlots.mem.hbm = [] ∧ d.rebuildSlots.mem.epoch = d.mem.epoch + 1 ∧
    d.rebuildSlots.boot = d.boot ∧ d.rebuildSlots.get F.MCH_GSTATE_STATE = 0 := by
  obtain ⟨sys, mem, boot⟩ := d.rebuildSlots_kept
  exact ⟨congrArg MemSys.slots sys, congrArg MemSt.hbm mem, congrArg MemSt.epoch mem, boot, Dev.get_putD_same _ _ _ (by decide)⟩

end

section
variable (s : State)

theorem stop_stops (still : s.dev.get F.MCH_GSTATE_STATE ≠ 2) (image : s.dev.get F.IMG_STATUS_STATE = 0) (quiet : s.dev.quiescent = true)
    (pool : s.dev.get F.POOL_CTL_ENABLE = 0) (busy : s.dev.get F.POOL_STATUS_BUSY = 0) : ∃ t, exec .stop s = .next t ∧ t.pending = s.pending ∧
    t.dev.get F.MCH_GSTATE_STATE = 1 ∧ t.dev.sys.shc = [] ∧ t.dev.mem = s.dev.mem ∧ s.dev.onlyFields t.dev [(F.MCH_GSTATE_STATE, 0, 0)] := by
  have hexec := exec_stop s
  rw [if_neg still, if_neg (not_not_intro image), if_neg (by simp [quiet]), if_neg (by simp [Dev.flag, pool, busy])] at hexec
  exact ⟨_, hexec, rfl, s.dev.mchStopped_shown⟩

/-- STOP and APPLY where they are refused, with the reason of the first check that fails. -/
theorem deviceCommand_refused (i : Instr) (r : Nat) (h : let g := s.dev.get F.MCH_GSTATE_STATE
    (i = .stop ∧ g = 2 ∧ r = 6) ∨ (i = .stop ∧ g ≠ 2 ∧ s.dev.get F.IMG_STATUS_STATE ≠ 0 ∧ r = 1) ∨
      (i = .stop ∧ g ≠ 2 ∧ s.dev.get F.IMG_STATUS_STATE = 0 ∧ s.dev.quiescent = false ∧ r = 2) ∨
      (i = .stop ∧ g ≠ 2 ∧ s.dev.get F.IMG_STATUS_STATE = 0 ∧ s.dev.quiescent = true ∧ (s.dev.get F.POOL_CTL_ENABLE ≠ 0 ∨ s.dev.get F.POOL_STATUS_BUSY ≠ 0) ∧ r = 3) ∨
      (i = .apply ∧ s.dev.noSource = false ∧ ((g = 2 ∧ r = 6) ∨ (g ≠ 1 ∧ g ≠ 2 ∧ r = 4) ∨ (g = 1 ∧ s.dev.get F.MCH_MAP_V = 0 ∧ r = 5)))) :
    exec i s = .next (s.withDev (s.dev.mchRefuse r)) ∧ r < 256 := by
  rcases h with ⟨rfl, applying, rfl⟩ | ⟨rfl, still, image, rfl⟩ | ⟨rfl, still, image, restless, rfl⟩ | ⟨rfl, still, image, quiet, pool, rfl⟩ | ⟨rfl, source, h⟩
  · exact ⟨by rw [exec_stop, if_pos applying], by decide⟩
  · exact ⟨by rw [exec_stop, if_neg still, if_pos image], by decide⟩
  · exact ⟨by rw [exec_stop, if_neg still, if_neg (not_not_intro image), if_pos (by simp [restless])], by decide⟩
  · exact ⟨by rw [exec_stop, if_neg still, if_neg (not_not_intro image), if_neg (by simp [quiet]), if_pos (by simpa [Dev.flag] using pool)], by decide⟩
  · have clocked := ne_true_of_eq_false source
    rcases h with ⟨applying, rfl⟩ | ⟨running, still, rfl⟩ | ⟨stopped, empty, rfl⟩
    · exact ⟨by rw [exec_apply, if_neg clocked, if_pos applying], by decide⟩
    · exact ⟨by rw [exec_apply, if_neg clocked, if_neg still, if_pos running], by decide⟩
    · exact ⟨by rw [exec_apply, if_neg clocked, if_neg (by simp [stopped]), if_neg (not_not_intro stopped), if_pos empty], by decide⟩

theorem apply_trains (source : s.dev.noSource = false) (stopped : s.dev.get F.MCH_GSTATE_STATE = 1) (mapped : s.dev.get F.MCH_MAP_V ≠ 0) :
    ∃ t, exec .apply s = .next t ∧ t.pending = s.pending ∧ t.dev.get F.MCH_GSTATE_STATE = 2 ∧ s.dev.sameBytes t.dev ∧
      ∀ ch, ch < 128 → bitOf (s.dev.get F.MCH_MAP_V) ch = true → s.dev.chanState ch = 0 ∨ s.dev.chanState ch = 5 → t.dev.chanState ch = 1 := by
  have hexec := exec_apply s
  rw [if_neg (ne_true_of_eq_false source), if_neg (by simp [stopped]), if_neg (not_not_intro stopped), if_neg mapped] at hexec
  obtain ⟨applying, keeps, trains⟩ := s.dev.mchApplied_shown
  exact ⟨_, hexec, rfl, applying, keeps.sameBytes, trains⟩

end

/-! ## Temperature (R278 to R280) -/

/-- The stack's reading is taken at this beat. -/
def Dev.sensed (d : Dev) (st fails : Nat) : Dev := { d with sys := { d.sys with sensors := mset {} d.sys.sensors st { fails := fails, readAt := d.beat + 1 } } }

/-- LATE is owed at the next beat boundary (R280). -/
def Dev.owesLate (d : Dev) (n q : Nat) : Dev := { d with pwr := { d.pwr with hbmLate := d.pwr.hbmLate ++ [(n, q)] } }

/-- The refresh rate that a reading asks for (R265). -/
def Dev.refHalf (d : Dev) (st r : Nat) : Dev :=
  if 86 ≤ r then d.put F.MCH_TEMP_REF_HALF (st / 2) (st % 2) 1 else if r ≤ 83 then d.put F.MCH_TEMP_REF_HALF (st / 2) (st % 2) 0 else d

/-- A field of the temperature register of a stack. -/
abbrev Dev.temp (d : Dev) (f : Fld) (st : Nat) : Nat := d.get f (st / 2) (st % 2)

section
variable (d : Dev) (st : Nat)

theorem Dev.fails_sensed (n : Nat) : (mget {} (d.sensed st n).sys.sensors st).fails = n := congrArg Stack.fails (mget_mset_same _ _ _ _)

@[simp] theorem Dev.temp_sensed (f : Fld) (n : Nat) : (d.sensed st n).temp f st = d.temp f st := Dev.get_regs rfl _ _ _

@[simp] theorem Dev.temp_owesLate (f : Fld) (n q : Nat) : (d.owesLate n q).temp f st = d.temp f st := Dev.get_regs rfl _ _ _

theorem Dev.temp_refHalf (r : Nat) {f : Fld} (h : F.MCH_TEMP_REF_HALF.beside f = true) : (d.refHalf st r).temp f st = d.temp f st := by
  unfold Dev.refHalf
  split
  · exact d.get_put_sameReg h _ _ _
  · split
    · exact d.get_put_sameReg h _ _ _
    · rfl

theorem Dev.KeepsMemory.refHalf {d e : Dev} (h : d.KeepsMemory e) (st r : Nat) : d.KeepsMemory (e.refHalf st r) := (h.put _ _ _ _).ite ((h.put _ _ _ _).ite h)

theorem Dev.KeepsMemory.owesLate {d e : Dev} (h : d.KeepsMemory e) (n q : Nat) : d.KeepsMemory (e.owesLate n q) := h.beside rfl rfl

/-- A reading below 96 of a stack that is in no emergency. -/
theorem Dev.throttle_mild {r : Nat} (mild : r < 96) (calm : d.temp F.MCH_TEMP_EMERGENCY st = 0) : d.throttle st r =
    if 86 ≤ r then
      if d.temp F.MCH_TEMP_LEVEL st < 7 then
        ((d.refHalf st r).put F.MCH_TEMP_LEVEL (st / 2) (st % 2) (d.temp F.MCH_TEMP_LEVEL st + 1)).owesLate (d.temp F.MCH_TEMP_LEVEL st + 1) (st / 2)
      else d.refHalf st r
    else if r ≤ 83 && 0 < d.temp F.MCH_TEMP_LEVEL st then (d.refHalf st r).put F.MCH_TEMP_LEVEL (st / 2) (st % 2) (d.temp F.MCH_TEMP_LEVEL st - 1)
    else d.refHalf st r := by
  have quiet : ¬ ((d.refHalf st r).flag F.MCH_TEMP_EMERGENCY (st / 2) (st % 2) = true) := by
    have := (d.temp_refHalf st r (f := F.MCH_TEMP_EMERGENCY) (by decide)).trans calm
    simp [Dev.flag, this]
  exact (if_neg quiet).trans (if_neg (Nat.not_le.2 mild))

theorem Dev.throttle_hot {r : Nat} (hot : 96 ≤ r) : d.throttle st r = if (d.refHalf st r).flag F.MCH_TEMP_EMERGENCY (st / 2) (st % 2) then d.refHalf st r
    else (((((d.refHalf st r).put F.MCH_TEMP_EMERGENCY (st / 2) (st % 2) 1).put F.MCH_TEMP_EMERG_SEEN (st / 2) (st % 2) 1).put F.MCH_TEMP_LEVEL (st / 2) (st % 2) 7).record
      .hbmEmergency (evSource (st / 2) 9 0x7F) []).owesLate 8 (st / 2) := by
  by_cases emergency : (d.refHalf st r).flag F.MCH_TEMP_EMERGENCY (st / 2) (st % 2) = true
  · exact (if_pos emergency).trans ((if_neg (by omega)).trans (if_pos emergency).symm)
  · exact (if_neg emergency).trans ((if_pos hot).trans (if_neg emergency).symm)

/-- The level after a reading below 96 (Table 10-5). -/
def levelAfter (r l : Nat) : Nat := if 86 ≤ r ∧ l < 7 then l + 1 else if r ≤ 83 ∧ 0 < l then l - 1 else l

theorem Dev.throttle_mild_shown {r : Nat} (mild : r < 96) (calm : d.temp F.MCH_TEMP_EMERGENCY st = 0) :
    (d.throttle st r).temp F.MCH_TEMP_TEMP st = d.temp F.MCH_TEMP_TEMP st ∧ (d.throttle st r).temp F.MCH_TEMP_EMERGENCY st = 0 ∧
      (d.throttle st r).temp F.MCH_TEMP_LEVEL st = levelAfter r (d.temp F.MCH_TEMP_LEVEL st) ∧ d.KeepsMemory (d.throttle st r) := by
  have half := (Dev.KeepsMemory.refl d).refHalf st r
  have temp : (d.refHalf st r).temp F.MCH_TEMP_TEMP st = d.temp F.MCH_TEMP_TEMP st := d.temp_refHalf st r (by decide)
  have calm' : (d.refHalf st r).temp F.MCH_TEMP_EMERGENCY st = 0 := (d.temp_refHalf st r (by decide)).trans calm
  have level : (d.refHalf st r).temp F.MCH_TEMP_LEVEL st = d.temp F.MCH_TEMP_LEVEL st := d.temp_refHalf st r (by decide)
  have set (l : Nat) (hl : l < 8) : let e := (d.refHalf st r).put F.MCH_TEMP_LEVEL (st / 2) (st % 2) l
      e.temp F.MCH_TEMP_TEMP st = d.temp F.MCH_TEMP_TEMP st ∧ e.temp F.MCH_TEMP_EMERGENCY st = 0 ∧ e.temp F.MCH_TEMP_LEVEL st = l ∧ d.KeepsMemory e :=
    ⟨(Dev.get_put_sameReg _ (by decide) _ _ _).trans temp, (Dev.get_put_sameReg _ (by decide) _ _ _).trans calm',
      (Dev.get_put_same _ _ _ _ _ (by decide)).trans (Nat.mod_eq_of_lt hl), half.put _ _ _ _⟩
  have top : d.temp F.MCH_TEMP_LEVEL st < 8 := bits_lt _ _ _
  rw [d.throttle_mild st mild calm]
  by_cases warm : 86 ≤ r
  · by_cases room : d.temp F.MCH_TEMP_LEVEL st < 7
    · obtain ⟨temp, calm, level, keeps⟩ := set (d.temp F.MCH_TEMP_LEVEL st + 1) (by omega)
      rw [if_pos warm, if_pos room, levelAfter, if_pos ⟨warm, room⟩]
      exact ⟨(Dev.temp_owesLate _ _ _ _ _).trans temp, (Dev.temp_owesLate _ _ _ _ _).trans calm, (Dev.temp_owesLate _ _ _ _ _).trans level, keeps.owesLate _ _⟩
    · have hot : ¬ (r ≤ 83 ∧ 0 < d.temp F.MCH_TEMP_LEVEL st) := by omega
      rw [if_pos warm, if_neg room, levelAfter, if_neg (room ·.2), if_neg hot]
      exact ⟨temp, calm', level, half⟩
  · have notWarm : ¬ (86 ≤ r ∧ d.temp F.MCH_TEMP_LEVEL st < 7) := fun h => warm h.1
    by_cases cool : r ≤ 83 ∧ 0 < d.temp F.MCH_TEMP_LEVEL st
    · have lowers : (decide (r ≤ 83) && decide (0 < d.temp F.MCH_TEMP_LEVEL st)) = true := by simpa using cool
      rw [if_neg warm, if_pos lowers, levelAfter, if_neg notWarm, if_pos cool]
      exact set _ (by omega)
    · have stays : ¬ ((decide (r ≤ 83) && decide (0 < d.temp F.MCH_TEMP_LEVEL st)) = true) := by simpa using cool
      rw [if_neg warm, if_neg stays, levelAfter, if_neg notWarm, if_neg cool]
      exact ⟨temp, calm', level, half⟩

theorem inMch_temp : inMch (Reg.mchTemp.addr (st / 2) (st % 2)) := by
  have addr : Reg.mchTemp.addr (st / 2) (st % 2) = 0x04000000 * (st / 2 + 1) + 0x2400040 + st % 2 * 4 := rfl
  exact ⟨st / 2, 0x40 + st % 2 * 4, by omega, by omega⟩

theorem Dev.throttle_hot_shown {r : Nat} (hot : 96 ≤ r) : (d.throttle st r).flag F.MCH_TEMP_EMERGENCY (st / 2) (st % 2) = true ∧
    (d.temp F.MCH_TEMP_EMERGENCY st = 0 → (d.throttle st r).temp F.MCH_TEMP_LEVEL st = 7) ∧ d.KeepsMemory (d.throttle st r) := by
  have half := (Dev.KeepsMemory.refl d).refHalf st r
  have same : (d.refHalf st r).temp F.MCH_TEMP_EMERGENCY st = d.temp F.MCH_TEMP_EMERGENCY st := d.temp_refHalf st r (by decide)
  rw [d.throttle_hot st hot]
  split
  · next emergency =>
    refine ⟨emergency, fun calm => ?_, half⟩
    simp [Dev.flag, same.trans calm] at emergency
  · let e := (((d.refHalf st r).put F.MCH_TEMP_EMERGENCY (st / 2) (st % 2) 1).put F.MCH_TEMP_EMERG_SEEN (st / 2) (st % 2) 1).put F.MCH_TEMP_LEVEL (st / 2) (st % 2) 7
    have recorded (f : Fld) (hf : f.lo ≤ f.hi) (hr : f.reg = .mchTemp) :
        ((e.record .hbmEmergency (evSource (st / 2) 9 0x7F) []).owesLate 8 (st / 2)).temp f st = e.temp f st :=
      (Dev.temp_owesLate _ _ _ _ _).trans (Dev.get_record_mch _ _ _ _ (by decide) (by decide) hf (hr ▸ inMch_temp st))
    have emergency : e.temp F.MCH_TEMP_EMERGENCY st = 1 := (Dev.get_put_sameReg _ (by decide) _ _ _).trans
      ((Dev.get_put_sameReg _ (by decide) _ _ _).trans (Dev.get_put_same _ _ _ _ _ (by decide)))
    refine ⟨?_, fun _ => (recorded _ (by decide) rfl).trans (Dev.get_put_same _ _ _ _ _ (by decide)),
      (((half.put _ _ _ _).put _ _ _ _).put _ _ _ _ |>.record _ _ _ (by decide) (by decide)).owesLate _ _⟩
    exact decide_eq_true ((((recorded _ (by decide) rfl).trans emergency).trans_ne (by decide)))

/-- A reading taken and shown. -/
def Dev.tempShown (r : Nat) : Dev := ((d.sensed st 0).put F.MCH_TEMP_SENSOR_FAIL (st / 2) (st % 2) 0).put F.MCH_TEMP_TEMP (st / 2) (st % 2) r

theorem Dev.tempShown_kept (r : Nat) {f : Fld} (fail : F.MCH_TEMP_SENSOR_FAIL.beside f = true) (temp : F.MCH_TEMP_TEMP.beside f = true) :
    (d.tempShown st r).temp f st = d.temp f st :=
  (Dev.get_put_sameReg _ temp _ _ _).trans ((Dev.get_put_sameReg _ fail _ _ _).trans (d.temp_sensed st f 0))

theorem Dev.tempShown_keeps (r : Nat) : d.KeepsMemory (d.tempShown st r) := ((Dev.KeepsMemory.refl d).beside (f := d.sensed st 0) rfl rfl |>.put _ _ _ _).put _ _ _ _

end

section
variable (s : State) {st : Nat} (hst : st < 8)
include hst

theorem exec_hbmTempRead_otherBeat (other : s.dev.tempBeat st = false) (x : Option Nat) : exec (.hbmTempRead st x) s = .next s :=
  s.runOn_withDev (decide_eq_true hst) (if_pos (by simp [other]))

variable (due : s.dev.tempBeat st = true)
include due

theorem exec_hbmTempRead_some (r : Nat) : exec (.hbmTempRead st (some r)) s = .next (s.withDev ((s.dev.tempShown st r).throttle st r)) :=
  s.runOn_withDev (decide_eq_true hst) (if_neg (by simp [due]))

theorem exec_hbmTempRead_none (few : (mget {} s.dev.sys.sensors st).fails < 2) : exec (.hbmTempRead st none) s =
    .next (s.withDev (s.dev.sensed st ((mget {} s.dev.sys.sensors st).fails + 1))) := by
  have fails : min 3 ((mget {} s.dev.sys.sensors st).fails + 1) = (mget {} s.dev.sys.sensors st).fails + 1 := by omega
  refine s.runOn_withDev (decide_eq_true hst) ((if_neg (by simp [due])).trans ((if_pos (by omega)).trans ?_))
  rw [fails]
  rfl

theorem hbmTempRead_mild {r : Nat} (mild : r < 96) (calm : s.dev.temp F.MCH_TEMP_EMERGENCY st = 0) : ∃ t, exec (.hbmTempRead st (some r)) s = .next t ∧
    t.pending = s.pending ∧ t.dev.temp F.MCH_TEMP_TEMP st = r ∧ t.dev.temp F.MCH_TEMP_EMERGENCY st = 0 ∧
    t.dev.temp F.MCH_TEMP_LEVEL st = levelAfter r (s.dev.temp F.MCH_TEMP_LEVEL st) ∧ s.dev.sameBytes t.dev := by
  have calm' := (s.dev.tempShown_kept st r (f := F.MCH_TEMP_EMERGENCY) (by decide) (by decide)).trans calm
  obtain ⟨temp, emergency, level, keeps⟩ := (s.dev.tempShown st r).throttle_mild_shown st mild calm'
  refine ⟨_, exec_hbmTempRead_some s hst due r, rfl, temp.trans ((Dev.get_put_same _ _ _ _ _ (by decide)).trans (Nat.mod_eq_of_lt (lt_trans mild (by decide)))), emergency,
    ?_, ((s.dev.tempShown_keeps st r).trans keeps).sameBytes⟩
  rw [level, s.dev.tempShown_kept st r (by decide) (by decide)]

theorem hbmTempRead_hot {r : Nat} (hot : 96 ≤ r) : ∃ t, exec (.hbmTempRead st (some r)) s = .next t ∧ t.pending = s.pending ∧
    t.dev.flag F.MCH_TEMP_EMERGENCY (st / 2) (st % 2) = true ∧ (s.dev.temp F.MCH_TEMP_EMERGENCY st = 0 → t.dev.temp F.MCH_TEMP_LEVEL st = 7) ∧
    s.dev.sameBytes t.dev := by
  have same := s.dev.tempShown_kept st r (f := F.MCH_TEMP_EMERGENCY) (by decide) (by decide)
  obtain ⟨emergency, level, keeps⟩ := (s.dev.tempShown st r).throttle_hot_shown st hot
  exact ⟨_, exec_hbmTempRead_some s hst due r, rfl, emergency, fun calm => level (same.trans calm), ((s.dev.tempShown_keeps st r).trans keeps).sameBytes⟩

theorem hbmTempRead_fails (few : (mget {} s.dev.sys.sensors st).fails < 2) : ∃ t, exec (.hbmTempRead st none) s = .next t ∧ t.pending = s.pending ∧
    (mget {} t.dev.sys.sensors st).fails = (mget {} s.dev.sys.sensors st).fails + 1 ∧ t.dev.regs = s.dev.regs :=
  ⟨_, exec_hbmTempRead_none s hst due few, rfl, s.dev.fails_sensed st _, rfl⟩

end

end Sys2Proof.Machine

namespace Sys2Proof.Machine

/-! ## Each command's clause of O51 -/

section
variable (s : State) {ch pc : Nat} (hch : ch < 128) (hpc : pc < 2)
include hch hpc

theorem mchCommandIssue_issues (can : Nat) (source : s.dev.noSource = false)
    (h : (s.dev.chLive ch = true ∧ s.dev.get F.MCH_GSTATE_STATE = 0) ∨ s.dev.draining ch) :
    exec (.mchCommandIssue ch pc can) s = .next (s.withDev (s.dev.commandSlot ch pc can)) := by
  rw [exec_mchCommandIssue s hch hpc, if_pos ⟨source, h⟩]

theorem mchCommandIssue_rests (can : Nat)
    (h : s.dev.noSource = true ∨ (¬ (s.dev.chLive ch = true ∧ s.dev.get F.MCH_GSTATE_STATE = 0) ∧ ¬ s.dev.draining ch)) :
    exec (.mchCommandIssue ch pc can) s = .next s := by
  rw [exec_mchCommandIssue s hch hpc, if_neg]
  rintro ⟨source, issues⟩
  rcases h with h | ⟨off, drained⟩
  · simp [source] at h
  · exact issues.elim off drained

theorem requestUrgent_marks (id : Nat) : ∃ t, exec (.requestUrgent ch pc id) s = .next t ∧ t.pending = s.pending ∧
    (∀ r ∈ ((s.dev.chanOf ch).pc pc).queue, r.id = id → r.accepted ≠ 0 → r.accepted - 1 + 98304 ≤ s.dev.now →
      ({ r with urgent := true } : MchReq) ∈ ((t.dev.chanOf ch).pc pc).queue) ∧
    (∀ r ∈ ((s.dev.chanOf ch).pc pc).queue, r.id ≠ id → r ∈ ((t.dev.chanOf ch).pc pc).queue) ∧ t.dev.regs = s.dev.regs ∧ s.dev.sameBytes t.dev := by
  refine ⟨_, exec_requestUrgent s hch hpc id, rfl, fun r hr same accepted waited => ?_, fun r hr other => ?_, rfl, Dev.updPc_sameBytes _ _ _ _⟩
  · have bound : r.accepted + 98303 ≤ s.dev.now := by omega
    refine Dev.pc_updPc _ _ _ _ ▸ List.mem_map.2 ⟨r, hr, if_pos (by simp [same, accepted, bound])⟩
  · exact Dev.pc_updPc _ _ _ _ ▸ List.mem_map.2 ⟨r, hr, if_neg (by simp [other])⟩

/-- A refresh that is issued, and one that is postponed. -/
theorem hbmRefresh_interval {bank : Nat} (hbank : bank < 48) (due issue : Bool) (live : s.dev.chLive ch = true) (running : s.dev.get F.MCH_GSTATE_STATE = 0)
    {owed : Nat} {opened : List (Nat × Nat)} (h : mget 8 (((s.dev.chanOf ch).pc pc).interval bank due issue).owed bank = owed ∧
      (((s.dev.chanOf ch).pc pc).interval bank due issue).open_ = opened) : ∃ t, exec (.hbmRefresh ch pc bank due issue) s = .next t ∧ t.pending = s.pending ∧
    mget 8 ((t.dev.chanOf ch).pc pc).owed bank = owed ∧ ((t.dev.chanOf ch).pc pc).open_ = opened ∧ t.dev.regs = s.dev.regs ∧ s.dev.sameBytes t.dev := by
  have pseudo := s.dev.pc_updPc ch pc (·.interval bank due issue)
  exact ⟨_, exec_hbmRefresh_runs s hch hpc hbank due issue live running, rfl, (congrArg (fun p => mget 8 (PseudoCh.owed p) bank) pseudo).trans h.1,
    (congrArg PseudoCh.open_ pseudo).trans h.2, rfl, Dev.updPc_sameBytes _ _ _ _⟩

theorem hbmReadDecode_waits {id : Nat} {r : MchReq} (h : ((s.dev.chanOf ch).pc pc).awaited id = some r)
    (sound : s.dev.mem.poison.contains (r.line + r.got.length / 64) = false) (more : (s.dev.burstTaken r).got.length < 32 * r.bursts) :
    exec (.hbmReadDecode ch pc id { errs := [] }) s = .next (s.withDev (s.dev.updPc ch pc (·.update id (some (s.dev.burstTaken r))))) := by
  rw [exec_hbmReadDecode_clean s hch hpc h sound, if_pos more]

theorem hbmReadDecode_sends {id : Nat} {r : MchReq} (h : ((s.dev.chanOf ch).pc pc).awaited id = some r)
    (sound : s.dev.mem.poison.contains (r.line + r.got.length / 64) = false) (last : 32 * r.bursts ≤ (s.dev.burstTaken r).got.length) (line : r.scrub = false) :
    exec (.hbmReadDecode ch pc id { errs := [] }) s = .next (s.withDev (
      ((s.dev.updPc ch pc (·.update id none)).fillDone (r.line + r.got.length / 64) (s.dev.burstTaken r).got r.bad).settle)) := by
  rw [exec_hbmReadDecode_clean s hch hpc h sound, if_neg (Nat.not_lt.2 last), if_neg (ne_true_of_eq_false line)]

theorem hbmReadDecode_scrubbed {id : Nat} {r : MchReq} (h : ((s.dev.chanOf ch).pc pc).awaited id = some r)
    (sound : s.dev.mem.poison.contains (r.line + r.got.length / 64) = false) (last : 32 * r.bursts ≤ (s.dev.burstTaken r).got.length) (scrub : r.scrub = true) :
    exec (.hbmReadDecode ch pc id { errs := [] }) s = .next (s.withDev (s.dev.scrubbed ch pc (s.dev.burstTaken r))) := by
  rw [exec_hbmReadDecode_clean s hch hpc h sound, if_neg (Nat.not_lt.2 last), if_pos scrub]

theorem commandAddressParity_again {id : Nat} {r : MchReq}
    (h : (((s.dev.chanOf ch).pc pc).bursts ++ ((s.dev.chanOf ch).pc pc).queue).find? (fun r => r.id = id) = some r) :
    (r.parity = 2 → exec (.commandAddressParity ch pc (.request id)) s = .next (s.withDev ((s.dev.updPc ch pc (·.undo r 0)).parityRetrain ch))) ∧
    (r.parity = 0 → exec (.commandAddressParity ch pc (.request id)) s = .next (s.withDev (s.dev.updPc ch pc (·.undo r 1)))) ∧
    (r.parity = 1 → exec (.commandAddressParity ch pc (.request id)) s = .next s) := by
  rw [exec_commandAddressParity_request s hch hpc h]
  refine ⟨fun second => ?_, fun first => ?_, fun known => ?_⟩
  · rw [if_neg (by simp [second]), if_pos second]
  · rw [if_neg (by simp [first]), if_neg (by simp [first])]
  · rw [if_pos known]

theorem commandAddressParity_refresh (bank : Nat) :
    (mget 0 ((s.dev.chanOf ch).pc pc).refs bank = 1 →
      exec (.commandAddressParity ch pc (.refresh bank)) s = .next (s.withDev (s.dev.updPc ch pc (·.refreshUndone bank 2)))) ∧
    (mget 0 ((s.dev.chanOf ch).pc pc).refs bank = 3 →
      exec (.commandAddressParity ch pc (.refresh bank)) s = .next (s.withDev ((s.dev.updPc ch pc (·.refreshUndone bank 0)).parityRetrain ch))) := by
  rw [exec_commandAddressParity_refresh s hch hpc]
  refine ⟨fun first => ?_, fun second => ?_⟩
  · rw [if_pos first]
  · rw [if_neg (by simp [second]), if_pos second]

end

theorem Channel.inService_iff (c : Channel) : c.inService = true ↔ c.why = 1 ∨ c.why = 3 := by simp

section
variable (s : State) {ch : Nat} (hch : ch < 128) (training : s.dev.chanState ch = 1) (source : s.dev.noSource = false)
  (issued : (s.dev.chanOf ch).why = 1 ∨ (s.dev.chanOf ch).why = 3 → ∀ r ∈ (s.dev.chanOf ch).pc0.queue ++ (s.dev.chanOf ch).pc1.queue, r.accepted = 0)
include hch training source issued

theorem channelTrainDone_trained (clean0 : s.dev.erasures ch 0 = []) (clean1 : s.dev.erasures ch 1 = []) :
    ∃ t, exec (.channelTrainDone ch [] [] false false) s = .next t ∧ t.pending = s.pending ∧
      t.dev.chanState ch = (if (s.dev.chanOf ch).why = 2 then 6 else 2) ∧ s.dev.sameBytes t.dev := by
  obtain ⟨spares0, spares1, hexec⟩ := exec_channelTrainDone_trained s hch training source (fun h => issued ((Channel.inService_iff _).1 h)) clean0 clean1
  exact ⟨_, hexec, rfl, (Dev.chGet_setChan _ _ _ _ _).trans (s.dev.channelTrained_state ch spares0 spares1),
    ((s.dev.channelTrained_keeps ch spares0 spares1).setChan _ _).sameBytes⟩

variable (bad0 bad1 : List Nat) {ca silent : Bool} (lost : ca = true ∨ silent = true)
include lost

theorem channelTrainDone_failsInService (service : (s.dev.chanOf ch).why = 1 ∨ (s.dev.chanOf ch).why = 3) :
    exec (.channelTrainDone ch bad0 bad1 ca silent) s = .next (s.withDev (s.dev.channelFails ch ((s.dev.chanOf ch).failReason silent))) := by
  rw [exec_channelTrainDone_fails s hch training source (fun h => issued ((Channel.inService_iff _).1 h)) bad0 bad1 lost, if_pos ((Channel.inService_iff _).2 service)]

theorem channelTrainDone_mappedOut (fresh : (s.dev.chanOf ch).why = 0 ∨ (s.dev.chanOf ch).why = 2) :
    ∃ t, exec (.channelTrainDone ch bad0 bad1 ca silent) s = .next t ∧ t.pending = s.pending ∧ t.dev.chanState ch = 5 ∧
      t.dev.chGet F.MCH_CH_STATE_REASON ch = (s.dev.chanOf ch).failReason silent ∧
      bitOf (t.dev.get F.MCH_MAP_V) ch = (bitOf (s.dev.get F.MCH_MAP_V) ch && decide ((s.dev.chanOf ch).why = 2)) ∧ s.dev.sameBytes t.dev := by
  have unserved : ¬ (s.dev.chanOf ch).inService = true := by
    rw [Channel.inService_iff]
    omega
  have hexec := exec_channelTrainDone_fails s hch training source (fun h => issued ((Channel.inService_iff _).1 h)) bad0 bad1 lost
  rw [if_neg unserved] at hexec
  obtain ⟨state, reason, map⟩ := s.dev.channelMappedOut_shown ch (Channel.failReason_lt (s.dev.chanOf ch) silent) hch
  exact ⟨_, hexec, rfl, state, reason, map, (s.dev.channelMappedOut_keeps ch _).sameBytes⟩

end

section
variable (s : State)

theorem deviceCommand_refusal {i : Instr} {r : Nat} (h : exec i s = .next (s.withDev (s.dev.mchRefuse r)) ∧ r < 256) :
    ∃ t, exec i s = .next t ∧ t.pending = s.pending ∧ t.dev.get F.MCH_GSTATE_REFUSED = 1 ∧ t.dev.get F.MCH_GSTATE_REASON = r ∧
      t.dev = { s.dev with regs := t.dev.regs } ∧ s.dev.onlyFields t.dev [(F.MCH_GSTATE_REFUSED, 0, 0), (F.MCH_GSTATE_REASON, 0, 0)] :=
  ⟨_, h.1, rfl, s.dev.mchRefuse_shown h.2⟩

theorem apply_rests (free : s.dev.noSource = true) : exec .apply s = .next s := by
  rw [exec_apply, if_pos free]

theorem mchApplyDone_ends (done : s.dev.applyOver = true) : let d := s.dev.rebuildSlots
    exec .mchApplyDone s = .next (s.withDev (if s.dev.boot.q8 = 0 then d else d.showService d.withChannels).step9Done) := by
  obtain ⟨-, -, -, boot, -⟩ := s.dev.rebuildSlots_shown
  have hexec := exec_mchApplyDone s
  rw [if_neg (by simp [done]), boot] at hexec
  exact hexec

theorem mchApplyDone_rests (under : s.dev.applyOver = false) : exec .mchApplyDone s = .next s := by
  rw [exec_mchApplyDone, if_pos (by simp [under])]

end

/-- Settles O51: a lemma per command, each from its meaning as one condition over the device and from what the device it makes shows and keeps. -/
theorem hbmChannels : Obligations.HbmChannels := by
  unfold Obligations.HbmChannels
  refine ⟨fun s ch pc can hch hpc => ⟨mchCommandIssue_issues s hch hpc can, mchCommandIssue_rests s hch hpc can⟩,
    fun p r => ⟨p.command_activates r, fun row opened => ⟨p.command_precharges r opened, p.command_column r opened⟩⟩,
    fun s ch pc id hch hpc => requestUrgent_marks s hch hpc id,
    fun s ch pc bank due issue hch hpc hbank => ⟨exec_hbmRefresh_rests s hch hpc hbank due issue, fun live running =>
      ⟨fun h => hbmRefresh_interval s hch hpc hbank due issue live running (PseudoCh.interval_issues _ bank due issue h),
        fun limit h => hbmRefresh_interval s hch hpc hbank due issue live running (PseudoCh.interval_postpones _ bank due issue limit h)⟩⟩,
    fun s ch pc id hch hpc => ⟨exec_hbmReadDecode_none s hch hpc, fun r awaited sound =>
      ⟨hbmReadDecode_waits s hch hpc awaited sound, hbmReadDecode_sends s hch hpc awaited sound, hbmReadDecode_scrubbed s hch hpc awaited sound⟩⟩,
    fun s ch pc hch hpc => ⟨exec_hbmScrub_rests s hch hpc, fun busy a pl unit place => exec_hbmScrub_offers s hch hpc busy unit place⟩,
    fun s ch hch training source issued => ⟨channelTrainDone_trained s hch training source issued, fun bad0 bad1 ca silent lost =>
      ⟨channelTrainDone_failsInService s hch training source issued bad0 bad1 lost, channelTrainDone_mappedOut s hch training source issued bad0 bad1 lost⟩⟩,
    fun s ch v hch => ⟨retrain_live s hch, testEnter_mappedOut s hch, testExit_test s hch, tgStart_test s hch v, channelCommand_refused s hch v, tgStop_stopping s hch v,
      fun rx => ⟨exec_tgDone_rests s hch rx, fun r run => tgDone_ends s hch rx run⟩⟩,
    stop_stops, fun s i r h => deviceCommand_refusal s (deviceCommand_refused s i r h), fun s => ⟨apply_rests s, apply_trains s⟩, fun s => ?_,
    fun s st hst => ⟨exec_hbmTempRead_otherBeat s hst, fun due => ⟨fun r => hbmTempRead_mild s hst due, fun r => hbmTempRead_hot s hst due, hbmTempRead_fails s hst due⟩⟩,
    fun s ch pc id r hch hpc => commandAddressParity_again s hch hpc, fun s ch pc bank hch hpc _ => commandAddressParity_refresh s hch hpc bank,
    fun d ch _ => Dev.parityRetrain_live,
    fun p r n => ⟨p.undo_activate r n, fun row => p.undo_precharge r n, p.undo_column r n⟩⟩
  obtain ⟨slots, hbm, epoch, -, state⟩ := s.dev.rebuildSlots_shown
  exact ⟨mchApplyDone_ends s, mchApplyDone_rests s, slots, slots ▸ s.dev.slotList_nodup, hbm, epoch, state⟩

end Sys2Proof.Machine

namespace Sys2Proof.Machine

/-! # The device at reset (R306, log 11) -/

section
variable {d : Dev}

/-- A register that the map does not list reads its reset value. -/
theorem Dev.reg_blank (h : d.regs = []) (r : Reg) (u i : Nat) : d.reg r u i = r.rst := by
  rw [Dev.reg, h, mget]

/-- LCX and LEX of a quarter that the map does not list are as they stand at reset. -/
theorem Dev.lex_blank (h : d.fab.lex = []) (q : Nat) : d.lex q = {} := by
  rw [Dev.lex, h, mget]

/-- Memories in which nothing is written are in their canonical form. -/
theorem Dev.memoryOk_blank (hbm : d.mem.hbm = []) (scratch : d.mem.scratch = []) (cores : d.cores = []) : d.memoryOk = true := by
  rw [Dev.memoryOk, hbm, scratch, cores]
  rfl

end

theorem Lex.slotOf_blank (e : Nat) : ({} : Lex).slotOf e = none := by
  rw [Lex.slotOf, ite_self]

/-- Settles O6: the maps of registers, memories and factor tables list nothing, and what a map does not list reads as at reset. -/
theorem resetLeavesEveryRegisterAtItsResetValue : Obligations.ResetLeavesEveryRegisterAtItsResetValue :=
  ⟨Dev.reg_blank rfl, rfl, rfl, rfl, Dev.memoryOk_blank rfl rfl rfl, fun q e => (congrArg (·.slotOf e) (Dev.lex_blank rfl q)).trans (Lex.slotOf_blank e)⟩

end Sys2Proof.Machine

namespace Sys2Proof.Machine

/-! # Factor tables (R306 to R309) -/

/-! ## The registers of LCX and LEX (R323) -/

/-- A register of LCX and LEX, one for each quarter. -/
def Reg.ofLex (r : Reg) : Bool :=
  decide (r.info.scope = .quarter) && decide (r.info.stride = 0) && decide (0x2C08000 ≤ r.info.base) && decide (r.info.base < 0x2C08040)

theorem Reg.ofLex_addr {r : Reg} (h : r.ofLex = true) (q i : Nat) : r.addr q i = 0x04000000 * (q + 1) + r.info.base ∧
    0x2C08000 ≤ r.info.base ∧ r.info.base < 0x2C08040 := by
  simp only [Reg.ofLex, Bool.and_eq_true, decide_eq_true_eq] at h
  obtain ⟨⟨⟨scope, stride⟩, low⟩, high⟩ := h
  refine ⟨?_, low, high⟩
  simp [Reg.addr, scope, stride]

/-- Two registers of LCX and LEX. -/
def Fld.apartInLex (f g : Fld) : Bool := f.reg.ofLex && g.reg.ofLex && decide (f.reg.info.base ≠ g.reg.info.base)

section
variable (d : Dev)

theorem Dev.get_put_lexApart {f g : Fld} (h : f.apartInLex g = true) (q v : Nat) : (d.put f q 0 v).get g q = d.get g q := by
  simp only [Fld.apartInLex, Bool.and_eq_true, decide_eq_true_eq] at h
  obtain ⟨⟨hf, hg⟩, bases⟩ := h
  refine d.get_put_addr f g _ _ _ _ v ?_
  rw [(Reg.ofLex_addr hf q 0).1, (Reg.ofLex_addr hg q 0).1]
  omega

/-- An event that asks for no rewind leaves the registers of LCX and LEX. -/
theorem Dev.get_record_lex (e : Ev) (source : Nat) (detail : List (Nat × Nat)) (h4 : e.info.2 ≠ 4) (h5 : e.info.2 ≠ 5) {g : Fld} (hg : g.lo ≤ g.hi)
    (hr : g.reg.ofLex = true) (q : Nat) : (d.record e source detail).get g q = d.get g q := by
  rw [d.record_eq e source detail h4 h5]
  refine (d.recordOnly_frame e source detail).2 g q 0 hg fun x hx => .inl ?_
  obtain ⟨addr, low, high⟩ := Reg.ofLex_addr hr q 0
  have := recordFields_addr x hx
  omega

/-- A device that differs elsewhere than in the fabric holds the same LCX and LEX. -/
theorem Dev.lex_fab {d e : Dev} (h : e.fab = d.fab) (q : Nat) : e.lex q = d.lex q := by rw [Dev.lex, Dev.lex, h]

end

/-- The valid bit of slot E mod 2. -/
def lexSlotValid (e : Nat) : Fld := if e % 2 = 1 then F.LEX_STATUS_SLOT1_VALID else F.LEX_STATUS_SLOT0_VALID

/-- The field that shows the epoch of slot E mod 2. -/
def lexSlotEpoch (e : Nat) : Fld := if e % 2 = 1 then F.LEX_EPOCH_SLOT1 else F.LEX_EPOCH_SLOT0

/-- What holds of both slots' valid bits, or of both their epochs, holds of those of slot E mod 2. -/
theorem lexSlotValid_of {P : Fld → Prop} (h1 : P F.LEX_STATUS_SLOT1_VALID) (h0 : P F.LEX_STATUS_SLOT0_VALID) (e : Nat) : P (lexSlotValid e) := by
  unfold lexSlotValid
  split <;> assumption

theorem lexSlotEpoch_of {P : Fld → Prop} (h1 : P F.LEX_EPOCH_SLOT1) (h0 : P F.LEX_EPOCH_SLOT0) (e : Nat) : P (lexSlotEpoch e) := by
  unfold lexSlotEpoch
  split <;> assumption

/-! ## The table that a block decodes with (R307, R308) -/

section
variable {d : Dev} {q e : Nat}

theorem Dev.epochCheck_empty (empty : (d.lex q).slotOf e = none) : d.epochCheck q e = .inr 0x64 := by
  rw [Dev.epochCheck]
  simp only [empty]

/-- With no load in progress the distance of the epochs decides. -/
theorem Dev.epochCheck_held {t : TableSlot} (idle : d.get F.LEX_STATUS_LOAD_BUSY q = 0) (held : (d.lex q).slotOf e = some t) :
    d.epochCheck q e = if (e + 65536 - t.epoch) % 65536 = 0 then .inl t else if (e + 65536 - t.epoch) % 65536 ≤ 32767 then .inr 0x64 else .inr 0x65 := by
  rw [Dev.epochCheck]
  simp only [held, Dev.flag, idle, ne_eq, not_true_eq_false, decide_false, Bool.false_and, Bool.false_eq_true, if_false]

theorem Dev.epochCheck_distance {t : TableSlot} (idle : d.get F.LEX_STATUS_LOAD_BUSY q = 0) (held : (d.lex q).slotOf e = some t) (he : e < 65536) (ht : t.epoch < 65536) :
    (e = t.epoch → d.epochCheck q e = .inl t) ∧ (e ≠ t.epoch → (e + 65536 - t.epoch) % 65536 ≤ 32767 → d.epochCheck q e = .inr 0x64) ∧
      (32767 < (e + 65536 - t.epoch) % 65536 → d.epochCheck q e = .inr 0x65) := by
  rw [Dev.epochCheck_held idle held]
  refine ⟨fun same => ?_, fun other ahead => ?_, fun behind => ?_⟩
  · rw [if_pos (by omega)]
  · rw [if_neg (by omega), if_pos ahead]
  · rw [if_neg (by omega), if_neg (by omega)]

end

/-! ## A load is asked for, and begins (R307) -/

/-- LCX and LEX of quarter q with a load of epoch E, BASES b, asked for. -/
def Dev.lexAsked (d : Dev) (q e b : Nat) : Lex :=
  { d.lex q with loadEpoch := e % 65536, loadBases := b % 128, loadAddr := d.get F.LEX_LOAD_ADDR_V q, loadRunning := false }

/-- A block queued at LEX names the epoch that the slot to be loaded holds. -/
def Lex.heldQueued (l : Lex) : Bool := l.queued.any (fun e => some e = (l.slotOf l.loadEpoch).map (·.epoch))

theorem Lex.heldQueued_iff (l : Lex) : l.heldQueued = true ↔ ∃ t, l.slotOf l.loadEpoch = some t ∧ t.epoch ∈ l.queued := by
  unfold Lex.heldQueued
  cases l.slotOf l.loadEpoch with
  | none => simp
  | some t => simp

section
variable (s : State) {q : Nat} (hq : q < 4)
include hq

theorem exec_lexLoadCmd_idle (e b : Nat) (idle : s.dev.get F.LEX_STATUS_LOAD_BUSY q = 0) :
    exec (.lexLoadCmd q e b) s = .next (s.withDev ((s.dev.setLex q (s.dev.lexAsked q e b)).put F.LEX_STATUS_LOAD_BUSY q 0 1)) := by
  refine (s.runOn_next _ (decide_eq_true hq)).trans ?_
  rw [if_neg (by simp [Dev.flag, idle])]
  rfl

theorem exec_lexLoadCmd_busy (e b : Nat) (busy : s.dev.get F.LEX_STATUS_LOAD_BUSY q ≠ 0) :
    exec (.lexLoadCmd q e b) s = .next (s.withDev (s.dev.put F.LEX_STATUS_REFUSED q 0 1)) := by
  refine (s.runOn_next _ (decide_eq_true hq)).trans ?_
  rw [if_pos (show s.dev.flag F.LEX_STATUS_LOAD_BUSY q = true from decide_eq_true busy)]

theorem lexLoadCmd_asks (e b : Nat) (idle : s.dev.get F.LEX_STATUS_LOAD_BUSY q = 0) :
    ∃ t, exec (.lexLoadCmd q e b) s = .next t ∧ t.pending = s.pending ∧ t.dev.get F.LEX_STATUS_LOAD_BUSY q = 1 ∧
      (t.dev.lex q).loadEpoch = e % 65536 ∧ (t.dev.lex q).loadBases = b % 128 ∧ (t.dev.lex q).loadAddr = s.dev.get F.LEX_LOAD_ADDR_V q ∧ (t.dev.lex q).loadRunning = false ∧
      (∀ x, (t.dev.lex q).slotOf x = (s.dev.lex q).slotOf x) ∧ s.dev.onlyFields t.dev [(F.LEX_STATUS_LOAD_BUSY, q, 0)] := by
  refine ⟨_, exec_lexLoadCmd_idle s hq e b idle, rfl, Dev.get_put_same _ _ _ _ _ (by decide), ?_⟩
  have asked : ((s.dev.setLex q (s.dev.lexAsked q e b)).put F.LEX_STATUS_LOAD_BUSY q 0 1).lex q = s.dev.lexAsked q e b :=
    (Dev.lex_fab (Dev.put_fab _ _ _ _ _) q).trans (Dev.lex_setLex_same _ _ _)
  simp only [asked]
  exact ⟨rfl, rfl, rfl, rfl, fun _ => rfl, Dev.onlyFields_put (s.dev.setLex q _) _ _ _ _ (by decide)⟩

theorem lexLoadCmd_refused (e b : Nat) (busy : s.dev.get F.LEX_STATUS_LOAD_BUSY q ≠ 0) :
    ∃ t, exec (.lexLoadCmd q e b) s = .next t ∧ t.pending = s.pending ∧ t.dev.get F.LEX_STATUS_REFUSED q = 1 ∧
      t.dev = { s.dev with regs := t.dev.regs } ∧ s.dev.onlyFields t.dev [(F.LEX_STATUS_REFUSED, q, 0)] :=
  ⟨_, exec_lexLoadCmd_busy s hq e b busy, rfl, Dev.get_put_same _ _ _ _ _ (by decide), rfl, Dev.onlyFields_put _ _ _ _ _ (by decide)⟩

variable (hs : s.dev.clk.safe = false)
include hs

theorem exec_lexLoadStart : exec (.lexLoadStart q) s = .next (s.withDev
    (if s.dev.flag F.LEX_STATUS_LOAD_BUSY q && !(s.dev.lex q).heldQueued then s.dev.setLex q { s.dev.lex q with loadRunning := true } else s.dev)) :=
  s.runFab_next _ (decide_eq_true hq) hs

theorem lexLoadStart_begins (busy : s.dev.get F.LEX_STATUS_LOAD_BUSY q ≠ 0)
    (free : ∀ t, (s.dev.lex q).slotOf (s.dev.lex q).loadEpoch = some t → t.epoch ∉ (s.dev.lex q).queued) :
    ∃ u, exec (.lexLoadStart q) s = .next u ∧ u.pending = s.pending ∧ u.dev.lex q = { s.dev.lex q with loadRunning := true } ∧ u.dev.regs = s.dev.regs := by
  have unqueued : (s.dev.lex q).heldQueued = false := by
    rw [← Bool.not_eq_true, Lex.heldQueued_iff]
    exact fun ⟨t, held, queued⟩ => free t held queued
  have hexec := exec_lexLoadStart s hq hs
  rw [if_pos (by simp [Dev.flag, busy, unqueued])] at hexec
  exact ⟨_, hexec, rfl, Dev.lex_setLex_same _ _ _, rfl⟩

theorem lexLoadStart_rests (h : s.dev.get F.LEX_STATUS_LOAD_BUSY q = 0 ∨
    ∃ t, (s.dev.lex q).slotOf (s.dev.lex q).loadEpoch = some t ∧ t.epoch ∈ (s.dev.lex q).queued) : exec (.lexLoadStart q) s = .next s := by
  rw [exec_lexLoadStart s hq hs, if_neg]
  obtain idle | queued := h
  · simp [Dev.flag, idle]
  · simp [(Lex.heldQueued_iff _).2 queued]

end

/-! ## A load ends (R307) -/

/-- The load of l ends at quarter q with a table, or with none. -/
def Dev.lexFilled (d : Dev) (q : Nat) (l : Lex) (t : Option TableSlot) : Dev :=
  ((d.setLex q ({ l with loadRunning := false }.setSlot l.loadEpoch t)).put F.LEX_STATUS_LOAD_BUSY q 0 0).put (lexSlotValid l.loadEpoch) q 0 (b2n t.isSome)

/-- The load of l ends with a table, whose epoch is shown. -/
def Dev.lexHolds (d : Dev) (q : Nat) (l : Lex) (t : TableSlot) : Dev := (d.lexFilled q l (some t)).put (lexSlotEpoch l.loadEpoch) q 0 l.loadEpoch

/-- The load of l fails, and is recorded. -/
def Dev.lexFailed (d : Dev) (q : Nat) (l : Lex) : Dev :=
  ((d.lexFilled q l none).put F.LEX_STATUS_LOAD_ERR q 0 1).record .lexLoadFailed (evSource q 12 0x7F) []

theorem Lex.slotOf_setSlot_next (l : Lex) (e : Nat) (t : Option TableSlot) : (l.setSlot e t).slotOf (e + 1) = l.slotOf (e + 1) := by
  unfold Lex.setSlot Lex.slotOf
  by_cases even : e % 2 = 0
  · rw [if_pos even, if_neg (by omega), if_neg (by omega)]
  · rw [if_neg even, if_pos (by omega), if_pos (by omega)]

section
variable (d : Dev) (q : Nat) (l : Lex) (t : Option TableSlot)

theorem Dev.lex_lexFilled : (d.lexFilled q l t).lex q = { l with loadRunning := false }.setSlot l.loadEpoch t :=
  (Dev.lex_fab rfl q).trans (Dev.lex_setLex_same d q _)

theorem Dev.idle_lexFilled : (d.lexFilled q l t).get F.LEX_STATUS_LOAD_BUSY q = 0 :=
  (Dev.get_put_sameReg _ (lexSlotValid_of (P := fun f => f.beside F.LEX_STATUS_LOAD_BUSY = true) (by decide) (by decide) l.loadEpoch) q 0 _).trans
    (Dev.get_put_same _ _ _ _ _ (by decide))

theorem Dev.lexHolds_shown (t : TableSlot) (he : l.loadEpoch < 65536) : (d.lexHolds q l t).get (lexSlotEpoch l.loadEpoch) q = l.loadEpoch := by
  obtain ⟨fits, width⟩ := lexSlotEpoch_of (P := fun f => f.fits = true ∧ f.hi - f.lo + 1 = 16) (by decide) (by decide) l.loadEpoch
  rw [Dev.lexHolds, Dev.get_put_same _ _ _ _ _ fits, width]
  exact Nat.mod_eq_of_lt he

theorem Dev.idle_lexHolds (t : TableSlot) : (d.lexHolds q l t).get F.LEX_STATUS_LOAD_BUSY q = 0 :=
  (Dev.get_put_lexApart _ (lexSlotEpoch_of (P := fun f => f.apartInLex F.LEX_STATUS_LOAD_BUSY = true) (by decide) (by decide) l.loadEpoch) q _).trans
    (d.idle_lexFilled q l (some t))

theorem Dev.lex_lexHolds (t : TableSlot) : (d.lexHolds q l t).lex q = { l with loadRunning := false }.setSlot l.loadEpoch (some t) :=
  (Dev.lex_fab rfl q).trans (d.lex_lexFilled q l (some t))

theorem Dev.idle_lexFailed : (d.lexFailed q l).get F.LEX_STATUS_LOAD_BUSY q = 0 := by
  rw [Dev.lexFailed, Dev.get_record_lex _ _ _ _ (by decide) (by decide) (by decide) (by decide), Dev.get_put_sameReg _ (by decide), d.idle_lexFilled]

theorem Dev.error_lexFailed : (d.lexFailed q l).get F.LEX_STATUS_LOAD_ERR q = 1 := by
  rw [Dev.lexFailed, Dev.get_record_lex _ _ _ _ (by decide) (by decide) (by decide) (by decide)]
  exact Dev.get_put_same _ _ _ _ _ (by decide)

theorem Dev.lex_lexFailed : (d.lexFailed q l).lex q = { l with loadRunning := false }.setSlot l.loadEpoch none :=
  (Dev.lex_fab (Dev.record_keeps (n := 0) _ _ _ _ (by decide) (by decide)).2 q).trans (d.lex_lexFilled q l none)

end

/-- Where the table of the load asked for lies: a device address (R186, R307). -/
def Dev.lexTableAddr (d : Dev) (q : Nat) : Nat := d.chip * 2 ^ 40 + (d.lex q).loadAddr % 2 ^ 40

/-- The table that a load leaves, from the lines read. -/
def Lex.tableOf (l : Lex) (lines : List (Nat × List Byte)) : TableSlot := { epoch := l.loadEpoch, bases := l.loadBases, values := lines.flatMap lineVals }

section
variable (s : State) {q : Nat} (err : Bool) (hq : q < 4) (hs : s.dev.clk.safe = false)
include hq hs

theorem exec_lexLoadDone_rests (rest : (s.dev.lex q).loadRunning = false) : exec (.lexLoadDone q err) s = .next s := by
  refine (s.runFab_next _ (decide_eq_true hq) hs).trans ?_
  rw [if_pos (by rw [rest]; rfl)]

variable (run : (s.dev.lex q).loadRunning = true) {d : Dev}
include run

theorem exec_lexLoadDone_fetching (fetch : s.dev.freFetch (256 + q) q (s.dev.lexTableAddr q) (256 * (s.dev.lex q).loadBases) = (false, d)) :
    exec (.lexLoadDone q err) s = .next (s.withDev d) := by
  rw [Dev.lexTableAddr] at fetch
  refine (s.runFab_next _ (decide_eq_true hq) hs).trans ?_
  rw [if_neg (by simp [run]), fetch]

variable {r : List (Nat × List Byte) × Dev} (fetch : s.dev.freFetch (256 + q) q (s.dev.lexTableAddr q) (256 * (s.dev.lex q).loadBases) = (true, d))
  (read : d.freLines (256 + q) q (s.dev.lexTableAddr q) (256 * (s.dev.lex q).loadBases) = r)
include fetch read

/-- With its lines here a load ends by what the read of them answers. -/
theorem exec_lexLoadDone_read : exec (.lexLoadDone q err) s = .next (s.withDev (if !err && r.1.all (fun x => x.1 = 0) then
    (r.2.lexHolds q (s.dev.lex q) ((s.dev.lex q).tableOf r.1)).lcxWake q else r.2.lexFailed q (s.dev.lex q))) := by
  rw [Dev.lexTableAddr] at fetch read
  refine (s.runFab_next _ (decide_eq_true hq) hs).trans ?_
  rw [if_neg (by simp [run]), fetch]
  simp only [read]
  cases !err && r.1.all (fun x => x.1 = 0) with
  | false => by_cases odd : (s.dev.lex q).loadEpoch % 2 = 1 <;> simp [Dev.lexFailed, Dev.lexFilled, lexSlotValid, odd]
  | true => by_cases odd : (s.dev.lex q).loadEpoch % 2 = 1 <;> simp [Dev.lexHolds, Dev.lexFilled, lexSlotValid, lexSlotEpoch, Lex.tableOf, odd]

theorem lexLoadDone_holds (good : err = false) (all : ∀ x ∈ r.1, x.1 = 0) : let l := s.dev.lex q
    ∃ e : Dev, exec (.lexLoadDone q err) s = .next (s.withDev (e.lcxWake q)) ∧ e.get F.LEX_STATUS_LOAD_BUSY q = 0 ∧
      (e.lex q).slotOf l.loadEpoch = some (l.tableOf r.1) ∧ (e.lex q).slotOf (l.loadEpoch + 1) = l.slotOf (l.loadEpoch + 1) ∧
      (l.loadEpoch < 65536 → (if l.loadEpoch % 2 = 1 then e.get F.LEX_EPOCH_SLOT1 q else e.get F.LEX_EPOCH_SLOT0 q) = l.loadEpoch) ∧ r.2.sameBytes e := by
  intro l
  have hexec := exec_lexLoadDone_read s err hq hs run fetch read
  rw [if_pos (by simpa [good] using all)] at hexec
  refine ⟨_, hexec, Dev.idle_lexHolds _ q l _, ?_, ?_, fun he => ?_, Dev.sameBytes_of rfl rfl⟩
  · rw [Dev.lex_lexHolds, Lex.slotOf_setSlot_same]
  · rw [Dev.lex_lexHolds, Lex.slotOf_setSlot_next]
    rfl
  · rw [← apply_ite (fun f => Dev.get _ f q)]
    exact Dev.lexHolds_shown _ q l _ he

theorem lexLoadDone_fails (bad : err = true ∨ ∃ x ∈ r.1, x.1 ≠ 0) :
    ∃ t, exec (.lexLoadDone q err) s = .next t ∧ t.pending = s.pending ∧ t.dev.get F.LEX_STATUS_LOAD_BUSY q = 0 ∧
      (t.dev.lex q).slotOf (s.dev.lex q).loadEpoch = none ∧ t.dev.get F.LEX_STATUS_LOAD_ERR q = 1 := by
  have hexec := exec_lexLoadDone_read s err hq hs run fetch read
  rw [if_neg (by simpa [or_iff_not_imp_left] using bad)] at hexec
  refine ⟨_, hexec, rfl, Dev.idle_lexFailed _ q _, ?_, Dev.error_lexFailed _ q _⟩
  rw [Dev.lex_lexFailed, Lex.slotOf_setSlot_same]

end

/-! ## The epoch of LCX advances (R309) -/

/-- The slot of epoch E holds its table. -/
def Lex.holds (l : Lex) (e : Nat) : Bool := (l.slotOf e).any (fun t => t.epoch = e)

theorem Lex.holds_iff (l : Lex) (e : Nat) : l.holds e = true ↔ ∃ t, l.slotOf e = some t ∧ t.epoch = e := by
  simp [Lex.holds, Option.any_eq_true]

section
variable (s : State) {q : Nat} (hq : q < 4)
include hq

theorem lcxEpochNext_asks {nx : Nat} (next : nx % 65536 = (s.dev.get F.LCX_EPOCH_CUR q + 1) % 65536) :
    ∃ t, exec (.lcxEpochNext q nx) s = .next t ∧ t.pending = s.pending ∧ t.dev.get F.LEX_STATUS_ADV_PENDING q = 1 ∧
      t.dev.get F.LCX_EPOCH_NEXT q = nx % 65536 ∧ t.dev.get F.LCX_EPOCH_CUR q = s.dev.get F.LCX_EPOCH_CUR q ∧ t.dev = { s.dev with regs := t.dev.regs } := by
  have hexec : exec (.lcxEpochNext q nx) s = .next (s.withDev ((s.dev.put F.LCX_EPOCH_NEXT q 0 nx).put F.LEX_STATUS_ADV_PENDING q 0 1)) :=
    (s.runOn_next _ (decide_eq_true hq)).trans (by rw [if_pos next])
  refine ⟨_, hexec, rfl, Dev.get_put_same _ _ _ _ _ (by decide), ?_, ?_, rfl⟩
  · exact (Dev.get_put_lexApart _ (by decide) q 1).trans (Dev.get_put_same _ _ _ _ _ (by decide))
  · exact (Dev.get_put_lexApart _ (by decide) q 1).trans (Dev.get_put_sameReg _ (by decide) q 0 nx)

theorem lcxEpochNext_refused {nx : Nat} (other : nx % 65536 ≠ (s.dev.get F.LCX_EPOCH_CUR q + 1) % 65536) :
    ∃ t, exec (.lcxEpochNext q nx) s = .next t ∧ t.pending = s.pending ∧ t.dev.get F.LEX_STATUS_ADV_REFUSED q = 1 ∧
      t.dev = { s.dev with regs := t.dev.regs } ∧ s.dev.onlyFields t.dev [(F.LEX_STATUS_ADV_REFUSED, q, 0)] := by
  have hexec : exec (.lcxEpochNext q nx) s = .next (s.withDev (s.dev.put F.LEX_STATUS_ADV_REFUSED q 0 1)) :=
    (s.runOn_next _ (decide_eq_true hq)).trans (by rw [if_neg other])
  exact ⟨_, hexec, rfl, Dev.get_put_same _ _ _ _ _ (by decide), rfl, Dev.onlyFields_put _ _ _ _ _ (by decide)⟩

variable (hs : s.dev.clk.safe = false) (stalled : Nat)
include hs

/-- The cycles stalled are counted first, and change nothing that the advance depends on. -/
theorem exec_lcxEpochAdvance : let cur := s.dev.get F.LCX_EPOCH_CUR q
    let nxt := (cur + 1) % 65536
    let pending := s.dev.flag F.LEX_STATUS_ADV_PENDING q
    let d := if pending || !(s.dev.lex q).holds cur then s.dev.count F.LCX_STALL_V q 0 stalled else s.dev
    exec (.lcxEpochAdvance q stalled) s = .next (s.withDev (if pending && !s.dev.blockOpen q ((cur + 65535) % 65536) && (s.dev.lex q).holds nxt then
      ((d.put F.LCX_EPOCH_CUR q 0 nxt).put F.LEX_STATUS_ADV_PENDING q 0 0).lcxWake q else d)) := by
  intro cur nxt pending d
  refine (s.runFab_next _ (decide_eq_true hq) hs).trans ?_
  have kept : d.flag F.LEX_STATUS_ADV_PENDING q = pending ∧ d.fab = s.dev.fab := by
    dsimp only [d]
    split
    · exact ⟨congrArg (decide <| · ≠ 0) (Dev.get_put_lexApart _ (by decide) q _), rfl⟩
    · exact ⟨rfl, rfl⟩
  have isOpen (e : Nat) : d.blockOpen q e = s.dev.blockOpen q e := by rw [Dev.blockOpen, kept.2]; rfl
  rw [← kept.1, ← isOpen]
  rfl

theorem lcxEpochAdvance_pending (pending : s.dev.get F.LEX_STATUS_ADV_PENDING q ≠ 0) : let cur := s.dev.get F.LCX_EPOCH_CUR q
    let nxt := (cur + 1) % 65536
    let stall := s.dev.count F.LCX_STALL_V q 0 stalled
    exec (.lcxEpochAdvance q stalled) s = .next (s.withDev (if s.dev.blockOpen q ((cur + 65535) % 65536) = false ∧ (s.dev.lex q).holds nxt = true then
      ((stall.put F.LCX_EPOCH_CUR q 0 nxt).put F.LEX_STATUS_ADV_PENDING q 0 0).lcxWake q else stall)) := by
  intro cur nxt stall
  have asked : s.dev.flag F.LEX_STATUS_ADV_PENDING q = true := decide_eq_true pending
  rw [exec_lcxEpochAdvance s hq hs stalled]
  simp only [asked, Bool.true_or, Bool.true_and, if_true, Bool.and_eq_true, Bool.not_eq_true']
  rfl

theorem lcxEpochAdvance_current (idle : s.dev.get F.LEX_STATUS_ADV_PENDING q = 0) : exec (.lcxEpochAdvance q stalled) s =
    .next (s.withDev (if (s.dev.lex q).holds (s.dev.get F.LCX_EPOCH_CUR q) = true then s.dev else s.dev.count F.LCX_STALL_V q 0 stalled)) := by
  have unasked : s.dev.flag F.LEX_STATUS_ADV_PENDING q = false := decide_eq_false (not_not.2 idle)
  rw [exec_lcxEpochAdvance s hq hs stalled]
  cases (s.dev.lex q).holds (s.dev.get F.LCX_EPOCH_CUR q) <;> simp [unasked]

end

/-- Settles O55: a block decodes by the distance of the epochs, a load that ends fills its slot or empties it, and an advance is one condition over the device. -/
theorem factorTables : Obligations.FactorTables := by
  unfold Obligations.FactorTables
  refine ⟨fun d q e idle => ⟨Dev.epochCheck_empty, fun t held => Dev.epochCheck_distance idle held⟩,
    fun s q e b hq => ⟨lexLoadCmd_asks s hq e b, lexLoadCmd_refused s hq e b⟩,
    fun s q hq hs => ⟨lexLoadStart_begins s hq hs, lexLoadStart_rests s hq hs⟩,
    fun s q err hq hs => ⟨exec_lexLoadDone_rests s err hq hs, fun run d => ⟨exec_lexLoadDone_fetching s err hq hs run,
      fun fetch => ⟨lexLoadDone_holds s err hq hs run fetch rfl, lexLoadDone_fails s err hq hs run fetch rfl⟩⟩⟩,
    fun s q nx hq => ⟨lcxEpochNext_asks s hq, lcxEpochNext_refused s hq⟩,
    fun s q stalled hq hs => ?_⟩
  intro cur nxt holds stall
  have holds_iff (e : Nat) : holds e ↔ (s.dev.lex q).holds e = true := ((s.dev.lex q).holds_iff e).symm
  simp only [holds_iff]
  refine ⟨fun pending closed held => ?_, fun pending waits => ?_, fun idle => ⟨fun held => ?_, fun lost => ?_⟩⟩
  · rw [lcxEpochAdvance_pending s hq hs stalled pending, if_pos ⟨closed, held⟩]
  · rw [lcxEpochAdvance_pending s hq hs stalled pending, if_neg fun ⟨closed, held⟩ => waits.elim (ne_true_of_eq_false closed) (· held)]
  · rw [lcxEpochAdvance_current s hq hs stalled idle, if_pos held]
  · rw [lcxEpochAdvance_current s hq hs stalled idle, if_neg lost]

end Sys2Proof.Machine

/-! # The queue: a step runs its front command, and an operand that names no unit stops it -/

namespace Sys2Proof.Machine

/-- Settles O1: the two cases of `step`. -/
theorem stepRunsTheFrontCommand : Obligations.StepRunsTheFrontCommand :=
  ⟨step_cons, step_nil⟩

/-- A command with an operand that names no unit stops, and any other answers with the queue as it was. -/
theorem exec_cases (i : Instr) (s : State) :
    (i.wf = true ∧ ∃ t, exec i s = .next t ∧ t.pending = s.pending) ∨ (i.wf = false ∧ exec i s = .fault .noSuchUnit) := by
  obtain ⟨f, hf⟩ := exec_runsUnder_wf i
  rcases s.runOn_cases f i.wf with ⟨hwf, h⟩ | ⟨hwf, h⟩
  · exact .inl ⟨hwf, _, (hf s).trans h, rfl⟩
  · exact .inr ⟨hwf, (hf s).trans h⟩

/-- Settles O3: the check that a meaning makes of its operands is `Instr.wf`. -/
theorem illFormedCommandsStop : Obligations.IllFormedCommandsStop := by
  intro i s ill
  rcases exec_cases i s with ⟨hwf, -⟩ | ⟨-, h⟩
  · exact absurd (ill.symm.trans hwf) Bool.false_ne_true
  · exact h

/-- Settles O4: of the outcomes of a command only a next state answers, and it holds the queue that the command was given. -/
theorem stepConsumesTheFront : Obligations.StepConsumesTheFront := by
  intro s t h
  cases hp : s.pending with
  | nil =>
    rw [step_nil s hp] at h
    cases h
    exact hp
  | cons c rest =>
    rw [step_cons s c rest hp] at h
    rcases exec_cases c { s with pending := rest } with ⟨-, u, hu, hq⟩ | ⟨-, hfault⟩
    · cases hu.symm.trans h
      exact hq
    · cases hfault.symm.trans h

end Sys2Proof.Machine

/-! # Register accesses: what a read leaves unchanged, and the status of a read and a write -/

namespace Sys2Proof.Machine

/-- From d to e only registers change, and the halves latched by a read (R5). -/
def Dev.readsTo (d e : Dev) : Prop := ∃ r l, e = { d with regs := r, hl := { d.hl with latch := l } }

theorem Dev.readsTo_refl (d : Dev) : d.readsTo d := ⟨d.regs, d.hl.latch, rfl⟩

theorem Dev.readsTo_trans {d e f : Dev} (h : d.readsTo e) (h' : e.readsTo f) : d.readsTo f := by
  obtain ⟨r, l, rfl⟩ := h
  obtain ⟨r', l', rfl⟩ := h'
  exact ⟨r', l', rfl⟩

theorem Dev.readsTo_putD (d : Dev) (f : Fld) (n : Nat) : d.readsTo (d.putD f n) := ⟨_, d.hl.latch, rfl⟩

theorem Dev.readsTo_clear (d : Dev) (b : Bool) (r : Reg) (u i : Nat) (v : RegVal) : d.readsTo (if b then d.setReg r u i v else d) := by
  split
  · exact ⟨_, d.hl.latch, rfl⟩
  · exact d.readsTo_refl

/-- A read clears a register, latches an upper half, or takes one. -/
theorem Dev.regRead_readsTo (d : Dev) (a : RegAt) (n : Nat) : d.readsTo (d.regRead a n).2 := by
  unfold Dev.regRead
  dsimp only
  have frac : d.readsTo (if (a.reg = .beatNow && a.off = 0) = true then d.putD F.BEAT_FRAC_FRAC d.frac16 else d) := by
    split
    · exact d.readsTo_putD _ _
    · exact d.readsTo_refl
  generalize (if (a.reg = .beatNow && a.off = 0) = true then d.putD F.BEAT_FRAC_FRAC d.frac16 else d) = e at frac ⊢
  have latches (l) : d.readsTo { e with hl := { e.hl with latch := l } } := Dev.readsTo_trans frac ⟨e.regs, l, rfl⟩
  split
  · exact frac
  split
  · split
    · exact latches _
    · exact frac
  split
  · exact Dev.readsTo_trans (latches _) (Dev.readsTo_clear _ _ _ _ _ _)
  · exact Dev.readsTo_trans frac (Dev.readsTo_clear _ _ _ _ _ _)

theorem Dev.csrRead_readsTo (d : Dev) (addr n : Nat) : d.readsTo (d.csrRead addr n).2.2 := by
  unfold Dev.csrRead
  split
  · exact d.readsTo_refl
  split
  · exact d.readsTo_refl
  · next a _ =>
    dsimp only
    split
    · exact Dev.readsTo_trans (d.regRead_readsTo _ _) (Dev.regRead_readsTo _ _ _)
    · exact d.regRead_readsTo _ _

theorem Dev.readsTo_sameBytes {d e : Dev} (h : d.readsTo e) : d.sameBytes e := by
  obtain ⟨r, l, rfl⟩ := h
  exact Dev.sameBytes_of rfl rfl

theorem Dev.readsTo_out {d e : Dev} (h : d.readsTo e) : e.out = d.out := by
  obtain ⟨r, l, rfl⟩ := h
  rfl

/-- How an access of n bytes at an address ends (R439), read or write. -/
def Dev.accessStatus (d : Dev) (addr n : Nat) : CsrStatus :=
  if !csrAligned addr n then .misaligned else if (d.regAt addr).isNone then .unmapped else .ok

theorem Dev.csrRead_status (d : Dev) (addr n : Nat) : (d.csrRead addr n).1 = d.accessStatus addr n := by
  unfold Dev.csrRead Dev.accessStatus
  split
  · rfl
  · cases d.regAt addr with
    | none => rfl
    | some a =>
      dsimp only
      split <;> rfl

theorem Dev.csrWrite_status (d : Dev) (addr n v : Nat) : (d.csrWrite addr n v).1 = d.accessStatus addr n := by
  unfold Dev.csrWrite Dev.accessStatus
  split
  · rfl
  · cases d.regAt addr with
    | none => rfl
    | some a =>
      dsimp only
      split <;> rfl

/-! ### A transaction sent on HauneLink, and a violation -/

theorem Dev.hlSend_out (d : Dev) (h op tag addr reason : Nat) (data : List Byte) :
    (d.hlSend h op tag addr reason data).out = d.out ++ [.hl h op tag addr reason data] := by
  unfold Dev.hlSend
  dsimp only
  rw [show ∀ (e : Dev) (o : Output), (e.emit o).out = e.out ++ [o] from fun _ _ => rfl, Dev.hlPump_sent, Dev.setHlHalf_sent]

theorem Dev.hlSend_sameBytes (d : Dev) (h op tag addr reason : Nat) (data : List Byte) : d.sameBytes (d.hlSend h op tag addr reason data) :=
  Dev.unitsKept_sameBytes (d.hlSend_frame h op tag addr reason data).1

/-- The registers that a companion violation writes. -/
def violFields : List (Fld × Nat × Nat) := [(F.HL_VIOL_V, 0, 0), (F.HL_VIOL_LAST_CODE, 0, 0)]

theorem Dev.hlViolation_keeps (d : Dev) (code : Nat) : d.KeepsBytes (d.hlViolation code) violFields := by
  unfold Dev.hlViolation
  have counted : d.KeepsBytes (d.count F.HL_VIOL_V) violFields := (Dev.KeepsBytes.refl d violFields).put _ _ _ _ (by decide) List.mem_cons_self
  exact (counted.put F.HL_VIOL_LAST_CODE 0 0 code (by decide) (List.mem_cons_of_mem _ List.mem_cons_self)).beside rfl rfl rfl

theorem Dev.hlViolation_out (d : Dev) (code : Nat) : (d.hlViolation code).out = d.out := rfl

/-- A request answered with a NACK: nothing but the violation, where it is one, and the answer. -/
theorem Dev.hlNack_shown {d e : Dev} (h : d.KeepsBytes e violFields) (ho : e.out = d.out) (r : HlHdr) (reason : Nat) :
    d.sameBytes (e.hlNack r reason) ∧ (e.hlNack r reason).out = d.out ++ [.hl r.half 0x23 r.tag r.addr reason []] ∧
      d.onlyFields (e.hlNack r reason) violFields := by
  obtain ⟨kept, hregs⟩ := e.hlSend_frame r.half 0x23 r.tag r.addr reason []
  refine ⟨Dev.sameBytes_of (kept.1.trans h.mem) (kept.2.1.trans h.cores), ?_, Dev.onlyFields_mid h.regs hregs⟩
  rw [← ho]
  exact e.hlSend_out _ _ _ _ _ _

theorem Dev.hlReject_shown (d : Dev) (r : HlHdr) (code reason : Nat) :
    d.sameBytes (d.hlReject r code reason) ∧ (d.hlReject r code reason).out = d.out ++ [.hl r.half 0x23 r.tag r.addr reason []] ∧
      d.onlyFields (d.hlReject r code reason) violFields :=
  Dev.hlNack_shown (d.hlViolation_keeps code) (d.hlViolation_out code) r reason

/-! ## The window (R439) -/

/-- An access that the window refuses is answered NACK, and reaches no register but those of the violation. -/
theorem Dev.windowRefuse_shown {d e : Dev} {r : HlHdr} (h : d.windowRefuse r = some e) :
    ∃ reason, d.sameBytes e ∧ e.out = d.out ++ [.hl r.half 0x23 r.tag r.addr reason []] ∧ d.onlyFields e violFields := by
  unfold Dev.windowRefuse at h
  split at h
  · cases h
    exact ⟨_, d.hlReject_shown r _ _⟩
  split at h
  · cases h
    exact ⟨_, d.hlReject_shown r _ _⟩
  split at h
  · cases h
    exact ⟨_, Dev.hlNack_shown (Dev.KeepsBytes.refl d _) rfl r _⟩
  split at h
  · cases h
    exact ⟨_, d.hlReject_shown r _ _⟩
  · cases h

section
variable (s : State) (r : HlHdr) (hh : r.half < 2)
include hh

theorem exec_csrRd_down (h : s.dev.hlState r.half ≠ 2) : exec (.csrRd r) s = .next s :=
  (s.runOn_next _ (decide_eq_true hh)).trans (by rw [if_pos h])

theorem exec_csrWr_down (v : Nat) (h : s.dev.hlState r.half ≠ 2) : exec (.csrWr r v) s = .next s :=
  (s.runOn_next _ (decide_eq_true hh)).trans (by rw [if_pos h])

theorem exec_csrRd_refused {e : Dev} (h : s.dev.hlState r.half = 2) (hr : s.dev.windowRefuse r = some e) : exec (.csrRd r) s = .next (s.withDev e) :=
  (s.runOn_next _ (decide_eq_true hh)).trans (by rw [if_neg (not_not.2 h), hr])

theorem exec_csrWr_refused (v : Nat) {e : Dev} (h : s.dev.hlState r.half = 2) (hr : s.dev.windowRefuse r = some e) : exec (.csrWr r v) s = .next (s.withDev e) :=
  (s.runOn_next _ (decide_eq_true hh)).trans (by rw [if_neg (not_not.2 h), hr])

theorem exec_csrRd_taken (h : s.dev.hlState r.half = 2) (hr : s.dev.windowRefuse r = none) :
    let x := s.dev.csrRead (s.dev.windowAddr r.addr) r.bytes
    exec (.csrRd r) s = .next (s.withDev ((x.2.2.countUnmapped x.1).hlSend r.half 0x20 r.tag r.addr 0 (slice (leBytes r.bytes x.2.1) 0 64))) :=
  (s.runOn_next _ (decide_eq_true hh)).trans (by rw [if_neg (not_not.2 h), hr])

theorem exec_csrWr_taken (v : Nat) (h : s.dev.hlState r.half = 2) (hr : s.dev.windowRefuse r = none) :
    let x := s.dev.csrWrite (s.dev.windowAddr r.addr) r.bytes v
    exec (.csrWr r v) s = .next (s.withDev ((x.2.countUnmapped x.1).hlSend r.half 0x21 r.tag r.addr 0 [])) :=
  (s.runOn_next _ (decide_eq_true hh)).trans (by rw [if_neg (not_not.2 h), hr])

end

theorem Dev.countUnmapped_shown (d : Dev) (st : CsrStatus) : d.sameBytes (d.countUnmapped st) ∧ (d.countUnmapped st).out = d.out := by
  unfold Dev.countUnmapped
  split
  · exact ⟨Dev.sameBytes_of rfl rfl, rfl⟩
  · exact ⟨fun _ => rfl, rfl⟩

theorem Dev.sameBytes_trans {d e f : Dev} (h : d.sameBytes e) (h' : e.sameBytes f) : d.sameBytes f := fun p => (h' p).trans (h p)

/-- Settles O37: the window's register access, its refusals, and a half that is not UP. -/
theorem windowAccesses : Obligations.WindowAccesses := by
  refine ⟨fun s r hh hs hr => ?_, fun s r v hh hs hr => exec_csrWr_taken s r hh v hs hr, fun s r v hh hs hr => ?_,
    fun s r v hh hs => ⟨exec_csrRd_down s r hh hs, exec_csrWr_down s r hh v hs⟩⟩
  · have read := s.dev.csrRead_readsTo (s.dev.windowAddr r.addr) r.bytes
    obtain ⟨countBytes, countOut⟩ := Dev.countUnmapped_shown (s.dev.csrRead (s.dev.windowAddr r.addr) r.bytes).2.2 (s.dev.csrRead (s.dev.windowAddr r.addr) r.bytes).1
    refine ⟨_, exec_csrRd_taken s r hh hs hr, rfl,
      Dev.sameBytes_trans (Dev.readsTo_sameBytes read) (Dev.sameBytes_trans countBytes (Dev.hlSend_sameBytes _ _ _ _ _ _ _)), ?_⟩
    dsimp only [State.withDev]
    rw [Dev.hlSend_out, countOut, Dev.readsTo_out read]
  · obtain ⟨e, he⟩ := Option.ne_none_iff_exists'.1 hr
    obtain ⟨reason, hb, ho, hf⟩ := Dev.windowRefuse_shown he
    exact ⟨(exec_csrWr_refused s r hh v hs he).trans (exec_csrRd_refused s r hh hs he).symm, _, reason, exec_csrRd_refused s r hh hs he, rfl, hb, ho, hf⟩

/-! ## I3C (R448 to R450) -/

/-- The fields of a dynamic address. -/
def i3cFields : List (Fld × Nat × Nat) := [(F.I3C_STATUS_ASSIGNED, 0, 0), (F.I3C_STATUS_ADDR, 0, 0)]

/-- ASSIGNED and ADDR after both are written. -/
theorem Dev.i3cStatus_written (d : Dev) (n a : Nat) (hn : n < 2) (ha : a < 128) :
    let e := (d.putD F.I3C_STATUS_ASSIGNED n).putD F.I3C_STATUS_ADDR a
    e.get F.I3C_STATUS_ASSIGNED = n ∧ e.get F.I3C_STATUS_ADDR = a ∧ e = { d with regs := e.regs } ∧ d.onlyFields e i3cFields := by
  refine ⟨?_, ?_, rfl, Dev.onlyFields_then (d.onlyFields_putD _ n (by decide)) _ 0 0 a (by decide)⟩
  · rw [Dev.get_putD_beside _ _ (by decide), Dev.get_putD_same _ _ _ (by decide)]
    exact Nat.mod_eq_of_lt hn
  · rw [Dev.get_putD_same _ _ _ (by decide)]
    exact Nat.mod_eq_of_lt ha

section
variable (s : State) (a b : Nat)

theorem exec_setdasa : exec (.setdasa b a) s = .next (s.withDev (if b = s.dev.i3cStatic ∧ s.dev.get F.I3C_STATUS_ASSIGNED = 0 then s.dev.i3cAssign a else s.dev)) := by
  rw [show exec (.setdasa b a) s = .next (s.withDev (if b = s.dev.i3cStatic && !s.dev.i3cAssigned then s.dev.i3cAssign a else s.dev)) from rfl]
  simp [Dev.i3cAssigned, Dev.flag]

theorem exec_entdaa : exec (.entdaa a) s = .next (s.withDev (if s.dev.get F.I3C_STATUS_ASSIGNED = 0 then s.dev.i3cAssign a else s.dev)) := by
  rw [show exec (.entdaa a) s = .next (s.withDev (if s.dev.i3cAssigned then s.dev else s.dev.i3cAssign a)) from rfl]
  by_cases h : s.dev.get F.I3C_STATUS_ASSIGNED = 0 <;> simp [Dev.i3cAssigned, Dev.flag, h]

theorem exec_setnewda : exec (.setnewda a) s = .next (s.withDev (if s.dev.get F.I3C_STATUS_ASSIGNED = 0 then s.dev else s.dev.i3cAssign a)) := by
  rw [show exec (.setnewda a) s = .next (s.withDev (if s.dev.i3cAssigned then s.dev.i3cAssign a else s.dev)) from rfl]
  by_cases h : s.dev.get F.I3C_STATUS_ASSIGNED = 0 <;> simp [Dev.i3cAssigned, Dev.flag, h]

theorem exec_i3cCsrRead : exec (.i3cCsrRead a) s = .next (s.withDev
    ((s.dev.csrRead (a % 2 ^ 32) 4).2.2.i3cPend (leBytes 1 (s.dev.csrRead (a % 2 ^ 32) 4).1.i3c ++ leBytes 4 (s.dev.csrRead (a % 2 ^ 32) 4).2.1))) := rfl

theorem exec_i3cCsrWrite : exec (.i3cCsrWrite a b) s = .next (s.withDev
    ((s.dev.csrWrite (a % 2 ^ 32) 4 b).2.i3cPend (leBytes 1 (s.dev.csrWrite (a % 2 ^ 32) 4 b).1.i3c))) := rfl

/-- The three frames that give the target an address. -/
theorem exec_i3cAssigns (i : Instr) (h : ((i = .setdasa s.dev.i3cStatic a ∨ i = .entdaa a) ∧ s.dev.get F.I3C_STATUS_ASSIGNED = 0) ∨
    (i = .setnewda a ∧ s.dev.get F.I3C_STATUS_ASSIGNED ≠ 0)) : exec i s = .next (s.withDev (s.dev.i3cAssign a)) := by
  obtain ⟨rfl | rfl, h0⟩ | ⟨rfl, h0⟩ := h
  · rw [exec_setdasa, if_pos ⟨rfl, h0⟩]
  · rw [exec_entdaa, if_pos h0]
  · rw [exec_setnewda, if_neg h0]

/-- The frames that leave the address as it is. -/
theorem exec_i3cKeeps : (s.dev.get F.I3C_STATUS_ASSIGNED ≠ 0 → exec (.setdasa b a) s = .next s ∧ exec (.entdaa a) s = .next s) ∧
    (b ≠ s.dev.i3cStatic → exec (.setdasa b a) s = .next s) ∧ (s.dev.get F.I3C_STATUS_ASSIGNED = 0 → exec (.setnewda a) s = .next s) := by
  refine ⟨fun h => ⟨?_, ?_⟩, fun h => ?_, fun h => ?_⟩
  · rw [exec_setdasa, if_neg fun x => h x.2]
  · rw [exec_entdaa, if_neg h]
  · rw [exec_setdasa, if_neg fun x => h x.1]
  · rw [exec_setnewda, if_pos h]

end

/-- Settles O40. -/
theorem i3cAddressesAndAccesses : Obligations.I3cAddressesAndAccesses := by
  refine ⟨fun s => ?_, fun s i a ha h => ?_, fun s a b => exec_i3cKeeps s a b, fun s a v ha hok => ⟨?_, ?_⟩, fun s => rfl, fun s => rfl, fun s e he => ?_,
    fun s => ⟨rfl, rfl, rfl⟩, fun s i n h => ?_⟩
  · obtain ⟨hn, hd, hregs, hf⟩ := s.dev.i3cStatus_written 0 0 (by decide) (by decide)
    exact ⟨_, rfl, rfl, hn, hd, hregs, hf⟩
  · obtain ⟨hn, hd, hregs, hf⟩ := s.dev.i3cStatus_written 1 a (by decide) ha
    exact ⟨_, exec_i3cAssigns s a i h, rfl, hn, hd, hregs, hf⟩
  · have e := exec_i3cCsrRead s a
    rw [Nat.mod_eq_of_lt ha, hok] at e
    exact ⟨_, e, rfl, rfl, Dev.sameBytes_trans (Dev.readsTo_sameBytes (s.dev.csrRead_readsTo a 4)) (Dev.sameBytes_of rfl rfl)⟩
  · have e := exec_i3cCsrWrite s a v
    rw [Nat.mod_eq_of_lt ha, s.dev.csrWrite_status, ← s.dev.csrRead_status, hok] at e
    exact ⟨_, e, rfl, rfl, rfl⟩
  · have set (on : Bool) : s.dev.i3cEvents e on = { s.dev with hl := { s.dev.hl with i3cEvents := on } } := if_pos he
    exact ⟨congrArg (fun d => Host.Outcome.next (s.withDev d)) (set true), congrArg (fun d => Host.Outcome.next (s.withDev d)) (set false)⟩
  · simp only [List.mem_cons, Prod.mk.injEq, List.not_mem_nil, or_false] at h
    obtain ⟨rfl, rfl⟩ | ⟨rfl, rfl⟩ | ⟨rfl, rfl⟩ := h <;> exact ⟨_, leBytes_length _ _, rfl⟩

end Sys2Proof.Machine

/-! # What a port out of service and the debug attach leave unchanged -/

namespace Sys2Proof.Machine

/-- From d to e only registers, the clocks' own state and the ports change. -/
def Dev.portsTo (d e : Dev) : Prop := ∃ r c f, e = { d with regs := r, clk := c, fab := f }

namespace Dev.portsTo
variable {d e f : Dev}

theorem refl (d : Dev) : d.portsTo d := ⟨d.regs, d.clk, d.fab, rfl⟩

theorem trans (h : d.portsTo e) (h' : e.portsTo f) : d.portsTo f := by
  obtain ⟨r, c, b, rfl⟩ := h
  obtain ⟨r', c', b', rfl⟩ := h'
  exact ⟨r', c', b', rfl⟩

theorem setPort (h : d.portsTo e) (n : Nat) (t : Port) : d.portsTo (e.setPort n t) := h.trans ⟨e.regs, e.clk, _, rfl⟩

theorem put (h : d.portsTo e) (x : Fld) (u i n : Nat) : d.portsTo (e.put x u i n) := h.trans ⟨_, e.clk, e.fab, rfl⟩

theorem hl (h : d.portsTo e) : e.hl = d.hl := by
  obtain ⟨r, c, b, rfl⟩ := h
  rfl

end Dev.portsTo

section
variable (d : Dev)

theorem Dev.reselect_portsTo : d.portsTo d.reselect := by
  have put (e : Dev) (h : d.portsTo e) (f : Fld) (n : Nat) : d.portsTo (e.putD f n) := h.put f 0 0 n
  have clk (c : Clock) : d.portsTo { d with clk := c } := ⟨d.regs, c, d.fab, rfl⟩
  unfold Dev.reselect
  split
  · exact .refl d
  dsimp only
  split
  · split
    · exact put _ (clk _) _ _
    split
    · exact .refl d
    · exact ⟨_, _, d.fab, rfl⟩
  · exact clk _

theorem Dev.freeInput_portsTo (q : TxPkt) : d.portsTo (d.freeInput q) := by
  unfold Dev.freeInput
  split
  · split
    · exact (Dev.portsTo.refl d).setPort _ _
    · exact .refl d
  · exact .refl d

theorem Dev.endForwards_portsTo (n : Nat) (ch : Nat → Bool) : d.portsTo (d.endForwards n ch) := by
  unfold Dev.endForwards
  refine Dev.each_inv (P := fun e => d.portsTo e) _ (fun e k he => ?_) _ (.refl d)
  dsimp only
  split
  · exact he
  · exact Dev.each_inv (P := fun x => d.portsTo x) _ (fun x q hx => hx.trans (x.freeInput_portsTo q)) _ (he.setPort k _)

theorem Dev.countRefusal_portsTo (c : Nat) : d.portsTo (d.countRefusal c) := by
  unfold Dev.countRefusal
  split
  · exact (Dev.portsTo.refl d).put _ _ _ _
  split
  · exact (Dev.portsTo.refl d).put _ _ _ _
  · exact .refl d

theorem Dev.sendAnswer_portsTo (p : Packet) : d.portsTo (d.sendAnswer p) := by
  unfold Dev.sendAnswer
  split
  · exact .refl d
  split
  · exact ⟨d.regs, d.clk, _, rfl⟩
  · exact (Dev.portsTo.refl d).setPort _ _
  · exact d.countRefusal_portsTo _

theorem Dev.sendTx_portsTo (q : TxPkt) : d.portsTo (d.sendTx q) := by
  unfold Dev.sendTx
  split
  · exact ⟨d.regs, d.clk, _, rfl⟩
  · exact (Dev.portsTo.refl d).setPort _ _
  · dsimp only
    split
    · exact (d.countRefusal_portsTo _).trans (Dev.sendAnswer_portsTo _ _)
    · exact d.countRefusal_portsTo _

theorem Dev.portCleared_portsTo (n : Nat) (cut unsent : List TxPkt) (lost : List Packet) : d.portsTo (d.portCleared n cut unsent lost) := by
  have start := d.reselect_portsTo.trans (d.reselect.endForwards_portsTo n (fun _ => true))
  have freed := Dev.each_inv (P := fun e => d.portsTo e) _ (fun e q he => he.trans (e.freeInput_portsTo q)) cut start
  have refused := Dev.each_inv (P := fun e => d.portsTo e) _ (fun e p he => he.trans (e.sendAnswer_portsTo (nackOf e p nackLinkDown (nackFinal nackLinkDown)))) lost freed
  exact Dev.each_inv (P := fun e => d.portsTo e) _ (fun e q he => he.trans (e.sendTx_portsTo q)) unsent refused

theorem Dev.portLeave_portsTo (n st : Nat) : d.portsTo (d.portLeave n st) := by
  have closed : d.portsTo (d.portClosed n st) := ⟨_, _, _, rfl⟩
  rw [Dev.portLeave_eq]
  exact closed.trans (Dev.portCleared_portsTo _ n _ _ _)

end

/-! ## JTAG (R447, R452 to R454) -/

/-- A port taken out of service: FAILED ones become DISABLED at once. -/
def Dev.portOff (d : Dev) (n : Nat) : Dev := if d.portState n = 5 then d.setPortState n 0 else d.portLeave n 0

/-- The registers that taking every port out of service may write. -/
def allPortFields : List (Fld × Nat × Nat) := (List.range 16).flatMap stateFields

/-- Two ports have their STATE at different addresses. -/
theorem Fld.apart_state {m n : Nat} (hn : n < 16) (h : m ≠ n) : ∀ x ∈ stateFields n, F.FAB_PORT_STATUS_STATE.apart (m / 4) (m % 4) x := by
  intro x hx
  obtain rfl | hx := List.mem_cons.1 hx
  · have addr (k : Nat) := (Reg.ofPort_addr (r := .fabPortStatus) (by decide) (k / 4) (k % 4)).1
    refine .inl fun he => h ?_
    have same := (addr m).symm.trans (he.trans (addr n))
    omega
  · exact Fld.apart_sideFields m hn (by decide) x hx

theorem Dev.portOff_portsTo (d : Dev) (n : Nat) : d.portsTo (d.portOff n) := by
  unfold Dev.portOff
  split
  · exact (Dev.portsTo.refl d).put _ _ _ _
  · exact d.portLeave_portsTo n 0

/-- Every port of a list taken out of service is DISABLED, and a port already DISABLED stays so. -/
theorem Dev.portsOff (l : List Nat) : ∀ d : Dev, (∀ n ∈ l, n < 16) →
    let e := d.each l Dev.portOff
    d.KeepsBytes e allPortFields ∧ d.portsTo e ∧ ∀ m < 16, m ∈ l ∨ d.portState m = 0 → e.portState m = 0 := by
  induction l with
  | nil => exact fun d _ => ⟨.refl d _, .refl d, fun m _ h => h.resolve_left (List.not_mem_nil)⟩
  | cons n l ih =>
    intro d hl
    have hn := hl n List.mem_cons_self
    obtain ⟨keeps, off⟩ := d.portOff_keeps n hn
    obtain ⟨keeps', ports, rest⟩ := ih (d.portOff n) fun m hm => hl m (List.mem_cons_of_mem _ hm)
    have listed : stateFields n ⊆ allPortFields := fun x hx => List.mem_flatMap.2 ⟨n, List.mem_range.2 hn, hx⟩
    refine ⟨(keeps.mono listed).trans keeps', (d.portOff_portsTo n).trans ports, fun m hm h => rest m hm ?_⟩
    by_cases hmn : m = n
    · exact .inr (hmn ▸ off)
    · refine h.imp (fun h => (List.mem_cons.1 h).resolve_left hmn) fun h => ?_
      exact (keeps.pget (by decide) (Fld.apart_state hn hmn)).trans h

/-- The states of the halves are no register of a port. -/
theorem Fld.apart_allPort {f : Fld} (hf : f.reg = .hlStatus) : ∀ x ∈ allPortFields, f.apart 0 0 x := by
  intro x hx
  obtain ⟨n, hn, hx⟩ := List.mem_flatMap.1 hx
  have hn := List.mem_range.1 hn
  have status : Reg.hlStatus.addr 0 0 = 0x102004 := rfl
  have delay : Reg.beatPortDelay.addr 0 n = 0x200080 + n * 4 := rfl
  refine .inl ?_
  rw [hf, status]
  obtain rfl | hx := List.mem_cons.1 hx
  · have state := (Reg.ofPort_addr (r := .fabPortStatus) (by decide) (n / 4) (n % 4)).1
    dsimp only
    omega
  simp only [sideFields, recordFields, List.mem_cons, List.not_mem_nil, or_false] at hx
  obtain rfl | hx := hx
  · dsimp only
    omega
  · obtain rfl | rfl | rfl | rfl | rfl | rfl | rfl | rfl | rfl := hx <;> decide

theorem Dev.hlDown_down {d : Dev} {h : Nat} (h0 : d.hlState h = 0) : d.hlDown h = d := by
  unfold Dev.hlDown
  rw [if_neg (by omega), if_pos h0]

/-- A boundary test with both halves DOWN: no port is UP, the halves stay DOWN, and memory stands. -/
theorem Dev.takeBalls_shown (d : Dev) (h0 : d.get F.HL_STATUS_STATE0 = 0) (h1 : d.get F.HL_STATUS_STATE1 = 0) :
    d.takeBalls.hl = { d.hl with ballsTaken := true } ∧ d.takeBalls.upPorts = [] ∧ d.takeBalls.get F.HL_STATUS_STATE0 = 0 ∧
      d.takeBalls.get F.HL_STATUS_STATE1 = 0 ∧ d.sameBytes d.takeBalls := by
  let taken : Dev := { d with hl := { d.hl with ballsTaken := true } }
  obtain ⟨keeps, ports, off⟩ := Dev.portsOff (List.range 16) taken fun n hn => List.mem_range.1 hn
  have s0 : (taken.each (List.range 16) Dev.portOff).get F.HL_STATUS_STATE0 = 0 := (keeps.regs _ 0 0 (by decide) (Fld.apart_allPort rfl)).trans h0
  have s1 : (taken.each (List.range 16) Dev.portOff).get F.HL_STATUS_STATE1 = 0 := (keeps.regs _ 0 0 (by decide) (Fld.apart_allPort rfl)).trans h1
  have done : d.takeBalls = taken.each (List.range 16) Dev.portOff := by
    rw [show d.takeBalls = ((taken.each (List.range 16) Dev.portOff).hlDown 0).hlDown 1 from rfl, Dev.hlDown_down (h := 0) s0, Dev.hlDown_down (h := 1) s1]
  rw [done]
  refine ⟨ports.hl, ?_, s0, s1, Dev.sameBytes_of keeps.mem keeps.cores⟩
  refine List.filter_eq_nil_iff.2 fun n hn => ?_
  have state := off n (List.mem_range.1 hn) (.inl hn)
  simp [Dev.portUp, state]

/-- The 128 bytes of an entry leave the boot state but its log, count and chain. -/
theorem Dev.logAppend_boot (d : Dev) (type : Nat) (digest data : List Byte) :
    (d.logAppend type digest data).boot.count = d.boot.count + 1 ∧ (d.logAppend type digest data).hl = d.hl := by
  have words (e : Dev) (f : Fld) (n : Nat) (bs : List Byte) : (e.putWords f n bs).boot = e.boot ∧ (e.putWords f n bs).hl = e.hl :=
    Dev.each_inv (P := fun x => x.boot = e.boot ∧ x.hl = e.hl) (fun d i => d.put f 0 i (leAt bs (4 * i) 4)) (fun x i h => h) (List.range n) ⟨rfl, rfl⟩
  unfold Dev.logAppend
  dsimp only
  exact ⟨by rw [(words _ _ _ _).1]; rfl, by rw [(words _ _ _ _).2]; rfl⟩

section
variable (d : Dev) (code : Nat)

theorem Dev.debugAttach_attached (h : d.hl.attached = true) : d.debugAttach code = d := if_pos h

/-- The first attach before step 4 is kept for START. -/
theorem Dev.debugAttach_early (h : d.hl.attached = false) (hc : d.boot.count = 0) :
    d.debugAttach code = { d with hl := { d.hl with attached := true }, boot := { d.boot with attach := some code } } := by
  unfold Dev.debugAttach
  rw [if_neg (ne_true_of_eq_false h)]
  exact if_pos hc

theorem Dev.debugAttach_logged (h : d.hl.attached = false) (hc : d.boot.count ≠ 0) :
    (d.debugAttach code).boot.count = d.boot.count + 1 ∧ (d.debugAttach code).hl = { d.hl with attached := true } := by
  have logged : d.debugAttach code = ({ d with hl := { d.hl with attached := true } } : Dev).logAppend 0x20 [] (leBytes 1 code) := by
    unfold Dev.debugAttach
    rw [if_neg (ne_true_of_eq_false h)]
    exact if_neg hc
  rw [logged]
  exact Dev.logAppend_boot _ _ _ _

end

/-- The device with the wrapper of the channel in JTAG_CTL reached, where that is mapped out or in test (R454). -/
def Dev.wrapperReached (d : Dev) : Dev :=
  let ch := d.get F.JTAG_CTL_CHANNEL
  if d.chanState ch = 5 || d.chanState ch = 6 then d.emit (.wrapper ch) else d

theorem Dev.wrapperReached_eq (d : Dev) : ∃ o, d.wrapperReached = { d with out := o } := by
  unfold Dev.wrapperReached
  dsimp only
  split
  · exact ⟨_, rfl⟩
  · exact ⟨d.out, rfl⟩

section
variable (s : State)

theorem exec_csrAccess : exec .csrAccess s = .next (s.withDev (((s.dev.jtagSelect 0x20).debugAttach 0x20).emit (.jtag 72 s.dev.jtagCapture))) := rfl

theorem exec_hbm1500 : exec .hbm1500 s = .next (s.withDev ((s.dev.jtagSelect 0x21).debugAttach 0x21).wrapperReached) := rfl

/-- The three boundary tests. -/
theorem exec_boundaryTest (i : Instr) (code : Nat) (h : (i, code) ∈ [(Instr.extest, 3), (.clamp, 4), (.highz, 5)]) :
    exec i s = .next (s.withDev (s.dev.jtagSelect code).takeBalls) := by
  simp only [List.mem_cons, Prod.mk.injEq, List.not_mem_nil, or_false] at h
  obtain ⟨rfl, rfl⟩ | ⟨rfl, rfl⟩ | ⟨rfl, rfl⟩ := h <;> rfl

theorem exec_jtagCsrGo_other (w : Bool) (a v : Nat) (h : s.dev.hl.ir ≠ 0x20) : exec (.jtagCsrGo w a v) s = .next s :=
  congrArg (fun d => Host.Outcome.next (s.withDev d)) (if_pos h)

theorem exec_jtagCsrGo_read (a v : Nat) (h : s.dev.hl.ir = 0x20) :
    let x := s.dev.csrRead (a % 2 ^ 32) 4
    exec (.jtagCsrGo false a v) s =
      .next (s.withDev { x.2.2 with hl := { x.2.2.hl with jtagDone := true, jtagErr := decide (x.1 ≠ .ok), jtagData := x.2.1 } }) :=
  congrArg (fun d => Host.Outcome.next (s.withDev d)) (if_neg (not_not.2 h))

theorem exec_jtagCsrGo_write (a v : Nat) (h : s.dev.hl.ir = 0x20) :
    let x := s.dev.csrWrite (a % 2 ^ 32) 4 (v % 2 ^ 32)
    exec (.jtagCsrGo true a v) s =
      .next (s.withDev { x.2 with hl := { x.2.hl with jtagDone := true, jtagErr := decide (x.1 ≠ .ok), jtagData := 0 } }) :=
  congrArg (fun d => Host.Outcome.next (s.withDev d)) (if_neg (not_not.2 h))

end

/-- Settles O41: the instructions one by one, the boundary tests, the debug attach, and the access at Update-DR. -/
theorem jtagInstructions : Obligations.JtagInstructions := by
  refine ⟨fun s => ⟨rfl, rfl, rfl⟩, fun s i code hi h0 h1 => ?_, fun s ha => ⟨?_, ?_⟩, fun s ha hc => ⟨?_, ?_⟩, fun s ha hc => ⟨?_, ?_⟩,
    fun s w a v h => exec_jtagCsrGo_other s w a v h, fun s a v hi ha hv hok => ⟨?_, ?_⟩⟩
  · obtain ⟨hl, up, s0, s1, bytes⟩ := (s.dev.jtagSelect code).takeBalls_shown h0 h1
    exact ⟨_, exec_boundaryTest s i code hi, rfl, by rw [hl]; rfl, by rw [hl], up, s0, s1, bytes⟩
  · rw [exec_csrAccess, (s.dev.jtagSelect 0x20).debugAttach_attached _ ha]
    rfl
  · rw [exec_hbm1500, (s.dev.jtagSelect 0x21).debugAttach_attached _ ha]
    simp only [Dev.wrapperReached, Bool.or_eq_true, decide_eq_true_eq]
    rfl
  · refine ⟨_, exec_csrAccess s, rfl, ?_⟩
    dsimp only [State.withDev]
    rw [(s.dev.jtagSelect 0x20).debugAttach_early _ ha hc]
    exact ⟨rfl, rfl, rfl, rfl⟩
  · obtain ⟨o, ho⟩ := ((s.dev.jtagSelect 0x21).debugAttach 0x21).wrapperReached_eq
    refine ⟨_, exec_hbm1500 s, rfl, ?_⟩
    dsimp only [State.withDev]
    rw [ho, (s.dev.jtagSelect 0x21).debugAttach_early _ ha hc]
    exact ⟨rfl, rfl, rfl, rfl⟩
  · obtain ⟨count, hl⟩ := (s.dev.jtagSelect 0x20).debugAttach_logged 0x20 ha hc
    exact ⟨_, exec_csrAccess s, rfl, by rw [Dev.emit_hl, hl]; rfl, by rw [Dev.emit_hl, hl], count⟩
  · obtain ⟨count, hl⟩ := (s.dev.jtagSelect 0x21).debugAttach_logged 0x21 ha hc
    obtain ⟨o, ho⟩ := ((s.dev.jtagSelect 0x21).debugAttach 0x21).wrapperReached_eq
    refine ⟨_, exec_hbm1500 s, rfl, ?_⟩
    dsimp only [State.withDev]
    rw [ho]
    exact ⟨by rw [hl]; rfl, by rw [hl], count⟩
  · have e := exec_jtagCsrGo_read s a v hi
    rw [Nat.mod_eq_of_lt ha] at e
    refine ⟨_, e, rfl, rfl, decide_eq_false (not_not.2 hok), rfl, ?_⟩
    exact Dev.sameBytes_trans (Dev.readsTo_sameBytes (s.dev.csrRead_readsTo a 4)) (Dev.sameBytes_of rfl rfl)
  · have e := exec_jtagCsrGo_write s a v hi
    rw [Nat.mod_eq_of_lt ha, Nat.mod_eq_of_lt hv] at e
    refine ⟨_, e, rfl, rfl, rfl, decide_eq_false (not_not.2 ?_)⟩
    rw [s.dev.csrWrite_status, ← s.dev.csrRead_status]
    exact hok

end Sys2Proof.Machine

/-! # The start, stage 2, resets, damped mode, the log and the quote (chapter 17) -/

namespace Sys2Proof.Machine

/-- A write of the device-wide field f leaves the device-wide field g. -/
def Fld.spares (f g : Fld) : Bool :=
  f.fits && decide (g.lo ≤ g.hi) && (decide (g.reg.addr 0 0 ≠ f.reg.addr 0 0) || (decide (g.reg = f.reg) && decide (f.hi < g.lo ∨ g.hi < f.lo)))

theorem Dev.get_putD_spared (d : Dev) {f g : Fld} (n : Nat) (h : f.spares g = true) : (d.putD f n).get g = d.get g := by
  simp only [Fld.spares, Bool.and_eq_true, Bool.or_eq_true, decide_eq_true_eq] at h
  obtain ⟨⟨hf, hg⟩, ha | ⟨hr, hb⟩⟩ := h
  · exact d.get_putD_addr f g 0 0 n ha
  · exact d.get_putD_field f g n hr hf hg hb

/-- A write of a value that fits the field. -/
theorem Dev.get_putD_fits (d : Dev) {f : Fld} {n : Nat} (hf : f.fits = true) (hn : n < 2 ^ (f.hi - f.lo + 1)) : (d.putD f n).get f = n :=
  (d.get_putD_same f n hf).trans (Nat.mod_eq_of_lt hn)

theorem Dev.get_withBoot (d : Dev) (b : Boot) (f : Fld) (u i : Nat) : ({ d with boot := b } : Dev).get f u i = d.get f u i := rfl

theorem Dev.get_setStep (d : Dev) (n : Nat) (f : Fld) (u i : Nat) : (d.setStep n).get f u i = d.get f u i := rfl

/-! ## Steps 1 and 2 (R458, R462, R463) -/

section
variable (d : Dev)

/-- Damped mode begins: the fields that show it. -/
theorem Dev.enterDamped_shown {reason : Nat} (hr : reason < 256) :
    (d.enterDamped reason).boot.step = 16 ∧ (d.enterDamped reason).get F.BOOT_STATUS_DAMPED = 1 ∧ (d.enterDamped reason).get F.BOOT_STATUS_REASON = reason := by
  unfold Dev.enterDamped
  refine ⟨rfl, ?_, ?_⟩
  · rw [Dev.get_setStep, Dev.get_withBoot, Dev.get_putD_spared _ _ (by decide), Dev.get_putD_spared _ _ (by decide), Dev.get_putD_fits _ (by decide) (by decide)]
  · rw [Dev.get_setStep, Dev.get_withBoot, Dev.get_putD_spared _ _ (by decide), Dev.get_putD_fits _ (by decide) hr]

/-- The belfry that claims the start. -/
def Dev.claimed (d : Dev) (l a : Nat) : Dev := { d with boot := { d.boot with latch := l } }.putD F.BOOT_STATUS_ACTIVE a

/-- The start counter is raised (R462). -/
def Dev.counted (d : Dev) : Dev :=
  let c := d.boot.flash.value
  let w := min 255 (c + 1)
  ((d.updFlash fun f => f.append w).putD F.BOOT_COUNT_READ c).putD F.BOOT_COUNT_WRITTEN w

theorem Dev.step2_unreadable (h : d.boot.flash.readable = false) : d.step2 = d.enterDamped 0x02 := by
  unfold Dev.step2
  rw [h]
  rfl

theorem Dev.step2_readable (h : d.boot.flash.readable = true) : d.step2 =
    if 3 ≤ d.boot.flash.value then d.counted.enterDamped (if d.boot.asked then 0x0C else 0x0B) else (d.counted.putD F.BOOT_STATUS_STAGE 1).setStep 3 := by
  unfold Dev.step2
  rw [h]
  rfl

theorem Flash.append_value {f : Flash} (h : f.readable = true) (v : Nat) : (f.append v).value = v := by
  unfold Flash.append
  rw [if_neg (by simp [h])]
  dsimp only
  split <;> rfl

/-- What step 2 leaves: the belfry, the clock sources and memory. -/
structure Dev.startKept (d e : Dev) : Prop where
  latch : e.boot.latch = d.boot.latch
  active : e.get F.BOOT_STATUS_ACTIVE = d.get F.BOOT_STATUS_ACTIVE
  qualified : e.qualified = d.qualified
  mem : e.mem = d.mem
  cores : e.cores = d.cores

theorem Dev.qualified_congr {d e : Dev} (hx : e.get F.BEAT_CLK_STATUS_XTAL_QUAL = d.get F.BEAT_CLK_STATUS_XTAL_QUAL)
    (hc : e.get F.BEAT_CLK_STATUS_CREC_QUAL = d.get F.BEAT_CLK_STATUS_CREC_QUAL) : e.qualified = d.qualified := by
  unfold Dev.qualified Dev.flag ClkSrc.qual
  rw [hx, hc]

namespace Dev.startKept
variable {d e f : Dev}

theorem refl (d : Dev) : d.startKept d := ⟨rfl, rfl, rfl, rfl, rfl⟩

theorem trans (h : d.startKept e) (h' : e.startKept f) : d.startKept f :=
  ⟨h'.latch.trans h.latch, h'.active.trans h.active, h'.qualified.trans h.qualified, h'.mem.trans h.mem, h'.cores.trans h.cores⟩

theorem putD (h : d.startKept e) (f : Fld) (n : Nat) (ha : f.spares F.BOOT_STATUS_ACTIVE = true) (hx : f.spares F.BEAT_CLK_STATUS_XTAL_QUAL = true)
    (hc : f.spares F.BEAT_CLK_STATUS_CREC_QUAL = true) : d.startKept (e.putD f n) :=
  h.trans ⟨rfl, e.get_putD_spared n ha, Dev.qualified_congr (e.get_putD_spared n hx) (e.get_putD_spared n hc), rfl, rfl⟩

theorem setStep (h : d.startKept e) (n : Nat) : d.startKept (e.setStep n) := h.trans ⟨rfl, rfl, rfl, rfl, rfl⟩

theorem enterDamped (h : d.startKept e) (reason : Nat) : d.startKept (e.enterDamped reason) := by
  have shown := ((h.putD F.BOOT_STATUS_DAMPED 1 (by decide) (by decide) (by decide)).putD F.BOOT_STATUS_REASON reason (by decide) (by decide) (by decide)).putD
    F.BOOT_STATUS_STAGE 1 (by decide) (by decide) (by decide)
  exact shown.trans ⟨rfl, rfl, rfl, rfl, rfl⟩

theorem counted (d : Dev) : d.startKept d.counted := by
  have written : d.startKept (d.updFlash fun f => f.append (min 255 (d.boot.flash.value + 1))) := ⟨rfl, rfl, rfl, rfl, rfl⟩
  exact (written.putD F.BOOT_COUNT_READ _ (by decide) (by decide) (by decide)).putD F.BOOT_COUNT_WRITTEN _ (by decide) (by decide) (by decide)

end Dev.startKept

theorem Dev.step2_kept : d.startKept d.step2 := by
  cases hr : d.boot.flash.readable with
  | false =>
    rw [d.step2_unreadable hr]
    exact (Dev.startKept.refl d).enterDamped _
  | true =>
    rw [d.step2_readable hr]
    split
    · exact (Dev.startKept.counted d).enterDamped _
    · exact ((Dev.startKept.counted d).putD F.BOOT_STATUS_STAGE 1 (by decide) (by decide) (by decide)).setStep 3

/-- Step 2 goes on to step 3, the counter raised. -/
theorem Dev.step2_starts (h : d.boot.flash.readable = true) (hv : d.boot.flash.value < 3) :
    d.step2.boot.step = 3 ∧ d.step2.get F.BOOT_COUNT_READ = d.boot.flash.value ∧ d.step2.get F.BOOT_COUNT_WRITTEN = d.boot.flash.value + 1 ∧
      d.step2.boot.flash.value = d.boot.flash.value + 1 ∧ d.step2.get F.BOOT_STATUS_STAGE = 1 := by
  have w : min 255 (d.boot.flash.value + 1) = d.boot.flash.value + 1 := by omega
  rw [d.step2_readable h, if_neg (by omega)]
  refine ⟨rfl, ?_, ?_, ?_, ?_⟩
  · rw [Dev.get_setStep, Dev.get_putD_spared _ _ (by decide)]
    unfold Dev.counted
    rw [Dev.get_putD_spared _ _ (by decide), Dev.get_putD_fits _ (by decide) (by change d.boot.flash.value < 256; omega)]
  · rw [Dev.get_setStep, Dev.get_putD_spared _ _ (by decide)]
    unfold Dev.counted
    dsimp only
    rw [w, Dev.get_putD_fits _ (by decide) (by change d.boot.flash.value + 1 < 256; omega)]
  · exact (Flash.append_value h _).trans w
  · rw [Dev.get_setStep, Dev.get_putD_fits _ (by decide) (by decide)]

theorem Dev.step2_damped (h : d.boot.flash.readable = true) (hv : 3 ≤ d.boot.flash.value) :
    d.step2.boot.step = 16 ∧ d.step2.get F.BOOT_STATUS_DAMPED = 1 ∧ d.step2.get F.BOOT_STATUS_REASON = if d.boot.asked then 0x0C else 0x0B := by
  rw [d.step2_readable h, if_pos hv]
  exact d.counted.enterDamped_shown (by split <;> decide)

theorem Dev.step2_flashLost (h : d.boot.flash.readable = false) :
    d.step2.boot.step = 16 ∧ d.step2.get F.BOOT_STATUS_DAMPED = 1 ∧ d.step2.get F.BOOT_STATUS_REASON = 0x02 ∧ d.step2.boot.flash = d.boot.flash := by
  rw [d.step2_unreadable h]
  obtain ⟨step, damped, reason⟩ := d.enterDamped_shown (reason := 0x02) (by decide)
  exact ⟨step, damped, reason, rfl⟩

/-- A start that finds no qualified source waits (R463). -/
theorem Dev.clockPump_waits (h : d.qualified = none) : d.clockPump = d := by
  unfold Dev.clockPump
  rw [h]

theorem Dev.claimed_active (l : Nat) {a : Nat} (ha : a < 2) : (d.claimed l a).get F.BOOT_STATUS_ACTIVE = a := Dev.get_putD_fits _ (by decide) ha

theorem Dev.claimed_qualified (l a : Nat) : (d.claimed l a).qualified = d.qualified :=
  Dev.qualified_congr (Dev.get_putD_spared _ a (by decide)) (Dev.get_putD_spared _ a (by decide))

end

section
variable (s : State)

theorem exec_checkpoint : exec .checkpoint s = .next (s.withDev (if s.dev.boot.step = 1 && s.dev.boot.latch = 0 && s.dev.boot.env.rom0 then
    ((s.dev.claimed 1 0).step2).clockPump else s.dev)) := rfl

theorem exec_latchSample : exec .latchSample s = .next (s.withDev (if s.dev.boot.step = 1 && s.dev.boot.latch = 0 then
    (if (s.dev.claimed 2 1).boot.env.rom1 then ((s.dev.claimed 2 1).step2).clockPump else (s.dev.claimed 2 1).startFail 1 0x01) else s.dev)) := rfl

/-- Either belfry claims an empty latch. -/
theorem exec_claim {i : Instr} {l a : Nat} (h : (i, l, a) ∈ [(Instr.checkpoint, 1, 0), (.latchSample, 2, 1)]) :
    (s.dev.boot.step = 1 → s.dev.boot.latch = 0 → s.dev.boot.env.rom0 = true → s.dev.boot.env.rom1 = true → s.dev.qualified = none →
      exec i s = .next (s.withDev (s.dev.claimed l a).step2)) ∧
    (s.dev.boot.step ≠ 1 ∨ s.dev.boot.latch ≠ 0 → exec i s = .next s) := by
  have waits (hq : s.dev.qualified = none) : (s.dev.claimed l a).step2.clockPump = (s.dev.claimed l a).step2 :=
    Dev.clockPump_waits _ ((Dev.step2_kept _).qualified.trans ((s.dev.claimed_qualified l a).trans hq))
  simp only [List.mem_cons, Prod.mk.injEq, List.not_mem_nil, or_false] at h
  obtain ⟨rfl, rfl, rfl⟩ | ⟨rfl, rfl, rfl⟩ := h
  · refine ⟨fun h1 h0 r0 r1 hq => ?_, fun h => ?_⟩
    · rw [exec_checkpoint, if_pos (by simp [h1, h0, r0]), waits hq]
    · rw [exec_checkpoint, if_neg]
      rcases h with h | h <;> simp [h]
  · refine ⟨fun h1 h0 r0 r1 hq => ?_, fun h => ?_⟩
    · rw [exec_latchSample, if_pos (by simp [h1, h0]), if_pos (show (s.dev.claimed 2 1).boot.env.rom1 = true from r1), waits hq]
    · rw [exec_latchSample, if_neg]
      rcases h with h | h <;> simp [h]

/-- The start claimed by a belfry. -/
theorem startClaimed {i : Instr} {l a : Nat} (h : (i, l, a) ∈ [(Instr.checkpoint, 1, 0), (.latchSample, 2, 1)]) (h1 : s.dev.boot.step = 1) (h0 : s.dev.boot.latch = 0)
    (r0 : s.dev.boot.env.rom0 = true) (r1 : s.dev.boot.env.rom1 = true) (hq : s.dev.qualified = none) :
    ∃ t, exec i s = .next t ∧ t.pending = s.pending ∧ t.dev.boot.latch = l ∧ t.dev.get F.BOOT_STATUS_ACTIVE = a ∧ s.dev.sameBytes t.dev ∧
      (s.dev.boot.flash.readable = true → s.dev.boot.flash.value < 3 → t.dev.boot.step = 3 ∧ t.dev.get F.BOOT_COUNT_READ = s.dev.boot.flash.value ∧
        t.dev.get F.BOOT_COUNT_WRITTEN = s.dev.boot.flash.value + 1 ∧ t.dev.boot.flash.value = s.dev.boot.flash.value + 1 ∧ t.dev.get F.BOOT_STATUS_STAGE = 1) ∧
      (s.dev.boot.flash.readable = true → 3 ≤ s.dev.boot.flash.value → t.dev.boot.step = 16 ∧ t.dev.get F.BOOT_STATUS_DAMPED = 1 ∧
        t.dev.get F.BOOT_STATUS_REASON = if s.dev.boot.asked then 0x0C else 0x0B) ∧
      (s.dev.boot.flash.readable = false → t.dev.boot.step = 16 ∧ t.dev.get F.BOOT_STATUS_DAMPED = 1 ∧ t.dev.get F.BOOT_STATUS_REASON = 0x02 ∧
        t.dev.boot.flash = s.dev.boot.flash) := by
  have kept := (s.dev.claimed l a).step2_kept
  have ha : a < 2 := by
    simp only [List.mem_cons, Prod.mk.injEq, List.not_mem_nil, or_false] at h
    omega
  exact ⟨_, (exec_claim s h).1 h1 h0 r0 r1 hq, rfl, kept.latch, kept.active.trans (s.dev.claimed_active l ha), Dev.sameBytes_of kept.mem kept.cores,
    Dev.step2_starts (s.dev.claimed l a), Dev.step2_damped (s.dev.claimed l a), Dev.step2_flashLost (s.dev.claimed l a)⟩

end

/-! ## A start that fails, and resets (R464, R479, R495) -/

theorem stepReason_lt (step : Nat) : stepReason step < 16 := by
  unfold stepReason
  rw [List.getD_eq_getElem?_getD]
  by_cases h : step < 14
  · interval_cases step <;> decide
  · rw [List.getElem?_eq_none (by simpa using h)]
    decide

/-- The registers that a failed start shows. -/
def failFields : List (Fld × Nat × Nat) := [(F.BOOT_STATUS_STAGE, 0, 0), (F.BOOT_STATUS_REASON, 0, 0)]

theorem Dev.startFail_shown (d : Dev) (step : Nat) {reason : Nat} (hr : reason < 256) :
    (d.startFail step reason).boot.step = 15 ∧ (d.startFail step reason).get F.BOOT_STATUS_STAGE = 7 ∧ (d.startFail step reason).get F.BOOT_STATUS_REASON = reason ∧
      (d.startFail step reason).boot.flash.failSeq = (d.boot.flash.failSeq + 1) % 2 ^ 32 ∧ d.KeepsBytes (d.startFail step reason) failFields := by
  have shown : (d.startFail step reason).regs = ((d.putD F.BOOT_STATUS_STAGE 7).putD F.BOOT_STATUS_REASON reason).regs := rfl
  have keeps := ((Dev.KeepsBytes.refl d failFields).put F.BOOT_STATUS_STAGE 0 0 7 (by decide) (by simp [failFields])).put F.BOOT_STATUS_REASON 0 0 reason (by decide)
    (by simp [failFields])
  refine ⟨rfl, ?_, ?_, rfl, keeps.beside rfl rfl shown⟩
  · rw [Dev.get_regs shown, Dev.get_putD_spared _ _ (by decide), Dev.get_putD_fits _ (by decide) (by decide)]
  · rw [Dev.get_regs shown, Dev.get_putD_fits _ (by decide) hr]

section
variable (s : State)

theorem exec_startStepTimeout (step : Nat) : exec (.startStepTimeout step) s =
    .next (s.withDev (if s.dev.stepInHand step then s.dev.startFail step (stepReason step) else s.dev)) := rfl

theorem exec_startFailReset : exec .startFailReset s = .next (s.withDev (if s.dev.boot.step = stFailed then s.dev.afterReset else s.dev)) := rfl

theorem exec_clearReset : exec .clearReset s =
    .next (s.withDev (if s.dev.dampedAccepts 7 then (s.dev.updFlash fun f => f.append 0).afterReset else s.dev.bootRefuse)) := rfl

/-- The commands and events of a reset, each with the flash that it leaves, whether the next start was asked to be damped, and what is sent. -/
theorem exec_reset {i : Instr} {f : Flash} (h : (i = .startFailReset ∧ s.dev.boot.step = 15 ∧ f = s.dev.boot.flash) ∨ (i = .bootReset ∧ f = s.dev.boot.flash) ∨
      (i = .enterDamped ∧ f = s.dev.boot.flash.append 3) ∨ (i = .clearReset ∧ s.dev.dampedAccepts 7 = true ∧ f = s.dev.boot.flash.append 0) ∨
      (i = .resetNAssert none ∧ f = s.dev.boot.flash) ∨ i = .resetNAssert (some f) ∨ (i = .railFault ∧ f = s.dev.boot.flash)) :
    ∃ t, exec i s = .next t ∧ t.pending = s.pending ∧ (∀ (r : Reg) (u k : Nat), t.dev.reg r u k = r.rst) ∧ t.dev.boot.flash = f ∧ t.dev.boot.step = 0 ∧ t.dev.cores = [] ∧
      t.dev.mem.hbm = [] ∧ t.dev.mem.scratch = [] ∧ (i = .enterDamped → t.dev.boot.asked = true) ∧ (i = .railFault → t.dev.boot.asked = false) ∧
      (i = .resetNAssert none ∨ i = .railFault → t.dev.out = s.dev.out ++ [.regulator 0]) := by
  obtain ⟨rfl, hs, rfl⟩ | ⟨rfl, rfl⟩ | ⟨rfl, rfl⟩ | ⟨rfl, ha, rfl⟩ | ⟨rfl, rfl⟩ | rfl | ⟨rfl, rfl⟩ := h
  · exact ⟨s.withDev s.dev.afterReset, by rw [exec_startFailReset, if_pos (show s.dev.boot.step = stFailed from hs)], rfl, fun _ _ _ => rfl, rfl, rfl, rfl, rfl, rfl, by simp, by simp, by simp⟩
  · exact ⟨_, rfl, rfl, fun _ _ _ => rfl, rfl, rfl, rfl, rfl, rfl, by simp, by simp, by simp⟩
  · exact ⟨_, rfl, rfl, fun _ _ _ => rfl, rfl, rfl, rfl, rfl, rfl, fun _ => rfl, by simp, by simp⟩
  · exact ⟨s.withDev (s.dev.updFlash fun f => f.append 0).afterReset, by rw [exec_clearReset, if_pos ha], rfl, fun _ _ _ => rfl, rfl, rfl, rfl, rfl, rfl, by simp, by simp, by simp⟩
  · exact ⟨_, rfl, rfl, fun _ _ _ => rfl, rfl, rfl, rfl, rfl, rfl, by simp, by simp, fun _ => rfl⟩
  · exact ⟨_, rfl, rfl, fun _ _ _ => rfl, rfl, rfl, rfl, rfl, rfl, by simp, by simp, by simp⟩
  · exact ⟨_, rfl, rfl, fun _ _ _ => rfl, rfl, rfl, rfl, rfl, rfl, by simp, fun _ => rfl, fun _ => rfl⟩

end

end Sys2Proof.Machine

namespace Sys2Proof.Machine

/-! ## Stage 2 (R461, R466, R468) -/

/-- A counter record goes on in its sector, or, where that is full, begins the other (R462). -/
theorem Flash.append_place {f : Flash} (h : f.readable = true) (v : Nat) :
    (f.used + 16 ≤ 4096 → (f.append v).sector = f.sector ∧ (f.append v).used = f.used + 16) ∧
    (4096 < f.used + 16 → (f.append v).sector = 1 - f.sector ∧ (f.append v).used = 16) := by
  unfold Flash.append
  rw [if_neg (by simp [h])]
  dsimp only
  refine ⟨fun hu => ?_, fun hu => ?_⟩
  · rw [if_neg (by omega)]
    exact ⟨rfl, rfl⟩
  · rw [if_pos hu]
    exact ⟨rfl, rfl⟩

/-- The number that n bytes spell. -/
theorem leAt_lt (bs : List Byte) (off n : Nat) : leAt bs off n < 2 ^ (8 * n) := by
  have spelled : ∀ l : List Byte, leNat l < 2 ^ (8 * l.length) := fun l => by
    induction l with
    | nil => decide
    | cons b l ih =>
      have := b.isLt
      rw [leNat, List.length_cons, Nat.mul_add, Nat.pow_add]
      omega
  have length : (slice bs off n).length = n := by simp [slice]
  unfold leAt
  simpa only [length] using spelled (slice bs off n)

/-- The registers that show the log's count and its chain. -/
def logFields : List (Fld × Nat × Nat) := (F.SEC_LOG_COUNT_V, 0, 0) :: (List.range 8).map fun i => (F.SEC_LOG_CHAIN_V, 0, i)

/-- Words shown in a family of registers change those registers alone. -/
theorem Dev.putWords_keeps (d : Dev) {f : Fld} (hf : f.fits = true) (n : Nat) (bs : List Byte) :
    d.KeepsBytes (d.putWords f n bs) ((List.range n).map fun i => (f, 0, i)) := by
  have put (l : List Nat) (hl : l ⊆ List.range n) : ∀ e, d.KeepsBytes e ((List.range n).map fun i => (f, 0, i)) →
      d.KeepsBytes (e.each l fun d i => d.put f 0 i (leAt bs (4 * i) 4)) ((List.range n).map fun i => (f, 0, i)) := by
    induction l with
    | nil => exact fun e he => he
    | cons i l ih =>
      intro e he
      have hi := hl List.mem_cons_self
      exact ih (fun x hx => hl (List.mem_cons_of_mem _ hx)) _ (he.put f 0 i _ hf (List.mem_map.2 ⟨i, hi, rfl⟩))
  exact put _ (List.Subset.refl _) d (.refl d _)

theorem Dev.putWords_regs (d : Dev) (f : Fld) (n : Nat) (bs : List Byte) : d.putWords f n bs = { d with regs := (d.putWords f n bs).regs } :=
  Dev.each_inv (P := fun x => x = { d with regs := x.regs }) (fun d i => d.put f 0 i (leAt bs (4 * i) 4)) (fun x i h => by rw [h]; rfl) (List.range n) rfl

/-- Each word shown is found in its own register. -/
theorem Dev.get_putWords (d : Dev) {f : Fld} (hf : f.fits = true) (hw : f.hi - f.lo + 1 = 32) {n k : Nat} (bs : List Byte)
    (apart : ∀ i j : Nat, i ≠ j → f.reg.addr 0 i ≠ f.reg.addr 0 j) (hk : k < n) : (d.putWords f n bs).get f 0 k = leAt bs (4 * k) 4 := by
  induction n with
  | zero => omega
  | succ n ih =>
    have last : d.putWords f (n + 1) bs = (d.putWords f n bs).put f 0 n (leAt bs (4 * n) 4) := by
      unfold Dev.putWords Dev.each
      rw [List.range_succ, List.foldl_append]
      rfl
    rw [last]
    by_cases h : k = n
    · subst h
      rw [Dev.get_put_same _ _ _ _ _ hf, hw]
      exact Nat.mod_eq_of_lt (leAt_lt bs (4 * k) 4)
    · rw [Dev.get_put_addr _ _ _ _ _ _ _ _ (apart k n h)]
      exact ih (by omega)

/-- An entry changes the log, its count and its chain, and the registers that show them. -/
theorem Dev.logAppend_keeps (d : Dev) (type : Nat) (digest data : List Byte) : d.KeepsBytes (d.logAppend type digest data) logFields := by
  unfold Dev.logAppend
  dsimp only
  refine Dev.KeepsBytes.trans ?_ ((Dev.putWords_keeps _ (by decide) 8 _).mono (List.subset_cons_self _ _))
  have counted (b : Boot) (n : Nat) : d.KeepsBytes ({ d with boot := b }.putD F.SEC_LOG_COUNT_V n) logFields :=
    ((Dev.KeepsBytes.refl d logFields).beside (f := { d with boot := b }) rfl rfl rfl).put _ _ _ _ (by decide) List.mem_cons_self
  exact counted _ _

theorem Dev.logAppend_get (d : Dev) (type : Nat) (digest data : List Byte) {g : Fld} (hg : g.lo ≤ g.hi)
    (ha : ∀ x ∈ logFields, g.reg.addr 0 0 ≠ x.1.reg.addr x.2.1 x.2.2) : (d.logAppend type digest data).get g = d.get g :=
  (d.logAppend_keeps type digest data).regs g 0 0 hg fun x hx => .inl (ha x hx)

section
variable (d : Dev)

/-- The end of a command, in BOOT_STATUS. -/
theorem Dev.bootResult_shown {r : Nat} (hr : r < 256) : (d.bootResult r).get F.BOOT_STATUS_RESULT = r ∧ (d.bootResult r).get F.BOOT_STATUS_DONE = 1 ∧
    (d.bootResult r).get F.BOOT_STATUS_BUSY = 0 := by
  unfold Dev.bootResult
  refine ⟨?_, ?_, ?_⟩
  · rw [Dev.get_putD_spared _ _ (by decide), Dev.get_putD_spared _ _ (by decide), Dev.get_putD_fits _ (by decide) hr]
  · rw [Dev.get_putD_spared _ _ (by decide), Dev.get_putD_fits _ (by decide) (by decide)]
  · rw [Dev.get_putD_fits _ (by decide) (by decide)]

theorem Dev.setStep_count (n : Nat) : (d.setStep n).boot.count = d.boot.count := rfl

/-- An accepted stage 2 runs. -/
theorem Dev.startStage2_shown (b : List Byte) : (d.startStage2 b).boot.step = 13 ∧ (d.startStage2 b).get F.BOOT_STATUS_STAGE = 5 ∧
    (d.startStage2 b).get F.BOOT_STATUS_RESULT = 0 ∧ (d.startStage2 b).get F.BOOT_STATUS_BUSY = 0 ∧
    (d.startStage2 b).get F.BOOT_S2_VERSION_V = leAt b 8 4 ∧ (d.startStage2 b).boot.count = d.boot.count + 1 := by
  obtain ⟨result, -, busy⟩ := d.bootResult_shown (r := 0) (by decide)
  unfold Dev.startStage2
  dsimp only
  refine ⟨rfl, ?_, ?_, ?_, ?_, (Dev.setStep_count _ _).trans (Dev.logAppend_boot _ _ _ _).1⟩
  · rw [Dev.get_setStep, Dev.logAppend_get _ _ _ _ (by decide) (by decide), Dev.get_putD_spared _ _ (by decide), Dev.get_putD_fits _ (by decide) (by decide)]
  · rw [Dev.get_setStep, Dev.logAppend_get _ _ _ _ (by decide) (by decide), Dev.get_putD_spared _ _ (by decide), Dev.get_putD_spared _ _ (by decide)]
    exact result
  · rw [Dev.get_setStep, Dev.logAppend_get _ _ _ _ (by decide) (by decide), Dev.get_putD_spared _ _ (by decide), Dev.get_putD_spared _ _ (by decide)]
    exact busy
  · rw [Dev.get_setStep, Dev.logAppend_get _ _ _ _ (by decide) (by decide), Dev.get_putD_fits _ (by decide) (leAt_lt b 8 4)]

end

theorem Dev.flag_eq_false {d : Dev} {f : Fld} (h : d.get f = 0) : d.flag f = false := by simp [Dev.flag, h]

theorem Dev.flag_eq_true {d : Dev} {f : Fld} (h : d.get f = 1) : d.flag f = true := by simp [Dev.flag, h]

section
variable (s : State)

theorem exec_loadStage2 : exec .loadStage2 s = .next (s.withDev (if s.dev.boot.step ≠ 11 || s.dev.flag F.BOOT_STATUS_BUSY then s.dev.bootRefuse
    else if s.dev.get F.BOOT_ARG_V % 4096 ≠ 0 then s.dev.bootResult 0x09
    else { s.dev with boot := { s.dev.boot with s2addr := s.dev.get F.BOOT_ARG_V, s2len := s.dev.get F.BOOT_LEN_BYTES } }.putD F.BOOT_STATUS_BUSY 1)) := rfl

/-- LOAD_STAGE2 in step 11, idle. -/
theorem loadStage2_accepted (hs : s.dev.boot.step = 11) (hb : s.dev.get F.BOOT_STATUS_BUSY = 0) :
    (s.dev.get F.BOOT_ARG_V % 4096 = 0 → ∃ t, exec .loadStage2 s = .next t ∧ t.pending = s.pending ∧ t.dev.get F.BOOT_STATUS_BUSY = 1 ∧
      t.dev.boot.s2addr = s.dev.get F.BOOT_ARG_V ∧ t.dev.boot.s2len = s.dev.get F.BOOT_LEN_BYTES ∧ s.dev.onlyFields t.dev [(F.BOOT_STATUS_BUSY, 0, 0)]) ∧
    (s.dev.get F.BOOT_ARG_V % 4096 ≠ 0 → exec .loadStage2 s = .next (s.withDev (s.dev.bootResult 9))) := by
  have e := exec_loadStage2 s
  rw [if_neg (by simp [hs, Dev.flag_eq_false hb])] at e
  refine ⟨fun ha => ?_, fun ha => ?_⟩
  · rw [if_neg (not_not.2 ha)] at e
    exact ⟨_, e, rfl, Dev.get_putD_fits _ (by decide) (by decide), rfl, rfl, Dev.onlyFields_mid (s.dev.onlyFields_putD F.BOOT_STATUS_BUSY 1 (by decide)) rfl⟩
  · rw [if_pos ha] at e
    exact e

theorem loadStage2_refused (h : s.dev.boot.step ≠ 11 ∨ s.dev.get F.BOOT_STATUS_BUSY = 1) :
    exec .loadStage2 s = .next (s.withDev (s.dev.putD F.BOOT_STATUS_CMD_REFUSED 1)) := by
  rw [exec_loadStage2, if_pos]
  · rfl
  · rcases h with h | h
    · simp [h]
    · simp [Dev.flag_eq_true h]

theorem exec_stage2FetchDone (bytes : List Byte) (err : Bool) : exec (.stage2FetchDone bytes err) s =
    .next (s.withDev (if s.dev.boot.step ≠ 11 || !s.dev.flag F.BOOT_STATUS_BUSY then s.dev
      else if err then s.dev.bootResult 0x05
      else
        let r := if 2097152 < s.dev.boot.s2len || s.dev.boot.s2len < 64 + sigLen then 1 else fwCheck (bytes.take s.dev.boot.s2len) magicS2 (some 2) 2097152
        if r = 0 then s.dev.startStage2 bytes else s.dev.bootResult r)) := rfl

/-- The fetch of stage 2 ends with its check (R468). -/
theorem stage2Fetched (hs : s.dev.boot.step = 11) (hb : s.dev.get F.BOOT_STATUS_BUSY = 1) (bytes : List Byte) :
    exec (.stage2FetchDone bytes true) s = .next (s.withDev (s.dev.bootResult 5)) ∧
      (s.dev.boot.s2len ≤ 2097152 → 64 + sigLen ≤ s.dev.boot.s2len → let r := fwCheck (bytes.take s.dev.boot.s2len) magicS2 (some 2) 2097152
        exec (.stage2FetchDone bytes false) s = .next (s.withDev (if r = 0 then s.dev.startStage2 bytes else s.dev.bootResult r))) := by
  have e := exec_stage2FetchDone s bytes
  have busy : ¬ (s.dev.boot.step ≠ 11 || !s.dev.flag F.BOOT_STATUS_BUSY) = true := by simp [hs, Dev.flag_eq_true hb]
  simp only [if_neg busy] at e
  refine ⟨e true, fun h1 h2 => ?_⟩
  have fits : ¬ (2097152 < s.dev.boot.s2len || s.dev.boot.s2len < 64 + sigLen) = true := by simp [h1, h2]
  rw [e false, if_neg Bool.false_ne_true, if_neg fits]

theorem exec_serviceReady : exec .serviceReady s = .next (s.withDev
    (if s.dev.boot.step = 13 then ((s.dev.updFlash fun f => f.append 0).putD F.BOOT_STATUS_STAGE 6).setStep stReady else s.dev)) := rfl

end

/-! ## Damped mode (R478) -/

section
variable (s : State)

/-- The three damped commands that take time. -/
theorem exec_dampedCommand {i : Instr} {op region : Nat} (h : (i, op, region) ∈ [(Instr.flashWrite region, 4, region), (.readout, 5, 0), (.diag, 6, 0)]) :
    exec i s = .next (s.withDev (s.dev.dampedBegin op region)) := by
  simp only [List.mem_cons, Prod.mk.injEq, List.not_mem_nil, or_false] at h
  obtain ⟨rfl, rfl, -⟩ | ⟨rfl, rfl, rfl⟩ | ⟨rfl, rfl, rfl⟩ := h <;> rfl

theorem exec_dampedCommandDone (err : Bool) (bs : List Byte) {op g : Nat} (h : s.dev.boot.damped = some (op, g)) :
    let d : Dev := { s.dev with boot := { s.dev.boot with damped := none } }
    exec (.dampedCommandDone err bs) s = .next (s.withDev (if op = 4 then d.flashDone g err else if op = 5 then d.mailDone d.readoutBytes else d.mailDone bs)) := by
  rw [show exec (.dampedCommandDone err bs) s = .next (s.withDev (match s.dev.boot.damped with
    | none => s.dev
    | some (op, region) =>
      let d := { s.dev with boot := { s.dev.boot with damped := none } }
      if op = 4 then d.flashDone region err else if op = 5 then d.mailDone d.readoutBytes else d.mailDone bs)) from rfl, h]

theorem exec_dampedCommandDone_none (err : Bool) (bs : List Byte) (h : s.dev.boot.damped = none) : exec (.dampedCommandDone err bs) s = .next s := by
  rw [show exec (.dampedCommandDone err bs) s = .next (s.withDev (match s.dev.boot.damped with
    | none => s.dev
    | some (op, region) =>
      let d := { s.dev with boot := { s.dev.boot with damped := none } }
      if op = 4 then d.flashDone region err else if op = 5 then d.mailDone d.readoutBytes else d.mailDone bs)) from rfl, h]

end

section
variable (d : Dev)

theorem Dev.flashDone_region (g : Nat) (err : Bool) (h : g = 0 ∨ 4 < g) : d.flashDone g err = d.bootResult 7 := by
  unfold Dev.flashDone
  dsimp only
  rw [if_pos]
  rcases h with rfl | h
  · rfl
  · simp [Nat.not_le.2 h]

theorem Dev.flashDone_bounds (g : Nat) (err : Bool) {off n : Nat} (ho : d.get F.BOOT_ARG_V = off) (hl : d.get F.BOOT_LEN_BYTES = n) (h1 : 1 ≤ g) (h4 : g ≤ 4)
    (h : off % 4096 ≠ 0 ∨ 0x300000 < off + n) : d.flashDone g err = d.bootResult 9 := by
  unfold Dev.flashDone
  dsimp only
  rw [ho, hl, if_neg (by simp [h1, h4]), if_pos (by simpa using h)]

/-- The device with a region of the flash programmed, and the log's entry of it. -/
def Dev.programmed (d : Dev) (g n : Nat) (b : List Byte) : Dev :=
  (d.updFlash fun f => f.program g b).logAppend 0x31 (sha256 b) (leBytes 1 g ++ leBytes 4 n)

/-- A region that passes its check is programmed and logged. -/
theorem Dev.flashDone_good (g : Nat) {off n : Nat} (ho : d.get F.BOOT_ARG_V = off) (hl : d.get F.BOOT_LEN_BYTES = n) (h1 : 1 ≤ g) (h4 : g ≤ 4) (ha : off % 4096 = 0)
    (hn : off + n ≤ 0x300000) (hc : d.regionCheck g (d.mailRead off n) = 0) : d.flashDone g false = (d.programmed g n (d.mailRead off n)).bootResult 0 := by
  unfold Dev.flashDone
  dsimp only
  rw [ho, hl, if_neg (by simp [h1, h4]), if_neg (by simp [ha, hn]), if_neg (not_not.2 hc), if_neg Bool.false_ne_true]
  rfl

/-- The device with its log, count and chain as given, shown in the registers. -/
def Dev.logShown (d : Dev) (log : List (List Byte)) (n : Nat) (chain : List Byte) : Dev :=
  (({ d with boot := { d.boot with log := log, count := n, chain := chain } } : Dev).putD F.SEC_LOG_COUNT_V n).putWords F.SEC_LOG_CHAIN_V 8 chain

theorem Dev.logAppend_shown (type : Nat) (digest data : List Byte) : ∃ log n chain, d.logAppend type digest data = d.logShown log n chain := ⟨_, _, _, rfl⟩

/-- An entry of the log leaves the flash. -/
theorem Dev.logAppend_flash (type : Nat) (digest data : List Byte) : (d.logAppend type digest data).boot.flash = d.boot.flash := by
  obtain ⟨log, n, chain, h⟩ := d.logAppend_shown type digest data
  rw [h]
  unfold Dev.logShown
  rw [Dev.putWords_regs]
  rfl

theorem Dev.programmed_shown (g n : Nat) (b : List Byte) :
    (d.programmed g n b).boot.flash = d.boot.flash.program g b ∧ (d.programmed g n b).mem = d.mem ∧ (d.programmed g n b).cores = d.cores := by
  have logged := (d.updFlash fun f => f.program g b).logAppend_keeps 0x31 (sha256 b) (leBytes 1 g ++ leBytes 4 n)
  exact ⟨(d.updFlash fun f => f.program g b).logAppend_flash _ _ _, logged.mem, logged.cores⟩

theorem Dev.mailDone_within (b : List Byte) (h : d.get F.BOOT_ARG_V + b.length ≤ 0x300000) :
    d.mailDone b = (d.mailWrite (d.get F.BOOT_ARG_V) b).bootResult 0 := by
  unfold Dev.mailDone
  dsimp only
  rw [if_neg (Nat.not_lt.2 h)]

/-- The mailbox reads as it was written, the command's result beside it. -/
theorem Dev.mailRead_bootResult (a n r : Nat) : (d.bootResult r).mailRead a n = d.mailRead a n := by
  have active : (d.bootResult r).activeQuarter = d.activeQuarter := by
    unfold Dev.activeQuarter Dev.bootResult
    rw [Dev.get_putD_spared _ _ (by decide), Dev.get_putD_spared _ _ (by decide), Dev.get_putD_spared _ _ (by decide)]
  unfold Dev.mailRead Dev.mailbox
  rw [active]
  rfl

theorem Dev.mailRead_mailWrite (a : Nat) (bs : List Byte) (h : a + bs.length ≤ 0x300000) : (d.mailWrite a bs).mailRead a bs.length = bs := by
  have whole : bs.take (0x300000 - a) = bs := List.take_of_length_le (by omega)
  have read := breadN_bwriteN (d.scratchSpace (d.mailbox + a)) d.mem.scratch (d.mailbox + a) bs
  unfold Dev.mailWrite
  rw [whole]
  exact read

end

/-! ## The log and the quote (R474, R475) -/

section
variable (d : Dev) (index : Nat)

/-- The entry that an index shows: none where it is not retained. -/
def Dev.logEntry (d : Dev) (index : Nat) : Option (List Byte) :=
  if d.boot.count - d.boot.log.length + 1 ≤ index then d.boot.log[index - (d.boot.count - d.boot.log.length + 1)]? else none

theorem Dev.showLog_eq : d.showLog index = match d.logEntry index with
    | some e => (d.putD F.SEC_LOG_INDEX_V index).putWords F.SEC_LOG_ENTRY_V 32 e
    | none => ((d.putD F.SEC_LOG_INDEX_V index).putWords F.SEC_LOG_ENTRY_V 32 []).putD F.SEC_QUOTE_CTL_GONE 1 := rfl

theorem Dev.putWords_index (bs : List Byte) : (d.putWords F.SEC_LOG_ENTRY_V 32 bs).get F.SEC_LOG_INDEX_V = d.get F.SEC_LOG_INDEX_V :=
  (d.putWords_keeps (by decide) 32 bs).regs _ 0 0 (by decide) fun x hx => by
    obtain ⟨i, -, rfl⟩ := List.mem_map.1 hx
    have addr : Reg.secLogEntry.addr 0 i = 0x401080 + i * 4 := rfl
    have indexAddr : Reg.secLogIndex.addr 0 0 = 0x401040 := rfl
    refine .inl ?_
    dsimp only
    omega

theorem Dev.showLog_index : (d.showLog index).get F.SEC_LOG_INDEX_V = index % 2 ^ 64 ∧ d.showLog index = { d with regs := (d.showLog index).regs } := by
  have shown (bs : List Byte) : ((d.putD F.SEC_LOG_INDEX_V index).putWords F.SEC_LOG_ENTRY_V 32 bs).get F.SEC_LOG_INDEX_V = index % 2 ^ 64 :=
    (Dev.putWords_index _ bs).trans (Dev.get_putD_same _ _ _ (by decide))
  have regs (bs : List Byte) := (d.putD F.SEC_LOG_INDEX_V index).putWords_regs F.SEC_LOG_ENTRY_V 32 bs
  rw [d.showLog_eq]
  split
  · next e _ => exact ⟨shown e, (regs e).trans rfl⟩
  · refine ⟨(Dev.get_putD_spared _ _ (by decide)).trans (shown []), ?_⟩
    rw [regs []]
    rfl

theorem Dev.showLog_gone (h : d.logEntry index = none) : (d.showLog index).get F.SEC_QUOTE_CTL_GONE = 1 := by
  rw [d.showLog_eq, h]
  exact Dev.get_putD_fits _ (by decide) (by decide)

theorem Dev.showLog_entry {e : List Byte} (h : d.logEntry index = some e) {k : Nat} (hk : k < 32) : (d.showLog index).get F.SEC_LOG_ENTRY_V 0 k = leAt e (4 * k) 4 := by
  rw [d.showLog_eq, h]
  refine Dev.get_putWords _ (by decide) (by decide) e (fun i j hij => ?_) hk
  have addr (k : Nat) : Reg.secLogEntry.addr 0 k = 0x401080 + k * 4 := rfl
  rw [addr, addr]
  omega

theorem Dev.logEntry_beyond (h : d.boot.count < index) (hl : d.boot.log.length ≤ d.boot.count) : d.logEntry index = none := by
  unfold Dev.logEntry
  rw [if_pos (by omega), List.getElem?_eq_none (by omega)]

theorem Dev.logEntry_last (h : index = d.boot.count) (hl : d.boot.log.length ≤ d.boot.count) {e : List Byte} (he : d.boot.log.getLast? = some e) :
    d.logEntry index = some e := by
  have nonempty : d.boot.log.length ≠ 0 := fun h0 => by
    rw [List.length_eq_zero_iff.1 h0] at he
    cases he
  unfold Dev.logEntry
  rw [if_pos (by omega), ← he, List.getLast?_eq_getElem?]
  congr 1
  omega

end

/-- A quote begins over the bytes given. -/
def Dev.quoting (d : Dev) (q : List Byte) : Dev := { d with boot := { d.boot with quote := q } }.putD F.SEC_QUOTE_CTL_BUSY 1

theorem Dev.quoting_shown (d : Dev) (q : List Byte) : (d.quoting q).boot.quote = q ∧ (d.quoting q).get F.SEC_QUOTE_CTL_BUSY = 1 ∧
    d.onlyFields (d.quoting q) [(F.SEC_QUOTE_CTL_BUSY, 0, 0)] ∧ d.sameBytes (d.quoting q) :=
  ⟨rfl, Dev.get_putD_fits _ (by decide) (by decide), Dev.onlyFields_mid (d.onlyFields_putD F.SEC_QUOTE_CTL_BUSY 1 (by decide)) rfl, Dev.sameBytes_of rfl rfl⟩

section
variable (s : State)

theorem exec_quoteGo : exec .quoteGo s = .next (s.withDev (if s.dev.flag F.SEC_QUOTE_CTL_BUSY || !s.dev.flag F.SEC_ID_STATUS_READY then s.dev.putD F.SEC_QUOTE_CTL_REFUSED 1
    else s.dev.quoting s.dev.quoteHead)) := rfl

theorem quoteDone_idle (h : s.dev.get F.SEC_QUOTE_CTL_BUSY = 0) : exec .quoteDone s = .next s :=
  congrArg (fun d => Host.Outcome.next (s.withDev d)) (if_pos (by simp [Dev.flag_eq_false h]))

/-- The end of a quote, wherever it was written. -/
theorem quoteDone_busy (h : s.dev.get F.SEC_QUOTE_CTL_BUSY = 1) : ∃ e : Dev,
    exec .quoteDone s = .next (s.withDev (({ e with boot := { e.boot with quote := [] } }.putD F.SEC_QUOTE_CTL_BUSY 0).putD F.SEC_QUOTE_CTL_DONE 1)) :=
  ⟨_, congrArg (fun d => Host.Outcome.next (s.withDev d)) (if_neg (by simp [Dev.flag_eq_true h]))⟩

end

/-- A start over its limit, or not in hand. -/
theorem startTimedOut (s : State) (step : Nat) :
    (s.dev.stepInHand step = true → ∃ t, exec (.startStepTimeout step) s = .next t ∧ t.pending = s.pending ∧ t.dev.boot.step = 15 ∧
      t.dev.get F.BOOT_STATUS_STAGE = 7 ∧ t.dev.get F.BOOT_STATUS_REASON = stepReason step ∧ t.dev.boot.flash.failSeq = (s.dev.boot.flash.failSeq + 1) % 2 ^ 32 ∧
      s.dev.sameBytes t.dev ∧ s.dev.onlyFields t.dev failFields) ∧
    (s.dev.stepInHand step = false → exec (.startStepTimeout step) s = .next s) ∧ (s.dev.boot.step ≠ 15 → exec .startFailReset s = .next s) := by
  refine ⟨fun h => ?_, fun h => ?_, fun h => ?_⟩
  · obtain ⟨hs, stage, reason, seq, keeps⟩ := s.dev.startFail_shown step (reason := stepReason step) ((stepReason_lt step).trans (by decide))
    exact ⟨s.withDev (s.dev.startFail step (stepReason step)), by rw [exec_startStepTimeout, if_pos h], rfl, hs, stage, reason, seq, keeps.sameBytes, keeps.regs⟩
  · rw [exec_startStepTimeout, if_neg (ne_true_of_eq_false h)]
  · rw [exec_startFailReset, if_neg (show ¬ s.dev.boot.step = stFailed from h)]

/-- Stage 2 is loaded, fetched, checked and started, and the service is ready (steps 11 to 14). -/
theorem stage2Runs (s : State) :
    (s.dev.boot.step = 11 → s.dev.get F.BOOT_STATUS_BUSY = 1 → ∀ bytes, exec (.stage2FetchDone bytes true) s = .next (s.withDev (s.dev.bootResult 5)) ∧
      (s.dev.boot.s2len ≤ 2097152 → 64 + sigLen ≤ s.dev.boot.s2len → let r := fwCheck (bytes.take s.dev.boot.s2len) magicS2 (some 2) 2097152
        (r ≠ 0 → exec (.stage2FetchDone bytes false) s = .next (s.withDev (s.dev.bootResult r))) ∧
        (r = 0 → ∃ t, exec (.stage2FetchDone bytes false) s = .next t ∧ t.pending = s.pending ∧ t.dev.boot.step = 13 ∧ t.dev.get F.BOOT_STATUS_STAGE = 5 ∧
          t.dev.get F.BOOT_STATUS_RESULT = 0 ∧ t.dev.get F.BOOT_STATUS_BUSY = 0 ∧ t.dev.get F.BOOT_S2_VERSION_V = leAt bytes 8 4 ∧ t.dev.boot.count = s.dev.boot.count + 1))) ∧
    (s.dev.boot.step ≠ 11 → ∀ bytes err, exec (.stage2FetchDone bytes err) s = .next s) ∧
    (s.dev.boot.step = 13 → ∃ t, exec .serviceReady s = .next t ∧ t.pending = s.pending ∧ t.dev.boot.step = 14 ∧ t.dev.get F.BOOT_STATUS_STAGE = 6 ∧
      t.dev.boot.flash = s.dev.boot.flash.append 0 ∧ s.dev.onlyFields t.dev [(F.BOOT_STATUS_STAGE, 0, 0)] ∧ s.dev.sameBytes t.dev) ∧
    (s.dev.boot.step ≠ 13 → exec .serviceReady s = .next s) := by
  refine ⟨fun hs hb bytes => ⟨(stage2Fetched s hs hb bytes).1, fun h1 h2 => ?_⟩, fun hs bytes err => ?_, fun hs => ?_, fun hs => ?_⟩
  · have e := (stage2Fetched s hs hb bytes).2 h1 h2
    generalize fwCheck (bytes.take s.dev.boot.s2len) magicS2 (some 2) 2097152 = r at e
    refine ⟨fun hr => by rw [e, if_neg hr], fun hr => ⟨s.withDev (s.dev.startStage2 bytes), by rw [e, if_pos hr], rfl, s.dev.startStage2_shown bytes⟩⟩
  · rw [exec_stage2FetchDone, if_pos (by simp [hs])]
  · refine ⟨s.withDev (((s.dev.updFlash fun f => f.append 0).putD F.BOOT_STATUS_STAGE 6).setStep stReady), by rw [exec_serviceReady, if_pos hs], rfl, rfl,
      Dev.get_putD_fits _ (by decide) (by decide), rfl, Dev.onlyFields_mid (s.dev.onlyFields_putD F.BOOT_STATUS_STAGE 6 (by decide)) rfl, Dev.sameBytes_of rfl rfl⟩
  · rw [exec_serviceReady, if_neg hs]

/-- A damped command is accepted or refused. -/
theorem dampedCommand (s : State) {i : Instr} {op region : Nat} (h : (i, op, region) ∈ [(Instr.flashWrite region, 4, region), (.readout, 5, 0), (.diag, 6, 0)]) :
    (s.dev.dampedAccepts op = true → ∃ t, exec i s = .next t ∧ t.pending = s.pending ∧ t.dev.boot.damped = some (op, region) ∧ t.dev.get F.BOOT_STATUS_BUSY = 1 ∧
      s.dev.onlyFields t.dev [(F.BOOT_STATUS_BUSY, 0, 0)] ∧ s.dev.sameBytes t.dev) ∧
    (s.dev.dampedAccepts op = false → exec i s = .next (s.withDev (s.dev.putD F.BOOT_STATUS_CMD_REFUSED 1))) := by
  have e := exec_dampedCommand s h
  unfold Dev.dampedBegin at e
  refine ⟨fun ha => ?_, fun ha => ?_⟩
  · rw [if_pos ha] at e
    exact ⟨_, e, rfl, rfl, Dev.get_putD_fits _ (by decide) (by decide), Dev.onlyFields_mid (s.dev.onlyFields_putD F.BOOT_STATUS_BUSY 1 (by decide)) rfl, Dev.sameBytes_of rfl rfl⟩
  · rw [if_neg (ne_true_of_eq_false ha)] at e
    exact e

section
variable {s : State} {i : Instr} {g : Nat} {err : Bool} {d : Dev} {off n : Nat} (e : exec i s = .next (s.withDev (d.flashDone g err)))
include e

theorem flashWrite_region (hg : g = 0 ∨ 4 < g) : exec i s = .next (s.withDev (d.bootResult 7)) := by rw [e, d.flashDone_region g err hg]

theorem flashWrite_bounds (ho : d.get F.BOOT_ARG_V = off) (hl : d.get F.BOOT_LEN_BYTES = n) (h1 : 1 ≤ g) (h4 : g ≤ 4) (h : off % 4096 ≠ 0 ∨ 0x300000 < off + n) :
    exec i s = .next (s.withDev (d.bootResult 9)) := by rw [e, d.flashDone_bounds g err ho hl h1 h4 h]

theorem flashWrite_programs (ho : d.get F.BOOT_ARG_V = off) (hl : d.get F.BOOT_LEN_BYTES = n) (h1 : 1 ≤ g) (h4 : g ≤ 4) (ha : off % 4096 = 0) (hn : off + n ≤ 0x300000)
    (hr : d.regionCheck g (d.mailRead off n) = 0) (herr : err = false) : exec i s = .next (s.withDev ((d.programmed g n (d.mailRead off n)).bootResult 0)) := by
  rw [e, herr, d.flashDone_good g ho hl h1 h4 ha hn hr]

end

/-- A command that ends well, after a device with the flash programmed. -/
theorem programmed_ends {s : State} {i : Instr} {g : Nat} {d x : Dev} {b : List Byte} (e : exec i s = .next (s.withDev (x.bootResult 0)))
    (shown : x.boot.flash = d.boot.flash.program g b ∧ x.mem = d.mem ∧ x.cores = d.cores) (hf : d.boot.flash = s.dev.boot.flash) (hm : d.mem = s.dev.mem)
    (hc : d.cores = s.dev.cores) : ∃ t, exec i s = .next t ∧ t.pending = s.pending ∧ t.dev.boot.flash = s.dev.boot.flash.program g b ∧
      t.dev.get F.BOOT_STATUS_RESULT = 0 ∧ t.dev.get F.BOOT_STATUS_BUSY = 0 ∧ s.dev.sameBytes t.dev := by
  obtain ⟨flash, mem, cores⟩ := shown
  obtain ⟨result, -, busy⟩ := x.bootResult_shown (r := 0) (by decide)
  exact ⟨_, e, rfl, flash.trans (by rw [hf]), result, busy, Dev.sameBytes_of (mem.trans hm) (cores.trans hc)⟩

/-- FLASH_WRITE ends by its region and its bounds (R478). -/
theorem exec_flashWriteDone (s : State) (err : Bool) (bs : List Byte) {g : Nat} (h : s.dev.boot.damped = some (4, g)) :
    exec (.dampedCommandDone err bs) s = .next (s.withDev (({ s.dev with boot := { s.dev.boot with damped := none } } : Dev).flashDone g err)) :=
  (exec_dampedCommandDone s err bs h).trans (by rw [if_pos rfl])

/-- READOUT and DIAG end with their bytes in the mailbox (R478). -/
theorem mailCommandDone (s : State) (err : Bool) (bs : List Byte) {op g : Nat} {out : List Byte} :
    let d := ({ s.dev with boot := { s.dev.boot with damped := none } } : Dev)
    let off := s.dev.get F.BOOT_ARG_V
    (op = 5 ∧ out = d.readoutBytes) ∨ (op = 6 ∧ out = bs) → s.dev.boot.damped = some (op, g) → off + out.length ≤ 0x300000 →
      ∃ t, exec (.dampedCommandDone err bs) s = .next t ∧ t.pending = s.pending ∧ t.dev.mailRead off out.length = out ∧ t.dev.get F.BOOT_STATUS_RESULT = 0 ∧
        t.dev.get F.BOOT_STATUS_DONE = 1 ∧ t.dev.boot.damped = none := by
  intro d off hop h hlen
  have e := exec_dampedCommandDone s err bs h
  have done : exec (.dampedCommandDone err bs) s = .next (s.withDev (d.mailDone out)) := by
    obtain ⟨rfl, rfl⟩ | ⟨rfl, rfl⟩ := hop <;> exact e
  rw [d.mailDone_within out hlen] at done
  obtain ⟨result, fin, -⟩ := Dev.bootResult_shown (d.mailWrite off out) (r := 0) (by decide)
  exact ⟨_, done, rfl, (Dev.mailRead_bootResult _ _ _ _).trans (d.mailRead_mailWrite off out hlen), result, fin, rfl⟩

/-- The log's index and the quote (R474, R475). -/
theorem logAndQuote (s : State) : (∀ i, ∃ t, exec (.secLogIndexWrite i) s = .next t ∧ t.pending = s.pending ∧ t.dev.get F.SEC_LOG_INDEX_V = i % 2 ^ 64 ∧
      t.dev = { s.dev with regs := t.dev.regs } ∧
      (s.dev.boot.count < i % 2 ^ 64 → s.dev.boot.log.length ≤ s.dev.boot.count → t.dev.get F.SEC_QUOTE_CTL_GONE = 1) ∧
      (∀ e, i % 2 ^ 64 = s.dev.boot.count → s.dev.boot.count ≠ 0 → s.dev.boot.log.length ≤ s.dev.boot.count → s.dev.boot.log.getLast? = some e →
        ∀ k, k < 32 → t.dev.get F.SEC_LOG_ENTRY_V 0 k = leAt e (4 * k) 4)) ∧
    (s.dev.get F.SEC_QUOTE_CTL_BUSY = 0 → s.dev.get F.SEC_ID_STATUS_READY = 1 → ∃ t, exec .quoteGo s = .next t ∧ t.pending = s.pending ∧ t.dev.boot.quote = s.dev.quoteHead ∧
      t.dev.get F.SEC_QUOTE_CTL_BUSY = 1 ∧ s.dev.onlyFields t.dev [(F.SEC_QUOTE_CTL_BUSY, 0, 0)] ∧ s.dev.sameBytes t.dev) ∧
    (s.dev.get F.SEC_QUOTE_CTL_BUSY = 1 ∨ s.dev.get F.SEC_ID_STATUS_READY = 0 → exec .quoteGo s = .next (s.withDev (s.dev.putD F.SEC_QUOTE_CTL_REFUSED 1))) ∧
    (s.dev.get F.SEC_QUOTE_CTL_BUSY = 1 → ∃ t, exec .quoteDone s = .next t ∧ t.pending = s.pending ∧ t.dev.boot.quote = [] ∧ t.dev.get F.SEC_QUOTE_CTL_BUSY = 0 ∧
      t.dev.get F.SEC_QUOTE_CTL_DONE = 1) ∧
    (s.dev.get F.SEC_QUOTE_CTL_BUSY = 0 → exec .quoteDone s = .next s) := by
  refine ⟨fun i => ?_, fun hb hr => ?_, fun h => ?_, fun hb => ?_, fun hb => quoteDone_idle s hb⟩
  · obtain ⟨shown, regs⟩ := s.dev.showLog_index (i % 2 ^ 64)
    exact ⟨s.withDev (s.dev.showLog (i % 2 ^ 64)), rfl, rfl, shown.trans (Nat.mod_mod _ _), regs, fun h hl => s.dev.showLog_gone _ (s.dev.logEntry_beyond _ h hl),
      fun e h _ hl he k hk => s.dev.showLog_entry _ (s.dev.logEntry_last _ h hl he) hk⟩
  · exact ⟨s.withDev (s.dev.quoting s.dev.quoteHead), by rw [exec_quoteGo, if_neg (by simp [Dev.flag_eq_false hb, Dev.flag_eq_true hr])], rfl,
      s.dev.quoting_shown s.dev.quoteHead⟩
  · rw [exec_quoteGo, if_pos]
    rcases h with h | h
    · simp [Dev.flag_eq_true h]
    · simp [Dev.flag_eq_false h]
  · obtain ⟨e, he⟩ := quoteDone_busy s hb
    refine ⟨_, he, rfl, rfl, ?_, Dev.get_putD_fits _ (by decide) (by decide)⟩
    exact (Dev.get_putD_spared _ _ (by decide)).trans (Dev.get_putD_fits _ (by decide) (by decide))

/-- Settles O60: the start step by step, its end in service, in damped mode or in failure, and the commands of each. -/
theorem startStage2ResetsAndDampedMode : Obligations.StartStage2ResetsAndDampedMode := by
  refine ⟨fun s env => ⟨fun h => ?_, fun h => ?_⟩, fun s i l a h => ⟨startClaimed s h, (exec_claim s h).2⟩, startTimedOut, fun s i f h => exec_reset s h,
    fun s => ⟨loadStage2_accepted s, loadStage2_refused s, stage2Runs s⟩, fun f v h => ⟨Flash.append_value h v, Flash.append_place h v⟩,
    fun s i op region h => dampedCommand s h, fun s h => ?_,
    fun s err bs => ⟨exec_dampedCommandDone_none s err bs, fun g h => ⟨flashWrite_region (exec_flashWriteDone s err bs h),
      flashWrite_bounds (exec_flashWriteDone s err bs h) rfl rfl, fun h1 h4 ha hn hc he =>
        programmed_ends (flashWrite_programs (exec_flashWriteDone s err bs h) rfl rfl h1 h4 ha hn hc he) (Dev.programmed_shown _ _ _ _) rfl rfl rfl⟩, fun op g out => mailCommandDone s err bs⟩, logAndQuote⟩
  · exact congrArg (fun d => Host.Outcome.next (s.withDev d)) (if_pos h)
  · exact congrArg (fun d => Host.Outcome.next (s.withDev d)) (if_neg h)
  · rw [exec_clearReset, if_neg (ne_true_of_eq_false h)]
    rfl

end Sys2Proof.Machine

/-! # Fault messages, rewind, liveness, takeover (chapter 15) -/

namespace Sys2Proof.Machine

/-! ## What an event record and a packet sent leave of the faults' own state -/

section
variable (d : Dev)

@[simp] theorem Dev.hlSend_flt (h op tag addr reason : Nat) (data : List Byte) : (d.hlSend h op tag addr reason data).flt = d.flt := by
  have pump (e : Dev) : (e.hlPump h).flt = e.flt := by
    unfold Dev.hlPump
    dsimp only
    split
    · rfl
    · exact Dev.setHlHalf_flt _ _ _
  unfold Dev.hlSend
  dsimp only
  rw [Dev.emit_flt, pump, Dev.setHlHalf_flt]

theorem Dev.hlRequest_flt (op addr : Nat) (data : List Byte) (w : Waiter) : (d.hlRequest op addr data w).2.flt = d.flt := by
  unfold Dev.hlRequest
  split
  · rfl
  · exact Dev.hlSend_flt _ _ _ _ _ _ _

/-- The holds outstanding and the chips held for (R409, R419). -/
def Dev.holding (d : Dev) : List Hold × List (Nat × Nat) := (d.flt.holds, d.flt.holdSince)

theorem Dev.holding_congr {d e : Dev} (h : e.flt = d.flt) : e.holding = d.holding := by
  unfold Dev.holding
  rw [h]

theorem Dev.notify_holding : d.notify.holding = d.holding := by
  unfold Dev.notify
  dsimp only
  generalize hz : d.hlRequest _ _ _ _ = z
  have kept : z.2.flt = d.flt := by rw [← hz, Dev.hlRequest_flt]
  exact (Dev.holding_congr kept :)

theorem Dev.deliver_holding (r : EventRec) : (d.deliver r).holding = d.holding := by
  unfold Dev.deliver
  dsimp only
  split
  · rfl
  · generalize hz : d.hlRequest _ _ _ _ = z
    obtain ⟨ok, e⟩ := z
    have kept : e.holding = d.holding := by
      rw [show e = (d.hlRequest _ _ _ _).2 from congrArg Prod.snd hz.symm]
      exact Dev.holding_congr (d.hlRequest_flt _ _ _ _)
    dsimp only
    split
    · split
      · exact (Dev.notify_holding _).trans kept
      · exact kept
    · exact kept

theorem Dev.recordOnly_holding (e : Ev) (source : Nat) (detail : List (Nat × Nat)) : (d.recordOnly e source detail).holding = d.holding := by
  unfold Dev.recordOnly
  dsimp only
  split <;> exact Dev.deliver_holding _ _

/-- An event record leaves a device-wide field that none of its own touches. -/
theorem Dev.get_recordOnly (e : Ev) (source : Nat) (detail : List (Nat × Nat)) {g : Fld} (h : recordFields.all (fun x => x.1.spares g) = true) :
    (d.recordOnly e source detail).get g = d.get g := by
  have plain : ∀ x ∈ recordFields, x.2 = (0, 0) := by decide
  have spared (x : Fld × Nat × Nat) (hx : x ∈ recordFields) : g.lo ≤ g.hi ∧ g.apart 0 0 x := by
    have hs := List.all_eq_true.1 h x hx
    obtain ⟨f, u, i⟩ := x
    obtain ⟨rfl, rfl⟩ := Prod.mk.injEq .. ▸ plain _ hx
    simp only [Fld.spares, Bool.and_eq_true, Bool.or_eq_true, decide_eq_true_eq] at hs
    exact ⟨hs.1.2, hs.2⟩
  exact (d.recordOnly_frame e source detail).2 g 0 0 (spared _ List.mem_cons_self).1 fun x hx => (spared x hx).2

theorem Dev.fltState_recordOnly (e : Ev) (source : Nat) (detail : List (Nat × Nat)) : (d.recordOnly e source detail).fltState = d.fltState :=
  d.get_recordOnly e source detail (by decide)

theorem Dev.now_recordOnly (e : Ev) (source : Nat) (detail : List (Nat × Nat)) : (d.recordOnly e source detail).now = d.now := by
  have clk : (d.recordOnly e source detail).clk = d.clk := (d.recordOnly_frame e source detail).1.2.2.2.1
  unfold Dev.now Dev.beat Dev.frac16
  rw [clk, d.get_recordOnly e source detail (by decide)]

theorem Dev.portState_recordOnly (e : Ev) (source : Nat) (detail : List (Nat × Nat)) (n : Nat) : (d.recordOnly e source detail).portState n = d.portState n := by
  refine (d.recordOnly_frame e source detail).2 F.FAB_PORT_STATUS_STATE (n / 4) (n % 4) (by decide) fun x hx => ?_
  exact Fld.apart_sideFields (n := 0) n (by decide) (by decide) x (by simp [sideFields, hx])

theorem Dev.fab_recordOnly (e : Ev) (source : Nat) (detail : List (Nat × Nat)) : (d.recordOnly e source detail).fab = d.fab :=
  (d.recordOnly_frame e source detail).1.2.2.2.2.2.1

theorem Dev.portsTo.flt {d e : Dev} (h : d.portsTo e) : e.flt = d.flt := by
  obtain ⟨r, c, b, rfl⟩ := h
  rfl

theorem Dev.flood_holding (m : FaultMsg) : (d.flood m).holding = d.holding := by
  unfold Dev.flood
  exact Dev.each_inv (P := fun e => e.holding = d.holding) (fun e n => e.enqueue n (m.packet e 0 (atLeast1 (e.get F.FAB_CFG_TTL)) true)) (fun e n h => h)
    (d.noteKey m).upPorts rfl

theorem Dev.sendRouted_flt (m : FaultMsg) (dst : Nat) : (d.sendRouted m dst).flt = d.flt := by
  unfold Dev.sendRouted
  split
  · rfl
  · exact (d.sendTx_portsTo _).flt

theorem Dev.nextStandby_holding (a : Assign) : (d.nextStandby a).holding = d.holding := by
  unfold Dev.nextStandby Dev.directAssign
  dsimp only
  split
  · exact Dev.flood_holding _ _
  · exact (Dev.holding_congr (Dev.sendRouted_flt _ _ _)).trans rfl

end

/-! ## Messages as they arrive (R410) -/

section
variable (d : Dev) (n : Nat) (p : Packet)

theorem Dev.takeMsg_fab : d.takeMsg n p = { d with fab := (d.takeMsg n p).fab } := by
  unfold Dev.takeMsg
  split
  · exact d.takeRx_fab n p
  · rfl

theorem Dev.takeMsg_regs : (d.takeMsg n p).regs = d.regs := (congrArg Dev.regs (d.takeMsg_fab n p)).trans rfl
theorem Dev.takeMsg_clk : (d.takeMsg n p).clk = d.clk := (congrArg Dev.clk (d.takeMsg_fab n p)).trans rfl

/-- A flooded message goes on by every other UP port. -/
def Dev.forwarded (d : Dev) (n : Nat) (p : Packet) : Dev :=
  if p.hops = 0 then d else d.each (d.upPorts.filter (· ≠ n)) (fun d k => d.enqueue k { p with hops := p.hops - 1 })

theorem Dev.floodIn_eq (act : Dev → FaultMsg → Dev) : d.floodIn n p act =
    let e := d.takeMsg n p
    let m := faultMsg p
    if e.keySeen m then e else (if m.job = (e.noteKey m).job then act (e.noteKey m) m else e.noteKey m).forwarded n p := rfl

theorem Dev.noteKey_job (m : FaultMsg) : (d.noteKey m).job = d.job := by
  unfold Dev.job
  rw [show (d.noteKey m).img = d.img from rfl]

variable {d n p} {act : Dev → FaultMsg → Dev}

theorem Dev.floodIn_seen (h : (d.takeMsg n p).keySeen (faultMsg p) = true) : d.floodIn n p act = d.takeMsg n p := by
  rw [Dev.floodIn_eq]
  exact if_pos h

theorem Dev.floodIn_otherJob (h : (d.takeMsg n p).keySeen (faultMsg p) = false) (hj : (faultMsg p).job ≠ (d.takeMsg n p).job) :
    d.floodIn n p act = ((d.takeMsg n p).noteKey (faultMsg p)).forwarded n p := by
  rw [Dev.floodIn_eq]
  dsimp only
  rw [if_neg (ne_true_of_eq_false h), if_neg (by rwa [Dev.noteKey_job])]

theorem Dev.floodIn_acted (h : (d.takeMsg n p).keySeen (faultMsg p) = false) (hj : (faultMsg p).job = (d.takeMsg n p).job) :
    d.floodIn n p act = (act ((d.takeMsg n p).noteKey (faultMsg p)) (faultMsg p)).forwarded n p := by
  rw [Dev.floodIn_eq]
  dsimp only
  rw [if_neg (ne_true_of_eq_false h), if_pos (by rwa [Dev.noteKey_job])]

theorem Dev.routedIn_here (h : p.dst = (d.takeMsg n p).chip) : d.routedIn n p act = act (d.takeMsg n p) (faultMsg p) := if_neg (not_not.2 h)

theorem Dev.routedIn_away (h : p.dst ≠ (d.takeMsg n p).chip) : d.routedIn n p act = if p.hops = 0 then (d.takeMsg n p).count F.FAB_TTL_DROP_V
    else (d.takeMsg n p).sendPacket { p with hops := p.hops - 1 } (if n < 16 then some n else none) := if_pos h

end

/-- A rewind order is obeyed where it is greater, and its hold taken (R407, R409). -/
def Dev.actRewind (d : Dev) (m : FaultMsg) : Dev :=
  let d := if d.orderGreater m.step m.attempt then d.obey m.step m.attempt else d
  if m.hold = 2 then d.addHold ⟨m.chip, true⟩ else d

/-- What the device does on a flooded message of each kind. -/
def Dev.actFlooded (ty : Nat) (d : Dev) (m : FaultMsg) : Dev :=
  if ty = 0x10 then d.actRewind m
  else if ty = 0x11 then d.hearClaimed m
  else if ty = 0x12 then d.removeHold ⟨m.chip, false⟩
  else if ty = 0x13 then d.removeHold ⟨m.chip, true⟩
  else if ty = 0x14 then d.recordOnly .takeoverFailed (devSource 0) []
  else d.actKnell m

/-- The six flooded messages. -/
theorem exec_flooded (s : State) {i : Instr} {n ty : Nat} {p : Packet} (hn : n < 16) (ht : (faultMsg p).ctype = ty)
    (h : (i, ty) ∈ [(Instr.rewind n p, 0x10), (.claimed n p, 0x11), (.takeoverDone n p, 0x12), (.repairDone n p, 0x13), (.takeoverFailed n p, 0x14), (.knellReceive n p, 0x30)]) :
    exec i s = .next (s.withDev (s.dev.floodIn n p (Dev.actFlooded ty))) := by
  simp only [List.mem_cons, Prod.mk.injEq, List.not_mem_nil, or_false] at h
  obtain ⟨rfl, rfl⟩ | ⟨rfl, rfl⟩ | ⟨rfl, rfl⟩ | ⟨rfl, rfl⟩ | ⟨rfl, rfl⟩ | ⟨rfl, rfl⟩ := h
  · refine (s.runOn_next _ (decide_eq_true (by omega))).trans ?_
    rw [if_neg (by omega), if_neg (not_not.2 ht)]
    rfl
  all_goals
    refine (s.runOn_next _ (decide_eq_true hn)).trans ?_
    rw [if_pos ht]
    rfl

/-- What the device does on a routed message of each kind. -/
def Dev.actRouted (ty : Nat) (p : Packet) (entry : List Byte) (d : Dev) (m : FaultMsg) : Dev :=
  if ty = 2 then d.sendRouted (d.message 3 d.chip (d.get F.FLT_INCARNATION_INC) d.serial) p.src
  else if ty = 3 then
    let mine := (List.range 16).filter (fun k => d.partner k = p.src && (d.port k).pingAt.isSome && !d.pongDue k)
    (d.each mine fun d k =>
      let on := d.portState k = 3 || d.portState k = 4
      (d.setPort k { d.port k with pingAt := none, liveFrom := if on then some d.now else none }).recordOnly .livenessLost (evSource (k / 4) 10 k) []).each
      (List.range 16) Dev.pongLost
  else if ty = 0x20 then d.takeAssign m entry
  else if ty = 0x21 then (match d.answered m.chip p.src with
    | some a => if d.beat < a.sentAt + 64 then d.accepted a else d
    | none => d)
  else if ty = 0x22 then (match d.answered m.chip p.src with
    | some a => d.nextStandby a
    | none => d)
  else d.noteRemirrored m.chip

/-- The six routed messages. -/
theorem exec_routed (s : State) {i : Instr} {n ty : Nat} {p : Packet} {entry : List Byte} (hn : n < 17) (ht : (faultMsg p).ctype = ty)
    (h : (i, ty) ∈ [(Instr.ping n p, 2), (.pong n p, 3), (.assign n p entry, 0x20), (.accept n p, 0x21), (.decline n p, 0x22), (.remirroredMessage n p, 0x23)]) :
    exec i s = .next (s.withDev (s.dev.routedIn n p (Dev.actRouted ty p entry))) := by
  simp only [List.mem_cons, Prod.mk.injEq, List.not_mem_nil, or_false] at h
  obtain ⟨rfl, rfl⟩ | ⟨rfl, rfl⟩ | ⟨rfl, rfl⟩ | ⟨rfl, rfl⟩ | ⟨rfl, rfl⟩ | ⟨rfl, rfl⟩ := h
  all_goals
    refine (s.runOn_next _ (decide_eq_true hn)).trans ?_
    rw [if_neg (not_not.2 ht)]
    rfl

end Sys2Proof.Machine

namespace Sys2Proof.Machine

/-! ## Orders, rewinds and progress (R407 to R409) -/

theorem Dev.get_count_spared (d : Dev) {f g : Fld} (n : Nat) (h : f.spares g = true) : (d.count f 0 0 n).get g = d.get g := d.get_putD_spared _ h

section
variable (d : Dev)

/-- An order is written to FLT_PROGRESS, and a device in service or rewinding is REWINDING. -/
def Dev.orderTaken (d : Dev) (st a : Nat) : Dev :=
  let d := (d.putD F.FLT_PROGRESS_STEP st).putD F.FLT_PROGRESS_ATTEMPT a
  let d := if d.fltState ≤ 3 then d.putD F.FLT_STATUS_STATE 1 else d
  let d := { d with flt := { d.flt with withheld := none } }
  d.count F.FLT_REWINDS_V

theorem Dev.obey_eq (st a : Nat) : ∃ x : Dev, x.fltState = d.fltState ∧ d.obey st a = x.orderTaken st a := by
  have recorded := d.fltState_recordOnly .rewindOrder (devSource 0) []
  have snapshot (y : Dev) : (y.putD F.SHD_STATUS_SNAPSHOT 0).fltState = y.fltState := Dev.get_putD_spared _ _ (by decide)
  unfold Dev.obey
  dsimp only
  generalize d.recordOnly .rewindOrder (devSource 0) [] = r at recorded ⊢
  split
  · refine ⟨_, ?_, rfl⟩
    exact (snapshot _).trans recorded
  · exact ⟨_, recorded, rfl⟩

theorem Dev.fltState_progress (st a : Nat) : ((d.putD F.FLT_PROGRESS_STEP st).putD F.FLT_PROGRESS_ATTEMPT a).fltState = d.fltState :=
  (Dev.get_putD_spared _ _ (by decide)).trans (Dev.get_putD_spared _ _ (by decide))

theorem Dev.progress_written {st a : Nat} (hs : st < 2 ^ 32) (ha : a < 2 ^ 16) :
    ((d.putD F.FLT_PROGRESS_STEP st).putD F.FLT_PROGRESS_ATTEMPT a).get F.FLT_PROGRESS_STEP = st ∧
      ((d.putD F.FLT_PROGRESS_STEP st).putD F.FLT_PROGRESS_ATTEMPT a).get F.FLT_PROGRESS_ATTEMPT = a :=
  ⟨(Dev.get_putD_spared _ _ (by decide)).trans (Dev.get_putD_fits _ (by decide) hs), Dev.get_putD_fits _ (by decide) ha⟩

/-- STATE set to 1 or left, whatever follows that leaves the registers. -/
theorem Dev.orderTaken_shown {st a : Nat} (hs : st < 2 ^ 32) (ha : a < 2 ^ 16) :
    (d.orderTaken st a).get F.FLT_PROGRESS_STEP = st ∧ (d.orderTaken st a).get F.FLT_PROGRESS_ATTEMPT = a ∧
      (d.fltState ≤ 3 → (d.orderTaken st a).fltState = 1) ∧ (3 < d.fltState → (d.orderTaken st a).fltState = d.fltState) := by
  obtain ⟨step, attempt⟩ := d.progress_written hs ha
  have state := d.fltState_progress st a
  unfold Dev.orderTaken
  dsimp only
  generalize (d.putD F.FLT_PROGRESS_STEP st).putD F.FLT_PROGRESS_ATTEMPT a = x at step attempt state ⊢
  have counted (y : Dev) (f : FaultSt) (g : Fld) (hg : F.FLT_REWINDS_V.spares g = true) : (({ y with flt := f } : Dev).count F.FLT_REWINDS_V).get g = y.get g :=
    Dev.get_count_spared _ _ hg
  by_cases h : x.fltState ≤ 3
  · rw [if_pos h]
    refine ⟨?_, ?_, fun _ => ?_, fun h' => absurd h (by omega)⟩
    · rw [counted _ _ _ (by decide), Dev.get_putD_spared _ _ (by decide), step]
    · rw [counted _ _ _ (by decide), Dev.get_putD_spared _ _ (by decide), attempt]
    · exact (counted _ _ _ (by decide)).trans (Dev.get_putD_fits _ (by decide) (by decide))
  · rw [if_neg h]
    refine ⟨?_, ?_, fun h' => absurd h' (by omega), fun _ => ?_⟩
    · rw [counted _ _ _ (by decide), step]
    · rw [counted _ _ _ (by decide), attempt]
    · exact (counted _ _ _ (by decide)).trans state

theorem Dev.obey_shown {st a : Nat} (hs : st < 2 ^ 32) (ha : a < 2 ^ 16) :
    (d.obey st a).get F.FLT_PROGRESS_STEP = st ∧ (d.obey st a).get F.FLT_PROGRESS_ATTEMPT = a ∧
      (d.fltState ≤ 3 → (d.obey st a).fltState = 1) ∧ (3 < d.fltState → (d.obey st a).fltState = d.fltState) := by
  obtain ⟨x, state, he⟩ := d.obey_eq st a
  rw [he, ← state]
  exact x.orderTaken_shown hs ha

/-- A HELD device stays so, or is READY with its record written. -/
theorem Dev.maybeReady_cases : d.maybeReady = d ∨ d.maybeReady = (d.putD F.FLT_STATUS_STATE 3).recordOnly .resumable (devSource 0) [] := by
  unfold Dev.maybeReady
  split
  · exact .inr rfl
  · exact .inl rfl

/-- The whole of a register is one field. -/
theorem Dev.reg_eq_get (r : Reg) (u i : Nat) : d.reg r u i = BitVec.ofNat 256 (d.get ⟨r, 255, 0⟩ u i) := by
  unfold Dev.get bits
  apply BitVec.eq_of_toNat_eq
  have := (d.reg r u i).isLt
  rw [BitVec.toNat_ofNat]
  simp only [Nat.shiftRight_zero]
  omega

/-- The version ledger's groups stand where no record and no state of the faults does. -/
theorem ledger_apart (g : Nat) (hg : g < 1024) : ∀ x ∈ (F.FLT_STATUS_STATE, 0, 0) :: recordFields, Fld.apart ⟨.shdLedger, 255, 0⟩ 0 g x := by
  have away : ∀ x ∈ (F.FLT_STATUS_STATE, 0, 0) :: recordFields, 0x22000 ≤ x.1.reg.addr x.2.1 x.2.2 := by decide
  have addr : Reg.shdLedger.addr 0 g = 0x20000 + g * 8 := rfl
  intro x hx
  have := away x hx
  refine .inl ?_
  dsimp only
  omega

theorem Dev.ledger_of {d e : Dev} (h : d.onlyFields e ((F.FLT_STATUS_STATE, 0, 0) :: recordFields)) {g : Nat} (hg : g < 1024) : e.reg .shdLedger 0 g = d.reg .shdLedger 0 g := by
  rw [Dev.reg_eq_get, Dev.reg_eq_get, h _ 0 g (by decide) (ledger_apart g hg)]

/-- A cleared ledger reads as zero. -/
theorem Dev.clearLedger_reg {g : Nat} (hg : g < 1024) : d.clearLedger.reg .shdLedger 0 g = 0 := by
  have addr (k : Nat) : Reg.shdLedger.addr 0 k = 0x20000 + k * 8 := rfl
  have cleared (l : List Nat) : ∀ e : Dev, g ∈ l ∨ e.reg .shdLedger 0 g = 0 → (e.each l fun d k => d.setReg .shdLedger 0 k 0).reg .shdLedger 0 g = 0 := by
    induction l with
    | nil => exact fun e h => h.resolve_left List.not_mem_nil
    | cons k l ih =>
      intro e h
      refine ih (e.setReg .shdLedger 0 k 0) ?_
      by_cases hk : g = k
      · subst hk
        exact .inr (Dev.reg_setReg_at _ _ _ _ _ _ _ rfl)
      · refine h.imp (fun h => (List.mem_cons.1 h).resolve_left hk) fun h => ?_
        have other : Reg.shdLedger.addr 0 g ≠ Reg.shdLedger.addr 0 k := by rw [addr, addr]; omega
        have kept : (e.setReg .shdLedger 0 k 0).reg .shdLedger 0 g = e.reg .shdLedger 0 g := by
          simp only [Dev.reg, Dev.setReg]
          rw [mget_mset_other _ _ _ _ _ _ other]
        exact kept.trans h
  exact cleared _ d (.inl (List.mem_range.2 hg))

theorem Dev.undoStep_ledger (st : Nat) {g : Nat} (hg : g < 1024) : (d.undoStep st).reg .shdLedger 0 g = 0 := by
  unfold Dev.undoStep
  exact Dev.clearLedger_reg _ hg

/-- The end of a rewind: its record, HELD, and READY where no hold is left. -/
def Dev.rewindEnds (d : Dev) : Dev := ((d.recordOnly .rewindDone (devSource 0) []).putD F.FLT_STATUS_STATE 2).maybeReady

theorem Dev.rewindEnds_shown : (d.rewindEnds.fltState = 2 ∨ d.rewindEnds.fltState = 3) ∧ ∀ g, g < 1024 → d.rewindEnds.reg .shdLedger 0 g = d.reg .shdLedger 0 g := by
  let x := (d.recordOnly .rewindDone (devSource 0) []).putD F.FLT_STATUS_STATE 2
  have held : x.fltState = 2 := Dev.get_putD_fits _ (by decide) (by decide)
  have listed : ∀ y ∈ recordFields, y ∈ (F.FLT_STATUS_STATE, 0, 0) :: recordFields := fun y => List.mem_cons_of_mem _
  have record (y : Dev) (e : Ev) : y.onlyFields (y.recordOnly e (devSource 0) []) ((F.FLT_STATUS_STATE, 0, 0) :: recordFields) :=
    Dev.onlyFields_mono (y.recordOnly_frame e (devSource 0) []).2 listed
  have first : d.onlyFields x ((F.FLT_STATUS_STATE, 0, 0) :: recordFields) := Dev.onlyFields_step (record d .rewindDone) _ _ _ _ (by decide) List.mem_cons_self
  have e : d.rewindEnds = x.maybeReady := rfl
  rw [e]
  rcases x.maybeReady_cases with h | h
  · rw [h]
    exact ⟨.inl held, fun g hg => Dev.ledger_of first hg⟩
  · rw [h]
    refine ⟨.inr ((Dev.fltState_recordOnly _ _ _ _).trans (Dev.get_putD_fits _ (by decide) (by decide))), fun g hg => ?_⟩
    have put : x.onlyFields (x.putD F.FLT_STATUS_STATE 3) ((F.FLT_STATUS_STATE, 0, 0) :: recordFields) :=
      Dev.onlyFields_step (x.onlyFields_refl _) _ _ _ _ (by decide) List.mem_cons_self
    exact (Dev.ledger_of (record _ .resumable) hg).trans ((Dev.ledger_of put hg).trans (Dev.ledger_of first hg))

end

section
variable (s : State)

theorem exec_rewind_command (p : Packet) : exec (.rewind 16 p) s = .next (s.withDev (if s.dev.rewindStates then s.dev else s.dev.originateOrder false)) := rfl

theorem exec_rewindComplete_idle (h : s.dev.fltState ≠ 1) : exec .rewindComplete s = .next s :=
  congrArg (fun d => Host.Outcome.next (s.withDev d)) (if_pos h)

theorem exec_rewindComplete (h : s.dev.fltState = 1) : ∃ (x : Dev) (st : Nat), exec .rewindComplete s = .next (s.withDev (x.undoStep st).rewindEnds) :=
  ⟨_, _, congrArg (fun d => Host.Outcome.next (s.withDev d)) (if_neg (not_not.2 h))⟩

/-- The step in progress and its attempt are written, and a READY device is in SERVICE (R408). -/
def Dev.progressTaken (d : Dev) (step attempt : Nat) : Dev :=
  let d := (d.putD F.FLT_PROGRESS_STEP step).putD F.FLT_PROGRESS_ATTEMPT attempt
  let st := d.get F.FLT_PROGRESS_STEP
  let d := if d.flt.firstStep = st then d else { d with flt := { d.flt with firstStep := st, firstAttempt := d.get F.FLT_PROGRESS_ATTEMPT } }
  if d.fltState = 3 then d.putD F.FLT_STATUS_STATE 0 else d

theorem exec_fltProgressWrite (st a : Nat) : exec (.fltProgressWrite st a) s = .next (s.withDev (s.dev.progressTaken st a)) := rfl

end

/-- The registers of FLT_PROGRESS_WRITE. -/
def progressFields : List (Fld × Nat × Nat) := [(F.FLT_PROGRESS_STEP, 0, 0), (F.FLT_PROGRESS_ATTEMPT, 0, 0), (F.FLT_STATUS_STATE, 0, 0)]

theorem Dev.progressTaken_shown (d : Dev) {st a : Nat} (hs : st < 2 ^ 32) (ha : a < 2 ^ 16) :
    (d.progressTaken st a).get F.FLT_PROGRESS_STEP = st ∧ (d.progressTaken st a).get F.FLT_PROGRESS_ATTEMPT = a ∧
      (d.progressTaken st a).fltState = (if d.fltState = 3 then 0 else d.fltState) ∧ d.KeepsBytes (d.progressTaken st a) progressFields := by
  obtain ⟨step, attempt⟩ := d.progress_written hs ha
  have state := d.fltState_progress st a
  have keeps : d.KeepsBytes ((d.putD F.FLT_PROGRESS_STEP st).putD F.FLT_PROGRESS_ATTEMPT a) progressFields :=
    ((Dev.KeepsBytes.refl d _).put F.FLT_PROGRESS_STEP 0 0 st (by decide) (by simp [progressFields])).put F.FLT_PROGRESS_ATTEMPT 0 0 a (by decide) (by simp [progressFields])
  unfold Dev.progressTaken
  dsimp only
  generalize (d.putD F.FLT_PROGRESS_STEP st).putD F.FLT_PROGRESS_ATTEMPT a = x at step attempt state keeps ⊢
  have same : ∀ y : Dev, y.regs = x.regs → y.mem = x.mem → y.cores = x.cores → let e := if y.fltState = 3 then y.putD F.FLT_STATUS_STATE 0 else y
      e.get F.FLT_PROGRESS_STEP = st ∧ e.get F.FLT_PROGRESS_ATTEMPT = a ∧ e.fltState = (if d.fltState = 3 then 0 else d.fltState) ∧ d.KeepsBytes e progressFields := by
    intro y hr hm hc
    have hstate : y.fltState = d.fltState := (Dev.get_regs hr _ _ _).trans state
    have hkeeps := keeps.beside hm hc hr
    dsimp only
    rw [hstate]
    split
    · exact ⟨(Dev.get_putD_spared _ _ (by decide)).trans ((Dev.get_regs hr _ _ _).trans step),
        (Dev.get_putD_spared _ _ (by decide)).trans ((Dev.get_regs hr _ _ _).trans attempt), Dev.get_putD_fits _ (by decide) (by decide),
        hkeeps.put _ _ _ _ (by decide) (by simp [progressFields])⟩
    · exact ⟨(Dev.get_regs hr _ _ _).trans step, (Dev.get_regs hr _ _ _).trans attempt, hstate, hkeeps⟩
  by_cases h : x.flt.firstStep = x.get F.FLT_PROGRESS_STEP
  · rw [if_pos h]
    exact same x rfl rfl rfl
  · rw [if_neg h]
    exact same _ rfl rfl rfl

end Sys2Proof.Machine

namespace Sys2Proof.Machine

/-! ## Holds and knells (R409, R412, R416) -/

section
variable (d : Dev) (h : Hold)

theorem Dev.maybeReady_holding : d.maybeReady.holding = d.holding := by
  rcases d.maybeReady_cases with e | e
  · rw [e]
  · rw [e]
    exact Dev.recordOnly_holding _ _ _ _

/-- A hold removed is outstanding no more. -/
theorem Dev.removeHold_gone : h ∉ (d.removeHold h).flt.holds := by
  unfold Dev.removeHold
  split
  · have left (x : Dev) (hx : h ∉ x.flt.holds) : h ∉ x.showHolds.maybeReady.flt.holds := by
      have kept : x.showHolds.maybeReady.flt.holds = x.flt.holds := congrArg Prod.fst (Dev.maybeReady_holding x.showHolds)
      rwa [kept]
    refine left _ fun hm => ?_
    simp at hm
  · next hc => simpa using hc

theorem Dev.repairCheck_bound (hb : d.failedBound = true) : d.repairCheck = d := by
  unfold Dev.repairCheck
  rw [if_pos (by simp [hb])]

theorem Dev.repairCheck_gone (hb : d.failedBound = false) (hm : ⟨d.chip, true⟩ ∈ d.flt.holds) : ⟨d.chip, true⟩ ∉ d.repairCheck.flt.holds := by
  unfold Dev.repairCheck
  rw [if_neg (by simp [hb, hm])]
  exact Dev.removeHold_gone _ _

theorem Dev.knell_shown {cause : Nat} (hc : cause < 2 ^ (F.FLT_STATUS_LAST_CAUSE.hi - F.FLT_STATUS_LAST_CAUSE.lo + 1)) :
    (d.knell cause).fltState = 7 ∧ (d.knell cause).get F.FLT_STATUS_LAST_CAUSE = cause := by
  have shown (x : Dev) : ((x.putD F.FLT_STATUS_LAST_CAUSE cause).putD F.FLT_STATUS_STATE 7).fltState = 7 ∧
      ((x.putD F.FLT_STATUS_LAST_CAUSE cause).putD F.FLT_STATUS_STATE 7).get F.FLT_STATUS_LAST_CAUSE = cause :=
    ⟨Dev.get_putD_fits _ (by decide) (by decide), (Dev.get_putD_spared _ _ (by decide)).trans (Dev.get_putD_fits _ (by decide) hc)⟩
  unfold Dev.knell
  exact shown _

end

/-! ## Liveness (R413 to R415) -/

section
variable (d : Dev) (n : Nat)

theorem Dev.pongLost_idle (h : d.pongDue n = false ∨ d.otherPing n = true) : d.pongLost n = d := by
  unfold Dev.pongLost
  rw [if_pos]
  rcases h with h | h <;> simp [h]

/-- With no PING due nothing is decided. -/
theorem Dev.pongLost_none (l : List Nat) (h : ∀ k ∈ l, d.pongDue k = false) : d.each l Dev.pongLost = d := by
  induction l with
  | nil => rfl
  | cons k l ih =>
    have first : d.pongLost k = d := d.pongLost_idle k (.inl (h k List.mem_cons_self))
    calc d.each (k :: l) Dev.pongLost = (d.pongLost k).each l Dev.pongLost := rfl
      _ = d.each l Dev.pongLost := by rw [first]
      _ = d := ih fun j hj => h j (List.mem_cons_of_mem _ hj)

theorem Dev.pongDue_none (h : (d.port n).pingAt = none) : d.pongDue n = false := by
  unfold Dev.pongDue
  rw [h]

/-- A partner that has answered is live again. -/
def Dev.answeredPing (d : Dev) (k : Nat) : Dev :=
  let on := d.portState k = 3 || d.portState k = 4
  (d.setPort k { d.port k with pingAt := none, liveFrom := if on then some d.now else none }).recordOnly .livenessLost (evSource (k / 4) 10 k) []

theorem Dev.answeredPing_port_same : ((d.answeredPing n).port n).pingAt = none ∧
    ((d.answeredPing n).port n).liveFrom = (if d.portState n = 3 ∨ d.portState n = 4 then some d.now else none) := by
  have port (t : Port) (e : Ev) (src : Nat) : ((d.setPort n t).recordOnly e src []).port n = t :=
    (Dev.port_fab (Dev.fab_recordOnly _ _ _ _) n).trans (d.port_setPort_same n t)
  unfold Dev.answeredPing
  dsimp only
  rw [port]
  simp

theorem Dev.answeredPing_port_other {k : Nat} (h : k ≠ n) : (d.answeredPing n).port k = d.port k :=
  (Dev.port_fab (Dev.fab_recordOnly _ _ _ _) k).trans (d.port_setPort_other n k _ h)

theorem Dev.answeredPing_now : (d.answeredPing n).now = d.now := (Dev.now_recordOnly _ _ _ _).trans (Dev.now_congr rfl rfl)

theorem Dev.answeredPing_portState (k : Nat) : (d.answeredPing n).portState k = d.portState k :=
  (Dev.portState_recordOnly _ _ _ _ k).trans (Dev.get_regs rfl _ _ _)

/-- Port k has been answered, as the device d0 stands. -/
def Dev.live (d0 e : Dev) (k : Nat) : Prop :=
  (e.port k).pingAt = none ∧ (e.port k).liveFrom = (if d0.portState k = 3 ∨ d0.portState k = 4 then some d0.now else none)

/-- After a list of ports has been answered no PING is due that was not due, and each of them is live. -/
theorem Dev.answeredPings (d0 : Dev) (l : List Nat) : ∀ e : Dev, e.now = d0.now → (∀ k, e.portState k = d0.portState k) →
    (∀ k, e.pongDue k = true → d0.pongDue k = true) →
    let f := e.each l Dev.answeredPing
    (∀ k, f.pongDue k = true → d0.pongDue k = true) ∧ ∀ k, k ∈ l ∨ d0.live e k → d0.live f k := by
  induction l with
  | nil => exact fun e _ _ hd => ⟨hd, fun k h => h.resolve_left List.not_mem_nil⟩
  | cons m l ih =>
    intro e hnow hst hd
    obtain ⟨ping, from_⟩ := e.answeredPing_port_same m
    rw [hnow, hst] at from_
    have due : ∀ k, (e.answeredPing m).pongDue k = true → d0.pongDue k = true := by
      intro k hk
      by_cases hkm : k = m
      · subst hkm
        rw [Dev.pongDue_none _ _ ping] at hk
        exact absurd hk Bool.false_ne_true
      · refine hd k ?_
        unfold Dev.pongDue at hk ⊢
        rwa [e.answeredPing_port_other m hkm, e.answeredPing_now m] at hk
    obtain ⟨due', live'⟩ := ih (e.answeredPing m) ((e.answeredPing_now m).trans hnow) (fun k => (e.answeredPing_portState m k).trans (hst k)) due
    refine ⟨due', fun k hk => live' k ?_⟩
    by_cases hkm : k = m
    · subst hkm
      exact .inr ⟨ping, from_⟩
    · refine hk.imp (fun h => (List.mem_cons.1 h).resolve_left hkm) fun h => ?_
      unfold Dev.live
      rw [e.answeredPing_port_other m hkm]
      exact h

/-- What a PONG does (R414). -/
theorem Dev.actRouted_pong (p : Packet) (entry : List Byte) (m : FaultMsg) : d.actRouted 3 p entry m =
    (d.each ((List.range 16).filter (fun k => d.partner k = p.src && (d.port k).pingAt.isSome && !d.pongDue k)) Dev.answeredPing).each (List.range 16) Dev.pongLost := rfl

/-- Flits given back leave what a port knows of its partner. -/
theorem Port.freeFlits_partner (t : Port) (vc sub k : Nat) : (t.freeFlits vc sub k).pingAt = t.pingAt ∧ (t.freeFlits vc sub k).hbChip = t.hbChip := by
  unfold Port.freeFlits
  dsimp only
  split <;> exact ⟨rfl, rfl⟩

/-- A message taken from a port leaves what the ports know of their partners. -/
theorem Dev.takeMsg_port (p : Packet) (k : Nat) : ((d.takeMsg n p).port k).pingAt = (d.port k).pingAt ∧ ((d.takeMsg n p).port k).hbChip = (d.port k).hbChip := by
  unfold Dev.takeMsg Dev.takeRx
  dsimp only
  split
  · split
    · by_cases h : k = n
      · subst h
        rw [Dev.port_setPort_same]
        split
        · exact ⟨rfl, rfl⟩
        · exact Port.freeFlits_partner _ _ _ _
      · rw [Dev.port_setPort_other _ _ _ _ h]
        exact ⟨rfl, rfl⟩
    · exact ⟨rfl, rfl⟩
  · exact ⟨rfl, rfl⟩

end

end Sys2Proof.Machine

namespace Sys2Proof.Machine

section
variable (s : State)

/-- A flooded message: known, of another job, or acted on. -/
theorem floodedMessage {i : Instr} {n ty : Nat} {p : Packet} (hn : n < 16) (ht : (faultMsg p).ctype = ty)
    (h : (i, ty) ∈ [(Instr.rewind n p, 0x10), (.claimed n p, 0x11), (.takeoverDone n p, 0x12), (.repairDone n p, 0x13), (.takeoverFailed n p, 0x14), (.knellReceive n p, 0x30)]) :
    let d := s.dev.takeMsg n p
    let m := faultMsg p
    (d.keySeen m = true → exec i s = .next (s.withDev d)) ∧
    (d.keySeen m = false → m.job ≠ d.job → exec i s = .next (s.withDev ((d.noteKey m).forwarded n p))) ∧
    (d.keySeen m = false → m.job = d.job → exec i s = .next (s.withDev ((Dev.actFlooded ty (d.noteKey m) m).forwarded n p))) := by
  intro d m
  have e := exec_flooded s hn ht h
  exact ⟨fun hs => by rw [e, Dev.floodIn_seen hs], fun hs hj => by rw [e, Dev.floodIn_otherJob hs hj], fun hs hj => by rw [e, Dev.floodIn_acted hs hj]⟩

/-- A routed message for another chip goes on, or is dropped. -/
theorem routedAway {i : Instr} {n ty : Nat} {p : Packet} {entry : List Byte} (hn : n < 17) (ht : (faultMsg p).ctype = ty)
    (h : (i, ty) ∈ [(Instr.ping n p, 2), (.pong n p, 3), (.assign n p entry, 0x20), (.accept n p, 0x21), (.decline n p, 0x22), (.remirroredMessage n p, 0x23)])
    (hd : p.dst ≠ (s.dev.takeMsg n p).chip) : exec i s = .next (s.withDev (if p.hops = 0 then (s.dev.takeMsg n p).count F.FAB_TTL_DROP_V
      else (s.dev.takeMsg n p).sendPacket { p with hops := p.hops - 1 } (if n < 16 then some n else none))) := by
  rw [exec_routed s hn ht h, Dev.routedIn_away hd]

/-- A routed message for this chip is acted on. -/
theorem routedHere {i : Instr} {n ty : Nat} {p : Packet} {entry : List Byte} (hn : n < 17) (ht : (faultMsg p).ctype = ty)
    (h : (i, ty) ∈ [(Instr.ping n p, 2), (.pong n p, 3), (.assign n p entry, 0x20), (.accept n p, 0x21), (.decline n p, 0x22), (.remirroredMessage n p, 0x23)])
    (hd : p.dst = (s.dev.takeMsg n p).chip) : exec i s = .next (s.withDev ((s.dev.takeMsg n p).actRouted ty p entry (faultMsg p))) := by
  rw [exec_routed s hn ht h, Dev.routedIn_here hd]

end

section
variable (d : Dev) (p : Packet) (entry : List Byte) (m : FaultMsg)

/-- A PONG that no open PING awaits. -/
theorem Dev.actRouted_pong_none (h : ∀ k, k < 16 → (d.port k).pingAt = none) : Dev.actRouted 3 p entry d m = d := by
  have none : (List.range 16).filter (fun k => d.partner k = p.src && (d.port k).pingAt.isSome && !d.pongDue k) = [] := by
    refine List.filter_eq_nil_iff.2 fun k hk => ?_
    rw [h k (List.mem_range.1 hk)]
    simp
  rw [d.actRouted_pong, none]
  exact d.pongLost_none _ fun k hk => d.pongDue_none k (h k (List.mem_range.1 hk))

theorem Dev.actRouted_answer {a : Assign} (h : d.answered m.chip p.src = some a) :
    Dev.actRouted 0x21 p entry d m = (if d.beat < a.sentAt + 64 then d.accepted a else d) ∧ Dev.actRouted 0x22 p entry d m = d.nextStandby a := by
  unfold Dev.actRouted
  rw [h]
  exact ⟨rfl, rfl⟩

theorem Dev.actRouted_noAnswer (h : d.answered m.chip p.src = none) : Dev.actRouted 0x21 p entry d m = d ∧ Dev.actRouted 0x22 p entry d m = d := by
  unfold Dev.actRouted
  rw [h]
  exact ⟨rfl, rfl⟩

/-- A PONG ends the PING that it answers (R414). -/
theorem Dev.actRouted_pong_live {k : Nat} (hk : k < 16) (hp : d.partner k = p.src) (hping : (d.port k).pingAt.isSome = true) (hdue : ∀ j, j < 16 → d.pongDue j = false) :
    ((Dev.actRouted 3 p entry d m).port k).pingAt = none ∧
      ((Dev.actRouted 3 p entry d m).port k).liveFrom = (if d.portState k = 3 ∨ d.portState k = 4 then some d.now else none) := by
  have mine : k ∈ (List.range 16).filter (fun k => d.partner k = p.src && (d.port k).pingAt.isSome && !d.pongDue k) :=
    List.mem_filter.2 ⟨List.mem_range.2 hk, by simp [hp, hping, hdue k hk]⟩
  obtain ⟨due, live⟩ := d.answeredPings ((List.range 16).filter (fun k => d.partner k = p.src && (d.port k).pingAt.isSome && !d.pongDue k)) d rfl (fun _ => rfl) (fun _ h => h)
  rw [d.actRouted_pong, Dev.pongLost_none]
  · exact live k (.inl mine)
  · intro j hj
    by_contra hne
    have := due j (by simpa using hne)
    rw [hdue j (List.mem_range.1 hj)] at this
    cases this

end

/-- A routed message, by its kind (R410, R414, R419, R420, R422). -/
theorem routedMessage (s : State) {i : Instr} {n ty : Nat} {p : Packet} {entry : List Byte} (hn : n < 17) (ht : (faultMsg p).ctype = ty)
    (h : (i, ty) ∈ [(Instr.ping n p, 2), (.pong n p, 3), (.assign n p entry, 0x20), (.accept n p, 0x21), (.decline n p, 0x22), (.remirroredMessage n p, 0x23)]) :
    let d := s.dev.takeMsg n p
    let m := faultMsg p
    p.dst = d.chip → (ty = 2 → exec i s = .next (s.withDev (d.sendRouted (d.message 3 d.chip (d.get F.FLT_INCARNATION_INC) d.serial) p.src))) ∧
      (ty = 3 → (∀ k, k < 16 → (d.port k).pingAt = none) → exec i s = .next (s.withDev d)) ∧
      (ty = 0x20 → exec i s = .next (s.withDev (d.takeAssign m entry))) ∧
      (∀ a, d.answered m.chip p.src = some a → (ty = 0x21 → exec i s = .next (s.withDev (if d.beat < a.sentAt + 64 then d.accepted a else d))) ∧
        (ty = 0x22 → exec i s = .next (s.withDev (d.nextStandby a)))) ∧
      (d.answered m.chip p.src = none → ty = 0x21 ∨ ty = 0x22 → exec i s = .next (s.withDev d)) ∧
      (ty = 0x23 → exec i s = .next (s.withDev (d.noteRemirrored m.chip))) := by
  intro d m hd
  have e := routedHere s hn ht h hd
  refine ⟨fun hty => ?_, fun hty hnone => ?_, fun hty => ?_, fun a ha => ⟨fun hty => ?_, fun hty => ?_⟩, fun ha hty => ?_, fun hty => ?_⟩
  · rw [e, hty]
    rfl
  · rw [e, hty, Dev.actRouted_pong_none _ _ _ _ hnone]
  · rw [e, hty]
    rfl
  · rw [e, hty, (Dev.actRouted_answer _ _ _ _ ha).1]
  · rw [e, hty, (Dev.actRouted_answer _ _ _ _ ha).2]
  · rcases hty with hty | hty
    · rw [e, hty, (Dev.actRouted_noAnswer _ _ _ _ ha).1]
    · rw [e, hty, (Dev.actRouted_noAnswer _ _ _ _ ha).2]
  · rw [e, hty]
    rfl

/-- The message taken leaves the chip id, the stamp, and what is known of the partners. -/
theorem Dev.takeMsg_kept (d : Dev) (n : Nat) (p : Packet) : (d.takeMsg n p).chip = d.chip ∧ (d.takeMsg n p).now = d.now ∧
    (∀ k, (d.takeMsg n p).partner k = d.partner k) ∧ (∀ k, (d.takeMsg n p).portState k = d.portState k) ∧ ∀ k, (d.takeMsg n p).pongDue k = d.pongDue k := by
  have regs := d.takeMsg_regs n p
  have now := Dev.now_congr regs (d.takeMsg_clk n p)
  refine ⟨Dev.chip_regs regs, now, fun k => ?_, fun k => Dev.get_regs regs _ _ _, fun k => ?_⟩
  · unfold Dev.partner
    rw [(d.takeMsg_port n p k).2, show (d.takeMsg n p).pget F.FAB_PORT_PCHIP_CHIP k = d.pget F.FAB_PORT_PCHIP_CHIP k from Dev.get_regs regs _ _ _]
  · unfold Dev.pongDue
    rw [(d.takeMsg_port n p k).1, now]

/-- A PONG from a partner whose PING is open and not due. -/
theorem pongHeard (s : State) {n k : Nat} {p : Packet} (hn : n < 16) (hk : k < 16) (ht : (faultMsg p).ctype = 3) (hd : p.dst = s.dev.chip) (hp : s.dev.partner k = p.src)
    (hping : (s.dev.port k).pingAt.isSome = true) (hdue : ∀ j, j < 16 → s.dev.pongDue j = false) :
    ∃ t, exec (.pong n p) s = .next t ∧ t.pending = s.pending ∧ (t.dev.port k).pingAt = none ∧
      (t.dev.port k).liveFrom = (if s.dev.portState k = 3 ∨ s.dev.portState k = 4 then some s.dev.now else none) := by
  obtain ⟨chip, now, partner, state, due⟩ := s.dev.takeMsg_kept n p
  have e : exec (.pong n p) s = .next (s.withDev (Dev.actRouted 3 p [] (s.dev.takeMsg n p) (faultMsg p))) :=
    routedHere s (show n < 17 by omega) ht (List.mem_cons_of_mem _ List.mem_cons_self) (hd.trans chip.symm)
  have live := Dev.actRouted_pong_live (s.dev.takeMsg n p) p [] (faultMsg p) hk ((partner k).trans hp) (by rw [(s.dev.takeMsg_port n p k).1]; exact hping)
    fun j hj => (due j).trans (hdue j hj)
  rw [state, now] at live
  generalize Dev.actRouted 3 p [] (s.dev.takeMsg n p) (faultMsg p) = d at e live
  exact ⟨s.withDev d, e, rfl, live⟩

/-! ## Heartbeats and PINGs (R413, R414) -/

section
variable (s : State) {n : Nat} (hn : n < 16) {p : Packet}
include hn

theorem heartbeatHeard (h : (faultMsg p).ctype = 1) : ∃ t, exec (.heartbeat n p) s = .next t ∧ t.pending = s.pending ∧ (t.dev.port n).liveFrom = some s.dev.now ∧
    (t.dev.port n).hbChip = (faultMsg p).chip ∧ (t.dev.port n).hbInc = (faultMsg p).inc ∧ (t.dev.port n).hbSerial = (faultMsg p).serial ∧ t.dev.regs = s.dev.regs ∧
      s.dev.sameBytes t.dev := by
  have fab := s.dev.takeMsg_fab n p
  refine ⟨s.withDev ((s.dev.takeMsg n p).setPort n { (s.dev.takeMsg n p).port n with
    liveFrom := some (s.dev.takeMsg n p).now, hbChip := (faultMsg p).chip, hbInc := (faultMsg p).inc, hbSerial := (faultMsg p).serial }),
    (s.runOn_next _ (decide_eq_true hn)).trans (by rw [if_neg (not_not.2 h)]), rfl, ?_⟩
  dsimp only [State.withDev]
  rw [Dev.port_setPort_same, Dev.now_congr (s.dev.takeMsg_regs n p) (s.dev.takeMsg_clk n p)]
  exact ⟨rfl, rfl, rfl, rfl, s.dev.takeMsg_regs n p, Dev.sameBytes_of ((congrArg Dev.mem fab).trans rfl) ((congrArg Dev.cores fab).trans rfl)⟩

theorem livenessTimeout_idle (h : s.dev.pingOwed n = false) : exec (.livenessTimeout n) s = .next s :=
  (s.runOn_next _ (decide_eq_true hn)).trans (by rw [if_pos (by simp [h])])

theorem livenessTimeout_owed (h : s.dev.pingOwed n = true) : let d := s.dev.count F.FLT_LIVE_MISS_V
    let e := d.setPort n ({ d.port n with pingAt := some d.now, leftUp := false } : Port)
    exec (.livenessTimeout n) s = .next (s.withDev (e.sendRouted (e.message 2 e.chip (e.get F.FLT_INCARNATION_INC) e.serial) (e.partner n))) :=
  (s.runOn_next _ (decide_eq_true hn)).trans (by rw [if_neg (by simp [h])])

theorem exec_pongTimeout : exec (.pongTimeout n) s = .next (s.withDev (s.dev.pongLost n)) := s.runOn_next _ (decide_eq_true hn)

end

/-! ## Assignments and restores (R419, R420, R422) -/

section
variable (s : State) {lost : Nat}

theorem exec_assignTimeout {a : Assign} (h : s.dev.assignOf lost = some a) :
    exec (.assignTimeout lost) s = .next (s.withDev (if a.acceptedAt.isNone && a.sentAt + 64 ≤ s.dev.beat then s.dev.nextStandby a else s.dev)) := by
  rw [show exec (.assignTimeout lost) s = .next (s.withDev (match s.dev.assignOf lost with
    | some a => if a.acceptedAt.isNone && a.sentAt + 64 ≤ s.dev.beat then s.dev.nextStandby a else s.dev
    | none => s.dev)) from rfl, h]

/-- The holds of a lost chip whose time has passed end with TAKEOVER_FAILED (R419). -/
def Dev.holdsEnd (d : Dev) (lost : Nat) : Dev :=
  if d.flt.holdSince.any (fun e => e.1 = lost && e.2 + d.takeoverLimit ≤ d.beat) then
    ({ d with flt := { d.flt with holdSince := d.flt.holdSince.filter (fun e => e.1 ≠ lost) } }).recordOnly .takeoverFailed (devSource 0) []
  else d

theorem exec_takeoverTimeout : exec (.takeoverTimeout lost) s = .next (s.withDev (Dev.holdsEnd (match s.dev.assignOf lost with
    | some a =>
      match a.acceptedAt with
      | some b => if b + s.dev.takeoverLimit ≤ s.dev.beat then s.dev.nextStandby a else s.dev
      | none => s.dev
    | none => s.dev) lost)) := rfl

theorem Dev.holdsEnd_none {d : Dev} (h : d.flt.holdSince = []) : d.holdsEnd lost = d := by
  unfold Dev.holdsEnd
  rw [if_neg (by simp [h])]

theorem Dev.holdsEnd_due {d : Dev} {b : Nat} (h : (lost, b) ∈ d.flt.holdSince) (hb : b + d.takeoverLimit ≤ d.beat) :
    (∀ x ∈ (d.holdsEnd lost).flt.holdSince, x.1 ≠ lost) ∧ (d.holdsEnd lost).fltState = d.fltState := by
  unfold Dev.holdsEnd
  rw [if_pos (List.any_eq_true.2 ⟨_, h, by simp [hb]⟩)]
  have kept (x : Dev) : (x.recordOnly .takeoverFailed (devSource 0) []).flt.holdSince = x.flt.holdSince := congrArg Prod.snd (x.recordOnly_holding _ _ _)
  refine ⟨fun x hx => ?_, Dev.fltState_recordOnly _ _ _ _⟩
  rw [kept] at hx
  simpa using (List.mem_filter.1 hx).2

theorem takeoverTimeout_accepted {a : Assign} (h : s.dev.assignOf lost = some a) {b : Nat} (ha : a.acceptedAt = some b) (hb : b + s.dev.takeoverLimit ≤ s.dev.beat)
    (hh : s.dev.flt.holdSince = []) : exec (.takeoverTimeout lost) s = .next (s.withDev (s.dev.nextStandby a)) := by
  have none : (s.dev.nextStandby a).flt.holdSince = [] := (congrArg Prod.snd (s.dev.nextStandby_holding a)).trans hh
  rw [exec_takeoverTimeout, h]
  dsimp only
  rw [ha]
  dsimp only
  rw [if_pos hb, Dev.holdsEnd_none none]

theorem takeoverTimeout_hold (h : s.dev.assignOf lost = none) {b : Nat} (hm : (lost, b) ∈ s.dev.flt.holdSince) (hb : b + s.dev.takeoverLimit ≤ s.dev.beat) :
    ∃ t, exec (.takeoverTimeout lost) s = .next t ∧ t.pending = s.pending ∧ (∀ x ∈ t.dev.flt.holdSince, x.1 ≠ lost) ∧ t.dev.fltState = s.dev.fltState :=
  ⟨s.withDev (s.dev.holdsEnd lost), by rw [exec_takeoverTimeout, h], rfl, Dev.holdsEnd_due hm hb⟩

end

section
variable (s : State)

theorem exec_readyMap {tk : Takeover} (h : s.dev.flt.takeover = some tk) : exec .readyMap s = .next (s.withDev
    (if s.dev.fltState = 6 && tk.restore = 0 then { s.dev with flt := { s.dev.flt with takeover := some { tk with restore := 1 } } } else s.dev)) := by
  rw [show exec .readyMap s = .next (s.withDev (match s.dev.flt.takeover with
    | some t => if s.dev.fltState = 6 && t.restore = 0 then { s.dev with flt := { s.dev.flt with takeover := some { t with restore := 1 } } } else s.dev
    | none => s.dev)) from rfl, h]

theorem exec_restoreDone (ok : Bool) (a b data : List Byte) : exec (.restoreDone ok a b data) s = .next (s.withDev (s.dev.restoreEnds ok a b data)) := rfl

end

section
variable (d : Dev) {tk : Takeover} (h : d.flt.takeover = some tk) (h6 : d.fltState = 6) (a b data : List Byte)
include h h6

/-- A mirror copy that fails is tried once more; the second failure is a knell (R422). -/
theorem Dev.restoreEnds_failed (hr : tk.restore = 1 ∨ tk.restore = 2) : d.restoreEnds false a b data =
    if tk.restore = 1 then { d with flt := { d.flt with takeover := some { tk with restore := 2 } } } else d.knell 0x05 := by
  unfold Dev.restoreEnds
  rw [h]
  dsimp only
  rw [if_neg (by rcases hr with hr | hr <;> simp [h6, hr])]
  rfl

/-- The one good copy is written where its header says (R422). -/
theorem Dev.restoreEnds_good (hr : tk.restore = 1 ∨ tk.restore = 2) (ha : mirrorOk a (d.get F.FLT_PROGRESS_STEP) = true) (hb : mirrorOk b (d.get F.FLT_PROGRESS_STEP) = false)
    (hl : data.length = leAt a 24 8) : let e := Dev.physWriteAll (data.length / 64 + 2) d (leAt a 32 8) data
    d.restoreEnds true a b data = ({ e with flt := { e.flt with takeover := some { tk with restore := 3 } } } : Dev).takeoverCheck := by
  unfold Dev.restoreEnds
  rw [h]
  dsimp only
  rw [if_neg (by rcases hr with hr | hr <;> simp [h6, hr]), ha, hb]
  dsimp only
  rw [if_pos rfl]
  dsimp only
  rw [if_pos hl]

end

theorem Dev.restoreEnds_none (d : Dev) (h : d.flt.takeover = none) (ok : Bool) (a b data : List Byte) : d.restoreEnds ok a b data = d := by
  unfold Dev.restoreEnds
  rw [h]

/-- READY_MAP and RESTORE_DONE of a standby whose takeover is loaded. -/
theorem restoreMoves (s : State) (tk : Takeover) (ok : Bool) (a b data : List Byte) (h : s.dev.flt.takeover = some tk) (h6 : s.dev.fltState = 6) :
    (tk.restore = 0 → exec .readyMap s = .next (s.withDev { s.dev with flt := { s.dev.flt with takeover := some { tk with restore := 1 } } })) ∧
    (tk.restore ≠ 0 → exec .readyMap s = .next s) ∧
    (tk.restore = 1 → ok = false → exec (.restoreDone ok a b data) s = .next (s.withDev { s.dev with flt := { s.dev.flt with takeover := some { tk with restore := 2 } } })) ∧
    (tk.restore = 2 → ok = false → exec (.restoreDone ok a b data) s = .next (s.withDev (s.dev.knell 5))) ∧
    (tk.restore = 1 ∨ tk.restore = 2 → ok = true → mirrorOk a (s.dev.get F.FLT_PROGRESS_STEP) = true → mirrorOk b (s.dev.get F.FLT_PROGRESS_STEP) = false →
      data.length = leAt a 24 8 → let d := Dev.physWriteAll (data.length / 64 + 2) s.dev (leAt a 32 8) data
      exec (.restoreDone ok a b data) s = .next (s.withDev ({ d with flt := { d.flt with takeover := some { tk with restore := 3 } } } : Dev).takeoverCheck)) := by
  refine ⟨fun hr => ?_, fun hr => ?_, fun hr hok => ?_, fun hr hok => ?_, fun hr hok ha hb hl => ?_⟩
  · rw [exec_readyMap s h, if_pos (by simp [h6, hr])]
  · rw [exec_readyMap s h, if_neg (by simp [hr])]
  · rw [exec_restoreDone, hok, s.dev.restoreEnds_failed h h6 a b data (.inl hr), if_pos hr]
  · rw [exec_restoreDone, hok, s.dev.restoreEnds_failed h h6 a b data (.inr hr), if_neg (by omega)]
  · rw [exec_restoreDone, hok, s.dev.restoreEnds_good h h6 a b data hr ha hb hl]

/-- Settles O58: the messages as they arrive, the orders, the rewind, liveness, the takeover and the restore. -/
theorem rewindLivenessAndTakeover : Obligations.RewindLivenessAndTakeover := by
  refine ⟨fun s i n ty p hn ht h => ?_, fun d st a hs ha => d.obey_shown hs ha, fun s p => ⟨fun h => ?_, fun h => ?_⟩, fun s => ⟨exec_rewindComplete_idle s, fun h => ?_⟩,
    fun s st a hs ha => ?_, fun s c hc => ⟨fun h => ?_, fun h => ?_⟩, fun s => ⟨fun h => ?_, fun h hm => ?_, fun lost => ?_⟩,
    fun s n p hn => ⟨heartbeatHeard s hn, livenessTimeout_idle s hn, livenessTimeout_owed s hn, fun h => ?_, exec_pongTimeout s hn⟩,
    fun s i n ty p entry hn ht h => ⟨routedAway s hn ht h, routedMessage s hn ht h⟩,
    fun s n k p hn hk ht hd hp hping hdue => pongHeard s hn hk ht hd hp hping hdue, fun s lost a h => ⟨fun ha hb => ?_, fun hb => ?_, fun b ha hb hh => ?_⟩,
    fun s lost b h hm hb => takeoverTimeout_hold s h hm hb, fun s => rfl, fun s tk ok a b data h h6 => restoreMoves s tk ok a b data h h6,
    fun s ok a b data h => ⟨?_, ?_⟩⟩
  · obtain ⟨seen, other, acted⟩ := floodedMessage s hn ht h
    refine ⟨seen, other, fun hs hj => ?_⟩
    have e := acted hs hj
    refine ⟨fun hty => ?_, fun hty => ?_, fun hty => ?_, fun hty => ?_, fun hty => ?_, fun hty => ?_⟩ <;> (rw [hty] at e; exact e)
  · rw [exec_rewind_command, if_pos h]
  · rw [exec_rewind_command, if_neg (ne_true_of_eq_false h)]
  · obtain ⟨x, st, e⟩ := exec_rewindComplete s h
    obtain ⟨state, ledger⟩ := (x.undoStep st).rewindEnds_shown
    exact ⟨_, e, rfl, state, fun g hg => (ledger g hg).trans (x.undoStep_ledger st hg)⟩
  · obtain ⟨step, attempt, state, keeps⟩ := s.dev.progressTaken_shown hs ha
    exact ⟨_, exec_fltProgressWrite s st a, rfl, step, attempt, state, keeps.sameBytes, keeps.regs⟩
  · exact (s.runOn_next _ (decide_eq_true hc)).trans (by rw [if_pos h])
  · exact (s.runOn_next _ (decide_eq_true hc)).trans (by rw [if_neg (ne_true_of_eq_false h)])
  · rw [show exec .repaired s = .next (s.withDev s.dev.repairCheck) from rfl, s.dev.repairCheck_bound h]
  · exact ⟨s.withDev s.dev.repairCheck, rfl, rfl, s.dev.repairCheck_gone h hm⟩
  · exact ⟨s.withDev (s.dev.knell (if lost then 7 else 6)), rfl, rfl, s.dev.knell_shown (by split <;> decide)⟩
  · rw [exec_pongTimeout s hn, s.dev.pongLost_idle n h]
  · rw [exec_assignTimeout s h, if_pos (by simp [ha, hb])]
  · rw [exec_assignTimeout s h, if_neg (by simp [hb])]
  · exact takeoverTimeout_accepted s h ha hb hh
  · rw [show exec .readyMap s = .next (s.withDev (match s.dev.flt.takeover with
      | some t => if s.dev.fltState = 6 && t.restore = 0 then { s.dev with flt := { s.dev.flt with takeover := some { t with restore := 1 } } } else s.dev
      | none => s.dev)) from rfl, h]
  · rw [exec_restoreDone, s.dev.restoreEnds_none h]

end Sys2Proof.Machine

namespace Sys2Proof.Machine

/-! ## What HauneLink's failover leaves of the start (R432, R463) -/

/-- The step of the start that the device is at. -/
def Dev.startStep (d : Dev) : Nat := d.boot.step

section
variable (d : Dev)

@[simp] theorem Dev.startStep_mk (regs : List (Nat × RegVal)) (free out img) (clk : Clock) (pat fab flt hl mem sys num cores tolls posts pool col pwr) (boot : Boot) :
    (Dev.mk regs free out img clk pat fab flt hl mem sys num cores tolls posts pool col pwr boot).startStep = boot.step := by rw [Dev.startStep]

@[simp] theorem Dev.boot_step : d.boot.step = d.startStep := by rw [Dev.startStep]

@[simp] theorem Dev.startStep_put (f : Fld) (u i n : Nat) : (d.put f u i n).startStep = d.startStep := by rw [Dev.startStep, Dev.put_boot, Dev.startStep]

/-- A device that stands second in a pair, once the pair is known. -/
theorem Dev.startStep_snd {α : Type} {p : α × Dev} {x : α} {e : Dev} (h : p = (x, e)) : e.startStep = p.2.startStep := by rw [h]

@[simp] theorem Dev.startStep_ite (c : Prop) [Decidable c] (e : Dev) : (if c then d else e).startStep = if c then d.startStep else e.startStep :=
  apply_ite Dev.startStep c d e

/-- What leaves the start's step for each element leaves it for the list. -/
@[simp] theorem Dev.startStep_each {α : Type} {op : Dev → α → Dev} (hop : ∀ e x, (op e x).startStep = e.startStep) (l : List α) : (d.each l op).startStep = d.startStep :=
  Dev.each_inv (P := fun e => e.startStep = d.startStep) op (fun e x he => (hop e x).trans he) l rfl

end

/-! ### The units that a failover reaches

Each leaves the step of the start as it was, as each leaves the clocks (`Dev.clocks_hlFailover`); a callee stands before its callers. -/

section
variable (d : Dev)

@[simp] theorem Dev.startStep_setHlHalf (h : Nat) (v : HlHalf) : (d.setHlHalf h v).startStep = d.startStep := by simp [Dev.setHlHalf]
@[simp] theorem Dev.startStep_putD {f : Fld} (n : Nat) : (d.putD f n).startStep = d.startStep := d.startStep_put f 0 0 n
@[simp] theorem Dev.startStep_setHlLanes (h m : Nat) : (d.setHlLanes h m).startStep = d.startStep := d.startStep_putD m
@[simp] theorem Dev.startStep_setHlState (h st : Nat) : (d.setHlState h st).startStep = d.startStep := d.startStep_putD st
@[simp] theorem Dev.startStep_dropAcc (id : Nat) : (d.dropAcc id).startStep = d.startStep := by simp [Dev.dropAcc]
@[simp] theorem Dev.startStep_hlForget (h : Nat) : (d.hlForget h).startStep = d.startStep := by simp [Dev.hlForget]
@[simp] theorem Dev.startStep_emit (o : Output) : (d.emit o).startStep = d.startStep := by simp [Dev.emit]
@[simp] theorem Dev.startStep_hlPump (h : Nat) : (d.hlPump h).startStep = d.startStep := by simp [Dev.hlPump]

@[simp] theorem Dev.startStep_hlSend (h op tag addr reason : Nat) (data : List Byte) : (d.hlSend h op tag addr reason data).startStep = d.startStep := by
  simp [Dev.hlSend]

@[simp] theorem Dev.startStep_hlMove (h : Nat) : (d.hlMove h).startStep = d.startStep := by simp [Dev.hlMove]
@[simp] theorem Dev.startStep_showFre (q : Nat) : (d.showFre q).startStep = d.startStep := by simp [Dev.showFre]
@[simp] theorem Dev.startStep_setCol (s : Nat) (c : ColSlot) : (d.setCol s c).startStep = d.startStep := by simp [Dev.setCol]
@[simp] theorem Dev.startStep_updCol (s : Nat) (f : ColSlot → ColSlot) : (d.updCol s f).startStep = d.startStep := by simp [Dev.updCol]
@[simp] theorem Dev.startStep_colFree (s : Nat) : (d.colFree s).startStep = d.startStep := by simp [Dev.colFree]
@[simp] theorem Dev.startStep_leaveOuts (s : Nat) : (d.leaveOuts s).startStep = d.startStep := by simp [Dev.leaveOuts]
@[simp] theorem Dev.startStep_dropFre (s : Nat) : (d.dropFre s).startStep = d.startStep := by simp [Dev.dropFre]
@[simp] theorem Dev.startStep_colForget (s : Nat) : (d.colForget s).startStep = d.startStep := by simp [Dev.colForget]
@[simp] theorem Dev.startStep_deliverLocal (p : Packet) : (d.deliverLocal p).startStep = d.startStep := by simp [Dev.deliverLocal]
@[simp] theorem Dev.startStep_setPort (n : Nat) (v : Port) : (d.setPort n v).startStep = d.startStep := by simp [Dev.setPort]
@[simp] theorem Dev.startStep_enqueueTx (n : Nat) (q : TxPkt) : (d.enqueueTx n q).startStep = d.startStep := by simp [Dev.enqueueTx]
@[simp] theorem Dev.startStep_enqueue (n : Nat) (p : Packet) : (d.enqueue n p).startStep = d.startStep := by simp [Dev.enqueue]
@[simp] theorem Dev.startStep_count {f : Fld} (u i n : Nat) : (d.count f u i n).startStep = d.startStep := d.startStep_put f u i _
@[simp] theorem Dev.startStep_countRefusal (code : Nat) : (d.countRefusal code).startStep = d.startStep := by simp [Dev.countRefusal]

@[simp] theorem Dev.startStep_sendAnswer (p : Packet) : (d.sendAnswer p).startStep = d.startStep := by
  unfold Dev.sendAnswer
  split
  · rfl
  · split <;> simp

@[simp] theorem Dev.startStep_sendNack (p : Packet) (code : Nat) (final : Bool) : (d.sendNack p code final).startStep = d.startStep := by simp [Dev.sendNack]
@[simp] theorem Dev.startStep_setLex (q : Nat) (l : Lex) : (d.setLex q l).startStep = d.startStep := by simp [Dev.setLex]
@[simp] theorem Dev.startStep_abortHeld (s : Nat) : (d.abortHeld s).startStep = d.startStep := by simp [Dev.abortHeld]

@[simp] theorem Dev.startStep_hlRequest (op addr : Nat) (data : List Byte) (w : Waiter) : (d.hlRequest op addr data w).2.startStep = d.startStep := by
  unfold Dev.hlRequest
  dsimp only
  repeat' split
  all_goals simp

@[simp] theorem Dev.startStep_notify : d.notify.startStep = d.startStep := by simp [Dev.notify]

@[simp] theorem Dev.startStep_deliver (r : EventRec) : (d.deliver r).startStep = d.startStep := by
  unfold Dev.deliver
  dsimp only
  repeat' split
  all_goals simp

@[simp] theorem Dev.startStep_recordOnly (e : Ev) (source : Nat) (detail : List (Nat × Nat)) : (d.recordOnly e source detail).startStep = d.startStep := by
  simp [Dev.recordOnly]

@[simp] theorem Dev.startStep_withholdVotes : d.withholdVotes.startStep = d.startStep := by simp [Dev.withholdVotes]
@[simp] theorem Dev.startStep_noteKey (m : FaultMsg) : (d.noteKey m).startStep = d.startStep := by simp [Dev.noteKey]
@[simp] theorem Dev.startStep_flood (m : FaultMsg) : (d.flood m).startStep = d.startStep := by simp [Dev.flood]
@[simp] theorem Dev.startStep_obey (s a : Nat) : (d.obey s a).startStep = d.startStep := by simp [Dev.obey]
@[simp] theorem Dev.startStep_showHolds : d.showHolds.startStep = d.startStep := by simp [Dev.showHolds]
@[simp] theorem Dev.startStep_addHold (h : Hold) : (d.addHold h).startStep = d.startStep := by simp [Dev.addHold]
@[simp] theorem Dev.startStep_originateOrder (repair : Bool) : (d.originateOrder repair).startStep = d.startStep := by simp [Dev.originateOrder]

@[simp] theorem Dev.startStep_rewindEvent {also : Dev → Dev} (h : ∀ e, (also e).startStep = e.startStep) : (d.rewindEvent also).startStep = d.startStep := by
  unfold Dev.rewindEvent
  dsimp only
  split
  · split
    · simp [h]
    · simp [h]
  · simp [h]

@[simp] theorem Dev.startStep_spareSwap (c : Nat) : (d.spareSwap c).startStep = d.startStep := by simp [Dev.spareSwap]
@[simp] theorem Dev.startStep_pput {f : Fld} (n v : Nat) : (d.pput f n v).startStep = d.startStep := d.startStep_put f (n / 4) (n % 4) v

@[simp] theorem Dev.startStep_enterHoldover : d.enterHoldover.startStep = d.startStep := by
  unfold Dev.enterHoldover
  dsimp only
  simp

@[simp] theorem Dev.startStep_reselect : d.reselect.startStep = d.startStep := by
  unfold Dev.reselect
  dsimp only
  repeat' split
  all_goals simp

@[simp] theorem Dev.startStep_freeInput (q : TxPkt) : (d.freeInput q).startStep = d.startStep := by
  unfold Dev.freeInput
  split
  · split <;> simp
  · rfl

@[simp] theorem Dev.startStep_endForwards (n : Nat) (ch : Nat → Bool) : (d.endForwards n ch).startStep = d.startStep := by
  unfold Dev.endForwards
  dsimp only
  simp

@[simp] theorem Dev.startStep_sendTx (q : TxPkt) : (d.sendTx q).startStep = d.startStep := by
  unfold Dev.sendTx
  dsimp only
  repeat' split
  all_goals simp

@[simp] theorem Dev.startStep_portLeave (n state : Nat) : (d.portLeave n state).startStep = d.startStep := by
  unfold Dev.portLeave
  dsimp only
  simp

@[simp] theorem Dev.startStep_knell (cause : Nat) : (d.knell cause).startStep = d.startStep := by simp +decide [Dev.knell]
@[simp] theorem Dev.startStep_failCore (c : Nat) : (d.failCore c).startStep = d.startStep := by simp [Dev.failCore]

@[simp] theorem Dev.startStep_countUe (core : Option Nat) : (d.countUe core).startStep = d.startStep := by
  unfold Dev.countUe
  dsimp only
  repeat' split
  all_goals simp

@[simp] theorem Dev.startStep_record (e : Ev) (source : Nat) (detail : List (Nat × Nat)) : (d.record e source detail).startStep = d.startStep := by
  unfold Dev.record
  dsimp only
  repeat' split
  all_goals simp

@[simp] theorem Dev.startStep_setColState (s st : Nat) : (d.setColState s st).startStep = d.startStep := by simp [Dev.setColState]
@[simp] theorem Dev.startStep_colFail (s reason : Nat) : (d.colFail s reason).startStep = d.startStep := by simp [Dev.colFail]
@[simp] theorem Dev.startStep_setCore (c : Nat) (v : Core) : (d.setCore c v).startStep = d.startStep := by simp [Dev.setCore]
@[simp] theorem Dev.startStep_updCore (c : Nat) (f : Core → Core) : (d.updCore c f).startStep = d.startStep := by simp [Dev.updCore]
@[simp] theorem Dev.startStep_wakeTaps (c t : Nat) (v : Int) : (d.wakeTaps c t v).startStep = d.startStep := by simp [Dev.wakeTaps]
@[simp] theorem Dev.startStep_meetDeadlines (p : Nat → Deadline → Bool) : (d.meetDeadlines p).startStep = d.startStep := by simp [Dev.meetDeadlines]
@[simp] theorem Dev.startStep_tapReachesZero (c tap : Nat) : (d.tapReachesZero c tap).startStep = d.startStep := by simp [Dev.tapReachesZero]
@[simp] theorem Dev.startStep_setTap (c t : Nat) (v : Int) : (d.setTap c t v).startStep = d.startStep := by simp [Dev.setTap]
@[simp] theorem Dev.startStep_tapAdd (c t : Nat) (v : Int) : (d.tapAdd c t v).startStep = d.startStep := by simp [Dev.tapAdd]
@[simp] theorem Dev.startStep_pulse (c t : Nat) : (d.pulse c t).startStep = d.startStep := by simp [Dev.pulse]

@[simp] theorem Dev.startStep_colPulse (c : ColSlot) : (d.colPulse c).startStep = d.startStep := by
  unfold Dev.colPulse
  split
  · split <;> simp
  · rfl

@[simp] theorem Dev.startStep_updateFails (s : Nat) : (d.updateFails s).startStep = d.startStep := by simp [Dev.updateFails]
@[simp] theorem Dev.startStep_collectiveEnds (slot : Nat) : (d.collectiveEnds slot).startStep = d.startStep := by simp [Dev.collectiveEnds]
@[simp] theorem Dev.startStep_colDone (s : Nat) : (d.colDone s).startStep = d.startStep := by simp [Dev.colDone]
@[simp] theorem Dev.startStep_voteEnd (s : Nat) : (d.voteEnd s).startStep = d.startStep := by simp [Dev.voteEnd]

@[simp] theorem Dev.startStep_watchGroup (step g : Nat) : (d.watchGroup step g).startStep = d.startStep := by
  unfold Dev.watchGroup
  dsimp only
  split
  · simp
  · split <;> simp

@[simp] theorem Dev.startStep_watchdog (step groups : Nat) : (d.watchdog step groups).startStep = d.startStep := by
  simp [Dev.watchdog]

@[simp] theorem Dev.startStep_lossScale (skipped : Bool) : (d.lossScale skipped).startStep = d.startStep := by
  unfold Dev.lossScale
  dsimp only
  repeat' split
  all_goals simp

@[simp] theorem Dev.startStep_countSlice {f : Fld} (slice : Nat) : (d.countSlice f slice).startStep = d.startStep := d.startStep_count (slice / 32) 0 1

@[simp] theorem Dev.startStep_putLine (l : ShcLine) : (d.putLine l).startStep = d.startStep := by simp [Dev.putLine]
@[simp] theorem Dev.startStep_dropLine (line : Nat) : (d.dropLine line).startStep = d.startStep := by simp [Dev.dropLine]
@[simp] theorem Dev.startStep_updSxu (c : Nat) (f : Sxu → Sxu) : (d.updSxu c f).startStep = d.startStep := by simp [Dev.updSxu]
@[simp] theorem Dev.startStep_setChan (ch : Nat) (v : Channel) : (d.setChan ch v).startStep = d.startStep := by simp [Dev.setChan]

@[simp] theorem Dev.startStep_mchRequest (p : Place) (line : Nat) (write : Bool) : (d.mchRequest p line write).startStep = d.startStep := by
  simp [Dev.mchRequest]

@[simp] theorem Dev.startStep_hbmStore (line : Nat) (data : List Byte) (poison : Bool) : (d.hbmStore line data poison).startStep = d.startStep := by
  simp [Dev.hbmStore]

@[simp] theorem Dev.startStep_writeBack (l : ShcLine) : (d.writeBack l).startStep = d.startStep := by
  obtain ⟨f, hf⟩ := exists_opaque Dev.writeBack
  rw [← hf]
  delta Dev.writeBack at hf
  subst hf
  beta_reduce
  cases d.place (64 * l.line) with
  | none => rfl
  | some p =>
    dsimp only
    split <;> simp

@[simp] theorem Dev.startStep_evictLine (l : ShcLine) : (d.evictLine l).startStep = d.startStep := by
  unfold Dev.evictLine
  dsimp only
  repeat' split
  all_goals simp

@[simp] theorem Dev.startStep_makeRoom (line : Nat) : (d.makeRoom line).2.startStep = d.startStep := by
  unfold Dev.makeRoom
  dsimp only
  repeat' split
  all_goals simp

@[simp] theorem Dev.startStep_allocLine (l : ShcLine) : (d.allocLine l).startStep = d.startStep := by simp [Dev.allocLine]

@[simp] theorem Dev.startStep_physWrite (a : Nat) (bs : List Byte) : (d.physWrite a bs).startStep = d.startStep := by
  obtain ⟨f, hf⟩ := exists_opaque Dev.physWrite
  rw [← hf]
  delta Dev.physWrite at hf
  subst hf
  beta_reduce
  cases d.place a with
  | none => dsimp only; split <;> simp
  | some p =>
    dsimp only
    split
    · simp
    · split
      · simp
      · split <;> simp

@[simp] theorem Dev.startStep_slicePut (pa : Nat) (bs : List Byte) : (d.slicePut pa bs).2.startStep = d.startStep := by
  suffices ∀ r, d.slicePut pa bs = r → r.2.startStep = d.startStep from this _ rfl
  obtain ⟨f, hf⟩ := exists_opaque Dev.slicePut
  rw [← hf]
  delta Dev.slicePut at hf
  subst hf
  beta_reduce
  cases d.home pa with
  | none => rintro _ rfl; rfl
  | scratch q o =>
    rintro _ rfl
    dsimp only
    split
    · rfl
    · split <;> simp
  | hbm p =>
    rintro _ rfl
    dsimp only
    split
    · split <;> simp
    · split
      · simp
      · split <;> simp

@[simp] theorem Dev.startStep_setPage (dp : Nat) (r : PageRec) : (d.setPage dp r).startStep = d.startStep := by simp [Dev.setPage]
@[simp] theorem Dev.startStep_touchPage (q dp : Nat) : (d.touchPage q dp).startStep = d.startStep := by simp [Dev.touchPage]

@[simp] theorem Dev.startStep_freTouch (q a : Nat) : (d.freTouch q a).startStep = d.startStep := by
  unfold Dev.freTouch
  split
  · split <;> simp
  · rfl

@[simp] theorem Dev.startStep_nsUe (c o : Nat) : (d.nsUe c o).startStep = d.startStep := by simp [Dev.nsUe]
@[simp] theorem Dev.startStep_fresh (n : Nat) : (d.fresh n).2.startStep = d.startStep := by simp [Dev.fresh]

@[simp] theorem Dev.startStep_storeError (c : Nat) (l : LocalAt) (n err : Nat) : (d.storeError c l n err).startStep = d.startStep := by
  unfold Dev.storeError
  dsimp only
  repeat' split
  all_goals simp

@[simp] theorem Dev.startStep_storeErrors (c : Nat) (l : LocalAt) (n err : Nat) : (d.storeErrors c l n err).2.startStep = d.startStep := by
  simp [Dev.storeErrors]

@[simp] theorem Dev.startStep_mergeErrors (c o n err : Nat) : (d.mergeErrors c o n err).startStep = d.startStep := by
  unfold Dev.mergeErrors
  extract_lets d'
  have kept : d'.startStep = d.startStep := d.startStep_each (fun e w => e.startStep_nsUe c (8 * w)) _
  split
  · exact kept
  · split
    · exact kept
    · split
      · simp [kept]
      · split <;> simp [kept]

@[simp] theorem Dev.startStep_storeWrite (c : Nat) (l : LocalAt) (bs : List Byte) (err : Nat) : (d.storeWrite c l bs err).startStep = d.startStep := by
  unfold Dev.storeWrite
  dsimp only
  repeat' split
  all_goals simp

@[simp] theorem Dev.startStep_maskedWrite (c : Nat) (l : LocalAt) (mask : Nat) (bs : List Byte) (err : Nat) : (d.maskedWrite c l mask bs err).startStep = d.startStep := by
  simp [Dev.maskedWrite]

@[simp] theorem Dev.startStep_coreWindow (a : Nat) (o : AccOp) (err : Nat) : (d.coreWindow a o err).2.startStep = d.startStep := by
  unfold Dev.coreWindow
  dsimp only
  repeat' split
  all_goals simp

@[simp] theorem Dev.startStep_aheadOver (a : MemAcc) : (d.aheadOver a).startStep = d.startStep := by
  unfold Dev.aheadOver
  split <;> simp

@[simp] theorem Dev.startStep_snare (a : MemAcc) : (d.snare a).startStep = d.startStep := by
  unfold Dev.snare
  dsimp only
  repeat' split
  all_goals simp

@[simp] theorem Dev.startStep_updAcc (id : Nat) (f : MemAcc → MemAcc) : (d.updAcc id f).startStep = d.startStep := by simp [Dev.updAcc]
@[simp] theorem Dev.startStep_endAcc (id code : Nat) : (d.endAcc id code).startStep = d.startStep := by simp [Dev.endAcc]
@[simp] theorem Dev.startStep_failAcc (a : MemAcc) (code : Nat) : (d.failAcc a code).startStep = d.startStep := by simp [Dev.failAcc]

@[simp] theorem Dev.startStep_countLate (a : MemAcc) : (d.countLate a).startStep = d.startStep := by
  unfold Dev.countLate
  split
  · split <;> simp
  · rfl

@[simp] theorem Dev.startStep_takeTag : (d.takeTag).2.startStep = d.startStep := by simp [Dev.takeTag]
@[simp] theorem Dev.startStep_sendPacket (p : Packet) (inPort : Option Nat) : (d.sendPacket p inPort).startStep = d.startStep := by simp [Dev.sendPacket]
@[simp] theorem Dev.startStep_originate (p : Packet) : (d.originate p).startStep = d.startStep := by simp [Dev.originate]
@[simp] theorem Dev.startStep_request (p : Packet) (w : Waiter) (q : Nat) : (d.request p w q).startStep = d.startStep := by simp [Dev.request]
@[simp] theorem Dev.startStep_sendRemote (a : MemAcc) (chip addr : Nat) : (d.sendRemote a chip addr).startStep = d.startStep := by simp [Dev.sendRemote]

@[simp] theorem Dev.startStep_xltInstall (core : Option Nat) (q g e : Nat) : (d.xltInstall core q g e).startStep = d.startStep := by
  unfold Dev.xltInstall
  dsimp only
  repeat' split
  all_goals simp

@[simp] theorem Dev.startStep_aheadLook (core : Option Nat) (q g : Nat) : (d.aheadLook core q g).2.startStep = d.startStep := by
  unfold Dev.aheadLook
  split
  · simp
  · split <;> simp
  · rfl

@[simp] theorem Dev.startStep_capAcc (a : MemAcc) (c slot bank pa : Nat) : (d.capAcc a c slot bank pa).startStep = d.startStep := by
  unfold Dev.capAcc
  dsimp only
  repeat' split
  all_goals simp

@[simp] theorem Dev.startStep_setSlotBank (c slot : Nat) (bank : Option Nat) : (d.setSlotBank c slot bank).startStep = d.startStep := by simp [Dev.setSlotBank]

@[simp] theorem Dev.startStep_sendCompanion (a : MemAcc) (addr : Nat) : (d.sendCompanion a addr).startStep = d.startStep := by
  unfold Dev.sendCompanion
  dsimp only
  repeat' split
  all_goals simp

@[simp] theorem Dev.startStep_routeAcc (a : MemAcc) (e : Nat) : (d.routeAcc a e).startStep = d.startStep := by
  unfold Dev.routeAcc
  dsimp only
  repeat' split
  all_goals simp

@[simp] theorem Dev.startStep_xltLook (core : Option Nat) (q g : Nat) : (d.xltLook core q g).2.startStep = d.startStep := by
  unfold Dev.xltLook
  split
  · split <;> simp
  · split <;> simp

@[simp] theorem Dev.startStep_beginAcc (a : MemAcc) : (d.beginAcc a).startStep = d.startStep := by
  unfold Dev.beginAcc
  dsimp only
  iterate 4
    split
    · simp
  split
  · simp
  split
  · simp
  split
  · split
    · next heq => simp [Dev.startStep_snd heq]
    · next heq => simp [Dev.startStep_snd heq]
    · next heq => simp [Dev.startStep_snd heq]
  · split
    · next heq => simp [Dev.startStep_snd heq]
    · next heq => simp [Dev.startStep_snd heq]

@[simp] theorem Dev.startStep_access (who : Origin) (core : Option Nat) (q addr : Nat) (op : AccOp) (ahead : Bool) (werr : Nat) : (d.access who core q addr op ahead werr).2.startStep = d.startStep := by
  simp [Dev.access]

@[simp] theorem Dev.startStep_freWrite (s q a : Nat) (bs : List Byte) : (d.freWrite s q a bs).2.startStep = d.startStep := by
  unfold Dev.freWrite
  dsimp only
  repeat' split
  all_goals simp

@[simp] theorem Dev.startStep_updateEnd (s : Nat) : (d.updateEnd s).startStep = d.startStep := by simp [Dev.updateEnd]
@[simp] theorem Dev.startStep_updateStart (s step e : Nat) (vote : Bool) : (d.updateStart s step e vote).startStep = d.startStep := by simp [Dev.updateStart]

@[simp] theorem Dev.startStep_stepClose (step attempt : Nat) (vote : Bool) : (d.stepClose step attempt vote).startStep = d.startStep := by
  unfold Dev.stepClose
  dsimp only
  repeat' split
  all_goals simp

@[simp] theorem Dev.startStep_colSend (s dst row : Nat) (block : Bool) (data : List Byte) : (d.colSend s dst row block data).startStep = d.startStep := by
  simp [Dev.colSend]

@[simp] theorem Dev.startStep_colMessage (s dst mtype : Nat) (flag : Bool) (step : Nat) : (d.colMessage s dst mtype flag step).startStep = d.startStep := by
  simp [Dev.colMessage]

@[simp] theorem Dev.startStep_colControl (s dst mtype : Nat) (flag : Bool) : (d.colControl s dst mtype flag).startStep = d.startStep := by
  simp [Dev.colControl]

@[simp] theorem Dev.startStep_voteTake (s : Nat) (vote : Bool) : (d.voteTake s vote).startStep = d.startStep := by simp [Dev.voteTake]
@[simp] theorem Dev.startStep_voteGo (s : Nat) : (d.voteGo s).startStep = d.startStep := by simp [Dev.voteGo]
@[simp] theorem Dev.startStep_votesGo : d.votesGo.startStep = d.startStep := by simp [Dev.votesGo]
@[simp] theorem Dev.startStep_freOutFails (s : Nat) : (d.freOutFails s).startStep = d.startStep := by simp [Dev.freOutFails]
@[simp] theorem Dev.startStep_colOk (p : Packet) : (d.colOk p).startStep = d.startStep := by simp [Dev.colOk]
@[simp] theorem Dev.startStep_sealTake (s l : Nat) (p : Packet) : (d.sealTake s l p).startStep = d.startStep := by simp [Dev.sealTake]
@[simp] theorem Dev.startStep_sealsGo (s : Nat) : (d.sealsGo s).startStep = d.startStep := by simp [Dev.sealsGo]
@[simp] theorem Dev.startStep_freFetch (s q a n : Nat) : (d.freFetch s q a n).2.startStep = d.startStep := by simp [Dev.freFetch]

@[simp] theorem Dev.startStep_bringLine (line : Nat) : (d.bringLine line).startStep = d.startStep := by
  obtain ⟨f, hf⟩ := exists_opaque Dev.bringLine
  rw [← hf]
  delta Dev.bringLine at hf
  subst hf
  beta_reduce
  cases d.home (64 * line) with
  | none => rfl
  | scratch q o => rfl
  | hbm p =>
    dsimp only
    split
    · simp
    · split <;> simp

@[simp] theorem Dev.startStep_sliceGet (pa n : Nat) : (d.sliceGet pa n).2.startStep = d.startStep := by
  suffices ∀ r, d.sliceGet pa n = r → r.2.startStep = d.startStep from this _ rfl
  obtain ⟨f, hf⟩ := exists_opaque Dev.sliceGet
  rw [← hf]
  delta Dev.sliceGet at hf
  subst hf
  beta_reduce
  cases d.home pa with
  | none => rintro _ rfl; rfl
  | scratch q o => rintro _ rfl; rfl
  | hbm p => rintro _ rfl; exact d.startStep_bringLine (pa / 64)

@[simp] theorem Dev.startStep_freLine (s q a : Nat) : (d.freLine s q a).2.startStep = d.startStep := by
  suffices ∀ r, d.freLine s q a = r → r.2.startStep = d.startStep from this _ rfl
  obtain ⟨f, hf⟩ := exists_opaque Dev.freLine
  rw [← hf]
  delta Dev.freLine at hf
  subst hf
  obtain ⟨get, hget⟩ := exists_opaque Dev.sliceGet
  obtain ⟨window, hwindow⟩ := exists_opaque @Dev.coreWindow
  rw [← hget, ← hwindow]
  beta_reduce
  cases d.freAt a with
  | phys pa =>
    rintro _ rfl
    rw [← d.startStep_freTouch q a, ← (d.freTouch q a).startStep_sliceGet pa 64, ← hget]
  | window =>
    rintro _ rfl
    rw [← d.startStep_coreWindow (a % 2 ^ 40) (.read 64) 0, ← hwindow]
  | away =>
    cases d.freAccess s a with
    | some x => rintro _ rfl; exact d.startStep_dropAcc x.id
    | none => rintro _ rfl; rfl
  | bad => rintro _ rfl; rfl

@[simp] theorem Dev.startStep_freLines (s q a k : Nat) : (d.freLines s q a k).2.startStep = d.startStep := by
  induction k generalizing d a with
  | zero => rfl
  | succ k ih => exact (ih (d.freLine s q a).2 (a + 64)).trans (d.startStep_freLine s q a)

@[simp] theorem Dev.startStep_colTile (s : Nat) (c : ColSlot) (k : Nat) : (d.colTile s c k).2.2.startStep = d.startStep := by
  suffices ∀ r, d.colTile s c k = r → r.2.2.startStep = d.startStep from this _ rfl
  obtain ⟨f, hf⟩ := exists_opaque Dev.colTile
  rw [← hf]
  delta Dev.colTile at hf
  subst hf
  obtain ⟨lines, hlines⟩ := exists_opaque Dev.freLines
  rw [← hlines]
  rintro _ rfl
  rw [← d.startStep_freLines s c.quarter (c.dst + 16384 * k) 256, ← hlines]

@[simp] theorem Dev.startStep_countConv (g flushes sats : Nat) : (d.countConv g flushes sats).startStep = d.startStep := by
  unfold Dev.countConv
  dsimp only
  repeat' split
  all_goals simp

@[simp] theorem Dev.startStep_reduceSend (s : Nat) : (d.reduceSend s).2.startStep = d.startStep := by
  suffices ∀ r, d.reduceSend s = r → r.2.startStep = d.startStep from this _ rfl
  obtain ⟨f, hf⟩ := exists_opaque Dev.reduceSend
  rw [← hf]
  delta Dev.reduceSend at hf
  subst hf
  obtain ⟨fetch, hfetch⟩ := exists_opaque Dev.freFetch
  obtain ⟨tile, htile⟩ := exists_opaque Dev.colTile
  rw [← hfetch, ← htile]
  beta_reduce
  extract_lets c parent k rows row len table
  split
  · rintro _ rfl
    rfl
  · split
    · next heq =>
      rintro _ rfl
      rw [Dev.startStep_snd heq, hfetch, Dev.startStep_freFetch]
    · next fetched heq =>
      have kept : fetched.startStep = d.startStep := by rw [Dev.startStep_snd heq, hfetch, Dev.startStep_freFetch]
      have ofTile {o : Option (List F32) × Bool × Dev} (h : tile fetched s c k = o) : o.2.2.startStep = d.startStep := by
        rw [← h, htile, Dev.startStep_colTile, kept]
      split
      · next h =>
        rintro _ rfl
        rw [Dev.startStep_colFail]
        exact ofTile h
      · next h =>
        extract_lets last next
        split
        · rintro _ rfl
          rw [Dev.startStep_updCol, Dev.startStep_colSend, Dev.startStep_countConv _ ]
          exact ofTile h
        · rintro _ rfl
          rw [Dev.startStep_updCol, Dev.startStep_colSend]
          exact ofTile h

@[simp] theorem Dev.startStep_reduceSends (s k : Nat) : (Dev.reduceSends s k d).startStep = d.startStep := by
  induction k generalizing d with
  | zero => rfl
  | succ k ih =>
    unfold Dev.reduceSends
    split
    · next heq => rw [ih, Dev.startStep_snd heq, Dev.startStep_reduceSend]
    · next heq => rw [Dev.startStep_snd heq, Dev.startStep_reduceSend]

@[simp] theorem Dev.startStep_reduceGo (s : Nat) : (d.reduceGo s).startStep = d.startStep := by simp [Dev.reduceGo]
@[simp] theorem Dev.startStep_bcastOut (s row : Nat) (data : List Byte) : (d.bcastOut s row data).startStep = d.startStep := by simp [Dev.bcastOut]

@[simp] theorem Dev.startStep_bcastSend (s : Nat) : (d.bcastSend s).2.startStep = d.startStep := by
  unfold Dev.bcastSend
  dsimp only
  split
  · split
    · rfl
    · split
      · next heq => simp [Dev.startStep_snd heq]
      · next heq => split <;> simp [Dev.startStep_snd heq]
  · split
    · rfl
    · split <;> simp

@[simp] theorem Dev.startStep_bcastSends (s k : Nat) : (Dev.bcastSends s k d).startStep = d.startStep := by
  induction k generalizing d with
  | zero => rfl
  | succ k ih =>
    unfold Dev.bcastSends
    split
    · next heq => rw [ih, Dev.startStep_snd heq, Dev.startStep_bcastSend]
    · next heq => rw [Dev.startStep_snd heq, Dev.startStep_bcastSend]

@[simp] theorem Dev.startStep_bcastGo (s : Nat) : (d.bcastGo s).startStep = d.startStep := by simp [Dev.bcastGo]
@[simp] theorem Dev.startStep_colGo (s : Nat) : (d.colGo s).startStep = d.startStep := by simp [Dev.colGo]
@[simp] theorem Dev.startStep_freOutDone (s : Nat) : (d.freOutDone s).startStep = d.startStep := by simp [Dev.freOutDone]

@[simp] theorem Dev.startStep_colReady (s tile : Nat) : (d.colReady s tile).2.startStep = d.startStep := by
  unfold Dev.colReady
  dsimp only
  repeat' split
  all_goals simp

@[simp] theorem Dev.startStep_countGradient (g : Nat) (vals : List F32) : (d.countGradient g vals).startStep = d.startStep := by simp [Dev.countGradient]

@[simp] theorem Dev.startStep_colPart (s tile : Nat) : (d.colPart s tile).2.startStep = d.startStep := by
  suffices ∀ r, d.colPart s tile = r → r.2.startStep = d.startStep from this _ rfl
  obtain ⟨f, hf⟩ := exists_opaque Dev.colPart
  rw [← hf]
  delta Dev.colPart at hf
  subst hf
  obtain ⟨lines, hlines⟩ := exists_opaque Dev.freLines
  rw [← hlines]
  rintro _ rfl
  have kept (q a : Nat) : (lines d s q a 256).2.startStep = d.startStep := by rw [hlines, Dev.startStep_freLines]
  dsimp only
  split
  · rfl
  · split
    · exact kept ..
    · rw [Dev.startStep_updCol]
      split
      · exact kept ..
      · rw [Dev.startStep_countGradient]
        exact kept ..

@[simp] theorem Dev.startStep_addRows (s : Nat) (h : HeldPiece) : (d.addRows s h).startStep = d.startStep := by
  unfold Dev.addRows
  dsimp only
  split
  · next heq => simp [Dev.startStep_snd heq]
  · next added heq =>
    have kept : added.startStep = d.startStep := (Dev.startStep_snd heq).trans (d.startStep_colPart ..)
    repeat' split
    all_goals simp [kept]

@[simp] theorem Dev.startStep_addHeld (s k : Nat) : (Dev.addHeld s k d).startStep = d.startStep := by
  induction k generalizing d with
  | zero => rfl
  | succ k ih =>
    unfold Dev.addHeld
    dsimp only
    split
    · rfl
    · split
      · next heq => simp [Dev.startStep_snd heq]
      · next heq => rw [ih]; split <;> simp [Dev.startStep_snd heq]

@[simp] theorem Dev.startStep_freWake : d.freWake.startStep = d.startStep := by simp [Dev.freWake]

@[simp] theorem Dev.startStep_spoil (bs : List Byte) (hit : Nat → Bool) : (d.spoil bs hit).2.startStep = d.startStep := by
  unfold Dev.spoil
  induction List.range bs.length using List.reverseRecOn with
  | nil => rfl
  | append_singleton l i ih =>
    rw [List.foldl_append]
    dsimp only [List.foldl_cons, List.foldl_nil]
    split
    · rw [Dev.startStep_fresh, ih]
    · exact ih

@[simp] theorem Dev.startStep_updDma (c : Nat) (f : Dma → Dma) : (d.updDma c f).startStep = d.startStep := by simp [Dev.updDma]
@[simp] theorem Dev.startStep_updJob (c : Nat) (f : DmaJob → DmaJob) : (d.updJob c f).startStep = d.startStep := by simp [Dev.updJob]

@[simp] theorem Dev.startStep_kvSend (c ch : Nat) (j : DmaJob) (off : Nat) (bs : List Byte) : (d.kvSend c ch j off bs).startStep = d.startStep := by
  unfold Dev.kvSend
  dsimp only
  rw [Dev.startStep_request, Dev.startStep_count]
  split
  · exact d.startStep_countConv j.group ..
  · rfl

@[simp] theorem Dev.startStep_localWrite (c a : Nat) (bs : List Byte) (err : Nat) : (d.localWrite c a bs err).startStep = d.startStep := by
  unfold Dev.localWrite
  cases d.localAt c a <;> simp

@[simp] theorem Dev.startStep_showDma (c : Nat) : (d.showDma c).startStep = d.startStep := by simp [Dev.showDma]

@[simp] theorem Dev.startStep_dmaWrite (c ch a : Nat) (bs : List Byte) (werr : Nat) : (d.dmaWrite c ch a bs werr).startStep = d.startStep := by
  unfold Dev.dmaWrite
  dsimp only
  repeat' split
  all_goals simp

theorem Dev.startStep_dmaWrites (c ch a werr : Nat) (bs : List Byte) (l : List Nat) (x : Nat × Dev) :
    (l.foldl (fun (x : Nat × Dev) k => (x.1 + k, x.2.dmaWrite c ch (a + x.1) ((bs.drop x.1).take k) werr)) x).2.startStep = x.2.startStep := by
  induction l generalizing x with
  | nil => rfl
  | cons k l ih => rw [List.foldl_cons, ih, Dev.startStep_dmaWrite]

theorem Dev.startStep_dmaPiece {c ch werr : Nat} {j : DmaJob} {e : Dev} (h : d.dmaPiece c ch werr j = some e) : e.startStep = d.startStep := by
  unfold Dev.dmaPiece at h
  dsimp only at h
  split at h
  · exact absurd h (by simp)
  · obtain rfl := Option.some.inj h
    rw [Dev.startStep_each _ (fun e r => Dev.startStep_dmaWrites ..), Dev.startStep_updDma]

@[simp] theorem Dev.startStep_dmaFlush (c ch werr k : Nat) : (Dev.dmaFlush c ch werr k d).startStep = d.startStep := by
  induction k generalizing d with
  | zero => rfl
  | succ k ih =>
    unfold Dev.dmaFlush
    split
    · next heq =>
      obtain ⟨j, -, piece⟩ := Option.bind_eq_some_iff.mp heq
      rw [ih, Dev.startStep_dmaPiece d piece]
    · rfl

@[simp] theorem Dev.startStep_dmaLanded (c ch off len code : Nat) (lines : List Byte) (werr : Nat) : (d.dmaLanded c ch off len code lines werr).startStep = d.startStep := by
  unfold Dev.dmaLanded
  dsimp only
  repeat' split
  all_goals simp

@[simp] theorem Dev.startStep_dmaAcked (c ch index seq code : Nat) : (d.dmaAcked c ch index seq code).startStep = d.startStep := by simp [Dev.dmaAcked]
@[simp] theorem Dev.startStep_dmaFree (c : Nat) : (d.dmaFree c).startStep = d.startStep := by simp [Dev.dmaFree]
@[simp] theorem Dev.startStep_dmaRingError (c ch : Nat) : (d.dmaRingError c ch).startStep = d.startStep := by simp [Dev.dmaRingError]
@[simp] theorem Dev.startStep_dmaFetch (c ch : Nat) : (d.dmaFetch c ch).startStep = d.startStep := by simp [Dev.dmaFetch]
@[simp] theorem Dev.startStep_dmaNext (c ch : Nat) : (d.dmaNext c ch).startStep = d.startStep := by simp [Dev.dmaNext]
@[simp] theorem Dev.startStep_dmaBacked (c ch code : Nat) : (d.dmaBacked c ch code).startStep = d.startStep := by simp [Dev.dmaBacked]
@[simp] theorem Dev.startStep_respond (p : Packet) (code : Nat) (data : List Byte) : (d.respond p code data).startStep = d.startStep := by simp [Dev.respond]

@[simp] theorem Dev.startStep_hlAnswer (half tag op addr reason : Nat) (data : List Byte) : (d.hlAnswer half tag op addr reason data).startStep = d.startStep := by
  simp [Dev.hlAnswer]

@[simp] theorem Dev.startStep_companionAnswer (half tag op addr st : Nat) (bs : List Byte) : (d.companionAnswer half tag op addr st bs).startStep = d.startStep := by
  simp [Dev.companionAnswer]

@[simp] theorem Dev.startStep_settleOne (a : MemAcc) : (d.settleOne a).startStep = d.startStep := by
  unfold Dev.settleOne
  dsimp only
  repeat' split
  all_goals simp

@[simp] theorem Dev.startStep_showSxu (c : Nat) : (d.showSxu c).startStep = d.startStep := by simp [Dev.showSxu]
@[simp] theorem Dev.startStep_endStream (c k : Nat) (s : Stream) : (d.endStream c k s).startStep = d.startStep := by simp [Dev.endStream]
@[simp] theorem Dev.startStep_setCtx (c k : Nat) (s : Stream) : (d.setCtx c k s).startStep = d.startStep := by simp [Dev.setCtx]

@[simp] theorem Dev.startStep_pulseBuffers (c k n : Nat) : (Dev.pulseBuffers c k n d).startStep = d.startStep := by
  induction n generalizing d with
  | zero => rfl
  | succ n ih =>
    unfold Dev.pulseBuffers
    split
    · rfl
    · dsimp only
      split
      · rfl
      · split
        · simp
        · rw [ih]
          split <;> simp

@[simp] theorem Dev.startStep_rowBytesDone (c k row n code : Nat) : (d.rowBytesDone c k row n code).startStep = d.startStep := by
  unfold Dev.rowBytesDone
  split
  · rfl
  · simp

@[simp] theorem Dev.startStep_issueLine (c k tag : Nat) : (d.issueLine c k tag).startStep = d.startStep := by
  unfold Dev.issueLine
  dsimp only
  repeat' split
  all_goals simp

@[simp] theorem Dev.startStep_pump (c k : Nat) : (Dev.pump c k d).startStep = d.startStep := by
  induction k generalizing d with
  | zero => rfl
  | succ k ih =>
    unfold Dev.pump
    dsimp only
    split
    · rfl
    · split
      · rfl
      · split
        · rfl
        · simp [ih]

@[simp] theorem Dev.startStep_pumpAll (c : Nat) : (d.pumpAll c).startStep = d.startStep := by simp [Dev.pumpAll]
@[simp] theorem Dev.startStep_offerTags : d.offerTags.startStep = d.startStep := by simp [Dev.offerTags]
@[simp] theorem Dev.startStep_resumeBehind : d.resumeBehind.startStep = d.startStep := by simp [Dev.resumeBehind]
@[simp] theorem Dev.startStep_dropXlt (hit : Nat → Bool) : (d.dropXlt hit).startStep = d.startStep := by simp [Dev.dropXlt]
@[simp] theorem Dev.startStep_writeEntries (dp : Nat) (f : Nat → Nat) : (d.writeEntries dp f).startStep = d.startStep := by simp [Dev.writeEntries]

@[simp] theorem Dev.startStep_sendSnoop (line addr : Nat) (inv owned : Bool) : (d.sendSnoop line addr inv owned).2.startStep = d.startStep := by
  unfold Dev.sendSnoop
  dsimp only
  repeat' split
  all_goals simp

@[simp] theorem Dev.startStep_hlViolation (code : Nat) : (d.hlViolation code).startStep = d.startStep := by
  unfold Dev.hlViolation
  dsimp only
  repeat' split
  all_goals simp

@[simp] theorem Dev.startStep_poisonLine (line : Nat) : (d.poisonLine line).startStep = d.startStep := by
  obtain ⟨f, hf⟩ := exists_opaque Dev.poisonLine
  rw [← hf]
  delta Dev.poisonLine at hf
  subst hf
  beta_reduce
  cases d.home (64 * line) with
  | none => rfl
  | scratch q o => simp
  | hbm p => dsimp only; split <;> simp

@[simp] theorem Dev.startStep_sfDrop (line : Nat) : (d.sfDrop line).startStep = d.startStep := by simp [Dev.sfDrop]
@[simp] theorem Dev.startStep_snoopLost (line : Nat) (owned : Bool) : (d.snoopLost line owned).2.startStep = d.startStep := by simp [Dev.snoopLost]
@[simp] theorem Dev.startStep_snoopFrame (loc : Nat) : (d.snoopFrame loc).startStep = d.startStep := by simp [Dev.snoopFrame]
@[simp] theorem Dev.startStep_startMove (m : PoolMove) : (d.startMove m).startStep = d.startStep := by simp [Dev.startMove]

@[simp] theorem Dev.startStep_startLater (k : Nat) : (Dev.startLater k d).startStep = d.startStep := by
  induction k generalizing d with
  | zero => rfl
  | succ k ih =>
    unfold Dev.startLater
    split
    · rfl
    · split <;> simp [ih]

@[simp] theorem Dev.startStep_showFrame (tier n : Nat) (free : Bool) : (d.showFrame tier n free).startStep = d.startStep := by simp [Dev.showFrame]

theorem Dev.startStep_takeFrame {tier g : Nat} {e : Dev} (h : d.takeFrame tier = some (g, e)) : e.startStep = d.startStep := by
  unfold Dev.takeFrame at h
  dsimp only at h
  split at h
  · exact absurd h (by simp)
  · obtain ⟨rfl, rfl⟩ := h
    simp

@[simp] theorem Dev.startStep_decideMove (dp dest : Nat) (promote sel : Bool) : (d.decideMove dp dest promote sel).2.startStep = d.startStep := by
  unfold Dev.decideMove
  dsimp only
  split
  · rfl
  · next heq => split <;> simp [d.startStep_takeFrame heq]

@[simp] theorem Dev.startStep_evictFor (p : PageRec → Bool) : (d.evictFor p).2.startStep = d.startStep := by
  unfold Dev.evictFor
  dsimp only
  repeat' split
  all_goals simp

@[simp] theorem Dev.startStep_wantFrame (k : PoolCmd) (client : Nat) : (d.wantFrame k client).2.startStep = d.startStep := by
  unfold Dev.wantFrame
  dsimp only
  repeat' split
  all_goals simp

@[simp] theorem Dev.startStep_poolAct (k : PoolCmd) : (d.poolAct k).2.startStep = d.startStep := by
  unfold Dev.poolAct
  dsimp only
  split
  · rfl
  split
  · split
    · rfl
    split
    · rfl
    split
    · next heq => exact (Dev.startStep_snd heq).trans (d.startStep_wantFrame ..)
    · next kept heq =>
      have same : kept.startStep = d.startStep := (Dev.startStep_snd heq).trans (d.startStep_wantFrame ..)
      split
      · exact same
      · next taken => simp [Dev.startStep_takeFrame _ taken, same]
  split
  · rfl
  split
  · split
    · rfl
    · split <;> simp
  split
  · split
    · rfl
    split
    · rfl
    split
    · simp
    split
    · next heq => exact (Dev.startStep_snd heq).trans (d.startStep_wantFrame ..)
    · next kept heq => simp [Dev.startStep_snd heq]
  split
  · rfl
  split
  · rfl
  · simp

@[simp] theorem Dev.startStep_returnFrame (tier n : Nat) : (d.returnFrame tier n).startStep = d.startStep := by simp [Dev.returnFrame]

@[simp] theorem Dev.startStep_poolFree (k : PoolCmd) : (d.poolFree k).2.startStep = d.startStep := by
  unfold Dev.poolFree
  dsimp only
  repeat' split
  all_goals simp

@[simp] theorem Dev.startStep_poolRun : d.poolRun.startStep = d.startStep := by
  have steps (q : List PoolCmd) (x : List PoolCmd × Dev) : (q.foldl (fun (x : List PoolCmd × Dev) k =>
      let (k', d) := if k.st = 0 && d.flag F.POOL_CTL_ENABLE then x.2.poolAct k else (k, x.2)
      let (k', d) := if k'.st = 4 then d.poolFree k' else (k', d)
      (x.1 ++ [k'], d)) x).2.startStep = x.2.startStep := by
    induction q generalizing x with
    | nil => rfl
    | cons k q ih =>
      rw [List.foldl_cons, ih]
      dsimp only
      split <;> split <;> simp
  exact steps d.pool.queue ([], d)

@[simp] theorem Dev.startStep_quotaEvict : d.quotaEvict.startStep = d.startStep := by
  unfold Dev.quotaEvict
  dsimp only
  simp

@[simp] theorem Dev.startStep_showPool : d.showPool.startStep = d.startStep := by
  unfold Dev.showPool
  dsimp only
  repeat' split
  all_goals simp

@[simp] theorem Dev.startStep_poolRetire (k : Nat) : (Dev.poolRetire k d).startStep = d.startStep := by
  induction k generalizing d with
  | zero => rfl
  | succ k ih =>
    unfold Dev.poolRetire
    split
    · split
      · rw [ih]
        split <;> simp
      · rfl
    · rfl

@[simp] theorem Dev.startStep_poolPump : d.poolPump.startStep = d.startStep := by simp [Dev.poolPump]
@[simp] theorem Dev.startStep_settle : d.settle.startStep = d.startStep := by simp [Dev.settle]
@[simp] theorem Dev.startStep_pieceDone (id code : Nat) (bs : List Byte) : (d.pieceDone id code bs).startStep = d.startStep := by simp [Dev.pieceDone]

@[simp] theorem Dev.startStep_aheadIssued (a : MemAcc) : (d.aheadIssued a).startStep = d.startStep := by
  unfold Dev.aheadIssued
  split <;> simp

@[simp] theorem Dev.startStep_failPiece (a : MemAcc) (code : Nat) : (d.failPiece a code).startStep = d.startStep := by simp [Dev.failPiece]

@[simp] theorem Dev.startStep_accDone (id code : Nat) (bs : List Byte) : (d.accDone id code bs).startStep = d.startStep := by
  unfold Dev.accDone
  dsimp only
  repeat' split
  all_goals simp

@[simp] theorem Dev.startStep_evtWriteFails : d.evtWriteFails.startStep = d.startStep := by simp [Dev.evtWriteFails]

@[simp] theorem Dev.startStep_ringFails : d.ringFails.startStep = d.startStep := by
  unfold Dev.ringFails
  dsimp only
  simp

@[simp] theorem Dev.startStep_ringFetch : d.ringFetch.startStep = d.startStep := by simp [Dev.ringFetch]
@[simp] theorem Dev.startStep_ringPump : d.ringPump.startStep = d.startStep := by simp [Dev.ringPump]

@[simp] theorem Dev.startStep_cmdEnd (c : CmdEntry) (status : Nat) (data : Option Nat) : (d.cmdEnd c status data).startStep = d.startStep := by
  simp [Dev.cmdEnd]

@[simp] theorem Dev.startStep_cmdArrived (data : List Byte) : (d.cmdArrived data).startStep = d.startStep := by simp [Dev.cmdArrived]
@[simp] theorem Dev.startStep_cmdBacked : d.cmdBacked.startStep = d.startStep := by simp [Dev.cmdBacked]
@[simp] theorem Dev.startStep_cmdAnswer (ok : Bool) (data : List Byte) : (d.cmdAnswer ok data).startStep = d.startStep := by simp [Dev.cmdAnswer]

theorem Dev.startStep_swapEntry (c : Nat) (line : List Byte) : (d.swapEntry c false line).startStep = d.startStep := by
  simp [Dev.swapEntry]

theorem Dev.startStep_endWaiter (w : Waiter) {code : Nat} (h : code ≠ 0) (data : List Byte) : (d.endWaiter w code data).startStep = d.startStep := by
  unfold Dev.endWaiter
  split
  · split
    · simp
    · rfl
  · split <;> simp
  · simp
  · simp [h, Dev.startStep_swapEntry]
  all_goals rfl

@[simp] theorem Dev.startStep_hlReqEnds (r : HlReq) {code : Nat} (h : code ≠ 0) (data : List Byte) : (d.hlReqEnds r code data).startStep = d.startStep := by
  rw [Dev.hlReqEnds, Dev.startStep_endWaiter _ _ h]
  simp

@[simp] theorem Dev.startStep_dropSnoop (x : Snoop) : (d.dropSnoop x).startStep = d.startStep := by simp [Dev.dropSnoop]

@[simp] theorem Dev.startStep_homeWrite (line : Nat) (data : List Byte) : (d.homeWrite line data).startStep = d.startStep := by
  obtain ⟨f, hf⟩ := exists_opaque Dev.homeWrite
  rw [← hf]
  delta Dev.homeWrite at hf
  subst hf
  beta_reduce
  cases d.home (64 * line) <;> simp

@[simp] theorem Dev.startStep_aheadRedundant (a : MemAcc) : (d.aheadRedundant a).startStep = d.startStep := by
  unfold Dev.aheadRedundant
  split <;> simp

@[simp] theorem Dev.startStep_touchReads (a : MemAcc) : (d.touchReads a).startStep = d.startStep := by simp [Dev.touchReads]

@[simp] theorem Dev.startStep_sfPut (e : SfEntry) : (d.sfPut e).startStep = d.startStep := by
  unfold Dev.sfPut
  dsimp only
  repeat' split
  all_goals simp

@[simp] theorem Dev.startStep_companionServed (a : MemAcc) (line : Nat) : (d.companionServed a line).startStep = d.startStep := by
  unfold Dev.companionServed
  split
  · repeat' split
    all_goals simp
  · rfl

@[simp] theorem Dev.startStep_serveScratch (a : MemAcc) (q o pa err : Nat) : (d.serveScratch a q o pa err).startStep = d.startStep := by
  simp [Dev.serveScratch]

@[simp] theorem Dev.startStep_tagError (line w : Nat) : (d.tagError line w).startStep = d.startStep := by simp [Dev.tagError]

@[simp] theorem Dev.startStep_readMark (l : ShcLine) (a : MemAcc) : (d.readMark l a).startStep = d.startStep := by
  unfold Dev.readMark
  split
  · split <;> simp
  · rfl

@[simp] theorem Dev.startStep_serveLine (a : MemAcc) (l : ShcLine) (pa : Nat) : (d.serveLine a l pa).startStep = d.startStep := by simp [Dev.serveLine]

@[simp] theorem Dev.startStep_serve (a : MemAcc) (pa err : Nat) : (d.serve a pa err).startStep = d.startStep := by
  obtain ⟨f, hf⟩ := exists_opaque Dev.serve
  rw [← hf]
  delta Dev.serve at hf
  subst hf
  beta_reduce
  extract_lets line notOwner
  cases d.home pa with
  | none => dsimp only; split <;> simp
  | scratch q off =>
    dsimp only
    split
    · simp
    · split <;> simp
  | hbm p =>
    dsimp only
    split
    · simp
    split
    · simp
    split
    · split
      · simp
      · split
        · simp
        · rw [Dev.startStep_serveLine]
          split <;> simp
    · split
      · simp
      · split <;> simp

@[simp] theorem Dev.startStep_sliceAccept (a : MemAcc) (pa err : Nat) : (d.sliceAccept a pa err).startStep = d.startStep := by
  unfold Dev.sliceAccept
  dsimp only
  repeat' split
  all_goals simp

@[simp] theorem Dev.startStep_snoopResume (line : Nat) (bad : Bool) : (d.snoopResume line bad).startStep = d.startStep := by
  unfold Dev.snoopResume
  dsimp only
  rw [Dev.startStep_each, Dev.startStep_each]
  · split
    · split <;> simp
    · rfl
  · simp
  · intro e id
    split
    · split <;> simp
    · rfl

@[simp] theorem Dev.startStep_snoopFails (x : Snoop) : (d.snoopFails x).startStep = d.startStep := by
  unfold Dev.snoopFails
  dsimp only
  simp

@[simp] theorem Dev.startStep_hlLose (h : Nat) : (d.hlLose h).startStep = d.startStep := by
  unfold Dev.hlLose
  dsimp only
  simp +decide

@[simp] theorem Dev.startStep_hlFailover (h st : Nat) : (d.hlFailover h st).startStep = d.startStep := by
  unfold Dev.hlFailover
  dsimp only
  repeat' split
  all_goals simp

end

end Sys2Proof.Machine

/-! # The halves of HauneLink, and the companion's requests and answers (chapter 16) -/

namespace Sys2Proof.Machine

/-! ## The registers and the state of a half -/

/-- The enable field of half h. -/
def enField (h : Nat) : Fld := if h = 0 then F.HL_CTL_HALF0_EN else F.HL_CTL_HALF1_EN

/-- The state field of half h. -/
def stateField (h : Nat) : Fld := if h = 0 then F.HL_STATUS_STATE0 else F.HL_STATUS_STATE1

/-- The lanes field of half h. -/
def lanesField (h : Nat) : Fld := if h = 0 then F.HL_STATUS_LANES0 else F.HL_STATUS_LANES1

theorem halfFields_fit (h : Nat) : (enField h).fits = true ∧ (stateField h).fits = true ∧ (lanesField h).fits = true := by
  unfold enField stateField lanesField
  split <;> decide

theorem halfFields_spare (h : Nat) : (enField h).spares (stateField h) = true ∧ (stateField h).spares (enField h) = true ∧
    (stateField h).spares (lanesField h) = true := by
  unfold enField stateField lanesField
  split <;> decide

section
variable (d : Dev) (h : Nat)

theorem Dev.hlState_eq : d.hlState h = d.get (stateField h) := by
  unfold Dev.hlState stateField
  split <;> rfl

theorem Dev.hlState_regs {d e : Dev} (hr : e.regs = d.regs) : e.hlState h = d.hlState h := by
  rw [Dev.hlState_eq, Dev.hlState_eq, Dev.get_regs hr]

theorem Dev.hlState_setHlState {st : Nat} (hst : st < 16) : (d.setHlState h st).hlState h = st := by
  rw [Dev.hlState_eq]
  refine d.get_putD_fits (halfFields_fit h).2.1 (hst.trans_le ?_)
  split <;> decide

theorem Dev.hlState_putEn (v : Nat) : (d.putD (enField h) v).hlState h = d.hlState h := by
  rw [Dev.hlState_eq, Dev.hlState_eq, d.get_putD_spared v (halfFields_spare h).1]

theorem Dev.setHlHalf_self : d.setHlHalf h (d.hlHalf h) = d := by
  unfold Dev.setHlHalf Dev.hlHalf
  split <;> rfl

/-- A change of half h's own state, in what it keeps of the device. -/
theorem Dev.KeepsBytes.setHlHalf {d e : Dev} {fs : List (Fld × Nat × Nat)} (k : d.KeepsBytes e fs) (h : Nat) (v : HlHalf) : d.KeepsBytes (e.setHlHalf h v) fs :=
  k.beside (by simp) (by simp) (by simp)

/-- Flits that wait go out: the retry buffer takes some at its end, and nothing else of the half changes but SEQ. -/
theorem Dev.hlPump_shown : ∃ n go seq, d.hlPump h = d.setHlHalf h { d.hlHalf h with
      wait := (d.hlHalf h).wait.drop n, retry := (d.hlHalf h).retry ++ go, txSeq := seq } ∧ ((d.hlHalf h).wait = [] → go = []) := by
  unfold Dev.hlPump
  dsimp only
  split
  · exact ⟨0, [], (d.hlHalf h).txSeq, by simp [d.setHlHalf_self h], fun _ => rfl⟩
  · exact ⟨_, _, _, rfl, fun hw => by simp [hw]⟩

theorem Dev.hlPump_regs : (d.hlPump h).regs = d.regs := by
  obtain ⟨n, go, seq, e, -⟩ := d.hlPump_shown h
  rw [e, Dev.setHlHalf_regs]

theorem Dev.KeepsBytes.hlPump {d e : Dev} {fs : List (Fld × Nat × Nat)} (k : d.KeepsBytes e fs) (h : Nat) : d.KeepsBytes (e.hlPump h) fs := by
  obtain ⟨n, go, seq, p, -⟩ := e.hlPump_shown h
  rw [p]
  exact k.setHlHalf h _

theorem Dev.hlReport_shown (nak : Bool) : (d.hlReport h nak).out = d.out ++ [.hlAck h (((d.hlHalf h).rxSeq + 1023) % 1024) nak] ∧
    (d.hlReport h nak).regs = d.regs ∧
    (d.hlReport h nak).hlHalf h = { d.hlHalf h with sinceAck := 0, nakSent := (d.hlHalf h).nakSent || nak } := by
  unfold Dev.hlReport
  dsimp only
  refine ⟨?_, ?_, Dev.hlHalf_setHlHalf_same _ _ _⟩
  · exact congrArg (· ++ [Output.hlAck h (((d.hlHalf h).rxSeq + 1023) % 1024) nak]) (d.setHlHalf_out h _)
  · exact d.setHlHalf_regs h _

theorem Dev.KeepsBytes.hlReport {d e : Dev} {fs : List (Fld × Nat × Nat)} (k : d.KeepsBytes e fs) (h : Nat) (nak : Bool) : d.KeepsBytes (e.hlReport h nak) fs :=
  (k.setHlHalf h _).beside rfl rfl rfl

end

/-! ## Steps of the start that a half's training leaves (R463) -/

section
variable (d : Dev) (h : Nat)

@[simp] theorem Dev.startStep_hlReport (nak : Bool) : (d.hlReport h nak).startStep = d.startStep := by simp [Dev.hlReport]

@[simp] theorem Dev.startStep_hlAttemptFails : (d.hlAttemptFails h).startStep = d.startStep := by
  unfold Dev.hlAttemptFails
  dsimp only
  repeat' split
  all_goals simp

@[simp] theorem Dev.startStep_hlTrained (lanes : Nat) : (d.hlTrained h lanes).startStep = d.startStep := by
  unfold Dev.hlTrained
  dsimp only
  repeat' split
  all_goals simp [Dev.hlCount]

/-- Once the device serves, a training's end does nothing for the start. -/
theorem Dev.step10Done_serving {d : Dev} (hd : d.startStep = 14) : d.step10Done = d := by
  unfold Dev.step10Done
  rw [Dev.boot_step, hd]
  split
  · rfl
  · rw [if_neg (by decide), if_pos (by simp)]

end

/-! ## Enabling, disabling and training a half (R427, R430, R432) -/

/-- Half h UP on its four lanes, once a training has found them good. -/
def Dev.halfRaised (d : Dev) (h : Nat) : Dev :=
  ((d.setHlHalf h { d.hlHalf h with fails := 0, left := 15 ^^^ 15, crcRun := 0, nakRun := 0 }).setHlLanes h 15).setHlState h 2

section
variable (s : State) {h : Nat} (hh : h < 2)
include hh

theorem exec_hlHalfEnable : exec (.hlHalfEnable h) s = .next (s.withDev ((s.dev.putD (enField h) 1).hlTrain h)) := s.runOn_next _ (decide_eq_true hh)

theorem exec_hlHalfDisable : exec (.hlHalfDisable h) s = .next (s.withDev ((s.dev.putD (enField h) 0).hlDown h)) := s.runOn_next _ (decide_eq_true hh)

theorem hlHalfEnable_down (h0 : s.dev.hlState h = 0) (hc : s.dev.clk.safe = false) (hb : s.dev.hl.ballsTaken = false) :
    ∃ t, exec (.hlHalfEnable h) s = .next t ∧ t.pending = s.pending ∧ t.dev.hlState h = 1 ∧ t.dev.get (enField h) = 1 ∧ t.dev.hlHalf h = ({ } : HlHalf) ∧
      s.dev.onlyFields t.dev [(enField h, 0, 0), (stateField h, 0, 0)] ∧ s.dev.sameBytes t.dev := by
  obtain ⟨fen, fst, -⟩ := halfFields_fit h
  have e := exec_hlHalfEnable s hh
  have train : (s.dev.putD (enField h) 1).hlTrain h = ((s.dev.putD (enField h) 1).setHlHalf h { }).setHlState h 1 :=
    if_pos (by rw [Dev.hlState_putEn, h0, Dev.putD_clk, hc, Dev.putD_hl, hb]; rfl)
  rw [train] at e
  have kept := (((Dev.KeepsBytes.refl s.dev [(enField h, 0, 0), (stateField h, 0, 0)]).put (enField h) 0 0 1 fen (by simp)).setHlHalf h { }).put
    (stateField h) 0 0 1 fst (by simp)
  refine ⟨_, e, rfl, Dev.hlState_setHlState _ _ (by decide), ?_, Dev.hlHalf_setHlHalf_same _ _ _, kept.regs, kept.sameBytes⟩
  exact (Dev.get_putD_spared _ 1 (halfFields_spare h).2.1).trans ((Dev.get_regs (Dev.setHlHalf_regs _ _ _) _ _ _).trans
    (s.dev.get_putD_fits fen (by unfold enField; split <;> decide)))

theorem hlHalfEnable_kept (hk : s.dev.hlState h ≠ 0 ∨ s.dev.clk.safe = true ∨ s.dev.hl.ballsTaken = true) :
    exec (.hlHalfEnable h) s = .next (s.withDev (s.dev.putD (enField h) 1)) := by
  rw [exec_hlHalfEnable s hh]
  refine congrArg (fun d => Host.Outcome.next (s.withDev d)) (if_neg ?_)
  rw [Dev.hlState_putEn, Dev.putD_clk, Dev.putD_hl]
  rcases hk with hk | hk | hk <;> simp [hk]

theorem hlHalfDisable_idle (h0 : s.dev.hlState h = 0 ∨ s.dev.hlState h = 4) :
    ∃ t, exec (.hlHalfDisable h) s = .next t ∧ t.pending = s.pending ∧ t.dev.hlState h = 0 ∧ t.dev.get (enField h) = 0 ∧
      s.dev.onlyFields t.dev [(enField h, 0, 0), (stateField h, 0, 0)] ∧ t.dev = { s.dev with regs := t.dev.regs } := by
  obtain ⟨fen, fst, -⟩ := halfFields_fit h
  have off : (s.dev.putD (enField h) 0).get (enField h) = 0 := s.dev.get_putD_fits fen (Nat.two_pow_pos _)
  have state := s.dev.hlState_putEn h 0
  have kept := (Dev.KeepsBytes.refl s.dev [(enField h, 0, 0), (stateField h, 0, 0)]).put (enField h) 0 0 0 fen (by simp)
  have e := exec_hlHalfDisable s hh
  unfold Dev.hlDown at e
  rw [state] at e
  rcases h0 with h0 | h0
  · rw [h0, if_neg (by decide), if_pos rfl] at e
    exact ⟨_, e, rfl, state.trans h0, off, kept.regs, rfl⟩
  · rw [h0, if_pos rfl] at e
    exact ⟨_, e, rfl, Dev.hlState_setHlState _ _ (by decide), (Dev.get_putD_spared _ 0 (halfFields_spare h).2.1).trans off,
      (kept.put (stateField h) 0 0 0 fst (by simp)).regs, rfl⟩

theorem hlHalfDisable_live (h0 : s.dev.hlState h = 1 ∨ s.dev.hlState h = 2 ∨ s.dev.hlState h = 3) :
    exec (.hlHalfDisable h) s = .next (s.withDev ((s.dev.putD (enField h) 0).hlFailover h 0)) := by
  rw [exec_hlHalfDisable s hh]
  unfold Dev.hlDown
  rw [Dev.hlState_putEn, if_neg (by omega), if_neg (by omega)]

theorem exec_hlTrainingDone (lanes : Nat) (h14 : s.dev.boot.step = 14) : exec (.hlTrainingDone h lanes) s = .next (s.withDev (s.dev.hlTrained h lanes)) := by
  rw [show exec (.hlTrainingDone h lanes) s = .next (s.withDev (s.dev.hlTrained h lanes).step10Done) from s.runOn_next _ (decide_eq_true hh),
    Dev.step10Done_serving ((s.dev.startStep_hlTrained h lanes).trans h14)]

theorem exec_hlTrainingFail (h14 : s.dev.boot.step = 14) : exec (.hlTrainingFail h) s = .next (s.withDev (s.dev.hlAttemptFails h)) := by
  rw [show exec (.hlTrainingFail h) s = .next (s.withDev (s.dev.hlAttemptFails h).step10Done) from s.runOn_next _ (decide_eq_true hh),
    Dev.step10Done_serving ((s.dev.startStep_hlAttemptFails h).trans h14)]

theorem exec_hlTrainingRetry : exec (.hlTrainingRetry h) s =
    .next (s.withDev (if s.dev.hlState h = 1 then s.dev.setHlHalf h { s.dev.hlHalf h with retryWait := false } else s.dev)) := s.runOn_next _ (decide_eq_true hh)

theorem exec_hlRetrain : exec (.hlRetrain h) s = .next (s.withDev (s.dev.hlRetrain h)) := s.runOn_next _ (decide_eq_true hh)

theorem exec_hlAckSend : exec (.hlAckSend h) s = .next (s.withDev (if s.dev.hlState h = 2 then s.dev.hlReport h false else s.dev)) :=
  s.runOn_next _ (decide_eq_true hh)

theorem exec_hlFlitReceive (f : HlFlit) : exec (.hlFlitReceive h f) s = .next (s.withDev (s.dev.hlFlit h f)) := s.runOn_next _ (decide_eq_true hh)

theorem hlTrainingDone_up (h1 : s.dev.hlState h = 1) (hw : (s.dev.hlHalf h).retryWait = false) (h14 : s.dev.boot.step = 14) (hl : (s.dev.hlHalf h).left = 0) :
    ∃ t, exec (.hlTrainingDone h 15) s = .next t ∧ t.pending = s.pending ∧ t.dev.hlState h = 2 ∧ t.dev.get (lanesField h) = 15 ∧ (t.dev.hlHalf h).fails = 0 ∧
      s.dev.sameBytes t.dev := by
  obtain ⟨-, fst, fla⟩ := halfFields_fit h
  have e := exec_hlTrainingDone s hh 15 h14
  have trained : s.dev.hlTrained h 15 = ((s.dev.halfRaised h).hlReport h false).hlPump h := by
    unfold Dev.hlTrained Dev.halfRaised
    dsimp only
    rw [hl, h1, hw, show hlPairs (15 % 16 &&& (15 ^^^ 0)) = 15 by decide, if_neg (by decide), if_neg (by decide), if_pos rfl]
  rw [trained] at e
  have kept : s.dev.KeepsBytes (s.dev.halfRaised h) [(lanesField h, 0, 0), (stateField h, 0, 0)] :=
    (((Dev.KeepsBytes.refl s.dev [(lanesField h, 0, 0), (stateField h, 0, 0)]).setHlHalf h _).put (lanesField h) 0 0 15 fla (by simp)).put
      (stateField h) 0 0 2 fst (by simp)
  obtain ⟨-, regs, half⟩ := (s.dev.halfRaised h).hlReport_shown h false
  have same : (((s.dev.halfRaised h).hlReport h false).hlPump h).regs = (s.dev.halfRaised h).regs := (((s.dev.halfRaised h).hlReport h false).hlPump_regs h).trans regs
  refine ⟨_, e, rfl, (Dev.hlState_regs h same).trans (Dev.hlState_setHlState _ _ (by decide)), ?_, ?_, ((kept.hlReport h false).hlPump h).sameBytes⟩
  · exact (Dev.get_regs same _ _ _).trans ((Dev.get_putD_spared _ 2 (halfFields_spare h).2.2).trans
      (Dev.get_putD_fits _ fla (by split <;> decide)))
  · obtain ⟨n, go, seq, p, -⟩ := ((s.dev.halfRaised h).hlReport h false).hlPump_shown h
    change ((((s.dev.halfRaised h).hlReport h false).hlPump h).hlHalf h).fails = 0
    rw [p, Dev.hlHalf_setHlHalf_same, half]
    exact congrArg HlHalf.fails (Dev.hlHalf_setHlHalf_same s.dev h _)

theorem hlTrainingFail_training (h1 : s.dev.hlState h = 1) (hw : (s.dev.hlHalf h).retryWait = false) (h14 : s.dev.boot.step = 14) :
    ((s.dev.hlHalf h).fails < 2 → exec (.hlTrainingFail h) s = .next (s.withDev (s.dev.setHlHalf h ({ s.dev.hlHalf h with fails := (s.dev.hlHalf h).fails + 1, retryWait := true } : HlHalf)))) ∧
      (2 ≤ (s.dev.hlHalf h).fails → ∃ t, exec (.hlTrainingFail h) s = .next t ∧ t.pending = s.pending ∧ t.dev.hlState h = 4 ∧ s.dev.onlyFields t.dev [(stateField h, 0, 0)]) := by
  have e := exec_hlTrainingFail s hh h14
  unfold Dev.hlAttemptFails at e
  dsimp only at e
  rw [h1, hw, if_pos (by simp)] at e
  refine ⟨fun hf => ?_, fun hf => ?_⟩
  · rw [if_neg (by omega)] at e
    exact e
  · rw [if_pos (by omega)] at e
    exact ⟨_, e, rfl, Dev.hlState_setHlState _ _ (by decide),
      (((Dev.KeepsBytes.refl s.dev [(stateField h, 0, 0)]).setHlHalf h _).put (stateField h) 0 0 4 (halfFields_fit h).2.1 (by simp)).regs⟩

theorem hlTrainingFail_retraining (h3 : s.dev.hlState h = 3) (h14 : s.dev.boot.step = 14) :
    ((s.dev.hlHalf h).fails < 2 → exec (.hlTrainingFail h) s = .next (s.withDev (s.dev.setHlHalf h ({ s.dev.hlHalf h with fails := (s.dev.hlHalf h).fails + 1 } : HlHalf)))) ∧
      (2 ≤ (s.dev.hlHalf h).fails → exec (.hlTrainingFail h) s = .next (s.withDev (s.dev.hlFailover h 4))) := by
  have e := exec_hlTrainingFail s hh h14
  unfold Dev.hlAttemptFails at e
  dsimp only at e
  rw [h3, if_neg (by simp), if_pos rfl] at e
  refine ⟨fun hf => ?_, fun hf => ?_⟩
  · rwa [if_neg (by omega)] at e
  · rwa [if_pos (by omega)] at e

theorem hlRetrain_up (h2 : s.dev.hlState h = 2) : ∃ t, exec (.hlRetrain h) s = .next t ∧ t.pending = s.pending ∧ t.dev.hlState h = 3 ∧
    (t.dev.hlHalf h).retry = (s.dev.hlHalf h).retry ∧ s.dev.onlyFields t.dev [(stateField h, 0, 0)] ∧ s.dev.sameBytes t.dev := by
  have e := exec_hlRetrain s hh
  unfold Dev.hlRetrain at e
  rw [if_pos h2] at e
  have kept := ((Dev.KeepsBytes.refl s.dev [(stateField h, 0, 0)]).setHlHalf h { s.dev.hlHalf h with fails := 0, crcRun := 0, nakRun := 0 }).put
    (stateField h) 0 0 3 (halfFields_fit h).2.1 (by simp)
  exact ⟨_, e, rfl, Dev.hlState_setHlState _ _ (by decide), (congrArg HlHalf.retry (Dev.hlHalf_setHlHalf_same s.dev h { s.dev.hlHalf h with fails := 0, crcRun := 0, nakRun := 0 })).trans rfl, kept.regs, kept.sameBytes⟩

theorem hlAckSend_up (h2 : s.dev.hlState h = 2) : ∃ t, exec (.hlAckSend h) s = .next t ∧ t.pending = s.pending ∧
    t.dev.out = s.dev.out ++ [.hlAck h (((s.dev.hlHalf h).rxSeq + 1023) % 1024) false] ∧ t.dev.regs = s.dev.regs ∧ s.dev.sameBytes t.dev := by
  have e := exec_hlAckSend s hh
  rw [if_pos h2] at e
  obtain ⟨out, regs, -⟩ := s.dev.hlReport_shown h false
  exact ⟨_, e, rfl, out, regs, ((Dev.KeepsBytes.refl s.dev []).hlReport h false).sameBytes⟩

theorem half_notUp (h2 : s.dev.hlState h ≠ 2) : exec (.hlRetrain h) s = .next s ∧ exec (.hlAckSend h) s = .next s ∧ ∀ f, exec (.hlFlitReceive h f) s = .next s := by
  refine ⟨?_, ?_, fun f => ?_⟩
  · rw [exec_hlRetrain s hh, show s.dev.hlRetrain h = s.dev from if_neg h2]
  · rw [exec_hlAckSend s hh, if_neg h2]
  · rw [exec_hlFlitReceive s hh, show s.dev.hlFlit h f = s.dev from if_pos h2]

end

end Sys2Proof.Machine

/-! ## Flits that arrive (R429, R430, R455) -/

namespace Sys2Proof.Machine

/-- What a half keeps of the flits received: SEQ expected, whether a NAK is out, and the CRC failures in a row. -/
def HlHalf.received (v : HlHalf) : Nat × Bool × Nat := (v.rxSeq, v.nakSent, v.crcRun)

section
variable (d : Dev) (h : Nat)

theorem Dev.hlPump_received : ((d.hlPump h).hlHalf h).received = (d.hlHalf h).received := by
  obtain ⟨n, go, seq, e, -⟩ := d.hlPump_shown h
  rw [e, Dev.hlHalf_setHlHalf_same]
  rfl

theorem Dev.hlSend_received (op tag addr reason : Nat) (data : List Byte) : ((d.hlSend h op tag addr reason data).hlHalf h).received = (d.hlHalf h).received := by
  refine ((d.setHlHalf h { d.hlHalf h with wait := (d.hlHalf h).wait ++ hlFlits op tag addr reason data }).hlPump_received h).trans ?_
  rw [Dev.hlHalf_setHlHalf_same]
  rfl

theorem Dev.hlRefuse_received (f : HlFlit) : ((d.hlRefuse h f).hlHalf h).received = (d.hlHalf h).received := by
  unfold Dev.hlRefuse
  split
  · rfl
  split
  · exact Dev.each_inv (P := fun e => (e.hlHalf h).received = (d.hlHalf h).received) _ (fun e x he => ((e.hlViolation 1).hlSend_received h 0x23 x.1 x.2 1 []).trans he) _ rfl
  · rfl

/-- No ACK is due while the last is less than 64 flit periods old. -/
theorem Dev.hlAckDue_early (hs : (d.hlHalf h).sinceAck < 64) : d.hlAckDue h = d := if_neg (by simp [Nat.not_le.2 hs])

theorem Dev.hlAckDue_late (h2 : d.hlState h = 2) (hs : 64 ≤ (d.hlHalf h).sinceAck) : d.hlAckDue h = d.hlReport h false := if_pos (by simp [h2, hs])

/-- An ACK that goes out, or none: of the half only the flit periods since the last one change. -/
theorem Dev.hlAckDue_shown : (d.hlAckDue h).regs = d.regs ∧ ∃ n, (d.hlAckDue h).hlHalf h = { d.hlHalf h with sinceAck := n } := by
  unfold Dev.hlAckDue
  split
  · obtain ⟨-, regs, half⟩ := d.hlReport_shown h false
    exact ⟨regs, 0, by rw [half, Bool.or_false]⟩
  · exact ⟨rfl, _, rfl⟩

/-- What an UP half sends for an ACK that falls due after a flit. -/
theorem Dev.hlAckDue_out (h2 : d.hlState h = 2) :
    (d.hlAckDue h).out = d.out ++ if 64 ≤ (d.hlHalf h).sinceAck then [.hlAck h (((d.hlHalf h).rxSeq + 1023) % 1024) false] else [] := by
  split
  · next hs => rw [d.hlAckDue_late h h2 hs, (d.hlReport_shown h false).1]
  · next hs => rw [d.hlAckDue_early h (Nat.not_le.1 hs), List.append_nil]

/-- The half as a flit with a good CRC finds it. -/
def Dev.flitSound (d : Dev) (h : Nat) : HlHalf := { d.hlHalf h with sinceAck := (d.hlHalf h).sinceAck + 1, crcRun := 0 }

theorem Dev.hlPeriod_half : (d.hlPeriod h).hlHalf h = { d.hlHalf h with sinceAck := (d.hlHalf h).sinceAck + 1 } := Dev.hlHalf_setHlHalf_same _ _ _

/-- A half set twice keeps the second. -/
theorem Dev.setHlHalf_twice (v w : HlHalf) : (d.setHlHalf h v).setHlHalf h w = d.setHlHalf h w := by
  unfold Dev.setHlHalf
  split <;> rfl

theorem Dev.hlFlit_up (f : HlFlit) (h2 : d.hlState h = 2) : d.hlFlit h f = ((d.hlPeriod h).hlArrive h f).hlAckDue h := if_neg (not_not.2 h2)

/-- A flit of the SEQ expected is taken. -/
theorem Dev.hlArrive_expected {f : HlFlit} (hc : f.crcOk = true) (hk : f.kind = 1 ∨ f.kind = 2) (hs : f.seq = (d.hlHalf h).rxSeq) :
    (d.hlPeriod h).hlArrive h f =
      (d.setHlHalf h { d.flitSound h with rxSeq := ((d.hlHalf h).rxSeq + 1) % 1024, nakSent := false }).hlRefuse h f := by
  unfold Dev.hlArrive
  rw [Dev.hlPeriod_half, if_neg (by simp [hc])]
  dsimp only
  rw [if_neg (by omega), if_neg (by omega), if_pos hs]
  exact congrArg (fun e => Dev.hlRefuse e h f) (d.setHlHalf_twice h _ _)

theorem Dev.hlArrive_ack {f : HlFlit} (hc : f.crcOk = true) (hk : f.kind = 3) :
    (d.hlPeriod h).hlArrive h f = (d.setHlHalf h (d.flitSound h)).hlAcked h f.nak f.acked := by
  unfold Dev.hlArrive
  rw [Dev.hlPeriod_half, if_neg (by simp [hc])]
  dsimp only
  rw [if_pos hk]
  exact congrArg (fun e => Dev.hlAcked e h f.nak f.acked) (d.setHlHalf_twice h _ _)

end

/-- A flit with a bad CRC is counted. -/
def Dev.crcFailed (d : Dev) (h : Nat) : Dev :=
  (d.setHlHalf h { d.hlHalf h with sinceAck := (d.hlHalf h).sinceAck + 1, crcRun := (d.hlHalf h).crcRun + 1 }).count F.HL_CRC_ERR_V 0 h

section
variable (d : Dev) (h : Nat)

theorem Dev.crcFailed_half : (d.crcFailed h).hlHalf h = { d.hlHalf h with sinceAck := (d.hlHalf h).sinceAck + 1, crcRun := (d.hlHalf h).crcRun + 1 } :=
  Dev.hlHalf_setHlHalf_same d h _

theorem Dev.crcFailed_out : (d.crcFailed h).out = d.out := Dev.setHlHalf_out d h _

theorem Dev.crcFailed_keeps : d.KeepsBytes (d.crcFailed h) [(F.HL_CRC_ERR_V, 0, h)] :=
  ((Dev.KeepsBytes.refl d _).setHlHalf h _).put F.HL_CRC_ERR_V 0 h _ (by decide) (by simp)

end

/-! ### ACK and NAK -/

section
variable (d : Dev) (h acked : Nat)

/-- Half h once an ACK has freed what it names. -/
def Dev.acknowledged (d : Dev) (h acked : Nat) : HlHalf := { d.hlHalf h with retry := flitsAfter acked (d.hlHalf h).retry, nakRun := 0 }

/-- The NAKs in a row that name one flit, with this one. -/
def Dev.nakCount (d : Dev) (h acked : Nat) : Nat := if (d.hlHalf h).nakRun ≠ 0 && (d.hlHalf h).nakSeq = acked then (d.hlHalf h).nakRun + 1 else 1

/-- The device once a NAK has freed what it names and the flits resent are counted. -/
def Dev.negated (d : Dev) (h acked : Nat) : Dev :=
  (d.setHlHalf h { d.hlHalf h with retry := flitsAfter acked (d.hlHalf h).retry, nakRun := d.nakCount h acked, nakSeq := acked }).count F.HL_RETRY_V 0 h
    (flitsAfter acked (d.hlHalf h).retry).length

theorem Dev.hlAcked_ack : d.hlAcked h false acked = (d.setHlHalf h (d.acknowledged h acked)).hlPump h := rfl

theorem Dev.hlAcked_nak : d.hlAcked h true acked = if 8 ≤ d.nakCount h acked then (d.negated h acked).hlRetrain h else (d.negated h acked).hlPump h := rfl

theorem Dev.negated_half : (d.negated h acked).hlHalf h =
    { d.hlHalf h with retry := flitsAfter acked (d.hlHalf h).retry, nakRun := d.nakCount h acked, nakSeq := acked } := Dev.hlHalf_setHlHalf_same d h _

theorem Dev.negated_keeps : d.KeepsBytes (d.negated h acked) [(F.HL_RETRY_V, 0, h)] :=
  ((Dev.KeepsBytes.refl d _).setHlHalf h _).put F.HL_RETRY_V 0 h _ (by decide) (by simp)

theorem Dev.hlRetrain_retry : ((d.hlRetrain h).hlHalf h).retry = (d.hlHalf h).retry := by
  unfold Dev.hlRetrain
  split
  · exact (congrArg HlHalf.retry (Dev.hlHalf_setHlHalf_same d h { d.hlHalf h with fails := 0, crcRun := 0, nakRun := 0 })).trans rfl
  · rfl

/-- Flits that wait join the retry buffer at its end. -/
theorem Dev.hlPump_retry : ∃ go, ((d.hlPump h).hlHalf h).retry = (d.hlHalf h).retry ++ go ∧ ((d.hlHalf h).wait = [] → go = []) := by
  obtain ⟨n, go, seq, e, none⟩ := d.hlPump_shown h
  exact ⟨go, by rw [e, Dev.hlHalf_setHlHalf_same], none⟩

theorem Dev.hlAcked_retry (nak : Bool) : ∃ go, ((d.hlAcked h nak acked).hlHalf h).retry = flitsAfter acked (d.hlHalf h).retry ++ go ∧
    ((d.hlHalf h).wait = [] → go = []) := by
  cases nak with
  | false =>
    have p := (d.setHlHalf h (d.acknowledged h acked)).hlPump_retry h
    rwa [Dev.hlHalf_setHlHalf_same] at p
  | true =>
    rw [Dev.hlAcked_nak]
    split
    · exact ⟨[], by rw [Dev.hlRetrain_retry, Dev.negated_half, List.append_nil], fun _ => rfl⟩
    · have p := (d.negated h acked).hlPump_retry h
      rwa [Dev.negated_half] at p

theorem Dev.hlAcked_freed : ((d.hlAcked h false acked).hlHalf h).nakRun = 0 ∧ (d.hlAcked h false acked).regs = d.regs := by
  rw [Dev.hlAcked_ack]
  obtain ⟨n, go, seq, e, -⟩ := (d.setHlHalf h (d.acknowledged h acked)).hlPump_shown h
  refine ⟨?_, (Dev.hlPump_regs _ h).trans (Dev.setHlHalf_regs d h _)⟩
  rw [e, Dev.hlHalf_setHlHalf_same, Dev.hlHalf_setHlHalf_same]
  rfl

/-- Fewer than eight NAKs in a row leave the half UP. -/
theorem Dev.hlAcked_refused (hr : (d.hlHalf h).nakRun < 7) : d.onlyFields (d.hlAcked h true acked) [(F.HL_RETRY_V, 0, h)] := by
  have run : d.nakCount h acked ≤ 7 := by
    unfold Dev.nakCount
    split <;> omega
  rw [Dev.hlAcked_nak, if_neg (by omega)]
  exact ((d.negated_keeps h acked).hlPump h).regs

end

/-- The state of a half stands apart from its counters. -/
theorem Dev.hlState_onlyFields {d e : Dev} {h : Nat} {f : Fld} (hh : h < 2) (hf : f = F.HL_RETRY_V ∨ f = F.HL_CRC_ERR_V) (k : d.onlyFields e [(f, 0, h)]) :
    e.hlState h = d.hlState h := by
  rw [Dev.hlState_eq, Dev.hlState_eq]
  refine k _ 0 0 (by unfold stateField; split <;> decide) fun x hx => ?_
  rw [List.mem_singleton.1 hx]
  refine .inl ?_
  unfold stateField
  obtain rfl | rfl : h = 0 ∨ h = 1 := by omega
  · rcases hf with rfl | rfl <;> decide
  · rcases hf with rfl | rfl <;> decide

/-! ### The flits of HL_FLIT_RECEIVE -/

section
variable (s : State) {h : Nat} (hh : h < 2) (h2 : s.dev.hlState h = 2) (f : HlFlit)
include hh h2

/-- What an ACK that falls due after this flit period sends. -/
def lateAck (d : Dev) (h seq : Nat) : List Output := if 63 ≤ (d.hlHalf h).sinceAck then [.hlAck h seq false] else []

theorem flit_expected (hc : f.crcOk = true) (hk : f.kind = 1 ∨ f.kind = 2) (hs : f.seq = (s.dev.hlHalf h).rxSeq) :
    ∃ t, exec (.hlFlitReceive h f) s = .next t ∧ t.pending = s.pending ∧ (t.dev.hlHalf h).rxSeq = ((s.dev.hlHalf h).rxSeq + 1) % 1024 ∧
      (t.dev.hlHalf h).nakSent = false ∧ (t.dev.hlHalf h).crcRun = 0 ∧
      (bits (leAt f.bytes 64 2) 3 0 = 0 → (f.kind = 1 → f.badHeaders = []) →
        t.dev.out = s.dev.out ++ lateAck s.dev h ((s.dev.hlHalf h).rxSeq % 1024) ∧ t.dev.regs = s.dev.regs) := by
  have e := exec_hlFlitReceive s hh f
  rw [Dev.hlFlit_up _ _ _ h2, Dev.hlArrive_expected _ _ hc hk hs] at e
  have half := Dev.hlHalf_setHlHalf_same s.dev h { s.dev.flitSound h with rxSeq := ((s.dev.hlHalf h).rxSeq + 1) % 1024, nakSent := false }
  have regs := Dev.setHlHalf_regs s.dev h { s.dev.flitSound h with rxSeq := ((s.dev.hlHalf h).rxSeq + 1) % 1024, nakSent := false }
  have out := Dev.setHlHalf_out s.dev h { s.dev.flitSound h with rxSeq := ((s.dev.hlHalf h).rxSeq + 1) % 1024, nakSent := false }
  generalize s.dev.setHlHalf h { s.dev.flitSound h with rxSeq := ((s.dev.hlHalf h).rxSeq + 1) % 1024, nakSent := false } = d at e half regs out
  have got : ((d.hlRefuse h f).hlHalf h).received = (((s.dev.hlHalf h).rxSeq + 1) % 1024, false, 0) := by
    rw [Dev.hlRefuse_received, half]
    rfl
  obtain ⟨hrx, hnak, hcrc⟩ : _ = _ ∧ _ = _ ∧ _ = _ := by simpa only [HlHalf.received, Prod.mk.injEq] using got
  obtain ⟨-, n, due⟩ := (d.hlRefuse h f).hlAckDue_shown h
  refine ⟨_, e, rfl, ?_, ?_, ?_, fun hctl hbad => ?_⟩
  · exact (congrArg HlHalf.rxSeq due).trans hrx
  · exact (congrArg HlHalf.nakSent due).trans hnak
  · exact (congrArg HlHalf.crcRun due).trans hcrc
  · have clean : d.hlRefuse h f = d := by
      unfold Dev.hlRefuse
      rw [if_neg (not_not.2 hctl)]
      split
      · next hk1 => rw [hbad hk1]; rfl
      · rfl
    rw [clean]
    have acked := d.hlAckDue_out h ((Dev.hlState_regs h regs).trans h2)
    have seq : (((s.dev.hlHalf h).rxSeq + 1) % 1024 + 1023) % 1024 = (s.dev.hlHalf h).rxSeq % 1024 := by omega
    have since : (d.hlHalf h).sinceAck = (s.dev.hlHalf h).sinceAck + 1 := by rw [half]; rfl
    have next : (d.hlHalf h).rxSeq = ((s.dev.hlHalf h).rxSeq + 1) % 1024 := by rw [half]
    rw [out, since, next, seq] at acked
    refine ⟨acked.trans ?_, (d.hlAckDue_shown h).1.trans regs⟩
    simp only [lateAck, Nat.reduceLeDiff]

theorem flit_ack (hc : f.crcOk = true) (hk : f.kind = 3) : ∃ t go, exec (.hlFlitReceive h f) s = .next t ∧ t.pending = s.pending ∧
    (t.dev.hlHalf h).retry = flitsAfter f.acked (s.dev.hlHalf h).retry ++ go ∧ ((s.dev.hlHalf h).wait = [] → go = []) ∧
      (f.nak = false → (t.dev.hlHalf h).nakRun = 0 ∧ t.dev.regs = s.dev.regs) ∧
      (f.nak = true → (s.dev.hlHalf h).nakRun < 7 → t.dev.hlState h = 2 ∧ s.dev.onlyFields t.dev [(F.HL_RETRY_V, 0, h)]) := by
  have e := exec_hlFlitReceive s hh f
  rw [Dev.hlFlit_up _ _ _ h2, Dev.hlArrive_ack _ _ hc hk] at e
  have half := Dev.hlHalf_setHlHalf_same s.dev h (s.dev.flitSound h)
  have regs := Dev.setHlHalf_regs s.dev h (s.dev.flitSound h)
  generalize s.dev.setHlHalf h (s.dev.flitSound h) = d at e half regs
  obtain ⟨go, retry, none⟩ := d.hlAcked_retry h f.acked f.nak
  obtain ⟨dueRegs, n, due⟩ := (d.hlAcked h f.nak f.acked).hlAckDue_shown h
  rw [half] at retry none
  refine ⟨_, go, e, rfl, ?_, none, fun hn => ?_, fun hn hr => ?_⟩
  · exact (congrArg HlHalf.retry due).trans retry
  · obtain ⟨run, freed⟩ := d.hlAcked_freed h f.acked
    rw [hn] at dueRegs due ⊢
    exact ⟨(congrArg HlHalf.nakRun due).trans run, dueRegs.trans (freed.trans regs)⟩
  · have kept := d.hlAcked_refused h f.acked (by rw [half]; exact hr)
    rw [hn] at dueRegs ⊢
    have kept : s.dev.onlyFields ((d.hlAcked h true f.acked).hlAckDue h) [(F.HL_RETRY_V, 0, h)] :=
      Dev.onlyFields_mid (fun g u i hg ha => (kept g u i hg ha).trans (Dev.get_regs regs g u i)) dueRegs
    exact ⟨(Dev.hlState_onlyFields hh (.inl rfl) kept).trans h2, kept⟩

theorem flit_damaged (hc : f.crcOk = false) (hr : (s.dev.hlHalf h).crcRun < 31) : ∃ t, exec (.hlFlitReceive h f) s = .next t ∧ t.pending = s.pending ∧
    t.dev.hlState h = 2 ∧ (t.dev.hlHalf h).crcRun = (s.dev.hlHalf h).crcRun + 1 ∧ (t.dev.hlHalf h).rxSeq = (s.dev.hlHalf h).rxSeq ∧
      t.dev.out = s.dev.out ++ (if (s.dev.hlHalf h).nakSent then lateAck s.dev h (((s.dev.hlHalf h).rxSeq + 1023) % 1024)
        else [.hlAck h (((s.dev.hlHalf h).rxSeq + 1023) % 1024) true]) ∧ s.dev.onlyFields t.dev [(F.HL_CRC_ERR_V, 0, h)] := by
  have e := exec_hlFlitReceive s hh f
  have arrive : (s.dev.hlPeriod h).hlArrive h f = if (s.dev.hlHalf h).nakSent then s.dev.crcFailed h else (s.dev.crcFailed h).hlReport h true := by
    unfold Dev.hlArrive
    rw [Dev.hlPeriod_half, if_pos (by simp [hc])]
    dsimp only
    rw [if_neg (by omega), Dev.hlCount, Dev.hlPeriod, Dev.setHlHalf_twice]
    rfl
  rw [Dev.hlFlit_up _ _ _ h2, arrive] at e
  have kept := s.dev.crcFailed_keeps h
  have half := s.dev.crcFailed_half h
  have out := s.dev.crcFailed_out h
  generalize s.dev.crcFailed h = d at e kept half out
  have up := (Dev.hlState_onlyFields hh (.inr rfl) kept.regs).trans h2
  cases hn : (s.dev.hlHalf h).nakSent with
  | true =>
    rw [hn, if_pos rfl] at e
    obtain ⟨regs, n, due⟩ := d.hlAckDue_shown h
    have acked := d.hlAckDue_out h up
    rw [out, half] at acked
    refine ⟨_, e, rfl, (Dev.hlState_regs h regs).trans up, ?_, ?_, acked.trans ?_, Dev.onlyFields_mid kept.regs regs⟩
    · exact (congrArg HlHalf.crcRun due).trans (by rw [half])
    · exact (congrArg HlHalf.rxSeq due).trans (by rw [half])
    · simp only [lateAck, Nat.reduceLeDiff, if_true]
  | false =>
    obtain ⟨sent, regs, reported⟩ := d.hlReport_shown h true
    rw [hn, if_neg (by decide), Dev.hlAckDue_early _ _ (by rw [reported]; exact Nat.zero_lt_succ _)] at e
    rw [half] at sent reported
    rw [out] at sent
    exact ⟨_, e, rfl, (Dev.hlState_regs h regs).trans up, (congrArg HlHalf.crcRun reported).trans rfl, (congrArg HlHalf.rxSeq reported).trans rfl, sent, Dev.onlyFields_mid kept.regs regs⟩

end

end Sys2Proof.Machine

/-! ## The companion's line requests (R433 to R435, R455, R456) -/

namespace Sys2Proof.Machine

/-- What a command does, said of an equal device. -/
theorem exec_to {s : State} {i : Instr} {d e : Dev} (h : exec i s = .next (s.withDev d)) (same : d = e) : exec i s = .next (s.withDev e) := same ▸ h

section
variable (s : State) {i : Instr} {r : HlHdr} {op mask want : Nat} {data : List Byte} {o : AccOp} {run : Bool} {len : Nat} (hr : r.half < 2)
  (hm : (i, op, o, run, len, want) ∈ [(Instr.rdShared r, 1, AccOp.read 64, false, 0, 0), (.rdOwn r, 2, .read 64, false, 0, 0), (.rdOnce r, 3, .read (64 * r.lines), true, 0, 0),
    (.wrLine r data, 4, .write data, true, data.length, 64 * r.lines), (.wrMasked r mask data, 5, .masked (mask % 2 ^ 64) data, false, data.length, 64),
    (.wbDirty r data, 6, .write data, false, data.length, 64), (.wbClean r, 7, .read 0, false, 0, 0)])
include hr hm

/-- The seven line requests are one operation with seven codes. -/
theorem exec_lineRequest : exec i s = .next (s.withDev (s.dev.hlLine r op o run len want)) ∧ 1 ≤ op ∧ op ≤ 7 := by
  simp only [List.mem_cons, List.not_mem_nil, or_false, Prod.mk.injEq] at hm
  rcases hm with ⟨rfl, rfl, rfl, rfl, rfl, rfl⟩ | ⟨rfl, rfl, rfl, rfl, rfl, rfl⟩ | ⟨rfl, rfl, rfl, rfl, rfl, rfl⟩ | ⟨rfl, rfl, rfl, rfl, rfl, rfl⟩ |
      ⟨rfl, rfl, rfl, rfl, rfl, rfl⟩ | ⟨rfl, rfl, rfl, rfl, rfl, rfl⟩ | ⟨rfl, rfl, rfl, rfl, rfl, rfl⟩ <;>
    exact ⟨s.runOn_next _ (decide_eq_true hr), by decide, by decide⟩

theorem lineRequest_notUp (h2 : s.dev.hlState r.half ≠ 2) : exec i s = .next s := by
  obtain ⟨e, -⟩ := exec_lineRequest s hr hm
  rw [e, show s.dev.hlLine r op o run len want = s.dev from if_pos h2]

end

section
variable {d : Dev} {r : HlHdr} {op want len : Nat} {o : AccOp} {run : Bool} (h2 : d.hlState r.half = 2)
include h2

theorem Dev.hlLine_malformed (hb : r.badLine run len want = true) : d.hlLine r op o run len want = (d.hlViolation 1).hlNack r 1 := by
  unfold Dev.hlLine
  rw [if_neg (not_not.2 h2), if_pos hb]
  rfl

variable (hb : r.badLine run len want = false)
include hb

theorem Dev.hlLine_beyond (ha : 2 ^ 40 ≤ r.addr ∨ 4096 < r.addr % 4096 + 64 * r.lines) : d.hlLine r op o run len want = (d.hlViolation 2).hlNack r 2 := by
  unfold Dev.hlLine
  rw [if_neg (not_not.2 h2), if_neg (by simp [hb]), if_pos (by simpa using ha)]
  rfl

variable (ha : r.addr < 2 ^ 40) (hl : r.addr % 4096 + 64 * r.lines ≤ 4096)
include ha hl

/-- A well-formed request within the memory: what the TAG, a quarantine, damped mode and the core windows decide. -/
theorem Dev.hlLine_formed : d.hlLine r op o run len want =
    if d.tagOpen r.tag then (d.hlViolation 5).hlNack r 8
    else if d.flag F.HL_STATUS_QUAR && op ≠ 6 && op ≠ 7 then (d.count F.HL_QUAR_DROP_V).hlNack r 9
    else if d.flag F.BOOT_STATUS_DAMPED then d.mailRequest r op o
    else if coreWindowAddr r.addr && (op = 1 || op = 2) then (d.hlViolation 3).hlNack r 7
    else if coreWindowAddr r.addr && op = 6 then (d.hlViolation 4).hlNack r 6
    else d.hlToHome r op o := by
  unfold Dev.hlLine
  rw [if_neg (not_not.2 h2), if_neg (by simp [hb]), if_neg (by simp only [Bool.or_eq_true, decide_eq_true_eq]; omega)]
  rfl

theorem Dev.hlLine_tagOpen (ht : d.tagOpen r.tag = true) : d.hlLine r op o run len want = (d.hlViolation 5).hlNack r 8 := by
  rw [Dev.hlLine_formed h2 hb ha hl, if_pos ht]

variable (ht : d.tagOpen r.tag = false)
include ht

theorem Dev.hlLine_quarantine (hq : d.get F.HL_STATUS_QUAR = 1) (hop : op < 6) : d.hlLine r op o run len want = (d.count F.HL_QUAR_DROP_V).hlNack r 9 := by
  rw [Dev.hlLine_formed h2 hb ha hl, if_neg (by simp [ht]), if_pos]
  simp only [Dev.flag_eq_true hq, Bool.true_and, Bool.and_eq_true, decide_eq_true_eq]
  omega

variable (hq : d.get F.HL_STATUS_QUAR = 0 ∨ 6 ≤ op) (h7 : op ≤ 7)
include hq h7

/-- A request that neither its TAG nor a quarantine refuses. -/
theorem Dev.hlLine_taken : d.hlLine r op o run len want =
    if d.flag F.BOOT_STATUS_DAMPED then d.mailRequest r op o
    else if coreWindowAddr r.addr && (op = 1 || op = 2) then (d.hlViolation 3).hlNack r 7
    else if coreWindowAddr r.addr && op = 6 then (d.hlViolation 4).hlNack r 6
    else d.hlToHome r op o := by
  rw [Dev.hlLine_formed h2 hb ha hl, if_neg (by simp [ht]), if_neg]
  rcases hq with hq | hq
  · simp [Dev.flag_eq_false hq]
  · simp only [Bool.and_eq_true, decide_eq_true_eq]
    omega

theorem Dev.hlLine_damped (hd : d.get F.BOOT_STATUS_DAMPED = 1) : d.hlLine r op o run len want = d.mailRequest r op o := by
  rw [Dev.hlLine_taken h2 hb ha hl ht hq h7, if_pos (Dev.flag_eq_true hd)]

variable (hd : d.get F.BOOT_STATUS_DAMPED = 0)
include hd

/-- A core window takes no caching read and no write-back of data; WB_CLEAN is acknowledged there. -/
theorem Dev.hlLine_window (hw : bits r.addr 39 36 = 15) :
    (op = 1 ∨ op = 2 → d.hlLine r op o run len want = (d.hlViolation 3).hlNack r 7) ∧
    (op = 6 → d.hlLine r op o run len want = (d.hlViolation 4).hlNack r 6) ∧
    (op = 7 → d.hlLine r op o run len want = d.hlSend r.half 0x21 r.tag r.addr 0 []) := by
  have window : coreWindowAddr r.addr = true := decide_eq_true hw
  rw [Dev.hlLine_taken h2 hb ha hl ht hq h7, if_neg (by simp [Dev.flag_eq_false hd]), window]
  refine ⟨fun hop => if_pos (by simpa using hop), fun hop => ?_, fun hop => ?_⟩
  · subst hop
    rfl
  · subst hop
    unfold Dev.hlToHome
    rw [window]
    rfl

theorem Dev.hlLine_home (hw : bits r.addr 39 36 ≠ 15 ∨ op = 3 ∨ op = 4 ∨ op = 5) : d.hlLine r op o run len want =
    ((d.openTag r).access (.companion r.half r.tag op) none 0 (d.chip * 2 ^ 40 + r.addr) o).2.settle := by
  have refused : ∀ b : Bool, (b = true → op ≠ 3 ∧ op ≠ 4 ∧ op ≠ 5) → ¬ (coreWindowAddr r.addr && b) = true := by
    intro b hb both
    obtain ⟨window, true⟩ := Bool.and_eq_true_iff.1 both
    obtain ⟨h3, h4, h5⟩ := hb true
    exact hw.elim (fun h => h (of_decide_eq_true window)) (by omega)
  rw [Dev.hlLine_taken h2 hb ha hl ht hq h7, if_neg (by simp [Dev.flag_eq_false hd]), if_neg (refused _ (by simp; omega)), if_neg (refused _ (by simp; omega))]
  exact if_neg (refused _ (by simp; omega))

end

/-! ## Answers, snoops and the quarantine's end (R433, R436, R438, R456) -/

section
variable (s : State) {h : Nat} (hh : h < 2)
include hh

/-- RSP_DATA, RSP_ACK and NACK are one answer, with three codes. -/
theorem exec_answer {i : Instr} {tag reason code : Nat} {data got : List Byte}
    (hm : (i, code, got) ∈ [(Instr.rspData h tag data, 0, data), (.rspAck h tag, 0, []), (.nack h tag reason, if reason = 5 then stMemError else stLinkError, [])]) :
    exec i s = .next (s.withDev (if s.dev.hlState h = 2 then s.dev.hlAnswered tag code got else s.dev)) := by
  simp only [List.mem_cons, List.not_mem_nil, or_false, Prod.mk.injEq] at hm
  rcases hm with ⟨rfl, rfl, rfl⟩ | ⟨rfl, rfl, rfl⟩ | ⟨rfl, rfl, rfl⟩ <;> exact s.runOn_next _ (decide_eq_true hh)

theorem exec_rspSnp (tag : Nat) (dirty : Bool) (data : List Byte) : exec (.rspSnp h tag dirty data) s =
    .next (s.withDev (if s.dev.hlState h ≠ 2 then s.dev else match s.dev.hl.snoops.find? (fun (x : Snoop) => x.tag = tag) with
      | some x => s.dev.snoopDone x dirty (slice data 0 64)
      | none => s.dev.hlViolation 0x07)) := s.runOn_next _ (decide_eq_true hh)

theorem rspSnp_answers (tag : Nat) (dirty : Bool) (data : List Byte) : (s.dev.hlState h ≠ 2 → exec (.rspSnp h tag dirty data) s = .next s) ∧
    (s.dev.hlState h = 2 → (∀ x, s.dev.hl.snoops.find? (fun (x : Snoop) => x.tag = tag) = some x →
        exec (.rspSnp h tag dirty data) s = .next (s.withDev (s.dev.snoopDone x dirty (slice data 0 64)))) ∧
      (s.dev.hl.snoops.find? (fun (x : Snoop) => x.tag = tag) = none → exec (.rspSnp h tag dirty data) s = .next (s.withDev (s.dev.hlViolation 7)))) := by
  rw [exec_rspSnp s hh]
  refine ⟨fun h2 => by rw [if_pos h2], fun h2 => ?_⟩
  rw [if_neg (not_not.2 h2)]
  exact ⟨fun x hx => by rw [hx], fun hx => by rw [hx]⟩

end

theorem Dev.hlAnswered_some {d : Dev} {tag : Nat} {r : HlReq} (h : d.hlReqOf tag = some r) (code : Nat) (data : List Byte) :
    d.hlAnswered tag code data = d.hlReqEnds r code data := by
  unfold Dev.hlAnswered
  rw [h]

theorem Dev.hlAnswered_none {d : Dev} {tag : Nat} (h : d.hlReqOf tag = none) (code : Nat) (data : List Byte) : d.hlAnswered tag code data = d.hlViolation 7 := by
  unfold Dev.hlAnswered
  rw [h]

section
variable (s : State)

theorem snoopTimeout_some {tag : Nat} {x : Snoop} (h : s.dev.hl.snoops.find? (fun (x : Snoop) => x.tag = tag) = some x) :
    exec (.snoopTimeout tag) s = .next (s.withDev
      (if x.issued + 65536 * atLeast1 (s.dev.get F.HL_CTL_SNP_BEATS) ≤ s.dev.now then s.dev.snoopFails x else s.dev)) := by
  rw [show exec (.snoopTimeout tag) s = .next (s.withDev (match s.dev.hl.snoops.find? (fun (x : Snoop) => x.tag = tag) with
    | some x => if x.issued + 65536 * atLeast1 (s.dev.get F.HL_CTL_SNP_BEATS) ≤ s.dev.now then s.dev.snoopFails x else s.dev
    | none => s.dev)) from rfl, h]

theorem snoopTimeout_none {tag : Nat} (h : s.dev.hl.snoops.find? (fun (x : Snoop) => x.tag = tag) = none) : exec (.snoopTimeout tag) s = .next s := by
  rw [show exec (.snoopTimeout tag) s = .next (s.withDev (match s.dev.hl.snoops.find? (fun (x : Snoop) => x.tag = tag) with
    | some x => if x.issued + 65536 * atLeast1 (s.dev.get F.HL_CTL_SNP_BEATS) ≤ s.dev.now then s.dev.snoopFails x else s.dev
    | none => s.dev)) from rfl, h]

theorem exec_hlQuarantineEnd : exec .hlQuarantineEnd s =
    .next (s.withDev (if s.dev.flag F.HL_STATUS_QUAR && s.dev.hl.quarEnd ≤ s.dev.beat then s.dev.putD F.HL_STATUS_QUAR 0 else s.dev)) := rfl

theorem hlQuarantineEnd_byBeat : (s.dev.get F.HL_STATUS_QUAR = 1 → s.dev.hl.quarEnd ≤ s.dev.beat → ∃ t, exec .hlQuarantineEnd s = .next t ∧ t.pending = s.pending ∧
      t.dev.get F.HL_STATUS_QUAR = 0 ∧ t.dev = { s.dev with regs := t.dev.regs } ∧ s.dev.onlyFields t.dev [(F.HL_STATUS_QUAR, 0, 0)]) ∧
    (s.dev.get F.HL_STATUS_QUAR = 0 ∨ s.dev.beat < s.dev.hl.quarEnd → exec .hlQuarantineEnd s = .next s) := by
  rw [exec_hlQuarantineEnd]
  refine ⟨fun hq he => ?_, fun h => ?_⟩
  · rw [if_pos (by simp [Dev.flag_eq_true hq, he])]
    exact ⟨_, rfl, rfl, Dev.get_putD_fits _ (by decide) (by decide), rfl, s.dev.onlyFields_putD _ 0 (by decide)⟩
  · rw [if_neg]
    rcases h with h | h
    · simp [Dev.flag_eq_false h]
    · simp [Nat.not_le.2 h]

end

/-- Settles O59: the halves by their state, the flits by their kind, the requests by the order of their refusals, then answers, snoops and the quarantine. -/
theorem hauneLinkHalvesAndRequests : Obligations.HauneLinkHalvesAndRequests := by
  refine ⟨fun s h hh => ?_, fun s i r op mask want data o run len hr hm => ⟨lineRequest_notUp s hr hm, fun h2 => ?_⟩,
    fun s i h tag reason code data got hh hm => ?_, fun s h tag dirty data hh => ?_, fun s => hlQuarantineEnd_byBeat s⟩
  · exact ⟨hlHalfEnable_down s hh, hlHalfEnable_kept s hh, hlHalfDisable_idle s hh, hlHalfDisable_live s hh,
      fun h1 hw h14 => ⟨hlTrainingDone_up s hh h1 hw h14, hlTrainingFail_training s hh h1 hw h14⟩, hlTrainingFail_retraining s hh,
      fun h1 => by rw [exec_hlTrainingRetry s hh, if_pos h1], fun h1 => by rw [exec_hlTrainingRetry s hh, if_neg h1], hlRetrain_up s hh, half_notUp s hh,
      fun h2 => ⟨hlAckSend_up s hh h2,
        fun f => ⟨flit_expected s hh h2 f, flit_ack s hh h2 f, flit_damaged s hh h2 f⟩⟩⟩
  · obtain ⟨e, -, h7⟩ := exec_lineRequest s hr hm
    refine ⟨fun hb => exec_to e (Dev.hlLine_malformed h2 hb), fun hb => ⟨fun ha => exec_to e (Dev.hlLine_beyond h2 hb ha), fun ha hl =>
      ⟨fun ht => exec_to e (Dev.hlLine_tagOpen h2 hb ha hl ht), fun ht hq hop => exec_to e (Dev.hlLine_quarantine h2 hb ha hl ht hq hop), fun ht hq =>
        ⟨fun hd => exec_to e (Dev.hlLine_damped h2 hb ha hl ht hq h7 hd), fun hd hw hop => exec_to e ((Dev.hlLine_window h2 hb ha hl ht hq h7 hd hw).1 hop),
          fun hd hw hop => exec_to e ((Dev.hlLine_window h2 hb ha hl ht hq h7 hd hw).2.1 hop), fun hd hw hop => exec_to e ((Dev.hlLine_window h2 hb ha hl ht hq h7 hd hw).2.2 hop),
          fun hd hw => exec_to e (Dev.hlLine_home h2 hb ha hl ht hq h7 hd hw)⟩⟩⟩⟩
  · rw [exec_answer s hh hm]
    refine ⟨fun h2 => by rw [if_neg h2], fun h2 => ?_⟩
    rw [if_pos h2]
    exact ⟨fun r hreq => by rw [Dev.hlAnswered_some hreq], fun hnone => by rw [Dev.hlAnswered_none hnone]⟩
  · obtain ⟨down, up⟩ := rspSnp_answers s hh tag dirty data
    refine ⟨down, fun x hx => ⟨fun h2 => (up h2).1 x hx, fun late => ?_, fun early => ?_⟩, fun hx => ⟨snoopTimeout_none s hx, fun h2 => (up h2).2 hx⟩⟩
    · rw [snoopTimeout_some s hx, if_pos late]
    · rw [snoopTimeout_some s hx, if_neg (Nat.not_le.2 early)]

end Sys2Proof.Machine

/-! # Collective slots (chapter 12): POST, RELEASE, RESET and the grant of buffer space -/

namespace Sys2Proof.Machine

/-! ## A slot's state and what else its register shows -/

/-- The four fields of a slot's state register. -/
def slotFields (i : Nat) : List (Fld × Nat × Nat) := [(F.COL_STATE_STATE, 0, i), (F.COL_STATE_REASON, 0, i), (F.COL_STATE_REPLAYS, 0, i), (F.COL_STATE_OVF, 0, i)]

section
variable (d : Dev) (i : Nat)

theorem Dev.colState_setColState {st : Nat} (h : st < 8) : (d.setColState i st).colState i = st := (d.get_put_same F.COL_STATE_STATE 0 i st (by decide)).trans (Nat.mod_eq_of_lt h)

/-- A slot that takes its descriptor and is POSTED. -/
def Dev.posted (d : Dev) (i : Nat) : Dev :=
  (((d.setCol i (d.colRegs i)).setColState i csPosted |>.put F.COL_STATE_REASON 0 i 0).put F.COL_STATE_REPLAYS 0 i 0).put F.COL_STATE_OVF 0 i 0

theorem Dev.posted_state : (d.posted i).colState i = 1 :=
  calc (d.posted i).colState i = ((d.setCol i (d.colRegs i)).setColState i csPosted).colState i :=
        (Dev.get_put_sameReg _ (by decide) _ _ _).trans ((Dev.get_put_sameReg _ (by decide) _ _ _).trans (Dev.get_put_sameReg _ (by decide) _ _ _))
    _ = 1 := Dev.colState_setColState _ i (by decide)

theorem Dev.posted_slot : (d.posted i).colSlot i = d.colRegs i := Dev.colSlot_setCol_same d i _

theorem Dev.posted_other {k : Nat} (h : k ≠ i) : (d.posted i).colSlot k = d.colSlot k := Dev.colSlot_setCol_other d i k _ h

theorem Dev.posted_cleared : (d.posted i).get F.COL_STATE_REASON 0 i = 0 ∧ (d.posted i).get F.COL_STATE_REPLAYS 0 i = 0 ∧ (d.posted i).get F.COL_STATE_OVF 0 i = 0 := by
  refine ⟨?_, ?_, Dev.get_put_same _ F.COL_STATE_OVF 0 i 0 (by decide)⟩
  · exact (Dev.get_put_sameReg _ (by decide) _ _ _).trans ((Dev.get_put_sameReg _ (by decide) _ _ _).trans (Dev.get_put_same _ F.COL_STATE_REASON 0 i 0 (by decide)))
  · exact (Dev.get_put_sameReg _ (by decide) _ _ _).trans (Dev.get_put_same _ F.COL_STATE_REPLAYS 0 i 0 (by decide))

theorem Dev.posted_keeps : d.KeepsBytes (d.posted i) (slotFields i) := by
  have slot : d.KeepsBytes (d.setCol i (d.colRegs i)) (slotFields i) := (Dev.KeepsBytes.refl d _).beside rfl rfl rfl
  exact (((slot.put F.COL_STATE_STATE 0 i _ (by decide) (by simp [slotFields])).put F.COL_STATE_REASON 0 i 0 (by decide) (by simp [slotFields])).put
    F.COL_STATE_REPLAYS 0 i 0 (by decide) (by simp [slotFields])).put F.COL_STATE_OVF 0 i 0 (by decide) (by simp [slotFields])

/-- A POST refused (R326). -/
def Dev.postRefused (d : Dev) (i : Nat) : Dev := (d.put F.COL_STATE_REASON 0 i 0x80).putD F.COL_STATUS_POST_REFUSED 1

theorem Dev.postRefused_shown : (d.postRefused i).get F.COL_STATE_REASON 0 i = 0x80 ∧ (d.postRefused i).get F.COL_STATUS_POST_REFUSED = 1 ∧
    d.onlyFields (d.postRefused i) [(F.COL_STATE_REASON, 0, i), (F.COL_STATUS_POST_REFUSED, 0, 0)] := by
  have slot : Reg.colState.addr 0 i = 0x04000000 + 0x2C00074 + i * 0x80 := rfl
  have status : Reg.colStatus.addr 0 0 = 0x04000000 + 0x2C09004 := rfl
  refine ⟨?_, Dev.get_putD_fits _ (by decide) (by decide), ?_⟩
  · exact (Dev.get_putD_addr _ _ _ _ _ _ (show Reg.colState.addr 0 i ≠ Reg.colStatus.addr 0 0 by omega)).trans
      (d.get_put_same F.COL_STATE_REASON 0 i 0x80 (by decide))
  · exact (((Dev.KeepsBytes.refl d _).put F.COL_STATE_REASON 0 i 0x80 (by decide) (by simp)).put F.COL_STATUS_POST_REFUSED 0 0 1 (by decide) (by simp)).regs

end

section
variable (s : State) {i : Nat} (hi : i < 256)
include hi

theorem exec_post : exec (.post i) s = .next (s.withDev (if (s.dev.colState i = 0 || s.dev.colState i = 5 || s.dev.colState i = 6 ||
    (s.dev.colState i = 4 && (s.dev.colSlot i).kind ≠ 1)) && s.dev.colDescOk (s.dev.colRegs i) then s.dev.posted i else s.dev.postRefused i)) :=
  s.runOn_next _ (decide_eq_true hi)

theorem post_byState : let st := s.dev.colState i
    let free := st = 0 ∨ st = 5 ∨ st = 6 ∨ (st = 4 ∧ (s.dev.colSlot i).kind ≠ 1)
    (free → s.dev.colDescOk (s.dev.colRegs i) = true → ∃ t, exec (.post i) s = .next t ∧ t.pending = s.pending ∧ t.dev.colState i = 1 ∧
      t.dev.colSlot i = s.dev.colRegs i ∧ t.dev.get F.COL_STATE_REASON 0 i = 0 ∧ t.dev.get F.COL_STATE_REPLAYS 0 i = 0 ∧ t.dev.get F.COL_STATE_OVF 0 i = 0 ∧
      (∀ k, k ≠ i → t.dev.colSlot k = s.dev.colSlot k) ∧ s.dev.sameBytes t.dev ∧ s.dev.onlyFields t.dev (slotFields i)) ∧
    (¬ free ∨ s.dev.colDescOk (s.dev.colRegs i) = false → ∃ t, exec (.post i) s = .next t ∧ t.pending = s.pending ∧ t.dev.get F.COL_STATE_REASON 0 i = 0x80 ∧
      t.dev.get F.COL_STATUS_POST_REFUSED = 1 ∧ t.dev = { s.dev with regs := t.dev.regs } ∧
      s.dev.onlyFields t.dev [(F.COL_STATE_REASON, 0, i), (F.COL_STATUS_POST_REFUSED, 0, 0)]) := by
  intro st free
  have e := exec_post s hi
  refine ⟨fun hf hok => ?_, fun h => ?_⟩
  · rw [if_pos (by simpa [hok, or_assoc] using hf)] at e
    obtain ⟨reason, replays, ovf⟩ := s.dev.posted_cleared i
    have kept := s.dev.posted_keeps i
    exact ⟨_, e, rfl, s.dev.posted_state i, s.dev.posted_slot i, reason, replays, ovf, fun k hk => s.dev.posted_other i hk, kept.sameBytes, kept.regs⟩
  · rw [if_neg] at e
    · obtain ⟨reason, status, only⟩ := s.dev.postRefused_shown i
      exact ⟨_, e, rfl, reason, status, rfl, only⟩
    · rcases h with h | h
      · exact fun both => h (by simpa [or_assoc] using (Bool.and_eq_true_iff.1 both).1)
      · simp [h]

end

/-! ## RELEASE and the grant (R327, R328, R348) -/

section
variable (s : State) {i : Nat} (hi : i < 256)
include hi

theorem exec_release : exec (.release i) s = .next (s.withDev (s.dev.colRelease i)) := s.runOn_next _ (decide_eq_true hi)

theorem release_missed (h : s.dev.colState i ≠ 1 ∨ (s.dev.colSlot i).kind = 4) : exec (.release i) s = .next (s.withDev (s.dev.releaseMissed i)) :=
  exec_to (exec_release s hi) (if_pos (by rw [Bool.or_eq_true, decide_eq_true_eq, decide_eq_true_eq]; exact h))

end

section
variable {d : Dev} {i : Nat} (h1 : d.colState i = 1)
include h1

/-- A release of a POSTED slot that is no UPDATE. -/
theorem Dev.colRelease_posted (h4 : (d.colSlot i).kind ≠ 4) : d.colRelease i =
    if (d.colSlot i).kind = 3 then (d.setColState i 3).votesGo
    else if (d.colSlot i).kind = 2 && d.flag F.NUM_STEP_STATUS_LAST_SKIPPED && d.get F.NUM_STEP_V = (d.colSlot i).step then (d.setColState i 6).collectiveEnds i
    else if (d.colSlot i).kind = 1 && (d.colSlot i).factor && (d.colSlot i).epoch ≠ d.get F.LCX_EPOCH_CUR (d.colSlot i).quarter then d.colFail i 0x81
    else
      let d' := ({ d with col := { d.col with nextRel := d.col.nextRel + 1 } } : Dev).setCol i { d.colSlot i with rel := d.col.nextRel }
      if (d'.colWaiting (d.colSlot i).quarter).isEmpty && d'.freReserved (d.colSlot i).quarter + d'.colKib (d.colSlot i) ≤ 16384 then d'.colRun i
      else d'.setColState i csWait := by
  unfold Dev.colRelease
  rw [if_neg (by rw [Bool.or_eq_true, decide_eq_true_eq, decide_eq_true_eq]; exact fun h => h.elim (· h1) h4)]
  rfl

theorem Dev.colRelease_vote (h3 : (d.colSlot i).kind = 3) : d.colRelease i = (d.setColState i 3).votesGo := by
  rw [Dev.colRelease_posted h1 (by omega), if_pos h3]

theorem Dev.colRelease_stale (hk : (d.colSlot i).kind = 1) (hf : (d.colSlot i).factor = true) (he : (d.colSlot i).epoch ≠ d.get F.LCX_EPOCH_CUR (d.colSlot i).quarter) :
    d.colRelease i = d.colFail i 0x81 := by
  rw [Dev.colRelease_posted h1 (by omega), if_neg (by simp [hk]), if_neg (by simp [hk]), if_pos (by simp [hk, hf, he])]

theorem Dev.colRelease_skipped (hk : (d.colSlot i).kind = 2) (hl : d.get F.NUM_STEP_STATUS_LAST_SKIPPED = 1) (hs : d.get F.NUM_STEP_V = (d.colSlot i).step) :
    d.colRelease i = (d.setColState i 6).collectiveEnds i := by
  rw [Dev.colRelease_posted h1 (by omega), if_neg (by simp [hk]), if_pos (by simp [hk, Dev.flag_eq_true hl, hs])]

/-- The device with the slot's release in its order. -/
def Dev.released (d : Dev) (i : Nat) : Dev :=
  ({ d with col := { d.col with nextRel := d.col.nextRel + 1 } } : Dev).setCol i ({ d.colSlot i with rel := d.col.nextRel } : ColSlot)

/-- A REDUCE or BCAST slot that neither fails nor is skipped runs, or waits for its space. -/
theorem Dev.colRelease_ordered (hk : ((d.colSlot i).kind = 1 ∧ ((d.colSlot i).factor = false ∨ (d.colSlot i).epoch = d.get F.LCX_EPOCH_CUR (d.colSlot i).quarter)) ∨
      ((d.colSlot i).kind = 2 ∧ (d.get F.NUM_STEP_STATUS_LAST_SKIPPED = 0 ∨ d.get F.NUM_STEP_V ≠ (d.colSlot i).step))) :
    d.colRelease i = if ((d.released i).colWaiting (d.colSlot i).quarter).isEmpty && (d.released i).freReserved (d.colSlot i).quarter + (d.released i).colKib (d.colSlot i) ≤ 16384
      then (d.released i).colRun i else (d.released i).setColState i csWait := by
  rcases hk with ⟨hk, h⟩ | ⟨hk, h⟩
  · rw [Dev.colRelease_posted h1 (by omega), if_neg (by simp [hk]), if_neg (by simp [hk]), if_neg]
    · rfl
    · rcases h with h | h <;> simp [h]
  · rw [Dev.colRelease_posted h1 (by omega), if_neg (by simp [hk]), if_neg, if_neg (by simp [hk])]
    · rfl
    · rcases h with h | h <;> simp [h, Dev.flag]

end

theorem release_ordered (s : State) {i : Nat} (hi : i < 256) (h1 : s.dev.colState i = 1)
    (hk : ((s.dev.colSlot i).kind = 1 ∧ ((s.dev.colSlot i).factor = false ∨ (s.dev.colSlot i).epoch = s.dev.get F.LCX_EPOCH_CUR (s.dev.colSlot i).quarter)) ∨
      ((s.dev.colSlot i).kind = 2 ∧ (s.dev.get F.NUM_STEP_STATUS_LAST_SKIPPED = 0 ∨ s.dev.get F.NUM_STEP_V ≠ (s.dev.colSlot i).step))) :
    let d := s.dev.released i
    let c := s.dev.colSlot i
    (d.colWaiting c.quarter = [] → d.freReserved c.quarter + d.colKib c ≤ 16384 → exec (.release i) s = .next (s.withDev (d.colRun i))) ∧
      (d.colWaiting c.quarter ≠ [] ∨ 16384 < d.freReserved c.quarter + d.colKib c → ∃ t, exec (.release i) s = .next t ∧ t.pending = s.pending ∧ t.dev.colState i = 2 ∧
        (t.dev.colSlot i).rel = s.dev.col.nextRel ∧ s.dev.sameBytes t.dev ∧ s.dev.onlyFields t.dev [(F.COL_STATE_STATE, 0, i)]) := by
  intro d c
  have e := exec_to (exec_release s hi) (Dev.colRelease_ordered h1 hk)
  refine ⟨fun hw hr => ?_, fun h => ?_⟩
  · exact exec_to e (if_pos (by simp only [Bool.and_eq_true, List.isEmpty_iff, decide_eq_true_eq]; exact ⟨hw, hr⟩))
  · rw [if_neg (by simp only [Bool.and_eq_true, List.isEmpty_iff, decide_eq_true_eq]; exact fun ⟨hw, hr⟩ => h.elim (· hw) (Nat.not_lt.2 hr))] at e
    have kept : s.dev.KeepsBytes (d.setColState i csWait) [(F.COL_STATE_STATE, 0, i)] :=
      ((Dev.KeepsBytes.refl s.dev [(F.COL_STATE_STATE, 0, i)]).beside (f := d) rfl rfl rfl).put F.COL_STATE_STATE 0 i 2 (by decide) (by simp)
    exact ⟨_, e, rfl, Dev.colState_setColState _ i (by decide), congrArg ColSlot.rel (Dev.colSlot_setCol_same _ i _), kept.sameBytes, kept.regs⟩

/-- The search for the slot released first. -/
def earlier (m : Option (Nat × ColSlot)) (x : Nat × ColSlot) : Option (Nat × ColSlot) :=
  match m with
  | none => some x
  | some y => if x.2.rel < y.2.rel then some x else some y

/-- The one released before all others is what the search finds. -/
theorem foldl_earlier {x : Nat × ColSlot} (l : List (Nat × ColSlot)) : ∀ m : Option (Nat × ColSlot), (m = some x ∨ x ∈ l) → (∀ y, m = some y → y = x ∨ x.2.rel < y.2.rel) →
    (∀ y ∈ l, y = x ∨ x.2.rel < y.2.rel) → l.foldl earlier m = some x := by
  induction l with
  | nil =>
    intro m hm _ _
    simpa using hm
  | cons z l ih =>
    intro m hm hbest hall
    have hz := hall z List.mem_cons_self
    refine ih _ ?_ ?_ (fun y hy => hall y (List.mem_cons_of_mem _ hy))
    · cases m with
      | none =>
        obtain h | h := hm
        · exact absurd h (by simp)
        · rcases List.mem_cons.1 h with rfl | h
          · exact .inl rfl
          · exact .inr h
      | some y =>
        unfold earlier
        dsimp only
        rcases hm with h | h
        · obtain rfl := Option.some.inj h
          refine .inl (if_neg ?_)
          rcases hz with rfl | hz <;> omega
        · rcases List.mem_cons.1 h with rfl | h
          · rcases hbest y rfl with rfl | hy
            · exact .inl (by simp)
            · exact .inl (if_pos hy)
          · exact .inr h
    · cases m with
      | none =>
        intro y hy
        obtain rfl := Option.some.inj hy
        exact hz
      | some w =>
        intro y hy
        unfold earlier at hy
        dsimp only at hy
        split at hy
        · obtain rfl := Option.some.inj hy
          exact hz
        · obtain rfl := Option.some.inj hy
          exact hbest w rfl

theorem Dev.colGrant_none {d : Dev} {q : Nat} (h : d.colWaiting q = []) : d.colGrant q = d := by
  unfold Dev.colGrant
  rw [h]
  rfl

theorem Dev.colGrant_first {d : Dev} {q k : Nat} {c : ColSlot} (hm : (k, c) ∈ d.colWaiting q) (hf : ∀ x ∈ d.colWaiting q, x = (k, c) ∨ c.rel < x.2.rel) :
    d.colGrant q = if d.freReserved q + d.colKib c ≤ 16384 then d.colRun k else d := by
  have first : (d.colWaiting q).foldl earlier none = some (k, c) := foldl_earlier _ none (.inr hm) (fun _ h => nomatch h) hf
  unfold Dev.colGrant
  change (match (d.colWaiting q).foldl earlier none with
    | some (s, c) => if d.freReserved q + d.colKib c ≤ 16384 then d.colRun s else d
    | none => d) = _
  rw [first]

theorem exec_colBufferGrant (s : State) {q : Nat} (hq : q < 4) (hs : s.dev.clk.safe = false) : exec (.colBufferGrant q) s = .next (s.withDev (s.dev.colGrant q)) :=
  s.runFab_next _ (decide_eq_true hq) hs

/-! ## RESET (R356) -/

/-- From d to e the memories, the cores, and the descriptor words of slot i stand. -/
structure Dev.SlotKept (d e : Dev) (i : Nat) : Prop where
  mem : e.mem = d.mem
  cores : e.cores = d.cores
  desc0 : (e.colSlot i).desc0 = (d.colSlot i).desc0
  desc1 : (e.colSlot i).desc1 = (d.colSlot i).desc1

namespace Dev.SlotKept
variable {d e f : Dev} {i : Nat}

theorem refl (d : Dev) (i : Nat) : d.SlotKept d i := ⟨rfl, rfl, rfl, rfl⟩

/-- A change beside the memories, the cores and the slots. -/
theorem beside (h : d.SlotKept e i) (hm : f.mem = e.mem) (hc : f.cores = e.cores) (hs : f.col = e.col) : d.SlotKept f i := by
  have slot : f.colSlot i = e.colSlot i := by rw [Dev.colSlot, Dev.colSlot, hs]
  exact ⟨hm.trans h.mem, hc.trans h.cores, (congrArg ColSlot.desc0 slot).trans h.desc0, (congrArg ColSlot.desc1 slot).trans h.desc1⟩

theorem portsTo (h : d.SlotKept e i) (hp : e.portsTo f) : d.SlotKept f i := by
  obtain ⟨r, c, b, rfl⟩ := hp
  exact h.beside rfl rfl rfl

theorem updCol (h : d.SlotKept e i) {g : ColSlot → ColSlot} (h0 : ∀ c, (g c).desc0 = c.desc0) (h1 : ∀ c, (g c).desc1 = c.desc1) : d.SlotKept (e.updCol i g) i := by
  have slot : (e.updCol i g).colSlot i = g (e.colSlot i) := Dev.colSlot_setCol_same e i _
  exact ⟨h.mem, h.cores, by rw [slot, h0, h.desc0], by rw [slot, h1, h.desc1]⟩

theorem abortHeld (h : d.SlotKept e i) : d.SlotKept (e.abortHeld i) i := by
  unfold Dev.abortHeld
  extract_lets c open_ nacked gone l left
  have nacks : d.SlotKept nacked i := Dev.each_inv (P := fun x => d.SlotKept x i) _ (fun x p hx => hx.portsTo (x.sendAnswer_portsTo _)) _ h
  have lex : d.SlotKept left i := by
    unfold left
    split
    · exact nacks
    · exact nacks.beside rfl rfl rfl
  exact lex.updCol (fun _ => rfl) (fun _ => rfl)

theorem colFree (h : d.SlotKept e i) : d.SlotKept (e.colFree i) i := (h.updCol (g := fun c => { c with kib := 0 }) (fun _ => rfl) (fun _ => rfl)).beside rfl rfl rfl

end Dev.SlotKept

/-- The slot as RESET leaves it. -/
def Dev.colCleared (d : Dev) (i : Nat) : Dev :=
  ((((d.abortHeld i).colForget i).leaveOuts i).colFree i |>.updCol i fun c => { desc0 := c.desc0, desc1 := c.desc1 }).setColState i 0

theorem Dev.colCleared_shown (d : Dev) (i : Nat) : (d.colCleared i).colState i = 0 ∧
    (d.colCleared i).colSlot i = ({ desc0 := (d.colSlot i).desc0, desc1 := (d.colSlot i).desc1 } : ColSlot) ∧ d.sameBytes (d.colCleared i) := by
  have freed : d.SlotKept ((((d.abortHeld i).colForget i).leaveOuts i).colFree i) i :=
    (((Dev.SlotKept.refl d i).abortHeld.beside (f := (d.abortHeld i).colForget i) rfl rfl rfl).beside (f := ((d.abortHeld i).colForget i).leaveOuts i) rfl rfl rfl).colFree
  refine ⟨Dev.colState_setColState _ i (by decide), ?_, Dev.sameBytes_of freed.mem freed.cores⟩
  refine (Dev.colSlot_setCol_same _ i _).trans ?_
  dsimp only
  rw [freed.desc0, freed.desc1]

theorem exec_colReset (s : State) {i : Nat} (hi : i < 256) : exec (.reset i) s = .next (s.withDev (s.dev.colCleared i).votesGo) := s.runOn_next _ (decide_eq_true hi)

end Sys2Proof.Machine

/-! # Collective packets (chapter 12): pieces, control messages, tiles, answers -/

namespace Sys2Proof.Machine

/-! ## What a packet taken leaves of the slots -/

/-- From d to e the slots, their states and the image in force stand. -/
structure Dev.ColKept (d e : Dev) : Prop where
  col : e.col = d.col
  img : e.img = d.img
  state : ∀ i, i < 256 → e.colState i = d.colState i

theorem Packet.slot_lt (p : Packet) : p.slot < 256 := bits_lt p.addr 33 26

namespace Dev.ColKept
variable {d e : Dev} (h : d.ColKept e)
include h

theorem slot (i : Nat) : e.colSlot i = d.colSlot i := by rw [Dev.colSlot, Dev.colSlot, h.col]

theorem tree (c : ColSlot) : e.colTree c = d.colTree c := by rw [Dev.colTree, Dev.colTree, h.img]

theorem childLevel (c : ColSlot) (src : Nat) : e.childLevel c src = d.childLevel c src := by rw [Dev.childLevel, Dev.childLevel, h.tree]

theorem fromParent (c : ColSlot) (src : Nat) : e.fromParent c src = d.fromParent c src := by rw [Dev.fromParent, Dev.fromParent, h.tree]

theorem early (p : Packet) : e.colEarly p = d.colEarly p := by rw [Dev.colEarly, Dev.colEarly, h.slot, h.state _ p.slot_lt]

theorem ended (p : Packet) : e.colEnded p.slot = d.colEnded p.slot := by rw [Dev.colEnded, Dev.colEnded, h.state _ p.slot_lt]

end Dev.ColKept

theorem Dev.takeRx_colKept (d : Dev) (n : Nat) (p : Packet) : d.ColKept (d.takeRx n p) :=
  ⟨(congrArg Dev.col (d.takeRx_fab n p)).trans rfl, (congrArg Dev.img (d.takeRx_fab n p)).trans rfl, fun _ _ => Dev.get_regs (d.takeRx_regs n p) _ _ _⟩

/-- A block counted stands beside the slots' registers. -/
theorem Dev.ColKept.countBlock {d e : Dev} (h : d.ColKept e) (q : Nat) : d.ColKept (e.count F.LEX_BLOCKS_V q) := by
  refine ⟨h.col, h.img, fun i hi => (Dev.get_put_addr _ _ _ _ _ _ _ _ ?_).trans (h.state i hi)⟩
  have slot : Reg.colState.addr 0 i = 0x04000000 + 0x2C00074 + i * 0x80 := rfl
  have block : Reg.lexBlocks.addr q 0 = 0x04000000 * (q + 1) + 0x2C08028 + 0 := rfl
  rw [slot, block]
  omega

theorem Dev.takeReduce_here {d : Dev} {n : Nat} {p : Packet} (hd : p.dst = d.chip) (f : Dev → Dev) : d.takeReduce n p f = f (d.takeRx n p) := by
  unfold Dev.takeReduce
  rw [if_neg (by rw [Dev.chip_regs (d.takeRx_regs n p)]; exact not_not_intro hd)]

/-! ## Control messages (Table 12-5, checks of Table 12-6) -/

section
variable {d : Dev} {n : Nat} {p : Packet} {m : Nat} {parent : ColSlot → Bool} (f : Dev → Nat → Nat → Dev) (hm : p.mtype = m) (hd : p.dst = d.chip)
include hm hd

/-- The checks of a control message for this device, in their order. -/
theorem Dev.control_here : d.control n p m parent f =
    if d.colEarly p ≠ 0 then (d.takeRx n p).colRefuse p (d.colEarly p)
    else (if parent (d.colSlot p.slot) then (if d.fromParent (d.colSlot p.slot) p.src then some 0 else none) else d.childLevel (d.colSlot p.slot) p.src).elim
      ((d.takeRx n p).colRefuse p 5)
      (fun l => if !(d.colSlot p.slot).controlOk p then (d.takeRx n p).colRefuse p 3 else if d.colEnded p.slot then (d.takeRx n p).colRefuse p 7
        else f (d.takeRx n p) p.slot l) := by
  have kept := d.takeRx_colKept n p
  unfold Dev.control
  rw [if_neg (not_not_intro hm), Dev.takeReduce_here hd]
  dsimp only
  rw [kept.slot, kept.early, kept.fromParent, kept.childLevel, kept.ended]
  cases if parent (d.colSlot p.slot) then (if d.fromParent (d.colSlot p.slot) p.src then some 0 else none) else d.childLevel (d.colSlot p.slot) p.src <;> rfl

theorem Dev.control_early (he : d.colEarly p ≠ 0) : d.control n p m parent f = (d.takeRx n p).colRefuse p (d.colEarly p) := by
  rw [Dev.control_here f hm hd, if_pos he]

variable (he : d.colEarly p = 0)
include he

theorem Dev.control_ended (hparent : parent (d.colSlot p.slot) = true) (hp : d.fromParent (d.colSlot p.slot) p.src = true)
    (hok : (d.colSlot p.slot).controlOk p = true) (hend : d.colEnded p.slot = true) : d.control n p m parent f = (d.takeRx n p).colRefuse p 7 := by
  rw [Dev.control_here f hm hd, if_neg (not_not_intro he), hparent, hp, hok, hend]
  rfl

theorem Dev.control_child {l : Nat} (hparent : parent (d.colSlot p.slot) = false) (hl : d.childLevel (d.colSlot p.slot) p.src = some l)
    (hok : (d.colSlot p.slot).controlOk p = true) (hend : d.colEnded p.slot = false) : d.control n p m parent f = f (d.takeRx n p) p.slot l := by
  rw [Dev.control_here f hm hd, if_neg (not_not_intro he), hparent, hl, hok, hend]
  rfl

theorem Dev.control_parent (hparent : parent (d.colSlot p.slot) = true) (hp : d.fromParent (d.colSlot p.slot) p.src = true)
    (hok : (d.colSlot p.slot).controlOk p = true) (hend : d.colEnded p.slot = false) : d.control n p m parent f = f (d.takeRx n p) p.slot 0 := by
  rw [Dev.control_here f hm hd, if_neg (not_not_intro he), hparent, hp, hok, hend]
  rfl

end

section
variable (s : State) {n : Nat} {p : Packet} (hn : n < 16) (hd : p.dst = s.dev.chip) (hs : s.dev.clk.safe = false)
include hn hd hs

/-- An early check refuses each control message with its code. -/
theorem control_refused (he : s.dev.colEarly p ≠ 0) (i : Instr) (m : Nat)
    (hm : (i, m) ∈ [(Instr.sealChild n p, 1), (.restart n p, 2), (.replay n p, 3), (.voteUp n p, 4), (.voteDown n p, 5)]) (ht : p.mtype = m) :
    exec i s = .next (s.withDev ((s.dev.takeRx n p).colRefuse p (s.dev.colEarly p))) := by
  have hok := decide_eq_true hn
  simp only [List.mem_cons, List.not_mem_nil, or_false, Prod.mk.injEq] at hm
  rcases hm with ⟨rfl, rfl⟩ | ⟨rfl, rfl⟩ | ⟨rfl, rfl⟩ | ⟨rfl, rfl⟩ | ⟨rfl, rfl⟩ <;>
    exact exec_to (s.runFab_next _ hok hs) (Dev.control_early _ ht hd he)

variable (he : s.dev.colEarly p = 0)
include he

theorem replay_aborted (hend : s.dev.colEnded p.slot = true) (hp : s.dev.fromParent (s.dev.colSlot p.slot) p.src = true) (hok : (s.dev.colSlot p.slot).controlOk p = true)
    (ht : p.mtype = 3) : exec (.replay n p) s = .next (s.withDev ((s.dev.takeRx n p).colRefuse p 7)) :=
  exec_to (s.runFab_next _ (decide_eq_true hn) hs) (Dev.control_ended _ ht hd he rfl hp hok hend)

variable (hend : s.dev.colEnded p.slot = false) (hok : (s.dev.colSlot p.slot).controlOk p = true)
include hend hok

section
variable {l : Nat} (hl : s.dev.childLevel (s.dev.colSlot p.slot) p.src = some l)
include hl

/-- A SEAL of a REDUCE that passes the checks. -/
theorem seal_taken (ht : p.mtype = 1) (hk : (s.dev.colSlot p.slot).kind = 1) (ha : l ∉ (s.dev.colSlot p.slot).await) :
    let d := s.dev.takeRx n p
    let c := s.dev.colSlot p.slot
    exec (.sealChild n p) s = .next (s.withDev (if c.sealed_.contains l then d.colRefuse p 6
      else if c.allAdded l then (d.sealTake p.slot l p).colGo p.slot
      else if c.sealWait.any (fun x => x.1 = l) || c.receivedRows l ≠ 64 * c.tiles then d.colRefuse p 6
      else d.setCol p.slot { c with sealWait := c.sealWait ++ [(l, p)] })) := by
  intro d c
  refine exec_to (s.runFab_next _ (decide_eq_true hn) hs) ((Dev.control_child _ ht hd he (by simp [hk, kBcast]) hl hok hend).trans ?_)
  dsimp only
  rw [(s.dev.takeRx_colKept n p).slot, if_neg (by simp [hk, kBcast]), if_neg (by simpa using ha)]

theorem restart_taken (ht : p.mtype = 2) (h3 : s.dev.colState p.slot = 3) (ha : l ∈ (s.dev.colSlot p.slot).await) :
    exec (.restart n p) s = .next (s.withDev ((((s.dev.takeRx n p).setCol p.slot
      ({ s.dev.colSlot p.slot with await := (s.dev.colSlot p.slot).await.filter (· ≠ l) } : ColSlot)).colOk p).colGo p.slot)) := by
  have kept := s.dev.takeRx_colKept n p
  refine exec_to (s.runFab_next _ (decide_eq_true hn) hs) ((Dev.control_child _ ht hd he rfl hl hok hend).trans ?_)
  dsimp only
  rw [kept.slot, if_pos (by simpa using ha), if_neg (by rw [kept.state _ p.slot_lt, h3]; decide)]

theorem voteUp_taken (ht : p.mtype = 4) : let d := s.dev.takeRx n p
    let c := s.dev.colSlot p.slot
    exec (.voteUp n p) s = .next (s.withDev (if c.voted.contains l then d.colRefuse p 6
      else ((d.setCol p.slot { c with voted := c.voted ++ [l], voteOr := c.voteOr || leAt p.data 2 1 = 1 }).colOk p).votesGo)) := by
  intro d c
  refine exec_to (s.runFab_next _ (decide_eq_true hn) hs) ((Dev.control_child _ ht hd he rfl hl hok hend).trans ?_)
  dsimp only
  rw [(s.dev.takeRx_colKept n p).slot]

/-- A child's messages: its SEAL, the RESTART awaited of it, and its vote. -/
theorem childMessages : let d := s.dev.takeRx n p
    let c := s.dev.colSlot p.slot
    (p.mtype = 1 → c.kind = 1 → l ∉ c.await → l ∉ c.sealed_ → c.allAdded l = true →
        exec (.sealChild n p) s = .next (s.withDev ((d.sealTake p.slot l p).colGo p.slot))) ∧
      (p.mtype = 1 → c.kind = 1 → l ∉ c.await → l ∉ c.sealed_ → c.allAdded l = false → (∀ x ∈ c.sealWait, x.1 ≠ l) → c.receivedRows l = 64 * c.tiles →
        exec (.sealChild n p) s = .next (s.withDev (d.setCol p.slot ({ c with sealWait := c.sealWait ++ [(l, p)] } : ColSlot)))) ∧
      (p.mtype = 1 → c.kind = 1 → l ∉ c.await → l ∈ c.sealed_ ∨ (c.allAdded l = false ∧ ((∃ x ∈ c.sealWait, x.1 = l) ∨ c.receivedRows l ≠ 64 * c.tiles)) →
        exec (.sealChild n p) s = .next (s.withDev (d.colRefuse p 6))) ∧
      (p.mtype = 2 → s.dev.colState p.slot = 3 → l ∈ c.await → exec (.restart n p) s = .next (s.withDev
        (((d.setCol p.slot ({ c with await := c.await.filter (· ≠ l) } : ColSlot)).colOk p).colGo p.slot))) ∧
      (p.mtype = 4 → l ∉ c.voted → exec (.voteUp n p) s = .next (s.withDev
        (((d.setCol p.slot ({ c with voted := c.voted ++ [l], voteOr := c.voteOr || leAt p.data 2 1 = 1 } : ColSlot)).colOk p).votesGo))) ∧
      (p.mtype = 4 → l ∈ c.voted → exec (.voteUp n p) s = .next (s.withDev (d.colRefuse p 6))) := by
  intro d c
  have taken := seal_taken s hn hd hs he hend hok hl
  refine ⟨fun ht hk ha hnew hall => ?_, fun ht hk ha hnew hall hwait hrows => ?_, fun ht hk ha h => ?_, restart_taken s hn hd hs he hend hok hl, fun ht hv => ?_, fun ht hv => ?_⟩
  · exact exec_to (taken ht hk ha) ((if_neg (by simpa using hnew)).trans (if_pos hall))
  · refine exec_to (taken ht hk ha) ((if_neg (by simpa using hnew)).trans ((if_neg (ne_true_of_eq_false hall)).trans (if_neg ?_)))
    simp only [Bool.or_eq_true, List.any_eq_true, decide_eq_true_eq]
    exact fun h => h.elim (fun ⟨x, hx, hxl⟩ => hwait x hx hxl) (· hrows)
  · by_cases hnew : l ∈ c.sealed_
    · exact exec_to (taken ht hk ha) (if_pos (by simpa using hnew))
    · obtain ⟨hall, h⟩ := h.resolve_left hnew
      refine exec_to (taken ht hk ha) ((if_neg (by simpa using hnew)).trans ((if_neg (ne_true_of_eq_false hall)).trans (if_pos ?_)))
      simpa only [Bool.or_eq_true, List.any_eq_true, decide_eq_true_eq] using h
  · exact exec_to (voteUp_taken s hn hd hs he hend hok hl ht) (if_neg (by simpa using hv))
  · exact exec_to (voteUp_taken s hn hd hs he hend hok hl ht) (if_pos (by simpa using hv))

end

/-- The parent's messages: REPLAY and the vote. -/
theorem parentMessages (hp : s.dev.fromParent (s.dev.colSlot p.slot) p.src = true) : let d := s.dev.takeRx n p
    let c := s.dev.colSlot p.slot
    (p.mtype = 3 → exec (.replay n p) s = .next (s.withDev ((d.colOk p).colReplay p.slot))) ∧
      (p.mtype = 5 → c.voteTaken = false → exec (.voteDown n p) s = .next (s.withDev ((d.colOk p).voteTake p.slot (leAt p.data 2 1 = 1)))) ∧
      (p.mtype = 5 → c.voteTaken = true → exec (.voteDown n p) s = .next (s.withDev (d.colRefuse p 6))) := by
  intro d c
  have down (ht : p.mtype = 5) : exec (.voteDown n p) s =
      .next (s.withDev (if c.voteTaken then d.colRefuse p 6 else (d.colOk p).voteTake p.slot (leAt p.data 2 1 = 1))) := by
    refine exec_to (s.runFab_next _ (decide_eq_true hn) hs) ((Dev.control_parent _ ht hd he rfl hp hok hend).trans ?_)
    rw [(s.dev.takeRx_colKept n p).slot]
  exact ⟨fun ht => exec_to (s.runFab_next _ (decide_eq_true hn) hs) (Dev.control_parent _ ht hd he rfl hp hok hend),
    fun ht hv => exec_to (down ht) (if_neg (by simp [hv])), fun ht hv => exec_to (down ht) (if_pos hv)⟩

end

end Sys2Proof.Machine

/-! ## Pieces (R333, R336, R340, R348) -/

namespace Sys2Proof.Machine

theorem Packet.mtype_block {p : Packet} (h : p.block = true) : p.mtype = 0 := if_neg (by simp [h])

theorem Packet.mtype_long {p : Packet} (h : 256 ≤ p.len) : p.mtype = 0 := if_neg (by simp [show p.len ≠ 64 by omega])

/-- A piece for this device whose pages are in motion. -/
def Dev.pieceWaits (d : Dev) (p : Packet) : Bool :=
  p.dst = d.chip && d.colEarly p = 0 && !d.colEnded p.slot && (if (d.colSlot p.slot).kind = kBcast
    then d.freBusy ((d.colSlot p.slot).dst + 256 * p.row) || d.freBusy ((d.colSlot p.slot).dst + 256 * p.row + p.len - 1)
    else d.freBusy ((d.colSlot p.slot).src + 256 * p.row))

/-- A piece of a REDUCE waits for SRC alone. -/
theorem Dev.pieceWaits_reduce {d : Dev} {p : Packet} (hk : (d.colSlot p.slot).kind = 1) : d.pieceWaits p =
    (p.dst = d.chip && d.colEarly p = 0 && !d.colEnded p.slot && d.freBusy ((d.colSlot p.slot).src + 256 * p.row)) := by
  unfold Dev.pieceWaits
  rw [if_neg (by rw [hk]; decide)]

/-- The values of a plain piece. -/
def Packet.plainVals (p : Packet) : List F32 := (List.range (64 * (p.len / 256))).map (fun i => BitVec.ofNat 32 (leAt p.data (4 * i) 4))

section
variable (s : State) {n : Nat} {p : Packet} (hn : n < 16) (hs : s.dev.clk.safe = false)
include hn hs

theorem piece_waits (hw : s.dev.pieceWaits p = true) : exec (.collectivePiece n p none) s = .next s :=
  exec_to (s.runFab_next _ (decide_eq_true hn) hs)
    (if_pos (show (p.ptype ≠ 0x0B || (p.mtype ≠ 0 && p.dst = s.dev.chip) || s.dev.pieceWaits p) = true by simp [hw]))

variable (ht : p.ptype = 0x0B) (hm : p.mtype = 0) (hd : p.dst = s.dev.chip) (hw : s.dev.pieceWaits p = false)
include ht hm hd hw

/-- A plain piece for this device that need not wait: the checks of Table 12-6 in their order, and its effect. -/
theorem piece_plain (hb : p.block = false) : let d := s.dev.takeRx n p
    let c := s.dev.colSlot p.slot
    let here : Bool := bits p.addr 35 34 = c.quarter
    let plain : Bool := p.len % 256 = 0 && 256 ≤ p.len && p.len ≤ 4096
    exec (.collectivePiece n p none) s = .next (s.withDev (
      if s.dev.colEarly p ≠ 0 then d.colRefuse p (s.dev.colEarly p)
      else if p.len = 64 then d.colRefuse p 3
      else if c.kind = 1 then (s.dev.childLevel c p.src).elim (d.colRefuse p 5) fun l =>
        if !(here && (256 * p.row + 256 * (p.len / 256) ≤ c.bytes && plain)) then d.colRefuse p 3
        else if s.dev.colEnded p.slot then d.colRefuse p 7 else d.reducePiece p l (p.len / 256) p.plainVals none
      else if c.kind = 2 then
        if !s.dev.fromParent c p.src then d.colRefuse p 5
        else if !(here && plain && 256 * p.row + p.len ≤ c.bytes) then d.colRefuse p 3
        else if s.dev.colEnded p.slot then d.colRefuse p 7 else d.bcastPiece p
      else d.colRefuse p 3)) := by
  intro d c here plain
  have kept := s.dev.takeRx_colKept n p
  have served : ¬ (p.ptype ≠ 0x0B || (p.mtype ≠ 0 && p.dst = s.dev.chip) || s.dev.pieceWaits p) = true := by simp [ht, hm, hw]
  refine exec_to (s.runFab_next _ (decide_eq_true hn) hs) ((if_neg served).trans ((Dev.takeReduce_here hd _).trans ?_))
  rw [hb]
  dsimp only
  simp only [Bool.false_eq_true, if_false]
  rw [kept.early, kept.ended, kept.fromParent, kept.childLevel]
  simp only [Bool.not_false, Bool.true_and, decide_eq_true_eq]
  cases s.dev.childLevel (s.dev.colSlot p.slot) p.src <;> rfl

/-- A block that LEX refuses. -/
theorem piece_blockFails (hb : p.block = true) {code : Nat} (hx : (s.dev.takeRx n p).lexBlock (bits p.addr 35 34) p = .inr code) :
    exec (.collectivePiece n p none) s = .next (s.withDev ((s.dev.takeRx n p).blockFails n (bits p.addr 35 34) p code)) := by
  have served : ¬ (p.ptype ≠ 0x0B || (p.mtype ≠ 0 && p.dst = s.dev.chip) || s.dev.pieceWaits p) = true := by simp [ht, hm, hw]
  refine exec_to (s.runFab_next _ (decide_eq_true hn) hs) ((if_neg served).trans ((Dev.takeReduce_here hd _).trans ?_))
  rw [hb]
  dsimp only
  rw [if_pos rfl, hx]

/-- A FACTOR block that fits its slot. -/
theorem piece_rows (hb : p.block = true) {r0 k cnt l : Nat} {vs : List F32} (hx : (s.dev.takeRx n p).lexBlock (bits p.addr 35 34) p = .inl (.rows r0 k cnt vs))
    (he : s.dev.colEarly p = 0) (hend : s.dev.colEnded p.slot = false) (hk : (s.dev.colSlot p.slot).kind = 1) (hq : bits p.addr 35 34 = (s.dev.colSlot p.slot).quarter)
    (hr : r0 = p.row % 64) (hfit : r0 + k ≤ 64) (hbytes : 256 * p.row + 256 * k ≤ (s.dev.colSlot p.slot).bytes) (hl : s.dev.childLevel (s.dev.colSlot p.slot) p.src = some l) :
    exec (.collectivePiece n p none) s = .next (s.withDev (((s.dev.takeRx n p).count F.LEX_BLOCKS_V (bits p.addr 35 34)).reducePiece p l k vs none)) := by
  have served : ¬ (p.ptype ≠ 0x0B || (p.mtype ≠ 0 && p.dst = s.dev.chip) || s.dev.pieceWaits p) = true := by simp [ht, hm, hw]
  have kept := (s.dev.takeRx_colKept n p).countBlock (bits p.addr 35 34)
  refine exec_to (s.runFab_next _ (decide_eq_true hn) hs) ((if_neg served).trans ((Dev.takeReduce_here hd _).trans ?_))
  rw [hb]
  dsimp only
  rw [if_pos rfl, hx]
  dsimp only
  rw [if_pos rfl, kept.early, kept.ended, kept.childLevel, he, hend, if_neg (by simp), if_neg (by simp),
    if_pos (show (s.dev.colSlot p.slot).kind = kReduce from hk), hl]
  dsimp only
  rw [if_neg (by simp [hq, hr ▸ hfit, hbytes, hr]), if_neg (by simp)]

end

section
variable (s : State) {n : Nat} {p : Packet} (hn : n < 16) (hs : s.dev.clk.safe = false) (ht : p.ptype = 0x0B) (hb : p.block = false) (hd : p.dst = s.dev.chip)
include hn hs ht hb hd

theorem piece_refused (he : s.dev.colEarly p ≠ 0) (hm : p.mtype = 0) : exec (.collectivePiece n p none) s = .next (s.withDev ((s.dev.takeRx n p).colRefuse p (s.dev.colEarly p))) :=
  exec_to (piece_plain s hn hs ht hm hd (by simp [Dev.pieceWaits, he]) hb) (if_pos he)

variable (he : s.dev.colEarly p = 0) (hend : s.dev.colEnded p.slot = false) (hq : bits p.addr 35 34 = (s.dev.colSlot p.slot).quarter) (h256 : p.len % 256 = 0)
  (hmin : 256 ≤ p.len) (hmax : p.len ≤ 4096) (hfit : 256 * p.row + p.len ≤ (s.dev.colSlot p.slot).bytes)
include he hend hq h256 hmin hmax hfit

/-- A piece of a REDUCE: held or added where a child sent it, refused where none did, waiting where SRC is in motion. -/
theorem piece_reduce (hk : (s.dev.colSlot p.slot).kind = 1) : let d := s.dev.takeRx n p
    let c := s.dev.colSlot p.slot
    (s.dev.freBusy (c.src + 256 * p.row) = false → (∀ l, s.dev.childLevel c p.src = some l →
        exec (.collectivePiece n p none) s = .next (s.withDev (d.reducePiece p l (p.len / 256) p.plainVals none))) ∧
      (s.dev.childLevel c p.src = none → exec (.collectivePiece n p none) s = .next (s.withDev (d.colRefuse p 5)))) ∧
    (s.dev.freBusy (c.src + 256 * p.row) = true → exec (.collectivePiece n p none) s = .next s) := by
  intro d c
  have motion : s.dev.pieceWaits p = s.dev.freBusy (c.src + 256 * p.row) := by
    rw [Dev.pieceWaits_reduce hk, decide_eq_true hd, he, hend]
    rfl
  have plain (hw : s.dev.freBusy (c.src + 256 * p.row) = false) :=
    piece_plain s hn hs ht (Packet.mtype_long hmin) hd (motion.trans hw) hb
  refine ⟨fun hw => ⟨fun l hl => exec_to (plain hw) ?_, fun hl => exec_to (plain hw) ?_⟩, fun hw => piece_waits s hn hs (motion.trans hw)⟩
  · rw [if_neg (not_not_intro he), if_neg (by omega), if_pos hk, hl]
    dsimp only [Option.elim]
    rw [hend, if_neg (by simp [hq, h256, hmin, hmax]; omega), if_neg (by simp)]
  · rw [if_neg (not_not_intro he), if_neg (by omega), if_pos hk, hl]
    rfl

/-- A piece of a BCAST lands where the parent sent it. -/
theorem piece_bcast (hk : (s.dev.colSlot p.slot).kind = 2) (hfirst : s.dev.freBusy ((s.dev.colSlot p.slot).dst + 256 * p.row) = false)
    (hlast : s.dev.freBusy ((s.dev.colSlot p.slot).dst + 256 * p.row + p.len - 1) = false) : let d := s.dev.takeRx n p
    let c := s.dev.colSlot p.slot
    (s.dev.fromParent c p.src = true → exec (.collectivePiece n p none) s = .next (s.withDev (d.bcastPiece p))) ∧
      (s.dev.fromParent c p.src = false → exec (.collectivePiece n p none) s = .next (s.withDev (d.colRefuse p 5))) := by
  intro d c
  have still : s.dev.pieceWaits p = false := by
    unfold Dev.pieceWaits
    rw [if_pos (show (s.dev.colSlot p.slot).kind = kBcast from hk), hfirst, hlast, Bool.or_false, Bool.and_false]
  have plain := piece_plain s hn hs ht (Packet.mtype_long hmin) hd still hb
  refine ⟨fun hp => exec_to plain ?_, fun hp => exec_to plain ?_⟩
  · rw [if_neg (not_not_intro he), if_neg (by omega), if_neg (by omega), if_pos hk, hp, hend, if_neg (by simp), if_neg (by simp [hq, h256, hmin, hmax, hfit]), if_neg (by simp)]
  · rw [if_neg (not_not_intro he), if_neg (by omega), if_neg (by omega), if_pos hk, hp]
    rfl

end

/-! ## Tiles, answers and packets sent again (R333, R341) -/

section
variable (s : State) {i tile : Nat} (hi : i < 256) (hs : s.dev.clk.safe = false)
include hi hs

theorem tile_notRunning (h : s.dev.colState i ≠ 3) : exec (.freTileFinish i tile) s = .next s :=
  exec_to (s.runFab_next _ (decide_eq_true hi) hs) (if_pos (by simp [csRunning, h]))

variable (h3 : s.dev.colState i = 3) (hk : (s.dev.colSlot i).kind = 1) (ht : tile < (s.dev.colSlot i).tiles) (hf : tile ∉ (s.dev.colSlot i).finished)
  (hturn : s.dev.turnOf (s.dev.colSlot i) tile = none) (hsrc : s.dev.freBusy ((s.dev.colSlot i).src + 16384 * tile) = false)
  (hdst : s.dev.freBusy ((s.dev.colSlot i).dst + 16384 * tile) = false)
include h3 hk ht hf hturn hsrc hdst

/-- The write of a tile's sum to DST, and what follows it. -/
def Dev.tileOut (i tile : Nat) (c : ColSlot) (vs : List F32) (d : Dev) : Dev :=
  let r := Dev.freWriteN i c.quarter 256 (c.dst + 16384 * tile) (vs.flatMap (fun v => leBytes 4 v.toNat)) (true, d)
  if !r.1 then r.2.colFail i 0x83
  else (r.2.updCol i fun c => { c with part := c.part.filter (fun e => e.1 ≠ tile), finished := c.finished ++ [tile] }).colGo i

/-- A tile every child has added to: written once SRC is here; the slot fails where SRC has no translation. -/
theorem tile_complete : exec (.freTileFinish i tile) s = .next (s.withDev (
    if (s.dev.colReady i tile).1 then
      (((s.dev.colReady i tile).2.colPart i tile).1).elim (((s.dev.colReady i tile).2.colPart i tile).2.colFail i 0x83)
        fun vs => Dev.tileOut i tile (s.dev.colSlot i) vs ((s.dev.colReady i tile).2.colPart i tile).2
    else (s.dev.colReady i tile).2)) := by
  refine exec_to (s.runFab_next _ (decide_eq_true hi) hs) ((if_neg ?_).trans ?_)
  · simp [csRunning, kReduce, h3, hk, hf, hturn, hsrc, hdst, ht]
  · generalize s.dev.colReady i tile = r
    obtain ⟨_ | _, d0⟩ := r
    · rfl
    · dsimp only
      generalize d0.colPart i tile = part
      obtain ⟨_ | vs, d⟩ := part
      · rfl
      · unfold Dev.tileOut
        dsimp only [Option.elim]
        generalize Dev.freWriteN i (s.dev.colSlot i).quarter 256 ((s.dev.colSlot i).dst + 16384 * tile) (vs.flatMap (fun v => leBytes 4 v.toNat)) (true, d) = out
        obtain ⟨ok, x⟩ := out
        rfl

end

section
variable (s : State) {n : Nat} {p : Packet} (hn : n ≤ 16) (hs : s.dev.clk.safe = false)
include hn hs

theorem collectiveAnswer_none (h : ∀ r ∈ s.dev.fab.reqs, r.tag ≠ p.tag) : exec (.collectiveAnswer n p) s = .next s := by
  refine exec_to (s.runFab_next _ (decide_eq_true hn) hs) (if_neg ?_)
  rw [Bool.and_eq_true, List.any_eq_true]
  rintro ⟨-, r, hr, hmine⟩
  exact h r hr (of_decide_eq_true (Bool.and_eq_true_iff.1 hmine).1)

variable (ht : p.ptype = 5 ∨ p.ptype = 7)
include ht

theorem collectiveAnswer_mine {i : Nat} (h : ∃ r ∈ s.dev.fab.reqs, r.tag = p.tag ∧ r.waiter = .collective i) :
    exec (.collectiveAnswer n p) s = .next (s.withDev (s.dev.takeAnswer n p)) := by
  refine exec_to (s.runFab_next _ (decide_eq_true hn) hs) (if_pos ?_)
  obtain ⟨r, hr, htag, hwaiter⟩ := h
  rw [Bool.and_eq_true, List.any_eq_true]
  exact ⟨by simpa using ht, r, hr, by rw [hwaiter, decide_eq_true htag]; rfl⟩

end

theorem collectiveResend_open (s : State) {tag : Nat} {r : Req} {p : Packet} (hs : s.dev.clk.safe = false) (hr : s.dev.fab.reqs.find? (fun r => r.tag = tag) = some r)
    (hp : r.copy = some p) : exec (.collectiveResend tag) s = .next (s.withDev (if r.busy && r.resendAt ≠ 0 && r.resendAt ≤ s.dev.beat then
      ((s.dev.updReq tag fun r => { r with resendAt := 0, busy := false }).count F.COL_RESENDS_V).originate p else s.dev)) := by
  change execCollectiveResend tag s = _
  unfold execCollectiveResend
  rw [State.runFab_next s _ rfl hs, hr]
  dsimp only
  rw [hp]

/-- Settles O56: the slots by their state, the packets by the checks of Table 12-6, then tiles, answers and packets sent again. -/
theorem collectiveSlotsAndMessages : Obligations.CollectiveSlotsAndMessages := by
  refine ⟨fun s i hi => post_byState s hi, fun s i hi => ?_, fun s i hi => ?_, fun s q k c hq hs => ?_, fun s n p hn ht hb hd hs => ?_, fun s n p hn ht hb hd hs => ?_,
    fun s i tile hi hs => ?_, fun s n i p hn hs ht => ?_, fun s tag r p hs hr hp => ?_⟩
  · exact ⟨release_missed s hi, fun h1 hk => exec_to (exec_release s hi) (Dev.colRelease_vote h1 hk),
      fun h1 hk hf he => exec_to (exec_release s hi) (Dev.colRelease_stale h1 hk hf he),
      fun h1 hk hl hstep => exec_to (exec_release s hi) (Dev.colRelease_skipped h1 hk hl hstep), fun h1 hk => release_ordered s hi h1 hk⟩
  · obtain ⟨state, slot, bytes⟩ := s.dev.colCleared_shown i
    exact ⟨_, exec_colReset s hi, state, slot, bytes⟩
  · have e := exec_colBufferGrant s hq hs
    exact ⟨fun hw => exec_to e (Dev.colGrant_none hw), fun hm hf => ⟨fun fits => exec_to e ((Dev.colGrant_first hm hf).trans (if_pos fits)),
      fun full => exec_to e ((Dev.colGrant_first hm hf).trans (if_neg (Nat.not_le.2 full)))⟩⟩
  · exact ⟨fun he => ⟨piece_refused s hn hs ht hb hd he, control_refused s hn hd hs he⟩,
      fun he hend hq h256 hmin hmax hfit => ⟨fun hk hw => (piece_reduce s hn hs ht hb hd he hend hq h256 hmin hmax hfit hk).1 hw,
        fun hk hw => (piece_reduce s hn hs ht hb hd he hend hq h256 hmin hmax hfit hk).2 hw,
        fun hk hfirst hlast => piece_bcast s hn hs ht hb hd he hend hq h256 hmin hmax hfit hk hfirst hlast⟩,
      fun he hend hp hok hm => replay_aborted s hn hd hs he hend hp hok hm,
      fun he hend hok => ⟨fun l hl => childMessages s hn hd hs he hend hok hl, parentMessages s hn hd hs he hend hok⟩⟩
  · intro d c q hk hsrc
    have still : s.dev.pieceWaits p = false := (Dev.pieceWaits_reduce hk).trans (by rw [hsrc, Bool.and_false])
    exact ⟨fun code hx => piece_blockFails s hn hs ht (Packet.mtype_block hb) hd still hb hx, fun r0 k cnt vs l hx he hend hq hr hfit hbytes hl =>
      piece_rows s hn hs ht (Packet.mtype_block hb) hd still hb hx he hend hk hq hr hfit hbytes hl⟩
  · refine ⟨tile_notRunning s hi hs, fun h3 hk htile hf hturn hsrc hdst => ?_⟩
    have e := tile_complete s hi hs h3 hk htile hf hturn hsrc hdst
    refine ⟨fun d0 hready => exec_to e (by rw [hready]; rfl), fun d0 vs d x hready hpart hwrite => exec_to e ?_, fun d0 vs d x hready hpart hwrite => exec_to e ?_,
      fun d0 d hready hpart => exec_to e (by rw [hready, if_pos rfl, hpart]; rfl)⟩
    · rw [hready, if_pos rfl, hpart]
      dsimp only [Option.elim, Dev.tileOut]
      rw [hwrite]
      rfl
    · rw [hready, if_pos rfl, hpart]
      dsimp only [Option.elim, Dev.tileOut]
      rw [hwrite]
      rfl
  · exact ⟨collectiveAnswer_mine s hn hs ht, collectiveAnswer_none s hn hs⟩
  · have e := collectiveResend_open s hs hr hp
    refine ⟨fun hbusy hat hdue => exec_to e (if_pos (by simp [hbusy, hat, hdue])), fun h => exec_to e (if_neg ?_)⟩
    rcases h with h | h
    · simp [Nat.not_le.2 h]
    · simp [h]

end Sys2Proof.Machine
